-- ==== Sys2Proof/Word.lean ====
section
/-! DEFINITION. The plainest arithmetic of the model: bit fields of a number, saturating counts, rounding.

Registers, addresses and wire formats are held as natural numbers that every write truncates to the width the
manual gives; `bits v hi lo` is the manual's `[hi:lo]`. -/

namespace Sys2Proof

/-- One byte of a data payload, of an image or of a wire format. -/
abbrev Byte := BitVec 8

/-- Bits `[hi:lo]` of `v` (00_scope.md, Register conventions). -/
def bits (v hi lo : Nat) : Nat := (v / 2 ^ lo) % 2 ^ (hi - lo + 1)

/-- Bit `n` of `v`. -/
def bit (v n : Nat) : Bool := (v / 2 ^ n) % 2 == 1

/-- A flag as the number a register shows. -/
def flag (b : Bool) : Nat := if b then 1 else 0

/-- `a` plus `b`, held at `top` (a saturating counter). -/
def satAdd (top a b : Nat) : Nat := min top (a + b)

/-- `a / b` rounded up. -/
def ceilDiv (a b : Nat) : Nat := (a + b - 1) / b

/-- The numbers `lo, lo + 1, …, hi` (empty when `hi < lo`). -/
def span (lo hi : Nat) : List Nat := (List.range (hi + 1 - lo)).map (lo + ·)

/-- `v` with bit `n` set or cleared. -/
def putBit (v n : Nat) (b : Bool) : Nat :=
  if bit v n then (if b then v else v - 2 ^ n) else (if b then v + 2 ^ n else v)

/-- The little-endian number that a list of bytes spells (R6). -/
def leNat : List Byte → Nat
  | [] => 0
  | b :: bs => b.toNat + 256 * leNat bs

/-- The `n` little-endian bytes of a number (R6). -/
def leBytes : Nat → Nat → List Byte
  | 0, _ => []
  | n + 1, v => BitVec.ofNat 8 v :: leBytes n (v / 256)

/-- How many bits of the low `n` bits of `v` are set. -/
def popCount : Nat → Nat → Nat
  | 0, _ => 0
  | n + 1, v => v % 2 + popCount n (v / 2)

/-- Positions of the bits set in the low `n` bits of `v`, ascending. -/
def setBits (n v : Nat) : List Nat := (List.range n).filter (bit v)

end Sys2Proof
end

