-- ==== Sys2Proof/Images.lean ====
section
/-! DEFINITION. The images and blobs that software brings from host memory: formes, amendments, firmware bundles
and key-import blobs (03_forme.md, 12_owner_encryption.md).

An image is held as its fields and records; Machine/Layout.lean gives its bytes. A signature is held as what it stands for: the key
that made it and the bytes whose digest it signs, so that it verifies under that key over those bytes alone (DESIGN CHOICE, log
entry 8). -/

namespace Sys2Proof

/-- A port slot of a LANES tile entry (R180). -/
structure LanePort where
  maxRate : Nat
  revForce : Bool := false
  revVal : Bool := false
  eqLock : Bool := false
  feAllow : Bool := false
  preset : Nat := 0
  presetQ : Nat := 0
  deriving DecidableEq, Repr, Inhabited

/-- A tile entry of the LANES section (R179). `mode` is X8 0, X4X4 1, X4X2X2 2, X2X2X2X2 3, PAIRED 4, UNUSED 5. -/
structure LaneTile where
  tile : Nat
  mode : Nat
  txInv : Nat := 0
  rxPolForce : Nat := 0
  rxPolVal : Nat := 0
  ports : List LanePort := []
  deriving DecidableEq, Repr, Inhabited

/-- A PORTS entry (R288). `role` is HOST 1, DEVICE 2, FABRIC 3. -/
structure PortRec where
  tile : Nat
  slot : Nat
  role : Nat
  hostIndex : Nat := 255
  channel : Nat := 255
  operator : Bool := false
  cxl : Bool := false
  ideRequired : Bool := false
  bar2Log2 : Nat := 0
  deriving DecidableEq, Repr, Inhabited

/-- A HIERARCHY entry (R290). `kind` is WHOLE_DEVICE 1, VF_SET 2, PF_ONLY 3, SRIOV_SETUP 4; `op` is 0 in FULL, ADD 1
or REMOVE 2 in DELTA. -/
structure HierRec where
  host : Nat
  vdsp : Nat
  kind : Nat
  op : Nat := 0
  devTile : Nat
  devSlot : Nat
  pf : Nat := 0
  vfFirst : Nat := 0
  vfCount : Nat := 0
  imprint : Nat := 0
  deriving DecidableEq, Repr, Inhabited

/-- A POWER record (R776). -/
structure PowerRec where
  island : Nat
  state : Nat
  stopOk : Bool := false
  idleUs : Nat := 100
  deriving DecidableEq, Repr, Inhabited

/-- A POOL record (R512): GLOBAL 1, WITHHOLD 2, QUOTA 3. -/
structure PoolRec where
  typ : Nat
  interleave : Nat := 0
  galleySheets : Nat := 0
  first : Nat := 0
  last : Nat := 0
  imprint : Nat := 0
  maxSheets : Nat := 0
  deriving DecidableEq, Repr, Inhabited

/-- An IMPOSITION record (R377): ENTRY 1, TARGET 2, SOURCE 3, ROUTE 4, GROUP 5, FABRIC 6; `payload` is its 16 bytes as
one little-endian number, `aux` its 8. -/
structure ImpRec where
  typ : Nat
  op : Nat := 0
  part : Nat := 0
  index : Nat
  aux : Nat := 0
  payload : Nat
  deriving DecidableEq, Repr, Inhabited

/-- An ARBITER record (R452). -/
structure ArbRec where
  quad : Nat
  urgentOk : Bool := false
  imprint : Nat
  tickets : Nat
  op : Nat := 0
  deriving DecidableEq, Repr, Inhabited

/-- A SHAPING record (R500): SUBSCRIBER 1, SERVICE 2, PORT 3, POLICER 4, POLMAP 5, SPILLPROF 6, SPILLMAP 7. -/
structure ShapeRec where
  typ : Nat
  op : Nat := 0
  quad : Nat := 0
  index : Nat
  payload : Nat
  deriving DecidableEq, Repr, Inhabited

/-- A GATES record (R502): LIST 1 or ENTRY 2. -/
structure GateRec where
  typ : Nat
  op : Nat := 0
  port : Nat
  leadin : Nat := 0
  entryCount : Nat := 0
  cycle : Nat := 0
  base : Nat := 0
  index : Nat := 0
  gates : Nat := 0
  interval : Nat := 0
  deriving DecidableEq, Repr, Inhabited

/-- A KEYS record (R557): POLICY 1 or SIGNER_REVOKE 2. -/
structure KeyRec where
  typ : Nat
  policy : Nat := 0
  first : Nat := 0
  last : Nat := 0
  slot : Nat := 0
  deriving DecidableEq, Repr, Inhabited

/-- A FAULTS record (R659): GLOBAL 1 or SOURCE 2. -/
structure FaultRec where
  typ : Nat
  op : Nat := 0
  notifyMin : Nat := 1
  tS2 : Nat := 1000
  tS3 : Nat := 100000
  devCto : Nat := 200
  hostCto : Nat := 1000
  source : Nat := 0
  severity : Nat := 255
  timer : Nat := 0
  quiet : Bool := false
  deriving DecidableEq, Repr, Inhabited

/-- A SLOTPOWER record (R668): PROFILE 1 (words 0 to 15 of SLT_PROF) or CHANNEL 2 (word 0 holds the profile). -/
structure SlotRec where
  typ : Nat
  op : Nat := 0
  index : Nat
  words : List Nat
  deriving DecidableEq, Repr, Inhabited

/-- The METERING GLOBAL record (R613). -/
structure MeterRec where
  tickS : Nat := 60
  billing : Nat := 0
  peakWindow : Nat := 1
  ringSlots : Nat := 4
  ringBase : Nat := 0
  headAddr : Nat := 0
  deriving DecidableEq, Repr, Inhabited

/-- A section directory entry (R76). `fmt` is FULL 1 or DELTA 2; `flags` bit 0 is AMENDABLE. -/
structure DirEntry where
  id : Nat
  fmt : Nat
  flags : Nat
  offset : Nat
  length : Nat
  deriving DecidableEq, Repr, Inhabited

/-- A forme or amendment image: header (R75), directory (R76), the records of its sections, signature block (R79),
the key that signed it and the bytes that it signed. `reservedZero` says that every reserved field of header, directory,
sections and signature block is zero (R77). -/
structure Image where
  magic : Nat
  format : Nat := 1
  hdrLen : Nat := 0x80
  deviceId : Nat := 0x9256
  steppingMask : Nat := 1
  imageLen : Nat
  rollbackVer : Nat := 0
  amendSeq : Nat := 0
  sectionCount : Nat
  signer : Nat := 0
  buildId : Nat := 0
  baseDigest : Nat := 0
  reservedZero : Bool := true
  dir : List DirEntry
  laneTiles : List LaneTile := []
  refSsc : List Bool := []
  ports : List PortRec := []
  signedOnly : List Bool := []
  hier : List HierRec := []
  power : List PowerRec := []
  pool : List PoolRec := []
  imp : List ImpRec := []
  arb : List ArbRec := []
  shape : List ShapeRec := []
  gates : List GateRec := []
  keys : List KeyRec := []
  flts : List FaultRec := []
  slots : List SlotRec := []
  meter : List MeterRec := []
  sigLength : Nat := 4627
  sigSigner : Nat := 0
  sigOffset : Nat
  sigKey : Nat := 1
  sigOver : List Nat := []
  deriving DecidableEq, Repr, Inhabited

/-- A firmware bundle (R154): the two 32-bit words of its header, and what the ROM or the Baldon core finds about its two images. -/
structure FwBundle where
  magic : Nat := 0x42464C48
  version : Nat := 0
  supOk : Bool := true
  balOk : Bool := true
  supDigest : Nat := 0
  balDigest : Nat := 0
  length : Nat := 0
  deriving DecidableEq, Repr, Inhabited

/-- What a recovery load reads from host memory (R152, R153). -/
inductive RecoveryImage where
  | forme (img : Image)
  | firmware (fw : FwBundle)
  deriving DecidableEq, Repr, Inhabited

/-- A key-import blob (R561). -/
structure KeyBlob where
  magic : Nat := 0x4B444C48
  version : Nat := 1
  imprint : Nat
  kexId : Nat
  nonce : Nat
  kemCt : Nat
  wrapped : Nat
  reservedZero : Bool := true
  deriving DecidableEq, Repr, Inhabited

end Sys2Proof
end

