-- ==== Sys2Proof/Syntax.lean ====
section
/-! DEFINITION. The commands of the block: one constructor of `Instr` per row of spec/opcode_table.json, and the
plain data that their operands carry.

A command is a register write or read, a composing-port command, a packet or folio that arrives, a pin, or an event
of the block's environment or of its own clocks. Operands name only what comes from outside the block. -/

namespace Sys2Proof

/-- Where a request comes from (R358, R364): a host port by host port index, a device function by device port and
device-side requester ID in the DEST_B encoding, or a fabric origin by switch ID and origin port. -/
inductive Source where
  | host (k : Nat)
  | device (port rid : Nat)
  | fabric (sw port : Nat)
  deriving DecidableEq, Repr

/-- The request kinds that R358 looks up. -/
inductive ReqKind where
  | read
  | write
  | dmWrite
  | atomic
  deriving DecidableEq, Repr

/-- A memory request as its ingress tile records it. `hdr` is its header, prefixes and digest in bytes (R466), `ts` its
ingress timestamp in ns, `inPort` the logical port it arrived on; `cxlMem` marks a CXL.mem request, whose address its
logical device translates (R363). `rid` is the requester ID that a host's request came with, `pre` its end-to-end prefixes and
orthogonal header content, PASID among them, carried unchanged (R223, R248, R254). `bufUe` says that a shared-buffer cell of the packet turns out uncorrectable
(R634, BUF_ECC_UE). -/
structure Req where
  src : Source
  inPort : Nat
  kind : ReqKind
  addr : Nat
  len : Nat
  data : List Byte := []
  tc : Nat := 0
  tag : Nat := 0
  hdr : Nat := 16
  ro : Bool := false
  ido : Bool := false
  poison : Bool := false
  translated : Bool := false
  cxlMem : Bool := false
  bufUe : Bool := false
  rid : Nat := 0
  pre : List Nat := []
  ts : Nat
  deriving DecidableEq, Repr

/-- Completion status (PCIe): Successful, Unsupported Request, Completer Abort. -/
inductive CplStatus where
  | sc
  | ur
  | ca
  deriving DecidableEq, Repr

/-- A completion that arrives on a port. `last` says it carries the last bytes of its request, `pre` are its prefixes and orthogonal header
content (R223, R254). -/
structure Cpl where
  inPort : Nat
  tag : Nat
  rid : Nat
  status : CplStatus
  data : List Byte := []
  offset : Nat := 0
  last : Bool := true
  poison : Bool := false
  pre : List Nat := []
  fromSw : Option Nat := none
  ts : Nat
  deriving DecidableEq, Repr

/-- A partner's request in a transmitter's equalisation (R189, R190): a preset, or a coefficient set. Bypassing equalisation at lower rates
leaves nothing behind. -/
inductive EqRequest where
  | preset (n : Nat)
  | coefs (pre main post : Nat)
  deriving DecidableEq, Repr

/-- What training finds on the lanes of a port and sets there (R185, R187, R189 to R191, R195): whether the partner's lanes are
reversed, the polarity detected by port lane, whether both sides have declared that no equalisation is needed, the partner's transmit
requests in order, each with its port lane, the eye and the peaking code after adaptation. -/
structure LaneTune where
  reversed : Bool := false
  polarity : Nat := 0
  noEq : Bool := false
  eq : List (Nat × EqRequest) := []
  eyeH : Nat := 0
  eyeW : Nat := 0
  ctle : Nat := 0
  deriving DecidableEq, Repr

/-- One exchange of EQ marks on a fabric port (R308, R310): the mark block that each port lane received, and the request byte that each
lane's receiver sends (0xF0, where the list has none: no request). -/
structure EqRound where
  blocks : List (List Byte)
  asks : List Nat := []
  deriving DecidableEq, Repr

/-- What EQ brings on a fabric port (R310, R313): its exchanges of marks in order, and what training found and set on the lanes of this
side. -/
structure EqFound where
  rounds : List EqRound
  tune : LaneTune := {}
  deriving DecidableEq, Repr

/-- The symbols that the receiver of a lane took in; with near-end serial loopback the symbols of which each set bit is a bit that the path
inverted (R207, R214). -/
structure LaneRx where
  lane : Nat
  rx : List Nat
  deriving DecidableEq, Repr

/-- The mark blocks that a fabric port received (R309): block `i` is the one of port lane `i`. -/
structure PortBlocks where
  port : Nat
  blocks : List (List Byte)
  deriving DecidableEq, Repr

/-- A stream key that key management sets (R260, R266): its value, whether it is that of the CXL.mem stream, and whether skid mode is
asked for. -/
structure IdeKey where
  value : Nat
  mem : Bool := false
  skid : Bool := false
  deriving DecidableEq, Repr

/-- What a host or device port's training ends with (R170, R223, R263). -/
structure Training extends LaneTune where
  partnerRate : Nat
  width : Nat
  flit : Bool := true
  cxl : Bool := false
  devMps : Nat := 4096
  devMrrs : Nat := 4096
  deriving DecidableEq, Repr

/-- A BAR of a device function as enumeration finds it (R234, R782). Index 6 is the Expansion ROM BAR. -/
structure DevBar where
  index : Nat
  sizeLog2 : Nat
  is64 : Bool := false
  pref : Bool := false
  vf : Bool := false
  deriving DecidableEq, Repr

/-- A function of a device as enumeration finds it. `rid` is in the DEST_B encoding; `totalVfs` and `vfRid0`, the first
VF's requester ID, come from its SR-IOV capability. -/
structure DevFn where
  rid : Nat
  bars : List DevBar := []
  vendor : Nat := 0
  device : Nat := 0
  vfDevice : Nat := 0
  totalVfs : Nat := 0
  vfRid0 : Nat := 0
  deriving DecidableEq, Repr

/-- A command to the CXL mailbox of a logical device (R525), or to a Fabric Manager API mailbox (R265). DESIGN CHOICE: log entry 158. -/
inductive MailboxCmd where
  | getDcConfig
  | getExtentList
  | addResponse
  | releaseDc
  | fabricManager
  deriving DecidableEq, Repr

/-- A virtual register of a host's hierarchy that a configuration request names (R230, R238, R239). `capHeader` is the header of a
capability by its ID, `ext` of an extended one; `other` a register that no rule names and that holds no bit of a feature of R224.
PRESUMED: log entry 20. -/
inductive CfgReg where
  | vendorDevice
  | command
  | revClass
  | headerType
  | bar (n : Nat)
  | subsystem
  | intPin
  | busNumbers
  | memWindow
  | prefWindow
  | prefBaseUpper
  | prefLimitUpper
  | devCtl
  | devCtl2
  | linkCap
  | linkStatus
  | slotCap
  | slotCtl
  | slotStatus
  | dpcCtl
  | dpcStatus
  | acsCap
  | acsCtl
  | pmcsr
  | sriovCtl
  | numVfs
  | vfBar (n : Nat)
  | msixCtl
  | linkCtl
  | linkCap2
  | pcieCap
  | devCap2
  | devCap3
  | pmCap
  | ptmCap
  | ideCap
  | aerStatus
  | aerMask
  | aerSev
  | aerCorr
  | aerCorrMask
  | msixTable
  | msixPba
  | ptmCtl
  | doeCtl
  | doeStatus
  | cxlCap
  | cxlCtl
  | hdmCap
  | hdmCtl
  | hdm (n : Nat)
  | ldId
  | capHeader (ext : Bool) (id : Nat)
  | mailbox (c : MailboxCmd)
  | other (offset : Nat)
  deriving DecidableEq, Repr

/-- The function of a virtual hierarchy that a configuration request names: the virtual upstream port, a virtual
downstream port, the management endpoint, or function `f` behind virtual downstream port `v`; function 0 behind port 31 of a CXL host
is its logical device (R264). -/
inductive CfgTarget where
  | usp
  | vdsp (v : Nat)
  | mep
  | fn (v f : Nat)
  deriving DecidableEq, Repr

/-- How a message, an ATS request or an attestation request reaches the switch (R590, R592). -/
inductive Requester where
  | i3c (eid : Nat)
  | vdm (host rid : Nat)
  | doe (host : Nat)
  deriving DecidableEq, Repr

/-- An SPDM request to the switch as responder (R585). -/
inductive SpdmReq where
  | getDigests
  | getCertificate (index : Nat)
  | challenge (nonce : Nat)
  | getMeasurements (index : Nat)
  deriving DecidableEq, Repr

/-- ATS and page-request messages (R254). -/
inductive AtsKind where
  | translation
  | pageRequest
  | invalidation
  | pageResponse
  deriving DecidableEq, Repr

/-- How a message is routed: by an ID, or implicitly where it has none; and the prefixes that it carries (R223, R254, R359). -/
structure MsgRoute where
  byId : Option Nat := none
  pre : List Nat := []
  deriving DecidableEq, Repr

/-- An ATS message: its kind, and the prefixes that it carries (R254). -/
structure AtsMsg where
  kind : AtsKind
  pre : List Nat := []
  deriving DecidableEq, Repr

/-- A report of a fault to the collector: source code, scope kind NONE 0, PORT 1, OWNER 2, FUNCTION 3, and scope or
instance (R631, R634). `sev`, where given, replaces the source's default severity (DL_LANE_DROP, FENCE_FORCED); `count` is how many equal reports merged (R632), `isl` the
island in whose queue it waits. -/
structure Report where
  source : Nat
  kind : Nat := 0
  scope : Nat := 0
  sev : Option Nat := none
  count : Nat := 1
  isl : Nat := 50
  deriving DecidableEq, Repr

/-- A fabric packet header (R299) with its payload; `ext` is what the slot of HDR_EXT holds (R300). `ptype` is POSTED 1, NONPOSTED 2, COMPLETION 3, LINKCMD 4. -/
structure FabPkt where
  ptype : Nat
  tc : Nat := 0
  vc : Nat := 0
  poison : Bool := false
  hdrExt : Bool := false
  ext : List Byte := []
  dstSw : Nat
  srcSw : Nat
  srcPort : Nat
  len : Nat := 0
  hops : Nat := 63
  addr : Nat := 0
  tlp : Nat := 0
  kind : ReqKind := .write
  reqLen : Nat := 0
  tag : Nat := 0
  rid : Nat := 0
  status : CplStatus := .sc
  data : List Byte := []
  deriving DecidableEq, Repr

/-- A counting record (R596): the imprint (none: the device record), the counter it adds to, the amount, its traffic
class and its timestamp. -/
inductive CountKind where
  | req
  | cpl
  | refused
  | dropped
  | synth
  deriving DecidableEq, Repr

/-- See `CountKind`. `src` is the island that sends it: a quad, or 46 + m for memory cipher island m. -/
structure CountRec where
  imprint : Option Nat
  kind : CountKind
  bytes : Nat := 0
  tc : Nat := 0
  ts : Nat
  src : Nat := 32
  deriving DecidableEq, Repr

/-- The causes of a host-port reset (R277, R715). -/
inductive HostReset where
  | perst
  | hot
  | linkDown
  | removed
  deriving DecidableEq, Repr

/-- A direction of a lane. -/
inductive Dir where
  | tx
  | rx
  deriving DecidableEq, Repr

/-- What a patrol scrub step finds in one line (R538 to R541): no error, a corrected error, an uncorrectable error. -/
inductive EccResult where
  | clean
  | corrected
  | bad
  deriving DecidableEq, Repr

/-- A copy of a replica item (R389): an entry or a descriptor. -/
inductive ItemKind where
  | entry
  | target
  deriving DecidableEq, Repr

/-- What a TRAIN folio says of its sender (R311). -/
structure TrainInfo where
  switchId : Nat
  port : Nat
  dir : Nat
  lanes : Nat
  hdrCredits : List Nat
  dataCredits : List Nat
  deriving DecidableEq, Repr

/-- A key reference (R577, R578): a lease's sheet key by handle and lease epoch, or the sealed key or the owner galley
key of an imprint at one generation, or the transit galley key. -/
inductive KeyRef where
  | sheet (handle epoch imprint gen : Nat)
  | seal (imprint gen : Nat)
  | galley (imprint gen : Nat)
  | transit
  deriving DecidableEq, Repr

/-- An arbiter (R439): the local output of quad `q` to its tile `t`; the spine output of quad `q` on island `s`,
sub-channel `k`; the output of spine island `s` to quad `d` or to memory cipher island `m` on sub-channel `k`. -/
inductive ArbId where
  | quadLocal (q t : Nat)
  | quadSpine (q s k : Nat)
  | spineQuad (s d k : Nat)
  | spineMem (s m k : Nat)
  deriving DecidableEq, Repr

/-- A shaper of the tree (R460). -/
inductive ShaperId where
  | sub (i : Nat)
  | svc (j : Nat)
  | port (p : Nat)
  deriving DecidableEq, Repr

/-- The commands: one constructor per row of the opcode table, in the table's order. -/
inductive Instr where
  -- power-up and bring-up (04)
  | powerUp
  | p0ClocksLocked
  | firmwareVerified
  | bankVerifyDone
  | domainPowerGood (d : Nat)
  | domainSwitchSlot
  | domainPgood (d : Nat)
  | islandsPowered
  | p4End
  | phaseTimeout
  | essentialFailure (code detail : Nat)
  | nonEssentialFailure (code detail : Nat)
  | coldReset
  | warmReset
  | sysResetNRise
  | meteringFlushDone
  | flushTimeout
  | recoveryLoad (host : Nat) (img : RecoveryImage)
  | recoveryLoadDone
  | recoveryReboot
  -- thermal, voltage, supplies (18)
  | thermalSample (temps hbm : List Nat)
  | thermalHoldRelease
  | avsSample (margins : List Int)
  | avsBusErr
  | supplyExcursion (domains : List Nat)
  -- islands (02, 05)
  | refclkLoss
  | refclkQLoss (q : Nat)
  | pwrLoss (d : Nat)
  | clkUnlock (isl : Nat)
  | islandIsolated (isl : Nat)
  | islandIdleStop (isl : Nat)
  | wakeRequest (isl : Nat)
  | wakeComplete (isl : Nat)
  | fenceComplete (isl : Nat)
  | fenceForced (isl : Nat)
  | islandResetRelease (isl : Nat)
  | mgmtRepairRetry
  | mgmtRebuildDone
  | resyncComplete (isl : Nat)
  | replicaEccError (quad : Nat) (kind : ItemKind) (idx : Nat) (correctable : Bool)
  | replicaCompare (quad : Nat) (differ : Bool)
  -- staging and commit (03)
  | arbCommit (host : Nat)
  | shFieldWrite (host offset size value : Nat)
  | registerWrite (host offset size value : Nat)
  | commitDeliveryAck (isl : Nat)
  | commitRegistration (t : Nat)
  | commitInstant
  | oldValueWindowClose
  | replicaWriteDone
  | killMarkSweepDone
  | commitComplete
  | hierarchyChange (host : Nat) (target : CfgTarget) (reg : CfgReg) (value : Nat)
  | configRequest (host : Nat) (target : CfgTarget) (reg : CfgReg) (write : Bool) (value : Nat)
  -- composing-port commands (16)
  | lockAcquire (host token : Nat)
  | lockRelease (host token : Nat)
  | lockBreak (host token : Nat)
  | commit (host token : Nat)
  | stageDiscard (host token : Nat)
  | amendLoad (host token : Nat) (img : Image)
  | formeWrite (host token : Nat) (img : Image)
  | formeSelect (host token : Nat)
  | devReset (host token : Nat)
  | devResetStart
  | impStageEntry (host token : Nat)
  | impStageTarget (host token : Nat)
  | impStageSource (host token : Nat)
  | impStageRoute (host token : Nat)
  | impStageGroup (host token : Nat)
  | impInvalidate (host token : Nat)
  | impRead (host token : Nat)
  | shFill (host token : Nat)
  | poolLease (host token : Nat)
  | poolRelease (host token : Nat)
  | poolQuery (host token : Nat)
  | keyImport (host token : Nat) (blob : KeyBlob)
  | keyRevoke (host token : Nat)
  | keyQuery (host token : Nat)
  | islFence (host token : Nat)
  | islUnfence (host token : Nat)
  | islReset (host token : Nat)
  | islPower (host token : Nat)
  | linkWidth (host token : Nat)
  | contain (host token : Nat)
  | containRelease (host token : Nat)
  | proofStart (host token : Nat)
  | proofStop (host token : Nat)
  | proofEnd (handle : Nat) (fail : Bool) (rows : List (Nat × Nat × Nat))
  | commandDone
  -- hosts, devices, links (06)
  | perstNRise (k : Nat)
  | hostPortReset (k : Nat) (cause : HostReset)
  | functionLevelReset (host vdsp fn : Nat)
  | mgmtEndpointFlr (k : Nat)
  | busMasterEnableClear (k : Nat)
  | busMasterEnableSet (k : Nat)
  | dmaReadTimeout (k tag : Nat)
  | quarantineLateCompletion (k tag : Nat) (last : Bool)
  | quarantineTimeout (k tag : Nat)
  | portTrained (port : Nat) (t : Training)
  | deviceEnumerated (port : Nat) (fns : List DevFn)
  | devicePortLinkDown (port : Nat)
  | l1Entry (port : Nat)
  | l1Exit (port : Nat)
  | ptmRequest (port : Nat)
  | ptmHostRequest (k : Nat)
  | ideKm (host : Nat) (key : IdeKey)
  | deviceIdeSetup (port : Nat) (ok : Bool) (secret : Nat)
  | ideFail (port : Nat)
  | spdmRequest (who : Requester) (req : SpdmReq)
  | atsRequest (fromDevice : Bool) (host port rid : Nat) (msg : AtsMsg)
  | loopbackRequest (port : Nat)
  | dpcTriggerStatusClear (host vdsp : Nat)
  | pcieReplayTimer (port : Nat)
  | completionTimeout (id : Nat)
  | completionReceived (c : Cpl)
  -- requests, queues, arbitration, scheduling (08, 09, 10)
  | ioRequest (src : Source) (tag : Nat)
  | bar0Access (host offset size : Nat) (write : Bool) (value : Nat) (atomic : Bool)
  | requestArrival (r : Req)
  | galleyUnblock (queue : Nat)
  | galleyReadBack (queue : Nat) (bad : Bool)
  | egressQueueArrival (pkt : Nat)
  | admissionRestore (queue : Nat)
  | arbiterDraw (arb : ArbId)
  | egressStart (port : Nat)
  | shaperRefill (sh : ShaperId) (dt : Nat)
  | gateEntryChange (port : Nat)
  | leadinEnd (port : Nat)
  | guardBandUpdate (port : Nat)
  | queueSample
  | sealedRmwReadDone (pkt : Nat) (ok : Bool) (poison : Bool)
  -- the pool (11)
  | poolRequest (pkt : Nat) (ecc : EccResult)
  | granuleFillDone (stack granule : Nat)
  | poolRmwReadDone (pkt : Nat) (ecc : EccResult)
  | poolReadHoldRelease (pkt : Nat)
  | scrubStep (stack line row bank : Nat) (found : EccResult)
  | rowCopyDone (stack row : Nat)
  -- keys (12)
  | keystoreEcc (isl : Nat) (key : KeyRef) (correctable : Bool)
  | keyRedelivery (isl : Nat) (key : KeyRef)
  | holderDeadline
  | keyDestruction (key : KeyRef)
  | destructionComplete
  | rngHealthFail
  | entropyRecovery
  | getColophon (who : Requester) (index : Nat)
  | getReport (who : Requester) (typ imprint nonce index : Nat)
  | getCert (who : Requester) (cert index : Nat)
  | reportSigned
  | heldResponseExpiry (who : Requester)
  -- the Durriha link (07)
  | folioReceived (port : Nat) (rx : List (List Nat))
  | fabricPacket (port : Nat) (p : FabPkt) (ts : Nat)
  | replayWindowExpiry (port : Nat)
  | creditReturnSend (port vc : Nat)
  | alignMarkSend (port : Nat)
  | realign (rx : PortBlocks)
  | dlAlignLost (port : Nat)
  | dlSilent (port : Nat)
  | detectExit (port signal : Nat)
  | eqExit (port usable : Nat) (found : EqFound)
  | alignExit (port : Nat)
  | configExit (port : Nat) (peer : TrainInfo)
  | retrainTimer (port : Nat)
  | fabricLinkDown (port : Nat)
  | transitRecordExpiry (port id : Nat)
  | widthReq (port : Nat) (partnerTx : Bool) (width mask : Nat)
  | widthReady (port mask : Nat)
  | widthRefuse (port : Nat) (partnerTx : Bool) (reason : Nat)
  /-- The blocks that port lanes 0 to 7 received, then those of port lanes 8 to 15. -/
  | switchMark (port : Nat) (low high : List (List Byte))
  | widthChangeTimeout (port : Nat)
  | autoDrop (port lane : Nat)
  | bucketRebind (group map bucket : Nat)
  -- lanes (05)
  | laneSleepDeep (lane : Nat) (dir : Dir)
  | laneWake (lane : Nat) (dir : Dir)
  | adaptationStep (lane eyeH eyeW ctle : Nat)
  | offsetCalibration (lane : Nat)
  | tileLaneTestWrite (host lane value : Nat)
  | injGo (host lane : Nat)
  | rateInjection (lane : Nat)
  | chkSync (r : LaneRx)
  | lockLoss (r : LaneRx)
  | tilePrbsErrRead (host lane : Nat)
  -- faults (14)
  | faultReport (queued : Nat) (direct : List Report)
  | escalationExpiry (e : Nat)
  | functionReleaseDone (n : Nat)
  | fltFirstClear (host : Nat)
  | fltCausePendingClear (host source : Nat)
  | ackAll (host source : Nat)
  | fltEscAck (host e : Nat)
  | safeModeClear (host : Nat)
  | fltInjectGo (host value : Nat)
  -- slot power (15)
  | insertionRecognised (k : Nat)
  | removalRecognised (k : Nat)
  | slotEnAssert (k : Nat)
  | slotEnDeassert (k : Nat)
  | debounceEnd (k : Nat)
  | slotPowerGood (k : Nat)
  | gateEnhanced (k : Nat)
  | stoppingEnd (k : Nat)
  | settleEnd (k : Nat)
  | slotSample (k iCode vCode : Nat) (vgsHigh : Bool)
  | fastTrip (k : Nat)
  | sltCtlWrite (host k en : Nat)
  | slotPerstRelease (k : Nat)
  | slotLinkFail
  | slotInterfaceResync
  -- metering and telemetry (13)
  | countingRecord (c : CountRec)
  | tickBoundary
  | peakWindowEnd
  | bankClose
  | batchSigned
  | batchWriteDone
  | metRingArm (host start : Nat)
  | metRingTailWrite (host tail : Nat)
  | pmcSnap (host : Nat)
  | snapshotDone
  | pmcCfgWrite (host i value : Nat)
  | pmcSampCfgWrite (host value : Nat)
  | transactionSample (pkt : Nat)
  | clearOnRead (host offset size : Nat)
  -- rows the table adds at its end
  | vbcdRise
  | hbmTrained
  | serdesCalibrated
  | messageReceived (src : Source) (msg : MsgRoute) (toHost : Bool)
  | flitReceived (port : Nat) (ack nak : Option Nat) (bad : Bool)
  | slotLinkRestored
  | laneMargining (lane timing voltage : Nat)
  deriving DecidableEq, Repr

end Sys2Proof
end

