-- ==== Sys2Proof/Decode.lean ====
section
/-! DEFINITION. The command that a word of the opcode table spells. The table of this block gives its rows no bits
(every row's list of fields is empty), so that no word spells a command. -/

namespace Sys2Proof

/-- The command whose bits, as the opcode table numbers them, are `w`: no row of the table gives bits. -/
def decodeTableWord (_nbits _w : Nat) : Option Instr := none

end Sys2Proof
end

