-- ==== Sys2Proof/Config.lean ====
section
/-! DEFINITION. What one part fixes and what the manual leaves open.

A constant without a body is a FREE VALUE: nothing in Lean can evaluate it, so a statement about it holds for every
value. Each is named in an assumption log entry. -/

namespace Sys2Proof.Config

/-- The `n`-th random number that the Baldon core's generator draws (R550): a free value, applied to the plain
counter `State.draws` (DESIGN CHOICE, log entry 4). -/
opaque random : Nat → Nat

/-- What AES-256-XTS decryption under a data key and a tweak gives where they are not those the line was encrypted under, or the line was
never written (R567 to R572): a free value (DESIGN CHOICE, log entry 5). -/
opaque garbled : Nat → Nat → Nat → List Byte

/-- AES-256-XTS of a sealed line (R398, R571): direction, key, tweak, line: a free function (DESIGN CHOICE, log entry 5). -/
opaque xts : Bool → List Nat → Nat → List Byte → List Byte

/-- SHA3-512 of a list of numbers that stands for the concatenation hashed (R122, R566, R585, R610): a free function
(DESIGN CHOICE, log entry 6). -/
opaque digest : List Nat → Nat

/-- KMAC256 with a key, a message, an output length in bits and a customization string (R562, R567): a free function (DESIGN CHOICE, log
entry 6). -/
opaque kmac256 : List Nat → List Nat → Nat → List Nat → Nat

/-- The ML-KEM-1024 encapsulation key that system slot 3's seed gives (R556, R561) (DESIGN CHOICE, log entry 6). -/
opaque encapsKey : Nat → Nat

/-- ML-KEM-1024 decapsulation of a ciphertext with the key of system slot 3's seed (R562) (DESIGN CHOICE, log entry 6). -/
opaque decapsulate : Nat → Nat → Nat

/-- RFC 3394 key unwrap under a key-encryption key: the key inside, or none where the integrity check fails (R561, R563) (DESIGN
CHOICE, log entry 6). -/
opaque unwrap : Nat → Nat → Option Nat

/-- ML-DSA-87 signature of a digest under the key of a seed (R556, R587, R610): a free function (DESIGN CHOICE, log entry 6). -/
opaque signature : Nat → Nat → Nat

/-- The key of a device port's Link IDE stream from system slot 4 and the session's master secret with KMAC256 (R261, R586), whose input
the manual does not lay out: a free function (DESIGN CHOICE, log entry 6). -/
opaque linkKey : Nat → Nat → Nat

/-- The bytes of X.509 certificate `i` of R583, for what it certifies (DESIGN CHOICE, log entry 6). -/
opaque certificate : Nat → List Nat → List Nat

/-- A device's answer to a configuration read forwarded to it (R238): the device's own, a free value (DESIGN CHOICE, log entry 53). -/
opaque deviceConfig : Nat → Nat → Nat → Nat

/-- The bytes of a device line that a read-modify-write reads (R401), by port, line and draw: the device's own, a free
value (DESIGN CHOICE, log entry 5). -/
opaque deviceLine : Nat → Nat → Nat → List Byte

/-- DEST of a sample entry of a transaction that was refused, by selection number: the manual gives none (R627; DESIGN CHOICE, log entry 163). -/
opaque sampleDest : Nat → Nat

/-- What a performance counter that counts island cycles holds, by counter and instant: the model has no cycles (R621; DESIGN CHOICE,
log entry 86). -/
opaque cycleCount : Nat → Nat → Nat

/-- Content of a packet's flit-mode header bytes 0 to 15 that no field of the model names (R627 TLP_HDR): a free value (DESIGN CHOICE, log entry 54). -/
opaque tlpHeader : Nat → Nat

/-- What host memory holds where AMEND_LOAD or FORME_WRITE reads its image, for a command written through BAR0: a free
value of the draw counter (DESIGN CHOICE, log entry 52). -/
opaque hostImage : Nat → Image

/-- What host memory holds where KEY_IMPORT reads its blob, for a command written through BAR0 (DESIGN CHOICE, log entry 52). -/
opaque hostBlob : Nat → KeyBlob

/-- What host memory holds where a recovery load reads its image, for a GO written through BAR0 (DESIGN CHOICE, log entry 52). -/
opaque hostRecovery : Nat → RecoveryImage

/-- Coefficients C−1, C0, C+1 that a transmit preset stands for: the manual gives the presets' numbers alone (DESIGN CHOICE, log
entry 141). -/
opaque presetCoefs : Nat → Nat × Nat × Nat

/-- The eye height, eye width and peaking code toward which the short adaptation of a receiver that wakes from deep sleep goes, by lane and
instant: the manual gives none (R200; DESIGN CHOICE, log entry 167). -/
opaque wakeEye : Nat → Nat → Nat × Nat × Nat

/-- The register from which a lane's pattern generator starts, by lane and draw: the manual gives no seed (R212; DESIGN CHOICE, log entry
168). -/
opaque genSeed : Nat → Nat → Nat

/-- The first 16 bytes of the flit-mode TLP header that a packet of this switch carries over the fabric (R299), for what the model
names of it: the manual does not lay it out (DESIGN CHOICE, log entry 148). -/
opaque fabTlp : List Nat → Nat

/-- The completer ID of a completion whose completer is no device function, by the completer's port and the requester's: the manual
gives none (R250; DESIGN CHOICE, log entry 159). -/
opaque completerId : Nat → Nat → Nat

/-- What SLT_MEAS.I and SLT_CAPTURE.IPEAK show of a window current beyond 65,535 mA (R665 and R697 allow up to 80,000 mA; DESIGN CHOICE,
log entry 165). -/
opaque currentOver : Nat → BitVec 16

end Sys2Proof.Config
end

