-- ==== Sys2Proof/Fields.lean ====
section
/-! DEFINITION. The names of the register fields of the manual's register tables, and the cell that holds one
field's value. `Fld.REGISTER_FIELD` is the field the manual writes REGISTER.FIELD. -/

namespace Sys2Proof

/-- One constructor per field of the register tables (R71 to R775, without reserved bits). Repeated fields of one
register (PROF_TCt, WEIGHT_TCt, BRK_I, BRK_T) have one constructor each. -/
inductive Fld where
  | SUP_COL_ID_VENDOR
  | SUP_COL_ID_DEVICE
  | SUP_COL_REV_REVISION
  | SUP_COL_REV_GRADE
  | SUP_COL_PHASE_PHASE
  | SUP_COL_PHASE_STALLED
  | SUP_COL_PHASE_ATTEMPT
  | SUP_COL_PROGRESS_CODE
  | SUP_COL_PROGRESS_ELAPSED
  | SUP_COL_LAST_ERROR_CODE
  | SUP_COL_LAST_ERROR_DETAIL
  | SUP_COL_LAST_ERROR_PHASE
  | SUP_COL_RESET_CAUSE_CAUSE
  | SUP_COL_RECOV_ADDR_ADDR
  | SUP_COL_RECOV_LEN_LEN
  | SUP_COL_RECOV_CTL_TARGET
  | SUP_COL_RECOV_CTL_GO
  | SUP_COL_RECOV_STATUS_STATE
  | SUP_COL_RECOV_STATUS_RESULT
  | SUP_ISL_STATUS_STATE
  | SUP_ISL_STATUS_CLK_LOCK
  | SUP_ISL_STATUS_WAKE_PEND
  | SUP_ISL_STATUS_FENCE_FORCED
  | SUP_ISL_STATUS_LOSS
  | SUP_ISL_STATUS_WAKE_COUNT
  | SUP_DOM_STATUS_ON
  | SUP_DOM_STATUS_PGOOD
  | SUP_DOM_STATUS_SWITCHING
  | SUP_DOM_STATUS_ISLAND
  | SUP_XING_DROP_COUNT
  | SUP_AVS_STATUS_SETPOINT
  | SUP_AVS_STATUS_AT_CEILING
  | SUP_AVS_STATUS_BUS_ERR
  | SUP_AVS_STATUS_CHANGES
  | SUP_THERM_HOTTEST
  | SUP_THERM_HOT_ISLAND
  | SUP_THERM_HOT
  | SUP_THERM_HBM_MAX
  | SUP_THERM_TRIPS
  | SUP_ISL_HEALTH_TEMP
  | SUP_ISL_HEALTH_MARGIN
  | CMP_STATUS_BUSY
  | CMP_STATUS_OPCODE
  | CMP_STATUS_HOST_INDEX
  | CMP_STATUS_INTERNAL
  | CMP_STATUS_RESET_PEND
  | CMP_CMD_OPCODE
  | CMP_CMD_TOKEN
  | CMP_RESULT_STATE
  | CMP_RESULT_RESULT
  | CMP_RESULT_OPCODE
  | CMP_RESULT_TOKEN
  | CMP_BUSY_REJECT_COUNT
  | CMP_LOCK_HELD
  | CMP_LOCK_HOST_INDEX
  | CMP_LOCK_FUNCTION
  | CMP_LOCK_BROKEN
  | CMP_LOCK_MINE
  | CMP_LOCK_SEQ
  | CMP_PROOF_STATE
  | CMP_PROOF_OUTCOME
  | CMP_PROOF_TYPE
  | CMP_PROOF_PROGRESS
  | CMP_PROOF_HOST_INDEX
  | CMP_EPOCH_EPOCH
  | CMP_COMMIT_TIME_T_C
  | CMP_STAGE_STATUS_STAGED
  | CMP_STAGE_STATUS_STALE
  | CMP_STAGE_STATUS_IMP_COUNT
  | CMP_STAGE_STATUS_COMMIT_PEND
  | CMP_STAGE_REJECT_COUNT
  | CMP_FORME_STATUS_BANK
  | CMP_FORME_STATUS_PREF
  | CMP_FORME_STATUS_FALLBACK
  | CMP_FORME_STATUS_TRIAL
  | CMP_FORME_STATUS_SIGNER
  | CMP_FORME_STATUS_BANK_A
  | CMP_FORME_STATUS_BANK_B
  | CMP_ROLLBACK_COUNTER
  | CMP_FORME_VER_ROLLBACK_VER
  | CMP_AMEND_SEQ_HIGH_WATER
  | CMP_CONFIG_DIGEST_DIGEST
  | CMP_DMA_STATUS_STATE
  | CMP_DMA_STATUS_OUTSTANDING
  | CMP_DMA_STATUS_QUARANTINED
  | CMP_DMA_LATE_COUNT
  | CMP_ARG_VALUE
  | CMP_RET_VALUE
  | FLT_STATUS_SAFE_MODE
  | FLT_STATUS_HALTED
  | FLT_STATUS_ALERT
  | FLT_STATUS_PEND
  | FLT_STATUS_ESC_USED
  | FLT_FIRST_VALID
  | FLT_FIRST_SEVERITY
  | FLT_FIRST_SOURCE
  | FLT_FIRST_SCOPE_KIND
  | FLT_FIRST_SCOPE
  | FLT_FIRST_TIME_TIME
  | FLT_INJECT_SOURCE
  | FLT_INJECT_TARGET
  | FLT_INJECT_MODE
  | FLT_INJECT_GO
  | FLT_INJECT_DONE
  | FLT_CAUSE_PENDING
  | FLT_CAUSE_ACTIVE
  | FLT_CAUSE_ACK_ALL
  | FLT_CAUSE_SEVERITY
  | FLT_CAUSE_ESC_RUN
  | FLT_CAUSE_LAST_KIND
  | FLT_CAUSE_LAST_SCOPE
  | FLT_CAUSE_COUNT
  | FLT_ESC_VALID
  | FLT_ESC_ACK
  | FLT_ESC_SOURCE
  | FLT_ESC_SCOPE_KIND
  | FLT_ESC_SCOPE
  | FLT_ESC_REMAIN
  | FLT_PORT_STATE
  | FLT_PORT_CTO
  | FLT_PORT_DISCARD
  | FLT_QUAR_QUARANTINED
  | FLT_FUNC_STATE
  | FLT_FUNC_RID
  | FLT_FUNC_PORT
  | SLT_PROF_V_NOM
  | SLT_PROF_SHUNT
  | SLT_PROF_INRUSH_I
  | SLT_PROF_FT_I
  | SLT_PROF_T_RAMP
  | SLT_PROF_T_GATE
  | SLT_PROF_PG_PCT
  | SLT_PROF_AUTO_EN
  | SLT_PROF_T_SETTLE
  | SLT_PROF_CAP_WIN
  | SLT_PROF_BRK_I0
  | SLT_PROF_BRK_I1
  | SLT_PROF_BRK_I2
  | SLT_PROF_BRK_I3
  | SLT_PROF_BRK_I4
  | SLT_PROF_BRK_I5
  | SLT_PROF_BRK_I6
  | SLT_PROF_BRK_I7
  | SLT_PROF_BRK_T0
  | SLT_PROF_BRK_T1
  | SLT_PROF_BRK_T2
  | SLT_PROF_BRK_T3
  | SLT_PROF_BRK_T4
  | SLT_PROF_BRK_T5
  | SLT_PROF_BRK_T6
  | SLT_PROF_BRK_T7
  | SLT_SUMMARY_LINK_OK
  | SLT_SUMMARY_RAMPING
  | SLT_ON_MASK_ON
  | SLT_LATCH_MASK_LATCHED
  | SLT_CTL_EN
  | SLT_STATUS_STATE
  | SLT_STATUS_CAUSE
  | SLT_STATUS_BRK_POINT
  | SLT_STATUS_PRSNT
  | SLT_STATUS_EN_PIN
  | SLT_STATUS_SETTLING
  | SLT_STATUS_EARLY_INS
  | SLT_STATUS_PERST
  | SLT_STATUS_CLR_ARMED
  | SLT_STATUS_SETTLE_REMAIN
  | SLT_MEAS_I
  | SLT_MEAS_V
  | SLT_CAPTURE_IPEAK
  | SLT_CAPTURE_VMIN
  | SLT_GEN_GEN
  | SLT_GEN_LATCHES
  | SLT_CFG_PROFILE
  | SLT_CFG_ACTIVE
  | SLT_CFG_PORT
  | MET_STATUS_ARMED
  | MET_STATUS_PENDING
  | MET_STATUS_MERGING
  | MET_RING_CTL_START
  | MET_RING_CTL_ARM
  | MET_RING_HEAD_HEAD
  | MET_RING_TAIL_TAIL
  | MET_INTERVAL_START
  | MET_SEQ_LAST
  | IMP_DRAIN_EPOCH_EPOCH
  | IMP_USAGE_ENTRIES
  | IMP_Q_LOG_INFO_VALID
  | IMP_Q_LOG_INFO_KIND
  | IMP_Q_LOG_INFO_DOMAIN
  | IMP_Q_LOG_INFO_TILE
  | IMP_Q_LOG_INFO_REQ
  | IMP_Q_LOG_ADDR_ADDR
  | IMP_Q_COUNT_MISS
  | IMP_Q_COUNT_PERM
  | IMP_Q_SEAL_RMW
  | IMP_Q_SEAL_LOCKS
  | IMP_Q_SEAL_RMW_FAIL
  | IMP_Q_ECC_CORR
  | IMP_Q_ECC_UE
  | ARB_TICKET_TICKETS
  | ARB_TICKET_URGENT_OK
  | ARB_TRANSIT_TICKETS
  | ARB_TRANSIT_URGENT_OK
  | ARB_COMMIT_COMMIT
  | ARB_STAT_URGENT
  | ARB_STAT_FORCED
  | BAL_STATUS_RNG_OK
  | BAL_STATUS_FACTORY_TEST
  | BAL_STATUS_SIGNER_REVOKED
  | BAL_STATUS_REPORT_QUEUE
  | BAL_STATUS_RNG_FAIL
  | BAL_REVOKE_LAST_KIND
  | BAL_REVOKE_LAST_ACTIVE
  | BAL_REVOKE_LAST_IMPRINT
  | BAL_REVOKE_LAST_HANDLE
  | BAL_REVOKE_LAST_DISCARDED
  | BAL_REVOKE_LAST_DURATION
  | BAL_SYS_SLOT_KIND
  | BAL_SYS_SLOT_READY
  | BAL_KEY_SLOT_STATE
  | BAL_KEY_SLOT_POLICY
  | BAL_KEY_SLOT_SOURCE
  | BAL_KEY_SLOT_GEN
  | BAL_KEY_SLOT_LEASES
  | BAL_KEY_SLOT_KCV
  | MEM_POOL_STATUS_FREE
  | MEM_POOL_STATUS_LEASED
  | MEM_POOL_STATUS_GALLEY_SHEETS
  | MEM_POOL_STATUS_INTERLEAVE
  | MEM_STK_STATUS_OUTSTANDING
  | MEM_STK_STATUS_MAX_OUTSTANDING
  | MEM_STK_ECC_CORR
  | MEM_STK_ECC_UE
  | MEM_STK_SPARE_USED
  | MEM_STK_SPARE_TOTAL
  | MEM_STK_SPARE_LOW
  | MEM_STK_SCRUB_PROGRESS
  | MEM_STK_SCRUB_PASSES
  | MEM_STK_RMW_DONE
  | MEM_STK_RMW_FAIL
  | MEM_SHEET_STATE
  | MEM_SHEET_IMPRINT
  | MEM_SHEET_HOST_INDEX
  | MEM_SHEET_SLOT
  | MEM_SHEET_LEASE
  | MEM_SHEET_READ_ONLY
  | QD_BUF_STATUS_SHARED_FREE
  | QD_BUF_STATUS_SPILLING
  | QD_GALLEY_STATUS_PAGES_FREE
  | QD_SPILL_COUNT_SPILLED
  | QD_SPILL_COUNT_BLOCKED
  | QD_SPILL_COUNT_XOFF
  | QD_SPILL_MAP_TC0
  | QD_SPILL_MAP_TC1
  | QD_SPILL_MAP_TC2
  | QD_SPILL_MAP_TC3
  | QD_SPILL_MAP_TC4
  | QD_SPILL_MAP_TC5
  | QD_SPILL_MAP_TC6
  | QD_SPILL_MAP_TC7
  | QD_SPILL_PROF_THRESH
  | QD_SPILL_PROF_ALPHA_EXP
  | QD_SPILL_PROF_REFILL
  | QD_SPILL_PROF_GALLEY_MAX
  | SHP_SUB_RATE_RATE
  | SHP_SUB_CFG_BURST
  | SHP_SUB_CFG_ENABLE
  | SHP_SUB_CFG_RESET_POLICY
  | SHP_SUB_LINK_PARENT
  | SHP_SUB_LINK_ATTACHED
  | SHP_SUB_TOKENS_TOKENS
  | SHP_SVC_RATE_RATE
  | SHP_SVC_CFG_BURST
  | SHP_SVC_CFG_ENABLE
  | SHP_SVC_CFG_RESET_POLICY
  | SHP_SVC_LINK_PARENT
  | SHP_SVC_LINK_ATTACHED
  | SHP_SVC_TOKENS_TOKENS
  | SHP_PORT_RATE_RATE
  | SHP_PORT_CFG_BURST
  | SHP_PORT_CFG_ENABLE
  | SHP_PORT_CFG_RESET_POLICY
  | SHP_PORT_LINK_WEIGHT_TC0
  | SHP_PORT_LINK_WEIGHT_TC1
  | SHP_PORT_LINK_WEIGHT_TC2
  | SHP_PORT_LINK_WEIGHT_TC3
  | SHP_PORT_LINK_WEIGHT_TC4
  | SHP_PORT_LINK_WEIGHT_TC5
  | SHP_PORT_LINK_WEIGHT_TC6
  | SHP_PORT_TOKENS_TOKENS
  | SHP_POL_CIR_CIR
  | SHP_POL_PIR_PIR
  | SHP_POL_CBS_CBS
  | SHP_POL_CBS_YELLOW_ACT
  | SHP_POL_CBS_RED_ACT
  | SHP_POL_PBS_PBS
  | SHP_POL_PBS_DROP_COUNT
  | SHP_POL_MAP_OFFSET
  | SHP_POL_MAP_TC_MASK
  | SHP_SAMPLE_CTL_PERIOD
  | SHP_QSAMP_DEPTH
  | SHP_QSAMP_DELAY
  | SHP_QMAX_MAX_DEPTH
  | SHP_QMAX_MAX_DELAY
  | GATE_CTL_ENTRY_COUNT
  | GATE_CTL_LEADIN
  | GATE_CYCLE_CYCLE
  | GATE_BASE_BASE
  | GATE_STATUS_STATE
  | GATE_STATUS_LATE_START
  | GATE_STATUS_ENTRY
  | GATE_STATUS_GATES
  | GATE_START_START
  | GATE_GUARD_GUARD
  | GATE_ENTRY_GATES
  | GATE_ENTRY_INTERVAL
  | TILE_PORT_STATUS_ROLE
  | TILE_PORT_STATUS_LINK_UP
  | TILE_PORT_STATUS_RATE
  | TILE_PORT_STATUS_WIDTH
  | TILE_PORT_STATUS_FLIT
  | TILE_PORT_STATUS_CXL
  | TILE_PORT_STATUS_CONTAINED
  | TILE_PORT_STATUS_IDE
  | TILE_PORT_STATUS_HOST_INDEX
  | TILE_PORT_STATUS_PRESENT
  | TILE_PORT_STATUS_LINK_DOWN_COUNT
  | TILE_LANE_STATUS_TX_STATE
  | TILE_LANE_STATUS_RX_STATE
  | TILE_LANE_STATUS_RX_INV
  | TILE_LANE_STATUS_TX_INV
  | TILE_LANE_STATUS_PORT_LANE
  | TILE_LANE_STATUS_REVERSED
  | TILE_LANE_STATUS_RATE
  | TILE_LANE_STATUS_SIG_DET
  | TILE_LANE_STATUS_CDR_LOCK
  | TILE_LANE_STATUS_MARGIN_LOW
  | TILE_LANE_EQ_PRESET
  | TILE_LANE_EQ_C_PRE
  | TILE_LANE_EQ_C_MAIN
  | TILE_LANE_EQ_C_POST
  | TILE_LANE_EQ_LOCKED
  | TILE_LANE_ADAPT_EYE_H
  | TILE_LANE_ADAPT_EYE_W
  | TILE_LANE_ADAPT_CTLE
  | TILE_LANE_ADAPT_CAL_COUNT
  | TILE_LANE_TEST_LPBK
  | TILE_LANE_TEST_GEN_PAT
  | TILE_LANE_TEST_CHK_PAT
  | TILE_LANE_TEST_INJ_MODE
  | TILE_LANE_TEST_INJ_EXP
  | TILE_LANE_TEST_INJ_GO
  | TILE_LANE_TEST_CHK_SYNC
  | TILE_LANE_TEST_TX_IDLE
  | TILE_PRBS_SYNC_LOCK_LOSS
  | TILE_PRBS_ERR_COUNT
  | TILE_PRBS_BITS_COUNT
  | TILE_DL_CTL_REPLAY_WINDOW
  | TILE_DL_CTL_AUTO_DROP
  | TILE_DL_STATUS_STATE
  | TILE_DL_STATUS_TX_WIDTH
  | TILE_DL_STATUS_RX_WIDTH
  | TILE_DL_STATUS_PARTNER_SW
  | TILE_DL_STATUS_TX_PEND
  | TILE_DL_STATUS_RX_PEND
  | TILE_DL_MASK_TX_MASK
  | TILE_DL_MASK_RX_MASK
  | TILE_DL_RTT_RTT
  | TILE_DL_RTT_EFF_WINDOW
  | TILE_DL_BAD_COUNT
  | TILE_DL_FEC_CORR_COUNT
  | TILE_DL_NAK_SENT
  | TILE_DL_NAK_RECEIVED
  | TILE_DL_REPLAY_BY_NAK
  | TILE_DL_REPLAY_BY_TIMER
  | TILE_DL_DROP_COUNT
  | TILE_DL_VC_AVAIL_HDR
  | TILE_DL_VC_AVAIL_DATA
  | PMC_CTL_SNAP
  | PMC_CTL_BUSY
  | PMC_SAMP_CFG_N_MINUS_1
  | PMC_SAMP_CFG_ENABLE
  | PMC_SAMP_CFG_WRAP
  | PMC_SAMP_CFG_QUAD_MASK
  | PMC_SAMP_CFG_TC_MASK
  | PMC_SAMP_CFG_IMPRINT
  | PMC_SAMP_CFG_IMP_MATCH
  | PMC_SAMP_STATUS_COUNT
  | PMC_SAMP_STATUS_FULL
  | PMC_CFG_EVENT
  | PMC_CFG_MODE
  | PMC_CFG_ENABLE
  | PMC_CFG_IMP_MATCH
  | PMC_CFG_IMPRINT
  | PMC_SNAP_VAL_COUNT
  | PMC_SNAP_VAL_VALID
  | PMC_SNAP_VAL_STOPPED
  | PMC_SNAP_TIME_TIME
  deriving DecidableEq, Repr

/-- A register field of one instance (R12). -/
structure RegKey where
  fld : Fld
  idx : Nat
  deriving DecidableEq, Repr

/-- The numbering that orders the register file. -/
def RegKey.code (k : RegKey) : Nat := k.idx * 512 + k.fld.ctorIdx

/-- A register field that does not hold its reset value, and the value it holds. -/
abbrev RegCell := RegKey × Nat

/-- The access codes of R11. -/
inductive Access where
  | ro
  | rw
  | rw1c
  | rws
  | sh
  | wo
  | rc
  deriving DecidableEq, Repr

end Sys2Proof
end

