-- ==== Sys2Proof/RegMap.lean ====
section
/-! DEFINITION. The register tables of the manual: width, access code and reset value of every field, and the place of
every register in BAR0 (R701 and the offset tables of each chapter). -/

namespace Sys2Proof

/-- A field's place in its register. -/
structure FieldAt where
  fld : Fld
  lo : Nat
  deriving DecidableEq, Repr

/-- A register: its offset in BAR0 at instance 0, the counts and strides of its instances (R12), whether it is 64 bits
wide, whether it exists once per endpoint (R703), and its fields. -/
structure RegAt where
  offset : Nat
  dims : List (Nat × Nat)
  wide : Bool
  perEndpoint : Bool
  fields : List FieldAt
  deriving DecidableEq, Repr

/-- Width of a field in bits. -/
def Fld.width (f : Fld) : Nat :=
  match f with
  | .SUP_COL_ID_VENDOR | .SUP_COL_ID_DEVICE | .SUP_COL_PROGRESS_CODE | .SUP_COL_PROGRESS_ELAPSED
  | .SUP_COL_LAST_ERROR_CODE | .SUP_ISL_STATUS_WAKE_COUNT | .SUP_AVS_STATUS_CHANGES | .CMP_LOCK_SEQ
  | .FLT_CAUSE_COUNT | .FLT_PORT_DISCARD | .SLT_PROF_V_NOM | .SLT_PROF_SHUNT | .SLT_PROF_INRUSH_I
  | .SLT_PROF_FT_I | .SLT_PROF_T_RAMP | .SLT_PROF_T_SETTLE | .SLT_PROF_CAP_WIN | .SLT_PROF_BRK_I0
  | .SLT_PROF_BRK_I1 | .SLT_PROF_BRK_I2 | .SLT_PROF_BRK_I3 | .SLT_PROF_BRK_I4 | .SLT_PROF_BRK_I5
  | .SLT_PROF_BRK_I6 | .SLT_PROF_BRK_I7 | .SLT_STATUS_SETTLE_REMAIN | .SLT_MEAS_I | .SLT_MEAS_V
  | .SLT_CAPTURE_IPEAK | .SLT_CAPTURE_VMIN | .SLT_GEN_GEN | .SLT_GEN_LATCHES | .IMP_Q_COUNT_MISS
  | .IMP_Q_COUNT_PERM | .IMP_Q_SEAL_RMW | .IMP_Q_ECC_CORR | .IMP_Q_ECC_UE | .ARB_TICKET_TICKETS
  | .ARB_TRANSIT_TICKETS | .ARB_STAT_URGENT | .ARB_STAT_FORCED | .BAL_REVOKE_LAST_DISCARDED
  | .BAL_REVOKE_LAST_DURATION | .MEM_STK_ECC_CORR | .MEM_STK_ECC_UE | .MEM_STK_SCRUB_PASSES
  | .MEM_STK_RMW_DONE | .MEM_STK_RMW_FAIL | .QD_SPILL_COUNT_SPILLED | .QD_SPILL_PROF_THRESH
  | .GATE_GUARD_GUARD | .TILE_PRBS_SYNC_LOCK_LOSS | .TILE_DL_MASK_TX_MASK | .TILE_DL_MASK_RX_MASK
  | .TILE_DL_RTT_RTT | .TILE_DL_RTT_EFF_WINDOW | .TILE_DL_NAK_SENT | .TILE_DL_NAK_RECEIVED
  | .TILE_DL_REPLAY_BY_NAK | .TILE_DL_REPLAY_BY_TIMER => 16
  | .SUP_COL_REV_REVISION | .SUP_COL_LAST_ERROR_DETAIL | .SUP_COL_RECOV_STATUS_RESULT
  | .SUP_AVS_STATUS_SETPOINT | .SUP_THERM_HOTTEST | .SUP_THERM_HBM_MAX | .SUP_THERM_TRIPS
  | .SUP_ISL_HEALTH_TEMP | .SUP_ISL_HEALTH_MARGIN | .CMP_STATUS_OPCODE | .CMP_CMD_OPCODE | .CMP_CMD_TOKEN
  | .CMP_RESULT_RESULT | .CMP_RESULT_OPCODE | .CMP_RESULT_TOKEN | .CMP_STAGE_STATUS_STAGED
  | .CMP_STAGE_STATUS_STALE | .FLT_PORT_CTO | .SLT_PROF_T_GATE | .IMP_Q_SEAL_RMW_FAIL | .BAL_STATUS_RNG_FAIL
  | .BAL_KEY_SLOT_GEN | .MEM_POOL_STATUS_GALLEY_SHEETS | .QD_SPILL_COUNT_BLOCKED | .QD_SPILL_COUNT_XOFF
  | .SHP_POL_PBS_DROP_COUNT | .SHP_POL_MAP_TC_MASK | .GATE_STATUS_ENTRY | .TILE_PORT_STATUS_LINK_DOWN_COUNT
  | .TILE_LANE_ADAPT_EYE_H | .TILE_LANE_ADAPT_EYE_W | .TILE_LANE_ADAPT_CTLE | .TILE_LANE_ADAPT_CAL_COUNT
  | .PMC_SAMP_CFG_QUAD_MASK | .PMC_SAMP_CFG_TC_MASK | .PMC_CFG_EVENT => 8
  | .SUP_COL_REV_GRADE | .SUP_COL_PHASE_STALLED | .SUP_COL_RECOV_CTL_GO | .SUP_ISL_STATUS_CLK_LOCK
  | .SUP_ISL_STATUS_WAKE_PEND | .SUP_ISL_STATUS_FENCE_FORCED | .SUP_ISL_STATUS_LOSS | .SUP_DOM_STATUS_ON
  | .SUP_DOM_STATUS_PGOOD | .SUP_DOM_STATUS_SWITCHING | .SUP_AVS_STATUS_AT_CEILING | .SUP_AVS_STATUS_BUS_ERR
  | .SUP_THERM_HOT | .CMP_STATUS_BUSY | .CMP_STATUS_INTERNAL | .CMP_STATUS_RESET_PEND | .CMP_LOCK_HELD
  | .CMP_LOCK_BROKEN | .CMP_LOCK_MINE | .CMP_STAGE_STATUS_COMMIT_PEND | .CMP_FORME_STATUS_BANK
  | .CMP_FORME_STATUS_PREF | .CMP_FORME_STATUS_FALLBACK | .CMP_FORME_STATUS_TRIAL | .FLT_STATUS_SAFE_MODE
  | .FLT_STATUS_HALTED | .FLT_STATUS_ALERT | .FLT_FIRST_VALID | .FLT_INJECT_GO | .FLT_INJECT_DONE
  | .FLT_CAUSE_PENDING | .FLT_CAUSE_ACTIVE | .FLT_CAUSE_ACK_ALL | .FLT_CAUSE_ESC_RUN | .FLT_ESC_VALID
  | .FLT_ESC_ACK | .SLT_PROF_AUTO_EN | .SLT_SUMMARY_LINK_OK | .SLT_CTL_EN | .SLT_STATUS_PRSNT
  | .SLT_STATUS_EN_PIN | .SLT_STATUS_SETTLING | .SLT_STATUS_EARLY_INS | .SLT_STATUS_PERST
  | .SLT_STATUS_CLR_ARMED | .MET_STATUS_ARMED | .MET_STATUS_MERGING | .MET_RING_CTL_ARM
  | .IMP_Q_LOG_INFO_VALID | .ARB_TICKET_URGENT_OK | .ARB_TRANSIT_URGENT_OK | .BAL_STATUS_RNG_OK
  | .BAL_STATUS_FACTORY_TEST | .BAL_REVOKE_LAST_ACTIVE | .BAL_SYS_SLOT_READY | .BAL_KEY_SLOT_SOURCE
  | .MEM_POOL_STATUS_INTERLEAVE | .MEM_STK_SPARE_LOW | .MEM_SHEET_READ_ONLY | .SHP_SUB_CFG_ENABLE
  | .SHP_SUB_CFG_RESET_POLICY | .SHP_SUB_LINK_ATTACHED | .SHP_SVC_CFG_ENABLE | .SHP_SVC_CFG_RESET_POLICY
  | .SHP_SVC_LINK_ATTACHED | .SHP_PORT_CFG_ENABLE | .SHP_PORT_CFG_RESET_POLICY | .SHP_POL_CBS_YELLOW_ACT
  | .SHP_POL_CBS_RED_ACT | .GATE_STATUS_LATE_START | .TILE_PORT_STATUS_LINK_UP | .TILE_PORT_STATUS_FLIT
  | .TILE_PORT_STATUS_CXL | .TILE_PORT_STATUS_CONTAINED | .TILE_PORT_STATUS_IDE | .TILE_PORT_STATUS_PRESENT
  | .TILE_LANE_STATUS_RX_INV | .TILE_LANE_STATUS_TX_INV | .TILE_LANE_STATUS_REVERSED
  | .TILE_LANE_STATUS_SIG_DET | .TILE_LANE_STATUS_CDR_LOCK | .TILE_LANE_STATUS_MARGIN_LOW
  | .TILE_LANE_EQ_LOCKED | .TILE_LANE_TEST_INJ_GO | .TILE_LANE_TEST_CHK_SYNC | .TILE_LANE_TEST_TX_IDLE
  | .TILE_DL_CTL_AUTO_DROP | .TILE_DL_STATUS_TX_PEND | .TILE_DL_STATUS_RX_PEND | .PMC_CTL_SNAP
  | .PMC_CTL_BUSY | .PMC_SAMP_CFG_ENABLE | .PMC_SAMP_CFG_WRAP | .PMC_SAMP_CFG_IMP_MATCH
  | .PMC_SAMP_STATUS_FULL | .PMC_CFG_MODE | .PMC_CFG_ENABLE | .PMC_CFG_IMP_MATCH | .PMC_SNAP_VAL_VALID
  | .PMC_SNAP_VAL_STOPPED => 1
  | .SUP_COL_PHASE_PHASE | .SUP_COL_LAST_ERROR_PHASE | .SUP_COL_RESET_CAUSE_CAUSE | .SUP_ISL_STATUS_STATE
  | .CMP_LOCK_FUNCTION | .CMP_FORME_STATUS_BANK_A | .CMP_FORME_STATUS_BANK_B | .FLT_FIRST_SEVERITY
  | .FLT_CAUSE_SEVERITY | .SLT_STATUS_STATE | .SLT_STATUS_CAUSE | .SLT_STATUS_BRK_POINT | .MEM_SHEET_STATE
  | .TILE_PORT_STATUS_ROLE | .TILE_PORT_STATUS_RATE | .TILE_LANE_STATUS_TX_STATE | .TILE_LANE_STATUS_RX_STATE
  | .TILE_LANE_STATUS_RATE | .TILE_LANE_TEST_LPBK | .TILE_DL_STATUS_TX_WIDTH | .TILE_DL_STATUS_RX_WIDTH => 3
  | .SUP_COL_PHASE_ATTEMPT | .CMP_PROOF_TYPE | .SLT_CFG_PROFILE | .SLT_CFG_ACTIVE
  | .BAL_STATUS_SIGNER_REVOKED | .BAL_STATUS_REPORT_QUEUE | .QD_SPILL_MAP_TC0 | .QD_SPILL_MAP_TC1
  | .QD_SPILL_MAP_TC2 | .QD_SPILL_MAP_TC3 | .QD_SPILL_MAP_TC4 | .QD_SPILL_MAP_TC5 | .QD_SPILL_MAP_TC6
  | .QD_SPILL_MAP_TC7 | .QD_SPILL_PROF_ALPHA_EXP | .SHP_PORT_LINK_WEIGHT_TC0 | .SHP_PORT_LINK_WEIGHT_TC1
  | .SHP_PORT_LINK_WEIGHT_TC2 | .SHP_PORT_LINK_WEIGHT_TC3 | .SHP_PORT_LINK_WEIGHT_TC4
  | .SHP_PORT_LINK_WEIGHT_TC5 | .SHP_PORT_LINK_WEIGHT_TC6 | .TILE_LANE_STATUS_PORT_LANE
  | .TILE_LANE_EQ_PRESET | .TILE_LANE_TEST_GEN_PAT | .TILE_LANE_TEST_CHK_PAT | .TILE_DL_STATUS_STATE => 4
  | .SUP_COL_RECOV_ADDR_ADDR | .CMP_EPOCH_EPOCH | .CMP_COMMIT_TIME_T_C | .FLT_FIRST_TIME_TIME
  | .MET_INTERVAL_START | .MET_SEQ_LAST | .IMP_DRAIN_EPOCH_EPOCH | .IMP_Q_LOG_ADDR_ADDR | .GATE_BASE_BASE
  | .GATE_START_START | .TILE_PRBS_ERR_COUNT | .TILE_PRBS_BITS_COUNT | .PMC_SNAP_TIME_TIME => 64
  | .SUP_COL_RECOV_CTL_TARGET | .SUP_COL_RECOV_STATUS_STATE | .CMP_RESULT_STATE | .CMP_PROOF_STATE
  | .CMP_PROOF_OUTCOME | .CMP_FORME_STATUS_SIGNER | .CMP_DMA_STATUS_STATE | .FLT_FIRST_SCOPE_KIND
  | .FLT_INJECT_MODE | .FLT_CAUSE_LAST_KIND | .FLT_ESC_SCOPE_KIND | .FLT_PORT_STATE | .FLT_FUNC_STATE
  | .IMP_Q_LOG_INFO_KIND | .IMP_Q_LOG_INFO_REQ | .BAL_REVOKE_LAST_KIND | .BAL_SYS_SLOT_KIND
  | .BAL_KEY_SLOT_STATE | .BAL_KEY_SLOT_POLICY | .GATE_STATUS_STATE | .TILE_LANE_TEST_INJ_MODE => 2
  | .SUP_DOM_STATUS_ISLAND | .SUP_THERM_HOT_ISLAND | .SHP_POL_MAP_OFFSET | .TILE_LANE_EQ_C_PRE
  | .TILE_LANE_EQ_C_MAIN | .TILE_LANE_EQ_C_POST | .TILE_LANE_TEST_INJ_EXP | .TILE_DL_STATUS_PARTNER_SW => 6
  | .CMP_STATUS_HOST_INDEX | .CMP_LOCK_HOST_INDEX | .CMP_PROOF_HOST_INDEX | .FLT_STATUS_PEND
  | .SLT_SUMMARY_RAMPING | .MET_STATUS_PENDING | .IMP_Q_LOG_INFO_TILE | .MEM_SHEET_HOST_INDEX
  | .TILE_PORT_STATUS_WIDTH | .TILE_PORT_STATUS_HOST_INDEX => 5
  | .CMP_PROOF_PROGRESS | .FLT_FIRST_SOURCE | .FLT_INJECT_SOURCE | .FLT_ESC_SOURCE | .FLT_FUNC_PORT
  | .SLT_PROF_PG_PCT | .SLT_CFG_PORT | .IMP_Q_SEAL_LOCKS | .MEM_STK_SCRUB_PROGRESS | .SHP_SVC_LINK_PARENT
  | .GATE_CTL_LEADIN | .GATE_STATUS_GATES | .GATE_ENTRY_GATES => 7
  | .CMP_STAGE_STATUS_IMP_COUNT => 15
  | .CMP_DMA_STATUS_OUTSTANDING | .CMP_DMA_STATUS_QUARANTINED | .FLT_STATUS_ESC_USED | .GATE_CTL_ENTRY_COUNT => 9
  | .FLT_FIRST_SCOPE | .FLT_INJECT_TARGET | .FLT_CAUSE_LAST_SCOPE | .FLT_ESC_SCOPE | .IMP_USAGE_ENTRIES
  | .SHP_QSAMP_DEPTH | .SHP_QMAX_MAX_DEPTH => 20
  | .FLT_FUNC_RID | .MET_RING_CTL_START | .IMP_Q_LOG_INFO_DOMAIN | .MEM_STK_SPARE_USED | .MEM_STK_SPARE_TOTAL
  | .QD_SPILL_PROF_REFILL | .TILE_DL_VC_AVAIL_HDR | .TILE_DL_VC_AVAIL_DATA => 12
  | .BAL_REVOKE_LAST_IMPRINT | .BAL_REVOKE_LAST_HANDLE | .MEM_SHEET_IMPRINT | .MEM_SHEET_SLOT
  | .MEM_SHEET_LEASE | .SHP_SAMPLE_CTL_PERIOD | .TILE_DL_CTL_REPLAY_WINDOW | .PMC_SAMP_CFG_IMPRINT
  | .PMC_CFG_IMPRINT => 10
  | .BAL_KEY_SLOT_LEASES | .MEM_POOL_STATUS_FREE | .MEM_POOL_STATUS_LEASED | .SHP_SUB_LINK_PARENT => 11
  | .MEM_STK_STATUS_OUTSTANDING | .MEM_STK_STATUS_MAX_OUTSTANDING | .QD_BUF_STATUS_SPILLING => 14
  | .QD_BUF_STATUS_SHARED_FREE => 18
  | .QD_GALLEY_STATUS_PAGES_FREE | .QD_SPILL_PROF_GALLEY_MAX => 21
  | .SHP_SUB_CFG_BURST | .SHP_SVC_CFG_BURST | .SHP_PORT_CFG_BURST | .SHP_POL_CBS_CBS | .SHP_POL_PBS_PBS
  | .PMC_SAMP_CFG_N_MINUS_1 => 24
  | .GATE_CYCLE_CYCLE | .GATE_ENTRY_INTERVAL => 30
  | .PMC_SAMP_STATUS_COUNT => 13
  | .PMC_SNAP_VAL_COUNT => 48
  | _ => 32

/-- Access code of a field (R11). -/
def Fld.acc (f : Fld) : Access :=
  match f with
  | .SUP_COL_RECOV_ADDR_ADDR | .SUP_COL_RECOV_LEN_LEN | .SUP_COL_RECOV_CTL_TARGET | .CMP_ARG_VALUE
  | .FLT_INJECT_SOURCE | .FLT_INJECT_TARGET | .FLT_INJECT_MODE | .SLT_CTL_EN | .MET_RING_CTL_START
  | .SHP_SAMPLE_CTL_PERIOD | .TILE_LANE_TEST_LPBK | .TILE_LANE_TEST_GEN_PAT | .TILE_LANE_TEST_CHK_PAT
  | .TILE_LANE_TEST_INJ_MODE | .TILE_LANE_TEST_INJ_EXP | .TILE_LANE_TEST_TX_IDLE | .TILE_DL_CTL_REPLAY_WINDOW
  | .TILE_DL_CTL_AUTO_DROP | .PMC_SAMP_CFG_N_MINUS_1 | .PMC_SAMP_CFG_ENABLE | .PMC_SAMP_CFG_WRAP
  | .PMC_SAMP_CFG_QUAD_MASK | .PMC_SAMP_CFG_TC_MASK | .PMC_SAMP_CFG_IMPRINT | .PMC_SAMP_CFG_IMP_MATCH
  | .PMC_CFG_EVENT | .PMC_CFG_MODE | .PMC_CFG_ENABLE | .PMC_CFG_IMP_MATCH | .PMC_CFG_IMPRINT => .rw
  | .SUP_COL_RECOV_CTL_GO | .CMP_CMD_OPCODE | .CMP_CMD_TOKEN | .FLT_INJECT_GO | .FLT_CAUSE_ACK_ALL
  | .FLT_ESC_ACK | .MET_RING_CTL_ARM | .ARB_COMMIT_COMMIT | .TILE_LANE_TEST_INJ_GO | .PMC_CTL_SNAP => .wo
  | .SUP_ISL_STATUS_FENCE_FORCED | .SUP_ISL_STATUS_LOSS | .SUP_AVS_STATUS_BUS_ERR | .SUP_THERM_HOT
  | .CMP_FORME_STATUS_FALLBACK | .FLT_STATUS_SAFE_MODE | .FLT_FIRST_VALID | .FLT_CAUSE_PENDING
  | .SLT_STATUS_EARLY_INS | .IMP_Q_LOG_INFO_VALID | .MEM_STK_SPARE_LOW | .GATE_STATUS_LATE_START
  | .TILE_LANE_STATUS_MARGIN_LOW => .rw1c
  | .SUP_ISL_STATUS_WAKE_COUNT | .SUP_XING_DROP_COUNT | .SUP_AVS_STATUS_CHANGES | .CMP_BUSY_REJECT_COUNT
  | .CMP_STAGE_REJECT_COUNT | .CMP_DMA_LATE_COUNT | .FLT_CAUSE_COUNT | .FLT_PORT_CTO | .FLT_PORT_DISCARD
  | .SLT_CAPTURE_IPEAK | .SLT_CAPTURE_VMIN | .SLT_GEN_LATCHES | .IMP_Q_COUNT_MISS | .IMP_Q_COUNT_PERM
  | .IMP_Q_SEAL_RMW | .IMP_Q_SEAL_RMW_FAIL | .IMP_Q_ECC_CORR | .IMP_Q_ECC_UE | .ARB_STAT_URGENT
  | .ARB_STAT_FORCED | .BAL_STATUS_RNG_FAIL | .MEM_STK_STATUS_MAX_OUTSTANDING | .MEM_STK_ECC_CORR
  | .MEM_STK_ECC_UE | .MEM_STK_SCRUB_PASSES | .MEM_STK_RMW_DONE | .MEM_STK_RMW_FAIL | .QD_SPILL_COUNT_SPILLED
  | .QD_SPILL_COUNT_BLOCKED | .QD_SPILL_COUNT_XOFF | .SHP_POL_PBS_DROP_COUNT | .SHP_QMAX_MAX_DEPTH
  | .SHP_QMAX_MAX_DELAY | .TILE_PORT_STATUS_LINK_DOWN_COUNT | .TILE_LANE_ADAPT_CAL_COUNT
  | .TILE_PRBS_SYNC_LOCK_LOSS | .TILE_PRBS_ERR_COUNT | .TILE_DL_BAD_COUNT | .TILE_DL_FEC_CORR_COUNT
  | .TILE_DL_NAK_SENT | .TILE_DL_NAK_RECEIVED | .TILE_DL_REPLAY_BY_NAK | .TILE_DL_REPLAY_BY_TIMER
  | .TILE_DL_DROP_COUNT => .rc
  | .MET_RING_TAIL_TAIL => .rws
  | .ARB_TICKET_TICKETS | .ARB_TICKET_URGENT_OK | .ARB_TRANSIT_TICKETS | .ARB_TRANSIT_URGENT_OK
  | .QD_SPILL_MAP_TC0 | .QD_SPILL_MAP_TC1 | .QD_SPILL_MAP_TC2 | .QD_SPILL_MAP_TC3 | .QD_SPILL_MAP_TC4
  | .QD_SPILL_MAP_TC5 | .QD_SPILL_MAP_TC6 | .QD_SPILL_MAP_TC7 | .QD_SPILL_PROF_THRESH
  | .QD_SPILL_PROF_ALPHA_EXP | .QD_SPILL_PROF_REFILL | .QD_SPILL_PROF_GALLEY_MAX | .SHP_SUB_RATE_RATE
  | .SHP_SUB_CFG_BURST | .SHP_SUB_CFG_ENABLE | .SHP_SUB_CFG_RESET_POLICY | .SHP_SUB_LINK_PARENT
  | .SHP_SUB_LINK_ATTACHED | .SHP_SVC_RATE_RATE | .SHP_SVC_CFG_BURST | .SHP_SVC_CFG_ENABLE
  | .SHP_SVC_CFG_RESET_POLICY | .SHP_SVC_LINK_PARENT | .SHP_SVC_LINK_ATTACHED | .SHP_PORT_RATE_RATE
  | .SHP_PORT_CFG_BURST | .SHP_PORT_CFG_ENABLE | .SHP_PORT_CFG_RESET_POLICY | .SHP_PORT_LINK_WEIGHT_TC0
  | .SHP_PORT_LINK_WEIGHT_TC1 | .SHP_PORT_LINK_WEIGHT_TC2 | .SHP_PORT_LINK_WEIGHT_TC3
  | .SHP_PORT_LINK_WEIGHT_TC4 | .SHP_PORT_LINK_WEIGHT_TC5 | .SHP_PORT_LINK_WEIGHT_TC6 | .SHP_POL_CIR_CIR
  | .SHP_POL_PIR_PIR | .SHP_POL_CBS_CBS | .SHP_POL_CBS_YELLOW_ACT | .SHP_POL_CBS_RED_ACT | .SHP_POL_PBS_PBS
  | .SHP_POL_MAP_OFFSET | .SHP_POL_MAP_TC_MASK | .GATE_CTL_ENTRY_COUNT | .GATE_CTL_LEADIN | .GATE_CYCLE_CYCLE
  | .GATE_BASE_BASE | .GATE_ENTRY_GATES | .GATE_ENTRY_INTERVAL => .sh
  | _ => .ro

/-- Reset value of a field, where it is the same for every instance (R10). -/
def Fld.resetVal (f : Fld) : Nat :=
  match f with
  | .SUP_COL_ID_VENDOR => 0x1f3e
  | .SUP_COL_ID_DEVICE => 0x9256
  | .SUP_COL_REV_REVISION | .SUP_COL_PHASE_ATTEMPT | .SUP_ISL_STATUS_STATE | .SLT_STATUS_PERST
  | .SHP_PORT_LINK_WEIGHT_TC0 | .SHP_PORT_LINK_WEIGHT_TC1 | .SHP_PORT_LINK_WEIGHT_TC2
  | .SHP_PORT_LINK_WEIGHT_TC3 | .SHP_PORT_LINK_WEIGHT_TC4 | .SHP_PORT_LINK_WEIGHT_TC5
  | .SHP_PORT_LINK_WEIGHT_TC6 | .SHP_POL_CBS_RED_ACT | .TILE_DL_CTL_AUTO_DROP => 0x1
  | .SUP_AVS_STATUS_SETPOINT => 0x14
  | .CMP_DMA_STATUS_STATE => 0x2
  | .SLT_CAPTURE_VMIN => 0xffff
  | .SLT_CFG_PROFILE | .SLT_CFG_ACTIVE | .TILE_LANE_EQ_PRESET => 0xf
  | .ARB_TICKET_TICKETS | .ARB_TRANSIT_TICKETS => 0x64
  | .QD_SPILL_PROF_THRESH => 0x4000
  | .QD_SPILL_PROF_ALPHA_EXP => 0x6
  | .QD_SPILL_PROF_REFILL => 0x100
  | .SHP_SUB_RATE_RATE | .SHP_SVC_RATE_RATE | .SHP_PORT_RATE_RATE | .SHP_POL_CIR_CIR | .SHP_POL_PIR_PIR => 0x1f4000
  | .SHP_SUB_CFG_BURST | .SHP_SUB_TOKENS_TOKENS | .SHP_SVC_CFG_BURST | .SHP_SVC_TOKENS_TOKENS
  | .SHP_PORT_CFG_BURST | .SHP_PORT_TOKENS_TOKENS | .SHP_POL_CBS_CBS | .SHP_POL_PBS_PBS => 0x2000
  | .SHP_SAMPLE_CTL_PERIOD => 0xa
  | .GATE_CTL_LEADIN | .GATE_STATUS_GATES | .GATE_ENTRY_GATES => 0x7f
  | .GATE_CYCLE_CYCLE => 0xf4240
  | .GATE_ENTRY_INTERVAL => 0x2710
  | .TILE_LANE_TEST_INJ_EXP => 0x8
  | .TILE_DL_CTL_REPLAY_WINDOW => 0x3c
  | .PMC_SAMP_CFG_QUAD_MASK | .PMC_SAMP_CFG_TC_MASK => 0xff
  | _ => 0

/-- Registers of the colophon page block. -/
def regsCol : List RegAt :=
  [ ⟨0x0, [], false, false, [⟨.SUP_COL_ID_VENDOR, 0⟩, ⟨.SUP_COL_ID_DEVICE, 16⟩]⟩,
    ⟨0x4, [], false, false, [⟨.SUP_COL_REV_REVISION, 0⟩, ⟨.SUP_COL_REV_GRADE, 8⟩]⟩,
    ⟨0x8, [], false, false, [⟨.SUP_COL_PHASE_PHASE, 0⟩, ⟨.SUP_COL_PHASE_STALLED, 3⟩, ⟨.SUP_COL_PHASE_ATTEMPT, 8⟩]⟩,
    ⟨0xC, [], false, false, [⟨.SUP_COL_PROGRESS_CODE, 0⟩, ⟨.SUP_COL_PROGRESS_ELAPSED, 16⟩]⟩,
    ⟨0x10, [], false, false, [⟨.SUP_COL_LAST_ERROR_CODE, 0⟩, ⟨.SUP_COL_LAST_ERROR_DETAIL, 16⟩, ⟨.SUP_COL_LAST_ERROR_PHASE, 24⟩]⟩,
    ⟨0x14, [], false, false, [⟨.SUP_COL_RESET_CAUSE_CAUSE, 0⟩]⟩,
    ⟨0x20, [], true, false, [⟨.SUP_COL_RECOV_ADDR_ADDR, 0⟩]⟩,
    ⟨0x28, [], false, false, [⟨.SUP_COL_RECOV_LEN_LEN, 0⟩]⟩,
    ⟨0x2C, [], false, false, [⟨.SUP_COL_RECOV_CTL_TARGET, 0⟩, ⟨.SUP_COL_RECOV_CTL_GO, 8⟩]⟩,
    ⟨0x30, [], false, false, [⟨.SUP_COL_RECOV_STATUS_STATE, 0⟩, ⟨.SUP_COL_RECOV_STATUS_RESULT, 8⟩]⟩ ]

/-- Registers of the SUP block. -/
def regsSup : List RegAt :=
  [ ⟨0x1200, [(56, 0x4)], false, false, [⟨.SUP_ISL_STATUS_STATE, 0⟩, ⟨.SUP_ISL_STATUS_CLK_LOCK, 3⟩, ⟨.SUP_ISL_STATUS_WAKE_PEND, 4⟩, ⟨.SUP_ISL_STATUS_FENCE_FORCED, 5⟩, ⟨.SUP_ISL_STATUS_LOSS, 6⟩, ⟨.SUP_ISL_STATUS_WAKE_COUNT, 16⟩]⟩,
    ⟨0x1300, [(90, 0x4)], false, false, [⟨.SUP_DOM_STATUS_ON, 0⟩, ⟨.SUP_DOM_STATUS_PGOOD, 1⟩, ⟨.SUP_DOM_STATUS_SWITCHING, 2⟩, ⟨.SUP_DOM_STATUS_ISLAND, 8⟩]⟩,
    ⟨0x1480, [], false, false, [⟨.SUP_XING_DROP_COUNT, 0⟩]⟩,
    ⟨0x1500, [], false, false, [⟨.SUP_AVS_STATUS_SETPOINT, 0⟩, ⟨.SUP_AVS_STATUS_AT_CEILING, 8⟩, ⟨.SUP_AVS_STATUS_BUS_ERR, 9⟩, ⟨.SUP_AVS_STATUS_CHANGES, 16⟩]⟩,
    ⟨0x1504, [], false, false, [⟨.SUP_THERM_HOTTEST, 0⟩, ⟨.SUP_THERM_HOT_ISLAND, 8⟩, ⟨.SUP_THERM_HOT, 14⟩, ⟨.SUP_THERM_HBM_MAX, 16⟩, ⟨.SUP_THERM_TRIPS, 24⟩]⟩,
    ⟨0x1600, [(56, 0x4)], false, false, [⟨.SUP_ISL_HEALTH_TEMP, 0⟩, ⟨.SUP_ISL_HEALTH_MARGIN, 8⟩]⟩ ]

/-- Registers of the CMP block. -/
def regsCmp : List RegAt :=
  [ ⟨0x4000, [], false, false, [⟨.CMP_STATUS_BUSY, 0⟩, ⟨.CMP_STATUS_OPCODE, 1⟩, ⟨.CMP_STATUS_HOST_INDEX, 9⟩, ⟨.CMP_STATUS_INTERNAL, 14⟩, ⟨.CMP_STATUS_RESET_PEND, 15⟩]⟩,
    ⟨0x4004, [], false, false, [⟨.CMP_CMD_OPCODE, 0⟩, ⟨.CMP_CMD_TOKEN, 24⟩]⟩,
    ⟨0x4008, [], false, true, [⟨.CMP_RESULT_STATE, 0⟩, ⟨.CMP_RESULT_RESULT, 8⟩, ⟨.CMP_RESULT_OPCODE, 16⟩, ⟨.CMP_RESULT_TOKEN, 24⟩]⟩,
    ⟨0x400C, [], false, false, [⟨.CMP_BUSY_REJECT_COUNT, 0⟩]⟩,
    ⟨0x4010, [], false, false, [⟨.CMP_LOCK_HELD, 0⟩, ⟨.CMP_LOCK_HOST_INDEX, 1⟩, ⟨.CMP_LOCK_FUNCTION, 6⟩, ⟨.CMP_LOCK_BROKEN, 9⟩, ⟨.CMP_LOCK_MINE, 10⟩, ⟨.CMP_LOCK_SEQ, 16⟩]⟩,
    ⟨0x4020, [(8, 0x4)], false, false, [⟨.CMP_PROOF_STATE, 0⟩, ⟨.CMP_PROOF_OUTCOME, 2⟩, ⟨.CMP_PROOF_TYPE, 4⟩, ⟨.CMP_PROOF_PROGRESS, 8⟩, ⟨.CMP_PROOF_HOST_INDEX, 16⟩]⟩,
    ⟨0x4100, [], true, false, [⟨.CMP_EPOCH_EPOCH, 0⟩]⟩,
    ⟨0x4108, [], true, false, [⟨.CMP_COMMIT_TIME_T_C, 0⟩]⟩,
    ⟨0x4110, [], false, false, [⟨.CMP_STAGE_STATUS_STAGED, 0⟩, ⟨.CMP_STAGE_STATUS_STALE, 8⟩, ⟨.CMP_STAGE_STATUS_IMP_COUNT, 16⟩, ⟨.CMP_STAGE_STATUS_COMMIT_PEND, 31⟩]⟩,
    ⟨0x4114, [], false, false, [⟨.CMP_STAGE_REJECT_COUNT, 0⟩]⟩,
    ⟨0x4118, [], false, false, [⟨.CMP_FORME_STATUS_BANK, 0⟩, ⟨.CMP_FORME_STATUS_PREF, 1⟩, ⟨.CMP_FORME_STATUS_FALLBACK, 2⟩, ⟨.CMP_FORME_STATUS_TRIAL, 3⟩, ⟨.CMP_FORME_STATUS_SIGNER, 4⟩, ⟨.CMP_FORME_STATUS_BANK_A, 8⟩, ⟨.CMP_FORME_STATUS_BANK_B, 11⟩]⟩,
    ⟨0x411C, [], false, false, [⟨.CMP_ROLLBACK_COUNTER, 0⟩]⟩,
    ⟨0x4120, [], false, false, [⟨.CMP_FORME_VER_ROLLBACK_VER, 0⟩]⟩,
    ⟨0x4124, [], false, false, [⟨.CMP_AMEND_SEQ_HIGH_WATER, 0⟩]⟩ ]

/-- Registers of the CMP block. -/
def regsCmp2 : List RegAt :=
  [ ⟨0x4140, [(16, 0x4)], false, false, [⟨.CMP_CONFIG_DIGEST_DIGEST, 0⟩]⟩,
    ⟨0x4180, [], false, true, [⟨.CMP_DMA_STATUS_STATE, 0⟩, ⟨.CMP_DMA_STATUS_OUTSTANDING, 4⟩, ⟨.CMP_DMA_STATUS_QUARANTINED, 16⟩]⟩,
    ⟨0x4184, [], false, true, [⟨.CMP_DMA_LATE_COUNT, 0⟩]⟩,
    ⟨0x4200, [(32, 0x4)], false, true, [⟨.CMP_ARG_VALUE, 0⟩]⟩,
    ⟨0x4280, [(16, 0x4)], false, true, [⟨.CMP_RET_VALUE, 0⟩]⟩ ]

/-- Registers of the FLT block. -/
def regsFlt : List RegAt :=
  [ ⟨0x8000, [], false, false, [⟨.FLT_STATUS_SAFE_MODE, 0⟩, ⟨.FLT_STATUS_HALTED, 1⟩, ⟨.FLT_STATUS_ALERT, 2⟩, ⟨.FLT_STATUS_PEND, 4⟩, ⟨.FLT_STATUS_ESC_USED, 16⟩]⟩,
    ⟨0x8008, [], true, false, [⟨.FLT_FIRST_VALID, 0⟩, ⟨.FLT_FIRST_SEVERITY, 1⟩, ⟨.FLT_FIRST_SOURCE, 4⟩, ⟨.FLT_FIRST_SCOPE_KIND, 11⟩, ⟨.FLT_FIRST_SCOPE, 13⟩]⟩,
    ⟨0x8010, [], true, false, [⟨.FLT_FIRST_TIME_TIME, 0⟩]⟩,
    ⟨0x8020, [], false, false, [⟨.FLT_INJECT_SOURCE, 0⟩, ⟨.FLT_INJECT_TARGET, 8⟩, ⟨.FLT_INJECT_MODE, 28⟩, ⟨.FLT_INJECT_GO, 30⟩, ⟨.FLT_INJECT_DONE, 31⟩]⟩,
    ⟨0x8400, [(128, 0x8)], true, false, [⟨.FLT_CAUSE_PENDING, 0⟩, ⟨.FLT_CAUSE_ACTIVE, 1⟩, ⟨.FLT_CAUSE_ACK_ALL, 2⟩, ⟨.FLT_CAUSE_SEVERITY, 3⟩, ⟨.FLT_CAUSE_ESC_RUN, 6⟩, ⟨.FLT_CAUSE_LAST_KIND, 7⟩, ⟨.FLT_CAUSE_LAST_SCOPE, 9⟩, ⟨.FLT_CAUSE_COUNT, 32⟩]⟩,
    ⟨0x9000, [(256, 0x8)], true, false, [⟨.FLT_ESC_VALID, 0⟩, ⟨.FLT_ESC_ACK, 1⟩, ⟨.FLT_ESC_SOURCE, 2⟩, ⟨.FLT_ESC_SCOPE_KIND, 9⟩, ⟨.FLT_ESC_SCOPE, 11⟩, ⟨.FLT_ESC_REMAIN, 32⟩]⟩,
    ⟨0xA000, [(128, 0x4)], false, false, [⟨.FLT_PORT_STATE, 0⟩, ⟨.FLT_PORT_CTO, 8⟩, ⟨.FLT_PORT_DISCARD, 16⟩]⟩,
    ⟨0xA400, [(32, 0x4)], false, false, [⟨.FLT_QUAR_QUARANTINED, 0⟩]⟩,
    ⟨0xA800, [(256, 0x4)], false, false, [⟨.FLT_FUNC_STATE, 0⟩, ⟨.FLT_FUNC_RID, 2⟩, ⟨.FLT_FUNC_PORT, 14⟩]⟩ ]

/-- Registers of the SLT block. -/
def regsSlt : List RegAt :=
  [ ⟨0xC000, [(8, 0x40)], false, false, [⟨.SLT_PROF_V_NOM, 0⟩, ⟨.SLT_PROF_SHUNT, 16⟩]⟩,
    ⟨0xC004, [(8, 0x40)], false, false, [⟨.SLT_PROF_INRUSH_I, 0⟩, ⟨.SLT_PROF_FT_I, 16⟩]⟩,
    ⟨0xC008, [(8, 0x40)], false, false, [⟨.SLT_PROF_T_RAMP, 0⟩, ⟨.SLT_PROF_T_GATE, 16⟩, ⟨.SLT_PROF_PG_PCT, 24⟩, ⟨.SLT_PROF_AUTO_EN, 31⟩]⟩,
    ⟨0xC00C, [(8, 0x40)], false, false, [⟨.SLT_PROF_T_SETTLE, 0⟩, ⟨.SLT_PROF_CAP_WIN, 16⟩]⟩,
    ⟨0xC010, [(8, 0x40)], false, false, [⟨.SLT_PROF_BRK_I0, 0⟩, ⟨.SLT_PROF_BRK_I1, 16⟩]⟩,
    ⟨0xC014, [(8, 0x40)], false, false, [⟨.SLT_PROF_BRK_I2, 0⟩, ⟨.SLT_PROF_BRK_I3, 16⟩]⟩,
    ⟨0xC018, [(8, 0x40)], false, false, [⟨.SLT_PROF_BRK_I4, 0⟩, ⟨.SLT_PROF_BRK_I5, 16⟩]⟩,
    ⟨0xC01C, [(8, 0x40)], false, false, [⟨.SLT_PROF_BRK_I6, 0⟩, ⟨.SLT_PROF_BRK_I7, 16⟩]⟩,
    ⟨0xC020, [(8, 0x40)], false, false, [⟨.SLT_PROF_BRK_T0, 0⟩]⟩,
    ⟨0xC024, [(8, 0x40)], false, false, [⟨.SLT_PROF_BRK_T1, 0⟩]⟩,
    ⟨0xC028, [(8, 0x40)], false, false, [⟨.SLT_PROF_BRK_T2, 0⟩]⟩,
    ⟨0xC02C, [(8, 0x40)], false, false, [⟨.SLT_PROF_BRK_T3, 0⟩]⟩,
    ⟨0xC030, [(8, 0x40)], false, false, [⟨.SLT_PROF_BRK_T4, 0⟩]⟩,
    ⟨0xC034, [(8, 0x40)], false, false, [⟨.SLT_PROF_BRK_T5, 0⟩]⟩ ]

/-- Registers of the SLT block. -/
def regsSlt2 : List RegAt :=
  [ ⟨0xC038, [(8, 0x40)], false, false, [⟨.SLT_PROF_BRK_T6, 0⟩]⟩,
    ⟨0xC03C, [(8, 0x40)], false, false, [⟨.SLT_PROF_BRK_T7, 0⟩]⟩,
    ⟨0xC800, [], false, false, [⟨.SLT_SUMMARY_LINK_OK, 0⟩, ⟨.SLT_SUMMARY_RAMPING, 1⟩]⟩,
    ⟨0xC804, [], false, false, [⟨.SLT_ON_MASK_ON, 0⟩]⟩,
    ⟨0xC808, [], false, false, [⟨.SLT_LATCH_MASK_LATCHED, 0⟩]⟩,
    ⟨0xD000, [(32, 0x20)], false, false, [⟨.SLT_CTL_EN, 0⟩]⟩,
    ⟨0xD004, [(32, 0x20)], false, false, [⟨.SLT_STATUS_STATE, 0⟩, ⟨.SLT_STATUS_CAUSE, 3⟩, ⟨.SLT_STATUS_BRK_POINT, 6⟩, ⟨.SLT_STATUS_PRSNT, 9⟩, ⟨.SLT_STATUS_EN_PIN, 10⟩, ⟨.SLT_STATUS_SETTLING, 11⟩, ⟨.SLT_STATUS_EARLY_INS, 12⟩, ⟨.SLT_STATUS_PERST, 13⟩, ⟨.SLT_STATUS_CLR_ARMED, 14⟩, ⟨.SLT_STATUS_SETTLE_REMAIN, 16⟩]⟩,
    ⟨0xD008, [(32, 0x20)], false, false, [⟨.SLT_MEAS_I, 0⟩, ⟨.SLT_MEAS_V, 16⟩]⟩,
    ⟨0xD00C, [(32, 0x20)], false, false, [⟨.SLT_CAPTURE_IPEAK, 0⟩, ⟨.SLT_CAPTURE_VMIN, 16⟩]⟩,
    ⟨0xD010, [(32, 0x20)], false, false, [⟨.SLT_GEN_GEN, 0⟩, ⟨.SLT_GEN_LATCHES, 16⟩]⟩,
    ⟨0xD014, [(32, 0x20)], false, false, [⟨.SLT_CFG_PROFILE, 0⟩, ⟨.SLT_CFG_ACTIVE, 4⟩, ⟨.SLT_CFG_PORT, 8⟩]⟩ ]

/-- Registers of the MET block. -/
def regsMet : List RegAt :=
  [ ⟨0xE000, [], false, false, [⟨.MET_STATUS_ARMED, 0⟩, ⟨.MET_STATUS_PENDING, 1⟩, ⟨.MET_STATUS_MERGING, 6⟩]⟩,
    ⟨0xE004, [], false, false, [⟨.MET_RING_CTL_START, 0⟩, ⟨.MET_RING_CTL_ARM, 12⟩]⟩,
    ⟨0xE008, [], false, false, [⟨.MET_RING_HEAD_HEAD, 0⟩]⟩,
    ⟨0xE00C, [], false, false, [⟨.MET_RING_TAIL_TAIL, 0⟩]⟩,
    ⟨0xE010, [], true, false, [⟨.MET_INTERVAL_START, 0⟩]⟩,
    ⟨0xE018, [], true, false, [⟨.MET_SEQ_LAST, 0⟩]⟩ ]

/-- Registers of the IMP block. -/
def regsImp : List RegAt :=
  [ ⟨0x10000, [], true, false, [⟨.IMP_DRAIN_EPOCH_EPOCH, 0⟩]⟩,
    ⟨0x10008, [], false, false, [⟨.IMP_USAGE_ENTRIES, 0⟩]⟩,
    ⟨0x11000, [(8, 0x100)], false, false, [⟨.IMP_Q_LOG_INFO_VALID, 0⟩, ⟨.IMP_Q_LOG_INFO_KIND, 1⟩, ⟨.IMP_Q_LOG_INFO_DOMAIN, 3⟩, ⟨.IMP_Q_LOG_INFO_TILE, 15⟩, ⟨.IMP_Q_LOG_INFO_REQ, 20⟩]⟩,
    ⟨0x11008, [(8, 0x100)], true, false, [⟨.IMP_Q_LOG_ADDR_ADDR, 0⟩]⟩,
    ⟨0x11010, [(8, 0x100)], false, false, [⟨.IMP_Q_COUNT_MISS, 0⟩, ⟨.IMP_Q_COUNT_PERM, 16⟩]⟩,
    ⟨0x11014, [(8, 0x100)], false, false, [⟨.IMP_Q_SEAL_RMW, 0⟩, ⟨.IMP_Q_SEAL_LOCKS, 16⟩, ⟨.IMP_Q_SEAL_RMW_FAIL, 24⟩]⟩,
    ⟨0x11018, [(8, 0x100)], false, false, [⟨.IMP_Q_ECC_CORR, 0⟩, ⟨.IMP_Q_ECC_UE, 16⟩]⟩ ]

/-- Registers of the ARB block. -/
def regsArb : List RegAt :=
  [ ⟨0x20000, [(8, 0x1000), (1024, 0x4)], false, false, [⟨.ARB_TICKET_TICKETS, 0⟩, ⟨.ARB_TICKET_URGENT_OK, 16⟩]⟩,
    ⟨0x28000, [(8, 0x4)], false, false, [⟨.ARB_TRANSIT_TICKETS, 0⟩, ⟨.ARB_TRANSIT_URGENT_OK, 16⟩]⟩,
    ⟨0x28040, [], false, false, [⟨.ARB_COMMIT_COMMIT, 0⟩]⟩,
    ⟨0x28080, [(10, 0x4)], false, false, [⟨.ARB_STAT_URGENT, 0⟩, ⟨.ARB_STAT_FORCED, 16⟩]⟩ ]

/-- Registers of the BAL block. -/
def regsBal : List RegAt :=
  [ ⟨0x30000, [], false, false, [⟨.BAL_STATUS_RNG_OK, 0⟩, ⟨.BAL_STATUS_FACTORY_TEST, 1⟩, ⟨.BAL_STATUS_SIGNER_REVOKED, 2⟩, ⟨.BAL_STATUS_REPORT_QUEUE, 16⟩, ⟨.BAL_STATUS_RNG_FAIL, 24⟩]⟩,
    ⟨0x30008, [], true, false, [⟨.BAL_REVOKE_LAST_KIND, 0⟩, ⟨.BAL_REVOKE_LAST_ACTIVE, 2⟩, ⟨.BAL_REVOKE_LAST_IMPRINT, 3⟩, ⟨.BAL_REVOKE_LAST_HANDLE, 13⟩, ⟨.BAL_REVOKE_LAST_DISCARDED, 32⟩, ⟨.BAL_REVOKE_LAST_DURATION, 48⟩]⟩,
    ⟨0x30100, [(64, 0x4)], false, false, [⟨.BAL_SYS_SLOT_KIND, 0⟩, ⟨.BAL_SYS_SLOT_READY, 2⟩]⟩,
    ⟨0x31000, [(1024, 0x8)], true, false, [⟨.BAL_KEY_SLOT_STATE, 0⟩, ⟨.BAL_KEY_SLOT_POLICY, 2⟩, ⟨.BAL_KEY_SLOT_SOURCE, 4⟩, ⟨.BAL_KEY_SLOT_GEN, 8⟩, ⟨.BAL_KEY_SLOT_LEASES, 16⟩, ⟨.BAL_KEY_SLOT_KCV, 32⟩]⟩ ]

/-- Registers of the MEM block. -/
def regsMem : List RegAt :=
  [ ⟨0x40000, [], false, false, [⟨.MEM_POOL_STATUS_FREE, 0⟩, ⟨.MEM_POOL_STATUS_LEASED, 11⟩, ⟨.MEM_POOL_STATUS_GALLEY_SHEETS, 22⟩, ⟨.MEM_POOL_STATUS_INTERLEAVE, 30⟩]⟩,
    ⟨0x40100, [(4, 0x40)], false, false, [⟨.MEM_STK_STATUS_OUTSTANDING, 0⟩, ⟨.MEM_STK_STATUS_MAX_OUTSTANDING, 16⟩]⟩,
    ⟨0x40104, [(4, 0x40)], false, false, [⟨.MEM_STK_ECC_CORR, 0⟩, ⟨.MEM_STK_ECC_UE, 16⟩]⟩,
    ⟨0x40108, [(4, 0x40)], false, false, [⟨.MEM_STK_SPARE_USED, 0⟩, ⟨.MEM_STK_SPARE_TOTAL, 12⟩, ⟨.MEM_STK_SPARE_LOW, 24⟩]⟩,
    ⟨0x4010C, [(4, 0x40)], false, false, [⟨.MEM_STK_SCRUB_PROGRESS, 0⟩, ⟨.MEM_STK_SCRUB_PASSES, 16⟩]⟩,
    ⟨0x40110, [(4, 0x40)], false, false, [⟨.MEM_STK_RMW_DONE, 0⟩, ⟨.MEM_STK_RMW_FAIL, 16⟩]⟩,
    ⟨0x50000, [(1024, 0x8)], true, false, [⟨.MEM_SHEET_STATE, 0⟩, ⟨.MEM_SHEET_IMPRINT, 4⟩, ⟨.MEM_SHEET_HOST_INDEX, 14⟩, ⟨.MEM_SHEET_SLOT, 19⟩, ⟨.MEM_SHEET_LEASE, 29⟩, ⟨.MEM_SHEET_READ_ONLY, 39⟩]⟩ ]

/-- Registers of the QD block. -/
def regsQd : List RegAt :=
  [ ⟨0x80000, [(8, 0x10000)], false, false, [⟨.QD_BUF_STATUS_SHARED_FREE, 0⟩, ⟨.QD_BUF_STATUS_SPILLING, 18⟩]⟩,
    ⟨0x80004, [(8, 0x10000)], false, false, [⟨.QD_GALLEY_STATUS_PAGES_FREE, 0⟩]⟩,
    ⟨0x80008, [(8, 0x10000)], false, false, [⟨.QD_SPILL_COUNT_SPILLED, 0⟩, ⟨.QD_SPILL_COUNT_BLOCKED, 16⟩, ⟨.QD_SPILL_COUNT_XOFF, 24⟩]⟩,
    ⟨0x80100, [(8, 0x10000), (32, 0x4)], false, false, [⟨.QD_SPILL_MAP_TC0, 0⟩, ⟨.QD_SPILL_MAP_TC1, 4⟩, ⟨.QD_SPILL_MAP_TC2, 8⟩, ⟨.QD_SPILL_MAP_TC3, 12⟩, ⟨.QD_SPILL_MAP_TC4, 16⟩, ⟨.QD_SPILL_MAP_TC5, 20⟩, ⟨.QD_SPILL_MAP_TC6, 24⟩, ⟨.QD_SPILL_MAP_TC7, 28⟩]⟩,
    ⟨0x80200, [(8, 0x10000), (16, 0x8)], true, false, [⟨.QD_SPILL_PROF_THRESH, 0⟩, ⟨.QD_SPILL_PROF_ALPHA_EXP, 16⟩, ⟨.QD_SPILL_PROF_REFILL, 20⟩, ⟨.QD_SPILL_PROF_GALLEY_MAX, 32⟩]⟩ ]

/-- Registers of the SHP block. -/
def regsShp : List RegAt :=
  [ ⟨0x100000, [(16384, 0x10)], false, false, [⟨.SHP_SUB_RATE_RATE, 0⟩]⟩,
    ⟨0x100004, [(16384, 0x10)], false, false, [⟨.SHP_SUB_CFG_BURST, 0⟩, ⟨.SHP_SUB_CFG_ENABLE, 24⟩, ⟨.SHP_SUB_CFG_RESET_POLICY, 25⟩]⟩,
    ⟨0x100008, [(16384, 0x10)], false, false, [⟨.SHP_SUB_LINK_PARENT, 0⟩, ⟨.SHP_SUB_LINK_ATTACHED, 11⟩]⟩,
    ⟨0x10000C, [(16384, 0x10)], false, false, [⟨.SHP_SUB_TOKENS_TOKENS, 0⟩]⟩,
    ⟨0x140000, [(2048, 0x10)], false, false, [⟨.SHP_SVC_RATE_RATE, 0⟩]⟩,
    ⟨0x140004, [(2048, 0x10)], false, false, [⟨.SHP_SVC_CFG_BURST, 0⟩, ⟨.SHP_SVC_CFG_ENABLE, 24⟩, ⟨.SHP_SVC_CFG_RESET_POLICY, 25⟩]⟩,
    ⟨0x140008, [(2048, 0x10)], false, false, [⟨.SHP_SVC_LINK_PARENT, 0⟩, ⟨.SHP_SVC_LINK_ATTACHED, 7⟩]⟩,
    ⟨0x14000C, [(2048, 0x10)], false, false, [⟨.SHP_SVC_TOKENS_TOKENS, 0⟩]⟩,
    ⟨0x148000, [(128, 0x10)], false, false, [⟨.SHP_PORT_RATE_RATE, 0⟩]⟩,
    ⟨0x148004, [(128, 0x10)], false, false, [⟨.SHP_PORT_CFG_BURST, 0⟩, ⟨.SHP_PORT_CFG_ENABLE, 24⟩, ⟨.SHP_PORT_CFG_RESET_POLICY, 25⟩]⟩,
    ⟨0x148008, [(128, 0x10)], false, false, [⟨.SHP_PORT_LINK_WEIGHT_TC0, 0⟩, ⟨.SHP_PORT_LINK_WEIGHT_TC1, 4⟩, ⟨.SHP_PORT_LINK_WEIGHT_TC2, 8⟩, ⟨.SHP_PORT_LINK_WEIGHT_TC3, 12⟩, ⟨.SHP_PORT_LINK_WEIGHT_TC4, 16⟩, ⟨.SHP_PORT_LINK_WEIGHT_TC5, 20⟩, ⟨.SHP_PORT_LINK_WEIGHT_TC6, 24⟩]⟩,
    ⟨0x14800C, [(128, 0x10)], false, false, [⟨.SHP_PORT_TOKENS_TOKENS, 0⟩]⟩,
    ⟨0x150000, [(2048, 0x10)], false, false, [⟨.SHP_POL_CIR_CIR, 0⟩]⟩,
    ⟨0x150004, [(2048, 0x10)], false, false, [⟨.SHP_POL_PIR_PIR, 0⟩]⟩ ]

/-- Registers of the SHP block. -/
def regsShp2 : List RegAt :=
  [ ⟨0x150008, [(2048, 0x10)], false, false, [⟨.SHP_POL_CBS_CBS, 0⟩, ⟨.SHP_POL_CBS_YELLOW_ACT, 24⟩, ⟨.SHP_POL_CBS_RED_ACT, 25⟩]⟩,
    ⟨0x15000C, [(2048, 0x10)], false, false, [⟨.SHP_POL_PBS_PBS, 0⟩, ⟨.SHP_POL_PBS_DROP_COUNT, 24⟩]⟩,
    ⟨0x158000, [(4095, 0x4)], false, false, [⟨.SHP_POL_MAP_OFFSET, 0⟩, ⟨.SHP_POL_MAP_TC_MASK, 6⟩]⟩,
    ⟨0x160000, [], false, false, [⟨.SHP_SAMPLE_CTL_PERIOD, 0⟩]⟩,
    ⟨0x161000, [(128, 0x80), (8, 0x10)], true, false, [⟨.SHP_QSAMP_DEPTH, 0⟩, ⟨.SHP_QSAMP_DELAY, 32⟩]⟩,
    ⟨0x161008, [(128, 0x80), (8, 0x10)], true, false, [⟨.SHP_QMAX_MAX_DEPTH, 0⟩, ⟨.SHP_QMAX_MAX_DELAY, 32⟩]⟩ ]

/-- Registers of the GATE block. -/
def regsGate : List RegAt :=
  [ ⟨0x180000, [(128, 0x1000)], false, false, [⟨.GATE_CTL_ENTRY_COUNT, 0⟩, ⟨.GATE_CTL_LEADIN, 16⟩]⟩,
    ⟨0x180004, [(128, 0x1000)], false, false, [⟨.GATE_CYCLE_CYCLE, 0⟩]⟩,
    ⟨0x180008, [(128, 0x1000)], true, false, [⟨.GATE_BASE_BASE, 0⟩]⟩,
    ⟨0x180010, [(128, 0x1000)], false, false, [⟨.GATE_STATUS_STATE, 0⟩, ⟨.GATE_STATUS_LATE_START, 2⟩, ⟨.GATE_STATUS_ENTRY, 3⟩, ⟨.GATE_STATUS_GATES, 11⟩]⟩,
    ⟨0x180018, [(128, 0x1000)], true, false, [⟨.GATE_START_START, 0⟩]⟩,
    ⟨0x180020, [(128, 0x1000)], false, false, [⟨.GATE_GUARD_GUARD, 0⟩]⟩,
    ⟨0x180800, [(128, 0x1000), (256, 0x8)], true, false, [⟨.GATE_ENTRY_GATES, 0⟩, ⟨.GATE_ENTRY_INTERVAL, 32⟩]⟩ ]

/-- Registers of the TILE block. -/
def regsTile : List RegAt :=
  [ ⟨0x201000, [(32, 0x10000), (4, 0x40)], false, false, [⟨.TILE_PORT_STATUS_ROLE, 0⟩, ⟨.TILE_PORT_STATUS_LINK_UP, 3⟩, ⟨.TILE_PORT_STATUS_RATE, 4⟩, ⟨.TILE_PORT_STATUS_WIDTH, 7⟩, ⟨.TILE_PORT_STATUS_FLIT, 12⟩, ⟨.TILE_PORT_STATUS_CXL, 13⟩, ⟨.TILE_PORT_STATUS_CONTAINED, 14⟩, ⟨.TILE_PORT_STATUS_IDE, 15⟩, ⟨.TILE_PORT_STATUS_HOST_INDEX, 16⟩, ⟨.TILE_PORT_STATUS_PRESENT, 21⟩, ⟨.TILE_PORT_STATUS_LINK_DOWN_COUNT, 24⟩]⟩,
    ⟨0x202000, [(32, 0x10000), (8, 0x40)], false, false, [⟨.TILE_LANE_STATUS_TX_STATE, 0⟩, ⟨.TILE_LANE_STATUS_RX_STATE, 3⟩, ⟨.TILE_LANE_STATUS_RX_INV, 6⟩, ⟨.TILE_LANE_STATUS_TX_INV, 7⟩, ⟨.TILE_LANE_STATUS_PORT_LANE, 8⟩, ⟨.TILE_LANE_STATUS_REVERSED, 12⟩, ⟨.TILE_LANE_STATUS_RATE, 13⟩, ⟨.TILE_LANE_STATUS_SIG_DET, 16⟩, ⟨.TILE_LANE_STATUS_CDR_LOCK, 17⟩, ⟨.TILE_LANE_STATUS_MARGIN_LOW, 18⟩]⟩,
    ⟨0x202004, [(32, 0x10000), (8, 0x40)], false, false, [⟨.TILE_LANE_EQ_PRESET, 0⟩, ⟨.TILE_LANE_EQ_C_PRE, 4⟩, ⟨.TILE_LANE_EQ_C_MAIN, 10⟩, ⟨.TILE_LANE_EQ_C_POST, 16⟩, ⟨.TILE_LANE_EQ_LOCKED, 22⟩]⟩,
    ⟨0x202008, [(32, 0x10000), (8, 0x40)], false, false, [⟨.TILE_LANE_ADAPT_EYE_H, 0⟩, ⟨.TILE_LANE_ADAPT_EYE_W, 8⟩, ⟨.TILE_LANE_ADAPT_CTLE, 16⟩, ⟨.TILE_LANE_ADAPT_CAL_COUNT, 24⟩]⟩,
    ⟨0x202010, [(32, 0x10000), (8, 0x40)], false, false, [⟨.TILE_LANE_TEST_LPBK, 0⟩, ⟨.TILE_LANE_TEST_GEN_PAT, 3⟩, ⟨.TILE_LANE_TEST_CHK_PAT, 7⟩, ⟨.TILE_LANE_TEST_INJ_MODE, 11⟩, ⟨.TILE_LANE_TEST_INJ_EXP, 13⟩, ⟨.TILE_LANE_TEST_INJ_GO, 19⟩, ⟨.TILE_LANE_TEST_CHK_SYNC, 20⟩, ⟨.TILE_LANE_TEST_TX_IDLE, 21⟩]⟩,
    ⟨0x202014, [(32, 0x10000), (8, 0x40)], false, false, [⟨.TILE_PRBS_SYNC_LOCK_LOSS, 0⟩]⟩,
    ⟨0x202018, [(32, 0x10000), (8, 0x40)], true, false, [⟨.TILE_PRBS_ERR_COUNT, 0⟩]⟩,
    ⟨0x202020, [(32, 0x10000), (8, 0x40)], true, false, [⟨.TILE_PRBS_BITS_COUNT, 0⟩]⟩,
    ⟨0x203000, [(32, 0x10000)], false, false, [⟨.TILE_DL_CTL_REPLAY_WINDOW, 0⟩, ⟨.TILE_DL_CTL_AUTO_DROP, 10⟩]⟩,
    ⟨0x203004, [(32, 0x10000)], false, false, [⟨.TILE_DL_STATUS_STATE, 0⟩, ⟨.TILE_DL_STATUS_TX_WIDTH, 4⟩, ⟨.TILE_DL_STATUS_RX_WIDTH, 7⟩, ⟨.TILE_DL_STATUS_PARTNER_SW, 10⟩, ⟨.TILE_DL_STATUS_TX_PEND, 16⟩, ⟨.TILE_DL_STATUS_RX_PEND, 17⟩]⟩,
    ⟨0x203008, [(32, 0x10000)], false, false, [⟨.TILE_DL_MASK_TX_MASK, 0⟩, ⟨.TILE_DL_MASK_RX_MASK, 16⟩]⟩,
    ⟨0x20300C, [(32, 0x10000)], false, false, [⟨.TILE_DL_RTT_RTT, 0⟩, ⟨.TILE_DL_RTT_EFF_WINDOW, 16⟩]⟩,
    ⟨0x203010, [(32, 0x10000)], false, false, [⟨.TILE_DL_BAD_COUNT, 0⟩]⟩,
    ⟨0x203014, [(32, 0x10000)], false, false, [⟨.TILE_DL_FEC_CORR_COUNT, 0⟩]⟩ ]

/-- Registers of the TILE block. -/
def regsTile2 : List RegAt :=
  [ ⟨0x203018, [(32, 0x10000)], false, false, [⟨.TILE_DL_NAK_SENT, 0⟩, ⟨.TILE_DL_NAK_RECEIVED, 16⟩]⟩,
    ⟨0x20301C, [(32, 0x10000)], false, false, [⟨.TILE_DL_REPLAY_BY_NAK, 0⟩, ⟨.TILE_DL_REPLAY_BY_TIMER, 16⟩]⟩,
    ⟨0x203020, [(32, 0x10000)], false, false, [⟨.TILE_DL_DROP_COUNT, 0⟩]⟩,
    ⟨0x203100, [(32, 0x10000), (16, 0x4)], false, false, [⟨.TILE_DL_VC_AVAIL_HDR, 0⟩, ⟨.TILE_DL_VC_AVAIL_DATA, 16⟩]⟩ ]

/-- Registers of the PMC block. -/
def regsPmc : List RegAt :=
  [ ⟨0x400000, [], false, false, [⟨.PMC_CTL_SNAP, 0⟩, ⟨.PMC_CTL_BUSY, 1⟩]⟩,
    ⟨0x400010, [], true, false, [⟨.PMC_SAMP_CFG_N_MINUS_1, 0⟩, ⟨.PMC_SAMP_CFG_ENABLE, 24⟩, ⟨.PMC_SAMP_CFG_WRAP, 25⟩, ⟨.PMC_SAMP_CFG_QUAD_MASK, 26⟩, ⟨.PMC_SAMP_CFG_TC_MASK, 34⟩, ⟨.PMC_SAMP_CFG_IMPRINT, 42⟩, ⟨.PMC_SAMP_CFG_IMP_MATCH, 52⟩]⟩,
    ⟨0x400018, [], false, false, [⟨.PMC_SAMP_STATUS_COUNT, 0⟩, ⟨.PMC_SAMP_STATUS_FULL, 13⟩]⟩,
    ⟨0x401000, [(476, 0x4)], false, false, [⟨.PMC_CFG_EVENT, 0⟩, ⟨.PMC_CFG_MODE, 8⟩, ⟨.PMC_CFG_ENABLE, 9⟩, ⟨.PMC_CFG_IMP_MATCH, 10⟩, ⟨.PMC_CFG_IMPRINT, 12⟩]⟩,
    ⟨0x404000, [(476, 0x10)], true, false, [⟨.PMC_SNAP_VAL_COUNT, 0⟩, ⟨.PMC_SNAP_VAL_VALID, 48⟩, ⟨.PMC_SNAP_VAL_STOPPED, 49⟩]⟩,
    ⟨0x404008, [(476, 0x10)], true, false, [⟨.PMC_SNAP_TIME_TIME, 0⟩]⟩ ]

/-- Every register that BAR0 shows (R701). -/
def regTable : List RegAt :=
  regsCol ++ regsSup ++ regsCmp ++ regsCmp2 ++ regsFlt ++ regsSlt ++ regsSlt2 ++ regsMet ++ regsImp ++ regsArb ++ regsBal ++ regsMem ++ regsQd ++ regsShp ++ regsShp2 ++ regsGate ++ regsTile ++ regsTile2 ++ regsPmc

/-- The instance number that a distance from instance 0 gives, with the bytes left over, for one list of counts and
strides (R12). -/
def instOf : List (Nat × Nat) → Nat → Option (Nat × Nat)
  | [], d => some (0, d)
  | (n, st) :: ds, d =>
    let k := d / st
    if k < n then
      match instOf ds (d % st) with
      | some (j, r) => some (k * (ds.foldl (fun a e => a * e.1) 1) + j, r)
      | none => none
    else none

/-- The register, its instance and the byte offset in it that a BAR0 offset names. -/
def regAtIn : List RegAt → Nat → Option (RegAt × Nat × Nat)
  | [], _ => none
  | r :: rs, a =>
    if r.offset ≤ a then
      match instOf r.dims (a - r.offset) with
      | some (i, b) => if b < (if r.wide then 8 else 4) then some (r, i, b) else regAtIn rs a
      | none => regAtIn rs a
    else regAtIn rs a

/-- `regAtIn` over the whole map. -/
def regAt (a : Nat) : Option (RegAt × Nat × Nat) := regAtIn regTable a

/-- Whether a value is one of a field's listed encodings (R9); a field not named here lists every value of its width.
The pattern fields' further limit is R213, the PMC events' is R622: those writes apply it themselves. -/
def Fld.listed (f : Fld) (v : Nat) : Bool :=
  match f with
  | .SUP_COL_RECOV_CTL_TARGET | .TILE_LANE_TEST_INJ_MODE | .FLT_INJECT_MODE => decide (v ≤ 2)
  | .TILE_LANE_TEST_LPBK => decide (v ≤ 3)
  | .TILE_LANE_TEST_GEN_PAT | .TILE_LANE_TEST_CHK_PAT => decide (v ≤ 8)
  | .TILE_LANE_TEST_INJ_EXP => decide (8 ≤ v) && decide (v ≤ 40)
  | .TILE_DL_CTL_REPLAY_WINDOW => decide (20 ≤ v) && decide (v ≤ 1000)
  | .SHP_SAMPLE_CTL_PERIOD => decide (1 ≤ v) && decide (v ≤ 1000)
  | .QD_SPILL_PROF_THRESH | .ARB_TICKET_TICKETS | .ARB_TRANSIT_TICKETS => decide (1 ≤ v) && decide (v ≤ 65535)
  | .QD_SPILL_PROF_ALPHA_EXP => decide (v ≤ 9)
  | .QD_SPILL_PROF_REFILL => decide (1 ≤ v) && decide (v ≤ 4095)
  | .SHP_SUB_RATE_RATE | .SHP_SVC_RATE_RATE | .SHP_PORT_RATE_RATE => decide (1 ≤ v) && decide (v ≤ 2048000)
  | .SHP_SUB_CFG_BURST | .SHP_SVC_CFG_BURST | .SHP_PORT_CFG_BURST => decide (64 ≤ v) && decide (v ≤ 16777215)
  | .SHP_POL_CIR_CIR | .SHP_POL_PIR_PIR => decide (v ≤ 2048000)
  | .SHP_POL_CBS_CBS | .SHP_POL_PBS_PBS => decide (1 ≤ v) && decide (v ≤ 16777215)
  | .GATE_CTL_ENTRY_COUNT => decide (v ≤ 256)
  | .GATE_CYCLE_CYCLE => decide (1000 ≤ v) && decide (v ≤ 1000000000)
  | .GATE_ENTRY_INTERVAL => decide (10 ≤ v) && decide (v ≤ 1000000000)
  | _ => true

/-- Commit scope bit of an SH field: ARB 1, SHP 2, GATE 3 (03_forme.md, Staging). -/
def Fld.scope (f : Fld) : Nat :=
  match f with
  | .ARB_TICKET_TICKETS | .ARB_TICKET_URGENT_OK | .ARB_TRANSIT_TICKETS | .ARB_TRANSIT_URGENT_OK => 1
  | .QD_SPILL_MAP_TC0 | .QD_SPILL_MAP_TC1 | .QD_SPILL_MAP_TC2 | .QD_SPILL_MAP_TC3 | .QD_SPILL_MAP_TC4
  | .QD_SPILL_MAP_TC5 | .QD_SPILL_MAP_TC6 | .QD_SPILL_MAP_TC7 | .QD_SPILL_PROF_THRESH
  | .QD_SPILL_PROF_ALPHA_EXP | .QD_SPILL_PROF_REFILL | .QD_SPILL_PROF_GALLEY_MAX | .SHP_SUB_RATE_RATE
  | .SHP_SUB_CFG_BURST | .SHP_SUB_CFG_ENABLE | .SHP_SUB_CFG_RESET_POLICY | .SHP_SUB_LINK_PARENT
  | .SHP_SUB_LINK_ATTACHED | .SHP_SVC_RATE_RATE | .SHP_SVC_CFG_BURST | .SHP_SVC_CFG_ENABLE
  | .SHP_SVC_CFG_RESET_POLICY | .SHP_SVC_LINK_PARENT | .SHP_SVC_LINK_ATTACHED | .SHP_PORT_RATE_RATE
  | .SHP_PORT_CFG_BURST | .SHP_PORT_CFG_ENABLE | .SHP_PORT_CFG_RESET_POLICY | .SHP_PORT_LINK_WEIGHT_TC0
  | .SHP_PORT_LINK_WEIGHT_TC1 | .SHP_PORT_LINK_WEIGHT_TC2 | .SHP_PORT_LINK_WEIGHT_TC3
  | .SHP_PORT_LINK_WEIGHT_TC4 | .SHP_PORT_LINK_WEIGHT_TC5 | .SHP_PORT_LINK_WEIGHT_TC6 | .SHP_POL_CIR_CIR
  | .SHP_POL_PIR_PIR | .SHP_POL_CBS_CBS | .SHP_POL_CBS_YELLOW_ACT | .SHP_POL_CBS_RED_ACT | .SHP_POL_PBS_PBS
  | .SHP_POL_MAP_OFFSET | .SHP_POL_MAP_TC_MASK => 2
  | .GATE_CTL_ENTRY_COUNT | .GATE_CTL_LEADIN | .GATE_CYCLE_CYCLE | .GATE_BASE_BASE | .GATE_ENTRY_GATES
  | .GATE_ENTRY_INTERVAL => 3
  | _ => 0

end Sys2Proof
end

