-- ==== Sys2Proof/Sparse.lean ====
section
/-! DEFINITION. Sparse tables: a list of key and value pairs in one canonical form (strictly rising by a code of the
key). `code` is an injective numbering of the keys; an unlisted key has no value, or the table's default. -/

namespace Sys2Proof.Sparse

variable {κ α : Type} [DecidableEq κ]

/-- The value listed for a key. -/
def get? (l : List (κ × α)) (k : κ) : Option α :=
  match l with
  | [] => none
  | (j, a) :: t => if j = k then some a else get? t k

/-- The table without a key. -/
def erase (l : List (κ × α)) (k : κ) : List (κ × α) := l.filter (fun e => !decide (e.1 = k))

/-- The table with one more pair, put before the first pair of a higher code. -/
def insert (code : κ → Nat) (l : List (κ × α)) (k : κ) (a : α) : List (κ × α) :=
  match l with
  | [] => [(k, a)]
  | e :: t => if code k < code e.1 then (k, a) :: e :: t else e :: insert code t k a

/-- The table with `k` set to `a`. -/
def set (code : κ → Nat) (l : List (κ × α)) (k : κ) (a : α) : List (κ × α) := insert code (erase l k) k a

/-- The table with `k` set, or without it. -/
def put (code : κ → Nat) (l : List (κ × α)) (k : κ) (a : Option α) : List (κ × α) :=
  match a with
  | some v => set code l k v
  | none => erase l k

/-- The canonical form: codes strictly rise. -/
def sorted (code : κ → Nat) (l : List (κ × α)) : Bool :=
  match l with
  | [] => true
  | e :: t => t.all (fun f => decide (code e.1 < code f.1)) && sorted code t

end Sys2Proof.Sparse
end

