-- ==== Sys2Proof/Machine/State.lean ====
section
/-! DEFINITION. The state of the block as plain data: the register file, and one structure for each unit that holds
more than its registers show. A register field has one home, the register file; a value that the manual derives
from other state has none and is computed when it is read. -/

namespace Sys2Proof.Machine

/-- No meaning of this model ends in a fault: what the manual describes is a next state (NOTES.md, Stops). -/
inductive Fault where
  deriving DecidableEq, Repr

/-- Refusals. `notModelled` is raised by Dispatch.lean alone, for a command that has no meaning yet (safe: the machine
stops). -/
inductive Refusal where
  | notModelled (mnemonic : String)
  deriving DecidableEq, Repr

/-! ### Boot state, fuses, bring-up (03_forme.md, 04_bringup_and_reset.md) -/

/-- State of a forme bank in the boot state area. -/
inductive BankState where
  | empty
  | trial
  | confirmed
  | bad
  deriving DecidableEq, Repr

/-- A forme bank. -/
structure Bank where
  state : BankState := .empty
  image : Option Image := none
  deriving DecidableEq, Repr

/-- The flash die: banks A and B, the bank preference, the anti-rollback counter (R84), the amendment high-water with
the digest of the forme it belongs to (R120), the recovery port record (R150), the two firmware copies (R154) and
the thermal-trip count (R766), the forme signing public keys of the identity area (R83). No reset changes it (R164). What it holds in a new part,
the keys 1 to 4 among it, is open. DESIGN CHOICE: log entry 1. -/
structure Flash where
  bankA : Bank := {}
  bankB : Bank := {}
  prefB : Bool := false
  rollback : Nat := 0
  amendHigh : Nat := 0
  amendBase : Nat := 0
  recovLane : Nat := 0
  recovWidth : Nat := 8
  fw0 : FwBundle := {}
  fw1 : FwBundle := {}
  trips : Nat := 0
  pubKeys : List Nat := [1, 2, 3, 4]
  deriving DecidableEq, Repr

/-- What the fuses and the identity area of one part hold (R83, R147, R560, R583, R593), the unique device secret (R556) and the spare rows of a stack. The fused
digest of a signing public key is held as the key that hashes to it (DESIGN CHOICE, log entry 8). What a new part's fuses hold, the keys 1 to 4
among it, is open (DESIGN CHOICE, log entry 1). -/
structure Part where
  gradeIA : Bool := false
  factoryTest : Bool := false
  signerKeys : List Nat := [1, 2, 3, 4]
  signerRevoked : Nat := 0
  serial : Nat := 0
  uds : Nat := 0
  spareTotal : Nat := 1024
  bankSpares : Nat := 16
  deriving DecidableEq, Repr

/-- Where a reset stands: none, a warm reset whose metering flush runs (with the time it began), the switch held at the
start of P1 by SYS_RESET_N (R160), the P0 hold of R766, or PWROK low. -/
inductive ResetStage where
  | none
  | flush (since : Nat)
  | heldWarm
  | thermalHold
  | powerLow
  deriving DecidableEq, Repr

/-- A bring-up attempt: when it began, the running bank, what verification found, the time base (its start instant, none
before P3), failures that R140 logs at P5, marks of P3's steps, and a recovery load with the DMA reads that it has still to issue. -/
structure Boot where
  stage : ResetStage := .powerLow
  pwrok : Bool := false
  sysResetN : Bool := true
  origin : Nat := 0
  attemptAt : Nat := 0
  phaseAt : Nat := 0
  timeBase : Option Nat := none
  badFw : Option Nat := none
  fwSup : Nat := 0
  fwBal : Nat := 0
  runB : Bool := false
  running : Option Image := none
  prefAtP2B : Bool := false
  hbmDone : Bool := false
  serdesDone : Bool := false
  degraded : List (Nat × Nat) := []
  recov : Option RecoveryImage := none
  recovHost : Nat := 0
  recovReads : Nat := 0
  bootNonce : Nat := 0
  rebootAt : Option Nat := none
  deriving DecidableEq, Repr

/-! ### Islands (02_clock_islands.md) -/

/-- A fence in progress: its island and the instant it began (R55, R56). -/
structure Fence where
  island : Nat
  since : Nat
  deriving DecidableEq, Repr

/-- A domain that the supervisor has still to switch (R37, R38); `failed` says that it is switched off because it gave no power good, and
its island keeps the state that it has (R138, R724). -/
structure SwitchOp where
  dom : Nat
  on : Bool
  failed : Bool := false
  deriving DecidableEq, Repr

/-- An access to a register of a switched island that its sender holds until the island leaves RESET or has woken (R49, R53). -/
structure RegAccess where
  host : Nat
  tag : Nat
  offset : Nat
  size : Nat
  kind : ReqKind
  value : Nat
  deriving DecidableEq, Repr

/-- An item that its sender holds for an island that is stopped or in reset (R49, R53), or for the metering island's records
(R44, R45): a request, a completion, a fabric packet of a port with its timestamp, `live` while the link that brought it is up. -/
inductive Held where
  | req (r : Req)
  | cpl (c : Cpl)
  | fab (port : Nat) (p : FabPkt) (ts : Nat) (live : Bool)
  deriving DecidableEq, Repr

/-- The repair and the rebuild of the management core (R117, R118, R784). -/
structure MgmtRepair where
  attempts : Nat := 0
  since : Nat := 0
  rebuilding : Bool := false
  deriving DecidableEq, Repr

/-- Everything about islands that their registers do not show: switching in progress, fences and resets in progress,
islands lost but not yet isolated, stale islands (R112), resynchronisations (R113), items that wait for an island that is
stopped or in reset (R49, R52, R53), by island and in order, and register accesses that wait so; the instant of each island's
latest work (R51),
and the forced-reset copies of the last values of SLT registers (R694). -/
structure Islands where
  switchQ : List SwitchOp := []
  lastSwitch : Option Nat := none
  fences : List Fence := []
  resets : List (Nat × Nat) := []
  isolating : List (Nat × Nat) := []
  stale : List Nat := []
  resync : List Nat := []
  waking : List (Nat × Held) := []
  heldRegs : List (Nat × RegAccess) := []
  workAt : List (Nat × Nat) := []
  bootFenced : List Nat := []
  mgmt : Option MgmtRepair := none
  avsStopped : Bool := false
  sltCopy : Option (List RegCell) := some []
  deriving DecidableEq, Repr

/-! ### The imposition table and the commit (03_forme.md, 08_imposition_table.md) -/

/-- One item of the imposition table: its record type (R377), its index, and the part of a route group. Type 7 holds a
group's MEMBER_COUNT and REBIND_IDLE (R779). -/
structure ImpKey where
  typ : Nat
  index : Nat
  part : Nat := 0
  deriving DecidableEq, Repr

/-- The numbering that orders a view of the table. -/
def ImpKey.code (k : ImpKey) : Nat := (k.typ * 1048576 + k.index) * 8 + k.part

/-- A view of the table: the items present and their payloads. An item that is not listed is cleared. -/
abbrev Imp := List (ImpKey × Nat)

/-- A staged change to one item: its new payload, or none for CLEAR; the amendment that staged it, if one did. -/
structure ImpChange where
  key : ImpKey
  val : Option Nat
  amend : Option Nat := none
  deriving DecidableEq, Repr

/-- A kill mark (R109): the entries of a domain (R385), or the sealed entries of an imprint (R576). -/
inductive KillMark where
  | domain (d : Nat)
  | sealedOf (imprint : Nat)
  deriving DecidableEq, Repr

/-- What an amendment has staged: its AMEND_SEQ and digest, the mask of scopes whose changes of it are still staged, and the
changes of the scopes without registers of their own: the assignments and the fault policy after its DELTA, its SLOTPOWER
records, its metering plan. -/
structure AmendParts where
  seq : Nat
  digest : Nat
  scopes : Nat
  hier : Option (List HierRec) := none
  flts : Option (List FaultRec) := none
  slots : Option (List SlotRec) := none
  meter : Option MeterRec := none
  deriving DecidableEq, Repr

/-- Who a commit serves: the COMMIT command or a write to ARB_COMMIT, a lease, a release, a revocation, or a hierarchy
change of R235. -/
inductive Origin where
  | command
  | arb
  | lease (handle : Nat)
  | release (handle : Nat)
  | revoke (imprint : Nat)
  | hierarchy
  deriving DecidableEq, Repr

/-- Where a commit stands. -/
inductive CommitPhase where
  | delivering
  | confirmed
  | abandoned
  | window
  | writing
  | sweeping
  | finished
  deriving DecidableEq, Repr

/-- A virtual configuration register of a host's hierarchy that does not hold its reset value. -/
structure VKey where
  host : Nat
  target : CfgTarget
  reg : CfgReg
  deriving DecidableEq, Repr

/-- A configuration write that waits for its hierarchy change (R235, R387). -/
structure HierWrite where
  host : Nat
  target : CfgTarget
  reg : CfgReg
  value : Nat
  answer : Bool := true
  deriving DecidableEq, Repr

/-- A commit in progress: the scopes it commits, its instant in ns of the device time base, what it changes (register fields,
table items, kill marks, amendments, configuration writes), the participants that have not acknowledged it. `covered` lists the
entries that its kill marks cover, from T_c to the end of the sweep. -/
structure Commit where
  origin : Origin
  mask : Nat
  tc : Nat
  phase : CommitPhase := .delivering
  cells : List RegCell := []
  imps : List ImpChange := []
  kills : List KillMark := []
  parts : List AmendParts := []
  writes : List HierWrite := []
  waitAck : List Nat := []
  covered : List ImpKey := []
  deriving DecidableEq, Repr

/-- The table's views and the commit machinery: the active table, the table before T_c while its old-value window is
open, the staged changes, items of a quad's replica that are unreadable
(quad, the instant by which they are rewritten, item) or were written with inverted check bits (`flips`: quad, item, bits, R657), the staged parts of
amendments, the commit in progress and what waits behind it: configuration writes, and a command's commit (mask, origin, and
whether it arose behind a hierarchy change); `redo` lists the writes of an abandoned hierarchy change, which is committed again as it
was (R388), `owed` lists configuration writes whose change is in force and whose completion
waits for the end of a rebuild (R117). DESIGN CHOICE: log entry 16. -/
structure Commits where
  active : Imp := []
  old : Option (Nat × Imp × List HierRec) := none
  staged : List ImpChange := []
  unreadable : List (Nat × Nat × ImpKey) := []
  flips : List (Nat × ImpKey × Nat) := []
  hier : List HierRec := []
  parts : List AmendParts := []
  cur : Option Commit := none
  hierQ : List HierWrite := []
  redo : List HierWrite := []
  owed : List HierWrite := []
  waiting : Option (Nat × Origin × Bool) := none
  faults : List FaultRec := []
  meter : MeterRec := {}
  meterNext : Option MeterRec := none
  pool : List PoolRec := []
  power : List PowerRec := []
  keys : List KeyRec := []
  deriving DecidableEq, Repr

/-! ### Composing port (16_composing_port.md) -/

/-- What a running command waits for before its result is known. -/
inductive Wait where
  | ready
  | commit
  | fence (isl : Nat)
  | unfence (isl : Nat)
  | power (dom : Nat)
  | width (port : Nat)
  | release (handle : Nat)
  | revoke (imprint : Nat)
  | lease (handle : Nat)
  | dma
  deriving DecidableEq, Repr

/-- A command between acceptance and DONE. `result` holds the code and the return words once they are known; `discard`
says that its issuer's reset took effect while it ran (R716), `reads` counts DMA reads not yet issued (R281). -/
structure Running where
  host : Nat
  opcode : Nat
  token : Nat
  args : List Nat
  since : Nat
  reads : Nat := 0
  wait : Wait := .ready
  result : Option (Nat × List Nat) := none
  image : Option Image := none
  blob : Option KeyBlob := none
  discard : Bool := false
  deriving DecidableEq, Repr

/-- A running proof: its handle, target and what it stopped (R726). -/
structure Proof where
  handle : Nat
  typ : Nat
  target : Nat
  param : Nat
  deriving DecidableEq, Repr

/-- The composing port: the running command, a reset that an accepted DEV_RESET asked for, proofs, and lock releases that
wait for the running command (R716). -/
structure Port where
  running : Option Running := none
  resetAt : Option Nat := none
  lockDrop : Bool := false
  proofs : List Proof := []
  deriving DecidableEq, Repr

/-! ### Hosts and devices (06_host_and_device_ports.md) -/

/-- A memory BAR of a device where the switch placed it (R782). -/
structure Placed where
  rid : Nat
  index : Nat
  vf : Bool
  size : Nat
  base : Option Nat
  deriving DecidableEq, Repr

/-- A device that the switch has enumerated on a device port. -/
structure Device where
  port : Nat
  fns : List DevFn
  bars : List Placed := []
  deriving DecidableEq, Repr

/-- A tag of a management endpoint's DMA engine: outstanding, or in quarantine with the instant it leaves at the latest
(R281 to R285). -/
structure DmaTag where
  host : Nat
  tag : Nat
  quarantined : Bool := false
  due : Nat
  deriving DecidableEq, Repr

/-- The transmit side of a host or device port's flit link (R744). -/
structure FlitTx where
  port : Nat
  unacked : List Nat := []
  next : Nat := 0
  lastAdv : Nat := 0
  deriving DecidableEq, Repr

/-- A synchronised pattern checker (R214): its lane, the register that it expects the next bits from, the bits that it has met since it
synchronised, and the places of the errors among the latest 1,024 of them. -/
structure Checker where
  lane : Nat
  reg : Nat
  met : Nat := 0
  errs : List Nat := []
  deriving DecidableEq, Repr

/-- Links, devices and virtual hierarchies. `vregs` holds the virtual configuration registers that differ from their
reset values; `msix` the words of the hosts' MSI-X tables (host · 256 + word) that differ from theirs, `pba` the pending bits by host;
`quiet` the ports in L1; `follow` the Loopback followers;
`prbs` the running checked-bit count of a lane's checker (lane, instant from which it counts, bits before it), `checkers` the synchronised
checkers, `gens` the registers of running pattern generators, `injecting` the lanes whose rate injection runs with the instant of the next
inverted bit and what is left over of a nanosecond, `asleep` the
instant from which a direction sleeps (2 · lane, plus 1 for the receiver), `wide` the ports that have trained wider than x1 (R25), `limits` and `readLimits` the Max Payload Size and the Max Read Request Size of device
ports (R226), `removed` host address ranges of removed assignments (R270), `ideKeys` and `ideMem` the keys of the ports' IDE streams, for
PCIe and CXL.io and for CXL.mem (R259, R266). -/
structure Links where
  perstLow : List Nat := []
  training : List Nat := []
  quiet : List Nat := []
  follow : List Nat := []
  ideKeys : List (Nat × Nat) := []
  devices : List Device := []
  vregs : List (VKey × Nat) := []
  msix : List (Nat × Nat) := []
  pba : List (Nat × Nat) := []
  dma : List DmaTag := []
  flits : List FlitTx := []
  trainedEye : List (Nat × Nat) := []
  prbs : List (Nat × Nat × Nat) := []
  checkers : List Checker := []
  gens : List (Nat × Nat) := []
  injecting : List (Nat × Nat × Nat) := []
  asleep : List (Nat × Nat) := []
  wide : List Nat := []
  limits : List (Nat × Nat) := []
  readLimits : List (Nat × Nat) := []
  cxlEvents : List (Nat × Nat × Bool) := []
  ideMem : List (Nat × Nat) := []
  removed : List (Nat × Nat × Nat) := []
  deriving DecidableEq, Repr

/-! ### Packets, queues, arbiters (09, 10) -/

/-- A queue (R421): an ingress queue of a logical port, lane PC 0 or NP 1, destination (port, or 128 + stack) and class;
or an egress queue of a logical port and class. -/
inductive QId where
  | ingress (port lane dest tc : Nat)
  | egress (port tc : Nat)
  deriving DecidableEq, Repr

/-- The numbering of queues by which commands name them. -/
def QId.code : QId → Nat
  | .ingress p l d t => ((p * 2 + l) * 132 + d) * 8 + t
  | .egress p t => 270336 + p * 8 + t

/-- Whether a queue is an egress queue of port `p`. -/
def QId.isEgress (p : Nat) : QId → Bool
  | .ingress _ _ _ _ => false
  | .egress e _ => e == p

/-- The queue with a number. -/
def QId.ofNat (n : Nat) : QId :=
  if n < 270336 then .ingress (n / 2112) (n / 1056 % 2) (n / 8 % 132) (n % 8)
  else .egress ((n - 270336) / 8) ((n - 270336) % 8)

/-- Where a packet is: in its queue's shared part, in the galley store, held against its port's reserve (R436), past its
last quad grant in the spine, arrived at the egress quad, at its memory cipher island, or, in the shared part, waiting
for its sealed read-modify-writes (R401). -/
inductive Place where
  | shared
  | galley
  | blocked
  | spine
  | arrived
  | cipher
  | rmw
  deriving DecidableEq, Repr

/-- Posted request, non-posted request or completion. -/
inductive PClass where
  | posted
  | nonposted
  | completion
  deriving DecidableEq, Repr

/-- A packet inside the switch with its lookup result (R373). `granted` and `passed` count the transfers that its quad
arbiter and its spine arbiter have granted; `outId` is its outstanding request record; `key` the galley key reference
it was spilled under, `fill` the fill count of its first page (R570) and `pages` its galley pages; `merged` says that its
read-modify-writes are over (R401), `hold` that a pool read waits under R535; `cid` is the completer ID of a completion (R250), `flip` and `storeFlip` the
check bits that an injection inverted in its buffer cells and in its galley lines (R657). DESIGN CHOICE: log entry 109. -/
structure Pkt where
  id : Nat
  req : Req
  cls : PClass
  status : CplStatus := .sc
  imprint : Option Nat := none
  sub : Option Nat := none
  domain : Nat := 4095
  sealed : Bool := false
  gen : Nat := 0
  p2p : Bool := false
  kind : Nat := 0
  destA : Nat := 0
  destB : Nat := 0
  addr : Nat := 0
  epoch : Nat := 0
  quad : Option Nat := none
  dest : Nat := 0
  fab : Option FabPkt := none
  outId : Option Nat := none
  cells : Nat := 1
  q : QId
  place : Place := .shared
  granted : Nat := 0
  passed : Nat := 0
  route : Nat := 0
  enq : Nat := 0
  key : KeyRef := .transit
  fill : Nat := 0
  pages : List Nat := []
  dead : Bool := false
  spilled : Bool := false
  merged : Bool := false
  waited : Bool := false
  hold : Bool := false
  sample : Option Nat := none
  cid : Nat := 0
  flip : Nat := 0
  storeFlip : Nat := 0
  deriving DecidableEq, Repr

/-- A queue's state beyond its packets: SPILL or NORMAL (R431), its spine island and sub-channel (R425), admission
(R437), the galley page that it fills and the cells used in it (R430). -/
structure Queue where
  spill : Bool := false
  bind : Nat := 0
  taking : Bool := true
  lastPage : Option Nat := none
  lastUsed : Nat := 0
  deriving DecidableEq, Repr

/-- An outstanding non-posted request (R29, R229): who asked, where it went, what has come back (offset and bytes, and the
offsets of poisoned bytes, R227, R534, R653; `pre` is the header content that its latest completion carries, R254). `port` is the port or 128 + stack it was forwarded to, `reqId` the requester ID that a host used (R248), `bounds` the offsets at
which its pieces end, `fails` the offsets at which a piece failed, `answered` that its answer has ended with a failure while other pieces
are still due. -/
structure OutReq where
  id : Nat
  src : Source
  tag : Nat
  inPort : Nat
  port : Nat
  rid : Nat
  kind : ReqKind
  addr : Nat
  len : Nat
  got : List (Nat × List Byte) := []
  imprint : Option Nat := none
  sub : Option Nat := none
  tc : Nat := 0
  quad : Option Nat := none
  sealed : Bool := false
  gen : Nat := 0
  sent : Bool := false
  due : Option Nat := none
  ts : Nat := 0
  pieces : Nat := 1
  poisonAt : List Nat := []
  key : Option KeyRef := none
  reqId : Nat := 0
  bounds : List Nat := []
  fails : List (Nat × CplStatus) := []
  pre : List Nat := []
  answered : Bool := false
  deriving DecidableEq, Repr

/-- A transit record of a fabric port (R344). -/
structure Transit where
  id : Nat
  port : Nat
  rid : Nat
  tag : Nat
  srcSw : Nat
  srcPort : Nat
  due : Nat
  tc : Nat := 0
  origin : Option Nat := none
  deriving DecidableEq, Repr

/-- A partial write through a sealed window that reads its line (R401): the packet, the device-side line address, the
quad, and whether its read has returned. -/
structure SealRmw where
  pkt : Nat
  port : Nat
  line : Nat
  quad : Nat
  ready : Bool := false
  tag : Nat := 0
  deriving DecidableEq, Repr

/-- An arbiter (R446): LFSR, pointers, loss counts, forced flags. DESIGN CHOICE: log entry 118. -/
structure Arb where
  lfsr : Nat
  urgentPtr : Nat := 0
  forcedPtr : Nat := 0
  loss : List Nat
  forced : List Bool
  deriving DecidableEq, Repr

/-- A policer's buckets in 1/8000 bytes, and the time of its latest packet (R480). -/
structure PolBucket where
  tc : Nat
  tp : Nat
  last : Nat
  deriving DecidableEq, Repr

/-- Quads, spine, schedulers. `spineQ` lists the 128-byte transfers that stand in the spine's input buffers, oldest first,
by packet; `tokens` holds shaper balances in 1/1,024 byte that differ from a full bucket; `frac` the
refill remainder carried forward, `stepAt` the instant of a shaper's latest refill step. -/
structure Traffic where
  pkts : List Pkt := []
  queues : List (QId × Queue) := []
  outs : List OutReq := []
  transits : List Transit := []
  nextId : Nat := 0
  seals : List SealRmw := []
  spineQ : List Nat := []
  arbs : List (ArbId × Arb) := []
  arbSeed : List (Nat × Nat) := []
  fills : List (Nat × Nat) := []
  tokens : List (ShaperId × Int) := []
  frac : List (ShaperId × Nat) := []
  stepAt : List (ShaperId × Nat) := []
  pols : List (Nat × PolBucket) := []
  drr : List (Nat × Nat × List Nat) := []
  gateFrom : List (Nat × Nat) := []
  guardNew : List (Nat × Nat) := []
  policyOld : Option (Nat × List RegCell × List (Nat × PolBucket)) := none
  buckets : List (Nat × Nat × Nat) := []
  lastBucket : List (Nat × Nat) := []
  deriving DecidableEq, Repr

/-! ### Pool and keys (11, 12) -/

/-- A lease (R515 to R518). -/
structure Lease where
  handle : Nat
  imprint : Nat
  host : Nat
  slot : Nat
  count : Nat
  epoch : Nat
  readOnly : Bool
  sub : Nat
  gen : Nat
  sheets : List Nat
  live : Bool := false
  tc : Nat := 0
  deriving DecidableEq, Repr

/-- What a line of the pool was last written under: key reference, lease epoch of its tweak, poison mark (R653), an
uncorrectable error and a correctable one that stand in it (R539, R657). -/
structure LineTag where
  key : KeyRef
  epoch : Nat
  poison : Bool := false
  ue : Bool := false
  corr : Bool := false
  deriving DecidableEq, Repr

/-- The memory pool: leases, granules whose written-line bit is set (stack · 2^24 + number), fills in progress, the bytes
in clear by pool physical address (an unlisted byte is zero), line tags, packets whose read-modify-writes run with the lines that they
lock, corrected errors (stack, row, time), remapped rows (stack, row, bank), rows that are being copied. -/
structure Pool where
  leases : List Lease := []
  granules : List Nat := []
  filling : List (Nat × Nat) := []
  mem : List Host.Cell := []
  lines : List (Nat × LineTag) := []
  rmw : List (Nat × Nat) := []
  rowErrs : List (Nat × Nat × Nat) := []
  remaps : List (Nat × Nat × Nat) := []
  copying : List (Nat × Nat) := []
  deriving DecidableEq, Repr

/-- A running revocation (R576 to R581). -/
structure Revocation where
  imprint : Nat
  handle : Option Nat
  refs : List KeyRef
  tf : Option Nat := none
  destroyed : List KeyRef := []
  swept : Bool := false
  deriving DecidableEq, Repr

/-- A held response of the reporter (R590). -/
structure HeldResp where
  who : Requester
  body : List Nat
  since : Nat
  deriving DecidableEq, Repr

/-- A report request waiting (R591). -/
structure ReportReq where
  who : Requester
  typ : Nat
  imprint : Nat
  nonce : Nat
  deriving DecidableEq, Repr

/-- The Baldon core's keys: owner key material, import nonces, when each key entered its slot, key store
entries that wait for redelivery or were written with inverted check bits (`flips`, R657), revocations, report queue, held responses. -/
structure Keys where
  owner : List (Nat × Nat) := []
  nonces : List (Nat × Nat) := []
  since : List (Nat × Nat) := []
  redeliver : List (Nat × KeyRef) := []
  flips : List (Nat × KeyRef) := []
  dead : List KeyRef := []
  revs : List Revocation := []
  reports : List ReportReq := []
  held : List HeldResp := []
  deriving DecidableEq, Repr

/-! ### Durriha links (07_durriha_link.md) -/

/-- A pending width change of one direction of a fabric port; `ready` says that WIDTH_READY has gone out for it (R338). -/
structure WidthChange where
  mask : Nat
  widening : Bool
  since : Nat
  byCommand : Bool := false
  ready : Bool := false
  deriving DecidableEq, Repr

/-- A DATA folio kept for replay: its SEQ, the tile whose buffer keeps it (R316), its FHP and its data area, and the packets whose headers
stand in it (R297, R321). -/
structure FolioCopy where
  seq : Nat
  tile : Nat := 0
  fhp : Nat := 0
  area : List Byte := []
  pkts : List FabPkt := []
  deriving DecidableEq, Repr

/-- The data link of a fabric port: sequence state, replay buffer, NAK episode, credits per channel and kind, partly
received packet, packets in the receive buffer and those of a former link (`left`), packets held against the port's reserve whose credits are
not freed yet (first number, number after the last, channel, LEN), width changes, timers; the link commands that wait for room in the replay
buffer, the channel whose credits go out next, folios sent since the latest ALIGN mark, a replay that is due (by NAK). Of training: the lanes
that are usable here (`lanes`), those that the link trained on (`usable`) and those that have failed since, the good folios in a row that a state's
exit counts, what the partner's TRAIN folios say, the PING sent last and the one received last, the instants of those that have not come
back, and the least round trip (R314). -/
structure Dlink where
  port : Nat
  oldest : Nat := 0
  nextTx : Nat := 0
  nextRx : Nat := 0
  replay : List FolioCopy := []
  episode : Bool := false
  lastAdv : Nat := 0
  replays : Nat := 0
  lastNak : Option (Nat × Nat) := none
  badRun : Nat := 0
  lostAt : Option Nat := none
  goodAt : Nat := 0
  consHdr : List Nat := []
  consData : List Nat := []
  limHdr : List Nat := []
  limData : List Nat := []
  advHdr : List Nat := []
  advData : List Nat := []
  freedHdr : List Nat := []
  freedData : List Nat := []
  usedHdr : List Nat := []
  usedData : List Nat := []
  partly : Option (FabPkt × List Byte × Nat) := none
  inbox : List FabPkt := []
  left : List FabPkt := []
  owed : List (Nat × Nat × Nat × Nat) := []
  chTx : Option WidthChange := none
  chRx : Option WidthChange := none
  usable : Nat := 0
  failed : Nat := 0
  cmdQ : List Nat := []
  crTurn : Nat := 0
  sent : Nat := 0
  due : Bool := false
  lanes : Nat := 0
  run : Nat := 0
  heard : Option TrainInfo := none
  pings : List (Nat × Nat) := []
  rtt : Option Nat := none
  ping : Nat := 0
  echo : Nat := 0
  retryAt : Option Nat := none
  deriving DecidableEq, Repr

/-! ### Faults (14_faults_and_containment.md) -/

/-- An injection armed by FLT_INJECT.GO (R657). -/
structure Armed where
  source : Nat
  target : Nat
  mode : Nat
  deriving DecidableEq, Repr

/-- The collector beyond its registers: reports on their way and, by source, reports that are only counted (R632), causes present (source, kind, scope), the severity that
the latest report of a source gave itself, expiry of running escalation entries, releases in progress (FLT_FUNC index, instant). -/
structure Faults where
  reportQ : List Report := []
  counted : List (Nat × Nat) := []
  causes : List Report := []
  lastSev : List (Nat × Nat) := []
  expiry : List (Nat × Nat) := []
  releases : List (Nat × Nat) := []
  armed : Option Armed := none
  deriving DecidableEq, Repr

/-! ### Slot power (15_slot_power.md) -/

/-- A channel of the slot-power die beyond its registers: the active profile's values (`prof`, in the order of `profNums`),
instants of its timers, breaker counters and sub-counters, check windows, the two steps of a clearing sequence of R686,
the causes of its latches that are still to be reported (R695). -/
structure Chan where
  k : Nat
  prof : List Nat := []
  debounceAt : Option Nat := none
  settleAt : Option Nat := none
  stateAt : Nat := 0
  sampleAt : Nat := 0
  cnt : List Nat := []
  sub : List Nat := []
  inrushRef : Option (Nat × Nat) := none
  gateSeen : Bool := false
  rampV : Option Nat := none
  vgsLow : Option Nat := none
  lowV : Option Nat := none
  fetAt : Option Nat := none
  capI : Nat := 0
  capV : Nat := 0
  capN : Nat := 0
  enLow : Bool := false
  pinLow : Bool := false
  missed : List Nat := []
  deriving DecidableEq, Repr

/-! ### Metering and telemetry (13) -/

/-- The counters of one imprint, or of the device record (imprint none), in one interval (R596); `wins` holds the request and completion
bytes of peak windows by number (R602). -/
structure MetRec where
  imprint : Option Nat
  reqBytes : List Nat := [0, 0, 0, 0, 0, 0, 0, 0]
  reqTxn : List Nat := [0, 0, 0, 0, 0, 0, 0, 0]
  cplBytes : List Nat := [0, 0, 0, 0, 0, 0, 0, 0]
  cplTxn : List Nat := [0, 0, 0, 0, 0, 0, 0, 0]
  sheetUs : Nat := 0
  funcUs : Nat := 0
  peakReq : Nat := 0
  peakCpl : Nat := 0
  wins : List (Nat × Nat × Nat) := []
  refused : Nat := 0
  dropped : Nat := 0
  synth : Nat := 0
  late : Nat := 0
  quarantined : Bool := false
  revoked : Bool := false
  deriving DecidableEq, Repr

/-- A batch (R607, R608). `plan` is the metering plan in force as its interval closed (R606); `digest` is none until it is
signed. -/
structure Batch where
  flags : Nat
  seq : Nat := 0
  start : Nat
  stop : Nat
  bootId : Nat
  epoch : Nat
  plan : MeterRec
  prev : Nat := 0
  records : List MetRec
  digest : Option Nat := none
  sig : Nat := 0
  deriving DecidableEq, Repr

/-- A span that SHEET_US or FUNC_US counts (R601): imprint, weight, first µs, and its end once it has ended. -/
structure Span where
  imprint : Nat
  sheet : Bool
  weight : Nat
  key : Nat
  start : Nat
  stop : Option Nat := none
  deriving DecidableEq, Repr

/-- A transaction sample (R627). -/
structure Sample where
  seq : Nat
  hdr : Nat
  addr : Nat
  ingress : Nat
  egress : Nat
  imprint : Nat
  domain : Nat
  inPort : Nat
  dest : Nat
  outcome : Nat
  epoch : Nat
  deriving DecidableEq, Repr

/-- Metering, counters and sampling. `recQ` holds the counting records that are still crossing, `recHeld` those that their senders
hold while the metering island's crossings are closed (R45), `sampPend` samples whose
outcome is known but whose entry is not written (selection number, sample), `winOld` the peak window of the interval whose bank still
closes, `running` says that an interval is open (R603). Of a running snapshot `snapSet` lists the counters in the order in which the
reader copies them, `snapKept` the copies that a later event would have changed: counter, value, state of its island (R623). -/
structure Meter where
  running : Bool := false
  recQ : List CountRec := []
  recHeld : List CountRec := []
  opened : List MetRec := []
  closing : Option (List MetRec × Nat × Nat) := none
  start : Nat := 0
  nextEnd : Nat := 0
  spans : List Span := []
  batches : List Batch := []
  prev : Nat := 0
  nextSeq : Nat := 0
  bootId : Nat := 0
  gap : Bool := true
  chainStart : Bool := true
  winAt : Nat := 0
  winOld : Nat := 1000
  ctrs : List (Nat × Nat) := []
  snapAt : Option Nat := none
  snapSet : List Nat := []
  snapKept : List (Nat × Nat × Nat) := []
  matched : Nat := 0
  selected : Nat := 0
  sampPend : List (Nat × Sample) := []
  samples : List Sample := []
  sampOld : Nat := 0
  merged : Bool := false
  deriving DecidableEq, Repr

/-! ### Outputs -/

/-- What the last command made the block send: completions to a requester or on the device side, interrupts, messages,
configuration completions, forwarded requests, packets, folios (as symbols by lane of a mask) and mark blocks of a link, pins. The model's own field.
DESIGN CHOICE: log entry 11. -/
inductive Output where
  | cpl (src : Source) (tag : Nat) (status : CplStatus) (data : List Byte) (poison : Bool)
  | returned (src : Source) (rid cid tag : Nat) (status : CplStatus) (data : List Byte) (poison : Bool) (pre : List Nat)
  | lineRead (port rid tag addr : Nat)
  | mailbox (host : Nat) (supported : Bool) (body : List Nat)
  | ats (toHost : Bool) (host port rid : Nat) (kind : AtsKind) (pre : List Nat)
  | cfg (host : Nat) (status : CplStatus) (value : Nat)
  | forward (port rid : Nat) (what : String)
  | message (host : Nat) (what : String)
  | msg (toHost : Bool) (host port rid : Nat) (pre : List Nat)
  | reply (who : Requester) (status : Nat) (body : List Nat)
  | sent (port rid : Nat) (pkt : Pkt)
  | folio (port mask : Nat) (lanes : List (List Nat))
  | mark (port lanes : Nat) (block : List Byte)
  | ctl (port : Nat) (what : String) (arg mask : Nat)
  | vector (host n : Nat)
  | time (port : Nat) (t : Nat)
  | read (value : Nat)
  | ledger (host addr : Nat) (bytes : List Nat)
  | headWord (host addr : Nat) (bytes : List Nat)
  deriving DecidableEq, Repr

/-! ### The state -/

/-- The whole block. `regs` lists the register fields that do not hold their reset values; `staged` the SH fields written
since the latest commit of their scope, with their staged values (R96); `pending` the commands that wait, first in,
first out; `now` the nanoseconds since the model's origin; `draws` the count of random values drawn.
DESIGN CHOICE: log entry 59. -/
structure State where
  pending : List Instr := []
  now : Nat := 0
  draws : Nat := 0
  out : List Output := []
  regs : List RegCell := []
  staged : List RegCell := []
  flash : Flash := {}
  part : Part := {}
  boot : Boot := {}
  isl : Islands := {}
  com : Commits := {}
  port : Port := {}
  link : Links := {}
  tr : Traffic := {}
  pool : Pool := {}
  keys : Keys := {}
  dl : List Dlink := []
  flt : Faults := {}
  chan : List Chan := []
  met : Meter := {}
  deriving DecidableEq, Repr

/-- The block right after a cold reset, with PWROK still low: every register at its reset value (R10), flash as from the
factory (R150), the slot-power die's channels OFF, and PERST_N of every host port low (R769). DESIGN CHOICE: log entry 2.
DEDUCED: log entry 62. -/
def State.reset : State := { link := { perstLow := List.range 32 } }

end Sys2Proof.Machine
end

