-- ==== Sys2Proof/Machine/Layout.lean ====
section
/-! DEFINITION. The bytes of images, of firmware bundles, of the signature block and of key blobs (R75 to R79, R179 to R181, R288, R290, R377, R452,
R500, R502, R512, R557, R561, R613, R659, R668, R776): every multi-byte value little-endian (R6), every byte that no table lists zero. -/

namespace Sys2Proof.Machine

/-- `n` little-endian bytes of a number (R6). -/
def bytesOf (n v : Nat) : List Nat := (leBytes n v).map (·.toNat)

/-- `n` zero bytes. -/
def zeros (n : Nat) : List Nat := List.replicate n 0

/-- The bytes of a name. -/
def ascii (s : String) : List Nat := s.toList.map (·.toNat)

/-- A flags byte, bit 0 first. -/
def flagsByte : List Bool → Nat
  | [] => 0
  | b :: bs => flag b + 2 * flagsByte bs

/-! ### Section bodies -/

/-- A port slot (R180). -/
def lanePortBytes (p : LanePort) : List Nat :=
  [p.maxRate, flagsByte [p.revForce, p.revVal, p.eqLock, p.feAllow], p.preset, p.presetQ]

/-- A tile entry (R179). -/
def laneTileBytes (t : LaneTile) : List Nat :=
  [t.tile, t.mode, t.txInv, t.rxPolForce, t.rxPolVal] ++ zeros 11 ++ ((t.ports.flatMap lanePortBytes) ++ zeros 16).take 16

/-- A PORTS entry (R288). -/
def portBytes (r : PortRec) : List Nat :=
  [r.tile, r.slot, r.role, r.hostIndex, r.channel, flagsByte [r.operator, r.cxl, r.ideRequired], r.bar2Log2] ++ zeros 9

/-- A HIERARCHY entry (R290). -/
def hierBytes (r : HierRec) : List Nat :=
  [r.host, r.vdsp, r.kind, r.op, r.devTile, r.devSlot, r.pf, 0] ++ bytesOf 2 r.vfFirst ++ bytesOf 2 r.vfCount ++ bytesOf 2 r.imprint ++ zeros 2

/-- A POWER record (R776). -/
def powerBytes (r : PowerRec) : List Nat := [r.island, r.state, flag r.stopOk, 0] ++ bytesOf 2 r.idleUs ++ zeros 2

/-- A POOL record (R512). -/
def poolBytes (r : PoolRec) : List Nat :=
  [r.typ, r.interleave] ++ bytesOf 2 r.galleySheets ++
  (if r.typ == 3 then bytesOf 2 r.imprint ++ bytesOf 2 r.maxSheets else bytesOf 2 r.first ++ bytesOf 2 r.last) ++ zeros 8

/-- An IMPOSITION record (R377). -/
def impBytes (r : ImpRec) : List Nat := [r.typ, r.op, r.part, 0] ++ bytesOf 4 r.index ++ bytesOf 8 r.aux ++ bytesOf 16 r.payload

/-- An ARBITER record (R452). -/
def arbBytes (r : ArbRec) : List Nat := [r.quad, flag r.urgentOk] ++ bytesOf 2 r.imprint ++ bytesOf 2 r.tickets ++ [r.op, 0]

/-- A SHAPING record (R500). -/
def shapeBytes (r : ShapeRec) : List Nat := [r.typ, r.op, r.quad, 0] ++ bytesOf 4 r.index ++ bytesOf 16 r.payload

/-- A GATES record (R502). -/
def gateBytes (r : GateRec) : List Nat :=
  if r.typ == 1 then [1, r.op, r.port, r.leadin] ++ bytesOf 2 r.entryCount ++ zeros 2 ++ bytesOf 4 r.cycle ++ zeros 4 ++ bytesOf 8 r.base
  else [r.typ, r.op, r.port, r.index, r.gates, 0] ++ zeros 2 ++ bytesOf 4 r.interval ++ zeros 12

/-- A KEYS record (R557). -/
def keyBytes (r : KeyRec) : List Nat :=
  if r.typ == 1 then [1, r.policy] ++ bytesOf 2 r.first ++ bytesOf 2 r.last ++ zeros 2 else [r.typ, r.slot] ++ zeros 6

/-- A FAULTS record (R659). -/
def faultBytes (r : FaultRec) : List Nat :=
  if r.typ == 1 then [1, r.op, r.notifyMin, 0] ++ bytesOf 4 r.tS2 ++ bytesOf 4 r.tS3 ++ bytesOf 2 r.devCto ++ bytesOf 2 r.hostCto
  else [r.typ, r.op, r.source, r.severity] ++ bytesOf 4 r.timer ++ [flag r.quiet] ++ zeros 7

/-- A SLOTPOWER record (R668). -/
def slotBytes (r : SlotRec) : List Nat := [r.typ, r.op, r.index] ++ zeros 13 ++ ((r.words.flatMap (bytesOf 4)) ++ zeros 64).take 64

/-- The METERING record (R613). -/
def meterBytes (m : MeterRec) : List Nat :=
  [1, m.tickS, m.billing, 0] ++ bytesOf 2 m.peakWindow ++ bytesOf 2 m.ringSlots ++ bytesOf 8 m.ringBase ++ bytesOf 8 m.headAddr ++ zeros 8

/-- The records of a section and the size of one. The global entries of LANES and PORTS come last (R181, R288). DEDUCED: log
entry 156. -/
def sectionRecs (im : Image) (id : Nat) : Nat × List (List Nat) :=
  match id with
  | 1 => (32, im.laneTiles.map laneTileBytes ++ im.refSsc.map (fun b => [0xFF, flag b] ++ zeros 30))
  | 2 => (16, im.ports.map portBytes ++ im.signedOnly.map (fun b => [0xFF, 0, 0, 0xFF, 0xFF, flag b, 0] ++ zeros 9))
  | 3 => (16, im.hier.map hierBytes)
  | 4 => (8, im.power.map powerBytes)
  | 5 => (16, im.pool.map poolBytes)
  | 6 => (32, im.imp.map impBytes)
  | 7 => (8, im.arb.map arbBytes)
  | 8 => (24, im.shape.map shapeBytes)
  | 9 => (24, im.gates.map gateBytes)
  | 10 => (8, im.keys.map keyBytes)
  | 11 => (16, im.flts.map faultBytes)
  | 12 => (80, im.slots.map slotBytes)
  | _ => (32, im.meter.map meterBytes)

/-- A section's body: its 16-byte header and its records (R80). -/
def sectionBytes (im : Image) (id : Nat) : List Nat :=
  let (size, l) := sectionRecs im id
  bytesOf 4 l.length ++ bytesOf 4 size ++ zeros 8 ++ l.flatten

/-! ### Images -/

/-- The image header (R75). -/
def imageHeader (im : Image) : List Nat :=
  bytesOf 4 im.magic ++ bytesOf 2 im.format ++ bytesOf 2 im.hdrLen ++ bytesOf 2 im.deviceId ++ bytesOf 2 im.steppingMask ++ bytesOf 4 im.imageLen ++
  bytesOf 4 im.rollbackVer ++ bytesOf 4 im.amendSeq ++ bytesOf 2 im.sectionCount ++ [im.signer] ++ zeros 5 ++ bytesOf 8 im.buildId ++ zeros 24 ++
  bytesOf 64 im.baseDigest

/-- A directory entry (R76). -/
def dirBytes (e : DirEntry) : List Nat := bytesOf 2 e.id ++ bytesOf 2 e.fmt ++ bytesOf 4 e.flags ++ bytesOf 4 e.offset ++ bytesOf 4 e.length

/-- `l` with bytes put at an offset. -/
def putAt (l : List Nat) (at_ : Nat) (bs : List Nat) : List Nat := l.take at_ ++ bs ++ l.drop (at_ + bs.length)

/-- Bytes 0 to IMAGE_LEN − 4,641: everything before the signature block (R74, R78). -/
def imageBody (im : Image) : List Nat :=
  im.dir.foldl (fun l e => putAt l e.offset (sectionBytes im e.id)) ((imageHeader im ++ im.dir.flatMap dirBytes ++ zeros im.sigOffset).take im.sigOffset)

/-- The image digest (R78). -/
def imageDigest (im : Image) : Nat := Config.digest (imageBody im)

/-- The 64-byte header of a firmware bundle (R154). -/
def fwHeader (f : FwBundle) : List Nat := bytesOf 4 f.magic ++ bytesOf 4 f.version ++ zeros 56

/-- The little-endian word at a byte offset of a bundle header (R6). -/
def fwWord (f : FwBundle) (n : Nat) : Nat := ((fwHeader f).drop n).take 4 |>.foldr (fun b v => b + 256 * v) 0

/-- Bytes 0x00 to 0x03 of a bundle hold the magic (R154). -/
def fwMagicOk (f : FwBundle) : Bool := fwWord f 0 == 0x42464C48

/-- The bundle version, bytes 0x04 to 0x07 (R154). -/
def fwVersion (f : FwBundle) : Nat := fwWord f 4

/-- A signature block of a system key: length, slot, signature over a digest (R79, R587, R610). -/
def signatureBlock (key slot digest : Nat) : List Nat :=
  bytesOf 2 4627 ++ [slot] ++ zeros 5 ++ bytesOf 4627 (Config.signature key digest) ++ zeros 5

/-! ### Keys (R556, R567, R569) -/

/-- The seed or secret of a system key slot (R556). -/
def State.sysKey (s : State) (slot : Nat) : Nat :=
  let k := fun key x n => Config.kmac256 (bytesOf 32 key) x n (ascii "HLD-9256")
  let dev := k s.part.uds (ascii "HLD-DEVID") 256
  match slot with
  | 0 => dev
  | 1 => k dev (ascii "HLD-ALIAS" ++ bytesOf 64 s.boot.fwSup ++ bytesOf 64 s.boot.fwBal) 256
  | 2 => k s.part.uds (ascii "HLD-METER") 256
  | 3 => k s.part.uds (ascii "HLD-KEX") 512
  | 4 => k s.part.uds (ascii "HLD-LINK") 256
  | _ => k s.part.uds (ascii "HLD-TRANSIT") 256

/-- A 512-bit data key of XTS; where its halves are equal, it is derived again from a longer input (R567). -/
def xtsKey (key : Nat) (x : List Nat) : Nat :=
  let k := fun x => Config.kmac256 (bytesOf 32 key) x 512 (ascii "HLD-9256")
  if k x % 2 ^ 256 = k x / 2 ^ 256 % 2 ^ 256 then k (x ++ [1]) else k x

/-- The data key of a key reference (R567). -/
def State.dataKey (s : State) (r : KeyRef) : Nat :=
  let owner := fun i => (Sparse.get? s.keys.owner i).getD 0
  match r with
  | .sheet h epoch i g => xtsKey (owner i) (ascii "HLD-SHEET" ++ bytesOf 8 epoch ++ bytesOf 2 h ++ [g])
  | .seal i g => xtsKey (owner i) (ascii "HLD-SEAL" ++ [g])
  | .galley i g => xtsKey (owner i) (ascii "HLD-GALLEY" ++ [g] ++ bytesOf 32 s.boot.bootNonce)
  | .transit => xtsKey (s.sysKey 5) (ascii "HLD-TRANSIT" ++ bytesOf 32 s.boot.bootNonce)

/-- The tweak of a line of the pool (R528, R569). -/
def poolTweak (line epoch : Nat) : Nat := line % 2 ^ 32 + epoch % 2 ^ 64 * 2 ^ 32

/-! ### Key-import blobs (R561, R562) -/

/-- Bytes 0x000 to 0x01F of an import blob. -/
def blobHead (b : KeyBlob) : List Nat :=
  bytesOf 4 b.magic ++ bytesOf 2 b.version ++ bytesOf 2 b.imprint ++ bytesOf 8 b.kexId ++ bytesOf 16 b.nonce

/-- Bytes 0 to 7 of SHA3-512 of the device's encapsulation key, as a number (R561). -/
def State.kexId (s : State) : Nat := Config.digest (bytesOf 1568 (Config.encapsKey (s.sysKey 3))) % 2 ^ 64

/-- The key-encryption key of a blob (R562). -/
def State.kek (s : State) (b : KeyBlob) : Nat :=
  Config.kmac256 (bytesOf 32 (Config.decapsulate (s.sysKey 3) b.kemCt)) (blobHead b) 256 (ascii "HLD-KEK")

end Sys2Proof.Machine
end

