-- ==== Sys2Proof/Machine/Ops.lean ====
section
/-! DEFINITION. Named operations that every family of commands shares: the register file, times, outputs, random
draws, the topology that the running forme gives, fault reports, counting records. -/

namespace Sys2Proof.Machine

/-! ### Registers -/

/-- Fabric requester ID of an origin (R353). -/
def fabRid (sw port : Nat) : Nat := (0x40 + sw) * 256 + port

/-- Bytes of the header of a memory request to an address (R466). PRESUMED: log entry 30. -/
def tlpBase (a : Nat) : Nat := if a < 2 ^ 32 then 12 else 16

/-- Domain `d`'s island (R36). -/
def domIsland (d : Nat) : Nat :=
  if d < 32 then d else if d < 78 then d - 32 else if d < 86 then d - 36 else d - 34

/-- Reset value of a field at an instance: the table's, but for islands 50 and 51 (R71) and a domain's island (R72). -/
def rstVal (f : Fld) (i : Nat) : Nat :=
  match f with
  | .SUP_ISL_STATUS_STATE => if i == 50 || i == 51 then 2 else f.resetVal
  | .SUP_ISL_STATUS_CLK_LOCK => if i == 50 || i == 51 then 1 else f.resetVal
  | .SUP_DOM_STATUS_ISLAND => domIsland i
  | _ => f.resetVal

/-- A field of the register file. DESIGN CHOICE: log entry 7. -/
def rget (l : List RegCell) (f : Fld) (i : Nat) : Nat :=
  match Sparse.get? l ⟨f, i⟩ with
  | some v => v
  | none => rstVal f i

/-- The register file with one field written, truncated to its width. -/
def rset (l : List RegCell) (f : Fld) (i v : Nat) : List RegCell :=
  let w := v % 2 ^ f.width
  if w = rstVal f i then Sparse.erase l ⟨f, i⟩ else Sparse.set RegKey.code l ⟨f, i⟩ w

/-- The active value of field `f` at instance `i`. -/
def State.reg (s : State) (f : Fld) (i : Nat) : Nat := rget s.regs f i

/-- `s` with field `f` of instance `i` holding `v`. -/
def State.setReg (s : State) (f : Fld) (i v : Nat) : State := { s with regs := rset s.regs f i v }

/-- `s` with `n` added to a counter field that saturates at all ones. It goes from one value to the next within one command, so that a read,
in whichever island, meets the value before an increment or the value after it and never another (R46). -/
def State.bump (s : State) (f : Fld) (i : Nat) (n : Nat := 1) : State :=
  s.setReg f i (min (2 ^ f.width - 1) (s.reg f i + n))

/-- A flag field as a Bool. -/
def State.on (s : State) (f : Fld) (i : Nat := 0) : Bool := s.reg f i == 1

/-- `s` with every field of a list written. -/
def State.setRegs (s : State) (l : List (Fld × Nat × Nat)) : State :=
  l.foldl (fun s e => s.setReg e.1 e.2.1 e.2.2) s

/-- The staged copy of an SH field: what was written since the latest commit, else its active value (R97). -/
def State.stagedReg (s : State) (f : Fld) (i : Nat) : Nat :=
  match Sparse.get? s.staged ⟨f, i⟩ with
  | some v => v
  | none => s.reg f i

/-- Writes the staged copy of an SH field; the field counts as changed even when the value is its active one (R96). An
encoding that is not listed leaves it unchanged and does not count (R9). -/
def State.stage (s : State) (f : Fld) (i v : Nat) : State :=
  let w := v % 2 ^ f.width
  if f.listed w then { s with staged := Sparse.set RegKey.code s.staged ⟨f, i⟩ w } else s

/-! ### Sets of numbers -/

/-- `l` with `n` in it once. -/
def addTo (n : Nat) (l : List Nat) : List Nat := if l.contains n then l else l ++ [n]

/-- `l` without `n`. -/
def dropFrom (n : Nat) (l : List Nat) : List Nat := l.filter (fun x => x != n)

/-- Element `n` of a list of numbers, 0 beyond its end. -/
def nth (l : List Nat) (n : Nat) : Nat := (l[n]?).getD 0

/-- `l` with element `n` replaced. -/
def setNth (l : List Nat) (n v : Nat) : List Nat := l.set n v

/-! ### Time, outputs, random values -/

/-- The device time base; 0 while it has not started. -/
def State.dev (s : State) : Nat :=
  match s.boot.timeBase with
  | some b => s.now - b
  | none => 0

/-- The time that the switch records or reports: the device time base, or a bring-up time, which counts again from the start of
a warm reset (R34). -/
def State.time (s : State) : Nat :=
  let up := fun t0 => 2 ^ 63 + (s.now - t0) / 5 * 5
  match s.boot.stage, s.boot.timeBase with
  | .flush t0, _ => up t0
  | _, some b => s.now - b
  | _, none => up s.boot.origin

/-- The clock moved on to an instant of the device time base, never back. -/
def State.atDev (s : State) (t : Nat) : State :=
  match s.boot.timeBase with
  | some b => { s with now := max s.now (b + t) }
  | none => s

/-- The clock moved on to an instant, never back. DESIGN CHOICE: log entry 10. -/
def State.atNow (s : State) (t : Nat) : State := { s with now := max s.now t }

/-- One more output. -/
def State.emit (s : State) (o : Output) : State := { s with out := s.out ++ [o] }

/-- The next random value (R550), and the state after the draw. -/
def State.draw (s : State) : Nat × State := (Config.random s.draws, { s with draws := s.draws + 1 })

/-! ### The running forme's topology (R16 to R28, R365) -/

/-- The LANES entry of a tile. -/
def State.tileRec (s : State) (t : Nat) : Option LaneTile :=
  match s.boot.running with
  | some im => im.laneTiles.find? (fun e => e.tile == t)
  | none => none

/-- The PORTS entries. -/
def State.portRecs (s : State) : List PortRec :=
  match s.boot.running with
  | some im => im.ports
  | none => []

/-- Logical port index of a PORTS entry (R365). -/
def portIx (r : PortRec) : Nat := 4 * r.tile + r.slot

/-- The PORTS entry of a logical port. -/
def State.portRec (s : State) (p : Nat) : Option PortRec := s.portRecs.find? (fun r => portIx r == p)

/-- Role of a logical port: 0 none, HOST 1, DEVICE 2, FABRIC 3. -/
def State.role (s : State) (p : Nat) : Nat :=
  match s.portRec p with
  | some r => r.role
  | none => 0

/-- The logical port of host port index `k`. -/
def State.hostPort (s : State) (k : Nat) : Option Nat :=
  match s.portRecs.find? (fun r => r.role == 1 && r.hostIndex == k) with
  | some r => some (portIx r)
  | none => none

/-- The PORTS entry of host port index `k`. -/
def State.hostRec (s : State) (k : Nat) : Option PortRec :=
  s.portRecs.find? (fun r => r.role == 1 && r.hostIndex == k)

/-- Whether host port `k` is an operator host port. -/
def State.operator (s : State) (k : Nat) : Bool :=
  match s.hostRec k with
  | some r => r.operator
  | none => false

/-- Host port indices of the operator host ports. -/
def State.operators (s : State) : List Nat :=
  (s.portRecs.filter (fun r => r.role == 1 && r.operator)).map (·.hostIndex)

/-- The device port associated with slot-power channel `k` (R28). -/
def State.chanPort (s : State) (k : Nat) : Option Nat :=
  match s.portRecs.find? (fun r => r.role == 2 && r.channel == k) with
  | some r => some (portIx r)
  | none => none

/-- The slot-power channel of a device port. -/
def State.portChan (s : State) (p : Nat) : Option Nat :=
  match s.portRec p with
  | some r => if r.role == 2 && r.channel < 32 then some r.channel else none
  | none => none

/-- Tile lanes of slot `sl` under a bifurcation mode (R17). -/
def modeLanes (mode sl : Nat) : List Nat :=
  match mode, sl with
  | 0, 0 => span 0 7
  | 1, 0 => span 0 3
  | 1, 1 => span 4 7
  | 2, 0 => span 0 3
  | 2, 1 => [4, 5]
  | 2, 2 => [6, 7]
  | 3, 0 => [0, 1]
  | 3, 1 => [2, 3]
  | 3, 2 => [4, 5]
  | 3, 3 => [6, 7]
  | _, _ => []

/-- Physical lanes of a logical port, by port lane; an x16 port has those of its tile pair (R18). -/
def State.lanes (s : State) (p : Nat) : List Nat :=
  match s.tileRec (p / 4) with
  | some t =>
    if t.mode == 4 then (if p % 4 == 0 && p / 4 % 2 == 0 then span (2 * p) (2 * p + 15) else [])
    else (modeLanes t.mode (p % 4)).map (fun j => 8 * (p / 4) + j)
  | none => []

/-- The logical port that a physical lane belongs to. -/
def State.lanePort (s : State) (l : Nat) : Option Nat :=
  (s.portRecs.map portIx).find? (fun p => (s.lanes p).contains l)

/-- The LANES port slot of a logical port. -/
def State.slotRec (s : State) (p : Nat) : Option LanePort :=
  match s.tileRec (p / 4) with
  | some t => t.ports[p % 4]?
  | none => none

/-- Tiles whose lanes a logical port uses. -/
def State.portTiles (s : State) (p : Nat) : List Nat :=
  match s.tileRec (p / 4) with
  | some t => if t.mode == 4 then [p / 4, p / 4 + 1] else [p / 4]
  | none => []

/-- Logical ports with a lane on tile `t`. -/
def State.tilePorts (s : State) (t : Nat) : List Nat :=
  (s.portRecs.map portIx).filter (fun p => (s.portTiles p).contains t)

/-- The quad of a logical port. -/
def quadOf (p : Nat) : Nat := p / 16

/-- SIGNED_ONLY of the PORTS section (R82). -/
def State.signedOnly (s : State) : Bool :=
  match s.boot.running with
  | some im => im.signedOnly == [true]
  | none => false

/-! ### Islands -/

/-- State of island `n`: OFF 0, RESET 1, RUN 2, STOPPED 3, FENCED 4, LOST 5 (R49). -/
def State.islState (s : State) (n : Nat) : Nat := s.reg .SUP_ISL_STATUS_STATE n

/-- Whether island `n` is RUN. -/
def State.running (s : State) (n : Nat) : Bool := s.islState n == 2

/-- Whether island `n`'s registers answer: it is neither OFF nor LOST (R49, R66). -/
def State.regOpen (s : State) (n : Nat) : Bool := s.islState n != 0 && s.islState n != 5

/-- An access reaches island `n`: a stopped one wakes (R52, R53). -/
def State.touch (s : State) (n : Nat) : State := if s.islState n == 3 then s.setReg .SUP_ISL_STATUS_WAKE_PEND n 1 else s

/-- An access to a register of island `n`, which is stopped or in reset: it waits at its sender, and wakes a stopped island (R49, R53). -/
def State.holdReg (s : State) (n : Nat) (a : RegAccess) : State :=
  let s := s.touch n
  { s with isl := { s.isl with heldRegs := s.isl.heldRegs ++ [(n, a)] } }

/-- Whether an access to a register of island `n` waits (R49, R53). -/
def State.regWaits (s : State) (n : Nat) : Bool := s.islState n == 1 || s.islState n == 3

/-- A write to a register of island `n`: dropped and counted at one that is OFF or LOST (R49, R67, R73), held at one that is stopped or
in reset, else taken by `go`. -/
def State.meetReg (s : State) (n : Nat) (a : RegAccess) (go : State → State) : State :=
  if !s.regOpen n then s.bump .SUP_XING_DROP_COUNT 0
  else if s.regWaits n then s.holdReg n a
  else go s

/-- Whether a fence of island `n` is in progress. -/
def State.fencing (s : State) (n : Nat) : Bool := s.isl.fences.any (fun f => f.island == n)

/-- Whether partners answer requests for island `n` with errors: it is FENCED or LOST or its fence has begun, or it has been
switched off behind its fence (R49, R58). DEDUCED: log entry 77. -/
def State.closed (s : State) (n : Nat) : Bool := s.islState n == 0 || s.islState n == 4 || s.islState n == 5 || s.fencing n

/-- Phase of bring-up (R131). -/
def State.phase (s : State) : Nat := s.reg .SUP_COL_PHASE_PHASE 0

/-- Whether the composing port is busy (R704). -/
def State.busy (s : State) : Bool := s.on .CMP_STATUS_BUSY

/-- Whether the switch is halted (R655). -/
def State.halted (s : State) : Bool := s.on .FLT_STATUS_HALTED

/-- Whether the switch is in safe mode (R654). -/
def State.safeMode (s : State) : Bool := s.on .FLT_STATUS_SAFE_MODE

/-- Whether a loss of island `n` has taken effect at its crossings (R67). -/
def State.isolated (s : State) (n : Nat) : Bool := s.islState n == 5 && !s.isl.isolating.any (fun e => e.1 == n)

/-- Whether the crossings into the metering island hand on no record: it is fenced, in reset or switched off behind its fence, and
the quads hold their packets (R44, R45). DEDUCED: log entry 131. -/
def State.metHeld (s : State) : Bool := [0, 1, 4].contains (s.islState 53) || s.fencing 53

/-- Island `n` has work: its idle time starts again (R51). -/
def State.work (s : State) (n : Nat) : State := { s with isl := { s.isl with workAt := Sparse.set id s.isl.workAt n s.now } }

/-- `s` with its metering part changed. -/
def State.updMet (s : State) (f : Meter → Meter) : State := { s with met := f s.met }

/-! ### Banks (R88 to R93) -/

/-- Bank A or B. -/
def State.bank (s : State) (b : Bool) : Bank := if b then s.flash.bankB else s.flash.bankA

/-- `s` with bank A or B replaced. -/
def State.setBank (s : State) (b : Bool) (v : Bank) : State :=
  { s with flash := if b then { s.flash with bankB := v } else { s.flash with bankA := v } }

/-- `s` with the state of a bank changed. -/
def State.markBank (s : State) (b : Bool) (v : BankState) : State := s.setBank b { s.bank b with state := v }

/-! ### Performance counter events (R620 to R622) -/

/-- First counter and number of counters of an island. -/
def ctrBlock (n : Nat) : Nat × Nat :=
  if n < 32 then (8 * n, 8) else if n < 40 then (256 + 16 * (n - 32), 16) else if n < 42 then (384 + 8 * (n - 40), 8)
  else if n < 46 then (400 + 8 * (n - 42), 8) else if n < 50 then (432 + 8 * (n - 46), 8) else if n == 53 then (464, 4)
  else if n == 52 then (468, 4) else if n == 54 then (472, 4) else (0, 0)

/-- The island of counter `i` (R620). -/
def ctrIsland (i : Nat) : Nat :=
  if i < 256 then i / 8 else if i < 384 then 32 + (i - 256) / 16 else if i < 400 then 40 + (i - 384) / 8
  else if i < 432 then 42 + (i - 400) / 8 else if i < 464 then 46 + (i - 432) / 8 else if i < 468 then 53
  else if i < 472 then 52 else 54

/-- Whether counter `i` counts island cycles in which a condition holds: it is in LEVEL mode, or its event is such a condition (R621,
R622). -/
def State.countsCycles (s : State) (i : Nat) : Bool :=
  s.reg .PMC_CFG_MODE i == 1 || [0x05, 0x14, 0x19, 0x1A, 0x21, 0x35, 0x43, 0x61, 0x71].contains (s.reg .PMC_CFG_EVENT i)

/-- What counter `i` holds at instant `t`. -/
def State.ctrValue (s : State) (i t : Nat) : Nat :=
  if s.countsCycles i then Config.cycleCount i t % 2 ^ 48 else (Sparse.get? s.met.ctrs i).getD 0

/-- What the reader copies of counter `i` at instant `t`, and the state of its island: what was kept, else what stands (R623). -/
def State.snapCopy (s : State) (i t : Nat) : Nat × Nat :=
  (Sparse.get? s.met.snapKept i).getD (s.ctrValue i t, s.islState (ctrIsland i))

/-- Before something that counter `i` shows changes: the running snapshot has copied it when its instant has come (R623, R624).
DEDUCED: log entry 180. -/
def State.keepSnap (s : State) (i : Nat) : State :=
  match s.met.snapAt with
  | none => s
  | some t0 =>
    let t := t0 + 20 * s.met.snapSet.idxOf i
    if s.met.snapSet.contains i && decide (t ≤ s.dev) then
      s.updMet (fun m => { m with snapKept := Sparse.set id m.snapKept i (s.snapCopy i t) })
    else s

/-- The same of every counter of island `n`, before the island changes its state. -/
def State.keepSnaps (s : State) (n : Nat) : State :=
  (s.met.snapSet.filter (fun i => ctrIsland i == n)).foldl (fun s i => s.keepSnap i) s

/-- Event `e` begins in island `n`, while it runs: the island has work, and every enabled counter that counts it adds one, modulo 2^48; counters of quads
and of memory cipher islands may filter on an imprint (R621, R622). DESIGN CHOICE: log entry 86. -/
def State.tally (s : State) (n e : Nat) (imprint : Option Nat := none) : State :=
  let (a, m) := ctrBlock n
  let filters := (decide (32 ≤ n) && decide (n < 40)) || (decide (46 ≤ n) && decide (n < 50))
  if !s.running n then s else
  (span a (a + m - 1)).foldl (fun s i =>
    if m != 0 && s.reg .PMC_CFG_ENABLE i == 1 && s.reg .PMC_CFG_EVENT i == e &&
      (!filters || s.reg .PMC_CFG_IMP_MATCH i == 0 || imprint == some (s.reg .PMC_CFG_IMPRINT i)) then
      (s.keepSnap i).updMet (fun t => { t with ctrs := Sparse.set id t.ctrs i (((Sparse.get? t.ctrs i).getD 0 + 1) % 2 ^ 48) })
    else s) (s.work n)

/-! ### Fault reports and counting records on their way -/

/-- Default severity of a source; none for a code that is not listed. FENCE_FORCED stands at S3 and DL_LANE_DROP at S1:
their reports carry their own severity. -/
def sourceSev (c : Nat) : Option Nat :=
  if (decide (1 ≤ c) && decide (c ≤ 5)) then some 4
  else if (decide (0x08 ≤ c) && decide (c ≤ 0x12)) then some 3
  else if (decide (0x18 ≤ c) && decide (c ≤ 0x1A)) || (decide (0x20 ≤ c) && decide (c ≤ 0x28)) || (decide (0x30 ≤ c) && decide (c ≤ 0x37)) then some 2
  else if c == 0x29 || (decide (0x40 ≤ c) && decide (c ≤ 0x46)) then some 1
  else if (decide (0x50 ≤ c) && decide (c ≤ 0x59)) then some 0
  else none

/-- The SOURCE record of a source. -/
def State.fltSource (s : State) (c : Nat) : Option FaultRec := s.com.faults.find? (fun r => r.typ == 2 && r.source == c)

/-- Effective severity of a report of source `c` that carries the severity `own` (R635). -/
def State.effSev (s : State) (c : Nat) (own : Option Nat) : Nat :=
  let dflt := own.getD ((sourceSev c).getD 0)
  match s.fltSource c with
  | some r => if r.severity == 255 then dflt else r.severity
  | none => dflt

/-- Whether two reports of one island are equal but for their counts (R632). -/
def sameReport (a b : Report) : Bool :=
  a.source == b.source && a.kind == b.kind && a.scope == b.scope && decide (a.sev = b.sev) && a.isl == b.isl

/-- Reports on their way with one more: an equal one that waits counts it (R632). -/
def mergeReport (l : List Report) (r : Report) : List Report :=
  if l.any (sameReport r) then l.map (fun x => if sameReport r x then { x with count := x.count + r.count } else x) else l ++ [r]

/-- The island that detects a fault, by its source and its scope or instance, where the scope tells it; else the supervisor.
DEDUCED: log entry 12. -/
def reportIsland (source kind scope : Nat) : Nat :=
  if [0x42, 0x43, 0x45, 0x50].contains source then 32 + scope
  else if [0x11, 0x44, 0x59].contains source then 42 + scope
  else if source == 0x46 then scope
  else if source == 0x57 then scope / 8
  else if [0x30, 0x31].contains source then (if kind == 3 then 32 + scope / 65536 else 32 + scope / 16)
  else if source == 0x23 && kind == 3 then scope / 16384
  else if (decide (0x20 ≤ source) && decide (source ≤ 0x29)) || [0x40, 0x41, 0x51, 0x52, 0x53, 0x54, 0x55, 0x58].contains source then scope / 4
  else if source == 0x10 then 53
  else if [0x0F, 0x12, 0x18, 0x19, 0x1A].contains source then 54
  else 50

/-- Whether the queue of a report's island is full: a switched island queues up to 64 reports (R632). -/
def reportsFull (l : List Report) (r : Report) : Bool :=
  r.isl != 50 && r.isl != 51 && !l.any (sameReport r) && decide (64 ≤ (l.filter (fun x => x.isl == r.isl)).length)

/-- The latest report of an island counts one that its unit cannot hold beside it. -/
def countOnLast (n c : Nat) : List Report → List Report
  | [] => []
  | x :: xs => if x.isl == n && !xs.any (fun y => y.isl == n) then { x with count := x.count + c } :: xs else x :: countOnLast n c xs

/-- Reports on their way with one more, of severity `sev` (R632): with a full queue one of S0 or S1 does not join, one of S2 or above waits in
its unit, which holds one such and counts further ones with it. DEDUCED: log entry 12. -/
def queueReport (sev : Nat) (l : List Report) (r : Report) : List Report :=
  if !reportsFull l r then mergeReport l r
  else if sev ≤ 1 then l
  else if (l.filter (fun x => x.isl == r.isl)).length == 64 then l ++ [r]
  else countOnLast r.isl r.count l

/-- A report leaves its island, `isl` where it is given, for the collector; one of S0 or S1 that finds no place is only counted (R631, R632).
DESIGN CHOICE: log entry 12. -/
def State.report (s : State) (source : Nat) (kind scope : Nat) (sev : Option Nat := none) (isl : Option Nat := none) : State :=
  let r : Report := { source, kind, scope, sev, isl := isl.getD (reportIsland source kind scope) }
  let v := s.effSev source sev
  { s with flt := { s.flt with
    reportQ := queueReport v s.flt.reportQ r,
    counted := if v ≤ 1 && reportsFull s.flt.reportQ r then s.flt.counted ++ [(source, 1)] else s.flt.counted } }

/-- A cause of kind C begins: it is present, and a report goes out (R637). -/
def State.causeOn (s : State) (source kind scope : Nat) : State :=
  let c : Report := { source, kind, scope }
  let s := if s.flt.causes.contains c then s else { s with flt := { s.flt with causes := s.flt.causes ++ [c] } }
  s.report source kind scope

/-- A cause of kind C ends. -/
def State.causeOff (s : State) (source scope : Nat) : State :=
  { s with flt := { s.flt with causes := s.flt.causes.filter (fun c => !(c.source == source && c.scope == scope)) } }

/-- A structure of one of `sources` at instance `target` is written: an armed injection takes place and DONE is set; the
mode is FLIP1 1 or FLIP2 2 (R657). -/
def State.armedWrite (s : State) (sources : List Nat) (target : Nat) : Nat × State :=
  match s.flt.armed with
  | some a =>
    if sources.contains a.source && a.target == target then
      (a.mode, { s.setReg .FLT_INJECT_DONE 0 1 with flt := { s.flt with armed := none } })
    else (0, s)
  | none => (0, s)

/-- The key store of island `n` is to get an entry again: the error is reported, and what needs the entry waits (R574). -/
def State.askKey (s : State) (n : Nat) (r : KeyRef) : State :=
  { s with keys := { s.keys with
    redeliver := if s.keys.redeliver.contains (n, r) then s.keys.redeliver else s.keys.redeliver ++ [(n, r)] } }.report 0x46 0 n

/-- An entry is written to the key store of island `n`: an armed injection inverts check bits of it (R657). -/
def State.writeKey (s : State) (n : Nat) (r : KeyRef) : State :=
  let w := s.armedWrite [0x46] n
  if w.1 = 0 then w.2 else { w.2 with keys := { w.2.keys with flips := w.2.keys.flips ++ [(n, r)] } }

/-- An entry of the key store of island `n` is read: inverted check bits are found (R574, R657). -/
def State.readKey (s : State) (n : Nat) (r : KeyRef) : State :=
  if s.keys.flips.contains (n, r) then { s with keys := { s.keys with flips := s.keys.flips.filter (fun e => e != (n, r)) } }.askKey n r else s

/-- A counting record leaves for the metering island (R596); its sender holds it while the crossings hand on none (R43, R45), and
it is discarded and counted at an isolated one (R67). -/
def State.count (s : State) (c : CountRec) : State :=
  if s.isolated 53 then s.bump .SUP_XING_DROP_COUNT 0
  else if s.metHeld then { s with met := { s.met with recHeld := s.met.recHeld ++ [c] } }
  else { s with met := { s.met with recQ := s.met.recQ ++ [c] } }

/-- A virtual register's value after a host-port reset: the PCIe default of Device Control, which gives a Max Read Request Size
of 512 bytes; zero elsewhere (PRESUMED, log entry 51). -/
def cfgReset (r : CfgReg) : Nat := if r = .devCtl then 0x2810 else 0

/-- A virtual configuration register. -/
def State.vreg (s : State) (k : Nat) (t : CfgTarget) (r : CfgReg) : Nat :=
  ((s.link.vregs.find? (fun e => decide (e.1 = ⟨k, t, r⟩))).map (·.2)).getD (cfgReset r)

/-- A word of host `k`'s MSI-X table; a vector's control word masks it after reset. -/
def State.msixWord (s : State) (k w : Nat) : Nat := (Sparse.get? s.link.msix (256 * k + w)).getD (if w % 4 == 3 then 1 else 0)

/-- An MSI-X vector of host `k`'s management endpoint (R730): sent while MSI-X is enabled and nothing masks it; a masked one
stays pending, and one of a disabled function is lost (PRESUMED, log entry 49). DEDUCED: log entry 111. -/
def State.vector (s : State) (k n : Nat) : State :=
  let c := s.vreg k .mep .msixCtl
  if !bit c 15 then s
  else if bit c 14 || bit (s.msixWord k (4 * n + 3)) 0 then
    let p := (Sparse.get? s.link.pba k).getD 0
    { s with link := { s.link with pba := Sparse.set id s.link.pba k (putBit p n true) } }
  else s.emit (.vector k n)

/-- A vector of every operator endpoint. -/
def State.vectorOps (s : State) (n : Nat) : State := s.operators.foldl (fun s k => s.vector k n) s

/-! ### Answers -/

/-- `n` bytes of 0xFF. -/
def ones (n : Nat) : List Byte := List.replicate n 255

/-- Whether a request kind is non-posted. -/
def isNP : ReqKind → Bool
  | .write => false
  | _ => true

/-- Whether a non-posted request expects data. -/
def wantsData : ReqKind → Bool
  | .read => true
  | .atomic => true
  | _ => false

/-- An outcome that goes on. -/
abbrev Res := Host.Outcome State Fault Refusal

/-- A command's effect as an outcome: outputs start empty. DESIGN CHOICE: log entry 9. -/
def run (f : State → State) (s : State) : Res := .next (f { s with out := [] })

end Sys2Proof.Machine
end

