-- ==== Sys2Proof/Machine/Packets.lean ====
section
/-! DEFINITION. Operations on packets, queues and outstanding requests: cells, spill and the galley store (R417 to
R438), answers to what is lost (R275 to R279, R345). -/

namespace Sys2Proof.Machine

/-! ### Packets -/

/-- The packet with a number. -/
def State.pkt (s : State) (i : Nat) : Option Pkt := s.tr.pkts.find? (fun p => p.id == i)

/-- `s` with its list of packets replaced. -/
def State.setPkts (s : State) (l : List Pkt) : State := { s with tr := { s.tr with pkts := l } }

/-- `s` with packet `i` changed by `f`. -/
def State.updPkt (s : State) (i : Nat) (f : Pkt → Pkt) : State :=
  s.setPkts (s.tr.pkts.map (fun p => if p.id == i then f p else p))

/-- `s` without packet `i`. -/
def State.delPkt (s : State) (i : Nat) : State :=
  { s with tr := { s.tr with pkts := s.tr.pkts.filter (fun p => p.id != i), spineQ := dropFrom i s.tr.spineQ } }

/-- `s` with a packet added behind all others, under the next number. -/
def State.addPkt (s : State) (p : Pkt) : State :=
  { s with tr := { s.tr with pkts := s.tr.pkts ++ [{ p with id := s.tr.nextId }], nextId := s.tr.nextId + 1 } }

/-- 128-byte cells of a packet with a payload of `n` bytes: a 32-byte header slot and whole 32-byte data slots (R417,
R419). -/
def cellsOf (n : Nat) : Nat := ceilDiv (1 + ceilDiv n 32) 4

/-- Payload bytes of a packet. -/
def Pkt.payload (p : Pkt) : Nat := p.req.data.length

/-- Whether a packet stands in its queue, not past its last grant. -/
def Pkt.queued (p : Pkt) : Bool :=
  decide (p.place = .shared) || decide (p.place = .galley) || decide (p.place = .blocked) || decide (p.place = .rmw)

/-- Whether a packet stands in its queue's shared part. -/
def Pkt.inShared (p : Pkt) : Bool := decide (p.place = .shared) || decide (p.place = .rmw)

/-- Data slots of a packet on a fabric link (R300). -/
def Pkt.slots (p : Pkt) : Nat :=
  match p.fab with
  | some f => f.len
  | none => ceilDiv p.payload 32

/-! ### Regions of a quad's buffer (R418) -/

/-- Cells of the shared region of quad `q`. -/
def State.sharedTotal (s : State) (q : Nat) : Nat :=
  let lanes := ((s.portRecs.map portIx).filter (fun p => quadOf p == q)).foldl (fun n p => n + (s.lanes p).length) 0
  196608 - 8192 - min 65536 (2048 * lanes)

/-- The quad that holds a queue. -/
def QId.quad : QId → Nat
  | .ingress p _ _ _ => quadOf p
  | .egress p _ => quadOf p

/-- The traffic class of a queue. -/
def QId.tc : QId → Nat
  | .ingress _ _ _ t => t
  | .egress _ t => t

/-- Packets of a queue in a place, in order. -/
def State.inQ (s : State) (q : QId) (pl : Place) : List Pkt :=
  s.tr.pkts.filter (fun p => decide (p.q = q) && decide (p.place = pl))

/-- Packets of a queue's shared part, in order. -/
def State.sharedQ (s : State) (q : QId) : List Pkt := s.tr.pkts.filter (fun p => decide (p.q = q) && p.inShared)

/-- Cells of a list of packets. -/
def cellSum (l : List Pkt) : Nat := l.foldl (fun n p => n + p.cells) 0

/-- Shared cells that quad `q`'s queues occupy. -/
def State.sharedUsed (s : State) (q : Nat) : Nat :=
  cellSum (s.tr.pkts.filter (fun p => p.q.quad == q && p.inShared))

/-- Free shared cells (R431). -/
def State.sharedFree (s : State) (q : Nat) : Nat := s.sharedTotal q - s.sharedUsed q

/-! ### Queues -/

/-- A queue's state. -/
def State.queue (s : State) (q : QId) : Queue :=
  match Sparse.get? s.tr.queues q with
  | some v => v
  | none => {}

/-- `s` with a queue's state set. -/
def State.setQueue (s : State) (q : QId) (v : Queue) : State :=
  { s with tr := { s.tr with queues := Sparse.put QId.code s.tr.queues q (if v = {} then none else some v) } }

/-- The spill profile number of a queue, and its quad's index base (R456). -/
def State.profile (s : State) (q : QId) : Nat :=
  let m := match q with
    | .ingress p _ _ _ => p % 16
    | .egress p _ => 16 + p % 16
  let f : Fld := match q.tc with
    | 0 => .QD_SPILL_MAP_TC0
    | 1 => .QD_SPILL_MAP_TC1
    | 2 => .QD_SPILL_MAP_TC2
    | 3 => .QD_SPILL_MAP_TC3
    | 4 => .QD_SPILL_MAP_TC4
    | 5 => .QD_SPILL_MAP_TC5
    | 6 => .QD_SPILL_MAP_TC6
    | _ => .QD_SPILL_MAP_TC7
  q.quad * 16 + s.reg f (q.quad * 32 + m)

/-- Whether a packet of `c` cells meets a spill condition of its queue (R431). -/
def State.spills (s : State) (q : QId) (c : Nat) : Bool :=
  let i := s.profile q
  let occ := cellSum (s.sharedQ q)
  let free := s.sharedFree q.quad
  decide (s.reg .QD_SPILL_PROF_THRESH i < occ + c) ||
  decide (2 ^ s.reg .QD_SPILL_PROF_ALPHA_EXP i * free < 64 * (occ + c)) || decide (free < c)

/-- Galley pages of the whole store, and of one quad's part (R430, R508). -/
def State.galleySheets (s : State) : Nat :=
  match s.com.pool.find? (fun r => r.typ == 1) with
  | some r => r.galleySheets
  | none => 0

/-- Pages of each quad's part of the galley store. -/
def State.quadPages (s : State) : Nat := s.galleySheets * 65536 / 8

/-- Galley pages in use by quad `q`. -/
def State.pagesUsed (s : State) (q : Nat) : List Nat :=
  ((s.tr.pkts.filter (fun p => p.q.quad == q && decide (p.place = .galley))).map (·.pages)).flatten.eraseDups

/-- Galley pages that one queue holds. -/
def State.queuePages (s : State) (q : QId) : List Nat := ((s.inQ q .galley).map (·.pages)).flatten.eraseDups

/-- The first page from `lo` that is not in use, looking at `n` pages. -/
def freePage (used : List Nat) : Nat → Nat → Option Nat
  | 0, _ => none
  | n + 1, lo => if used.contains lo then freePage used n (lo + 1) else some lo

/-- Whether the memory and memory cipher islands of galley page `pg` are RUN (R511). -/
def State.pageRuns (s : State) (pg : Nat) : Bool := s.running (42 + pg % 4) && s.running (46 + pg % 4)

/-- Where `c` cells go when they are packed into a queue's pages (R430): the pages they lie in, the last page and the
cells used in it, and how many pages were started; none when the galley store cannot take them (R435): a queue that holds GALLEY_MAX pages puts
nothing more there, not even into its last page, and that page's islands run. The page taken is the lowest free page of the quad's part, which is
full when it has no free page and the queue's last page no room (DESIGN CHOICE, log entry 40). -/
def State.galleyFit (s : State) (q : QId) (c : Nat) : Option (List Nat × Nat × Nat × Nat) :=
  let v := s.queue q
  let used := s.pagesUsed q.quad
  let n := s.quadPages
  let lo := q.quad * n
  let maxP := s.reg .QD_SPILL_PROF_GALLEY_MAX (s.profile q)
  let have_ := (s.queuePages q).length
  let rec take (k : Nat) (c : Nat) (used : List Nat) (pages : List Nat) (started : Nat) (lastUsed : Nat) :
      Option (List Nat × Nat × Nat × Nat) :=
    match k with
    | 0 => none
    | k + 1 =>
      if c = 0 then some (pages, pages.getLastD 0, lastUsed, started)
      else if maxP ≤ have_ + started then none
      else match freePage used (min n (used.length + 1)) lo with
        | none => none
        | some pg =>
          if !s.pageRuns pg then none
          else take k (c - min 32 c) (pg :: used) (pages ++ [pg]) (started + 1) (min 32 c)
  if maxP ≤ have_ then none
  else match v.lastPage.filter (s.queuePages q).contains with
    | some pg =>
      let room := 32 - v.lastUsed
      if room = 0 then take 70 c used [] 0 v.lastUsed
      else if !s.pageRuns pg then none
      else if c ≤ room then some ([pg], pg, v.lastUsed + c, 0)
      else take 70 (c - room) used [pg] 0 v.lastUsed
    | none => take 70 c used [] 0 0

/-- The galley key reference of a packet (R568). -/
def State.spillKey (s : State) (p : Pkt) : KeyRef :=
  match p.imprint with
  | some i => if s.reg .BAL_KEY_SLOT_STATE i == 1 && s.reg .BAL_KEY_SLOT_GEN i == p.gen then .galley i p.gen else .transit
  | none => .transit

/-- Fill count of quad `q` (R570). -/
def State.fillCount (s : State) (q : Nat) : Nat := (Sparse.get? s.tr.fills q).getD 0

/-- Packet `i` put into the galley store, or none where the store cannot take it. -/
def State.toGalley (s : State) (i : Nat) : Option State :=
  match s.pkt i with
  | none => none
  | some p =>
    match s.galleyFit p.q p.cells with
    | none => none
    | some (pages, last, used, started) =>
      let q := p.q.quad
      let fill := s.fillCount q
      let key := s.spillKey p
      let s := s.updPkt i (fun p => { p with place := .galley, pages, key, fill, spilled := true })
      let w := (s.tally (32 + q) 0x12 p.imprint).armedWrite [0x34] (p.imprint.getD 0)
      let s := if w.1 = 0 then w.2 else w.2.updPkt i (fun p => { p with storeFlip := w.1 })
      let s := s.setQueue p.q { s.queue p.q with spill := true, lastPage := some last, lastUsed := used }
      some { s with tr := { s.tr with fills := Sparse.set id s.tr.fills q (fill + started) } }

/-- A queue returns to NORMAL when it holds nothing in the galley store and nothing held back (R432). -/
def State.settleQueue (s : State) (q : QId) : State :=
  if (s.inQ q .galley).isEmpty then
    let s := s.setQueue q { s.queue q with lastPage := none, lastUsed := 0 }
    if (s.inQ q .blocked).isEmpty then s.setQueue q { s.queue q with spill := false } else s
  else s

/-- Packet `i` finds its queue in SPILL or meets a spill condition: it goes to the galley store, or is held and, at an
egress queue, admission is withdrawn (R431, R432, R435 to R437). DEDUCED: log entry 125. -/
def State.spillPkt (s : State) (i : Nat) (q : QId) : State :=
  let was := (s.queue q).spill
  let s := if was then s else s.bump .QD_SPILL_COUNT_SPILLED q.quad
  let s := s.setQueue q { s.queue q with spill := true }
  let full := !(s.inQ q .blocked).isEmpty
  match (if full then none else s.toGalley i) with
  | some s => s
  | none =>
    let s := s.updPkt i (fun p => { p with place := .blocked })
    match q with
    | .ingress _ _ _ _ => s.bump .QD_SPILL_COUNT_BLOCKED q.quad
    | .egress _ _ =>
      if (s.queue q).taking then (s.setQueue q { s.queue q with taking := false }).bump .QD_SPILL_COUNT_XOFF q.quad else s

/-- Packet `i`, already listed with its queue, takes its place there (R431); an armed injection inverts check bits of its cells (R657). -/
def State.placePkt (s : State) (i : Nat) : State :=
  match s.pkt i with
  | none => s
  | some p =>
    let others := s.delPkt i
    if (s.queue p.q).spill || others.spills p.q p.cells then s.spillPkt i p.q
    else
      let a := s.armedWrite [0x45] p.q.quad
      let b := a.2.armedWrite [0x35] (p.imprint.getD 0)
      b.2.updPkt i (fun p => { p with place := .shared, flip := max a.1 b.1 })

/-- The oldest held packet of a queue leaves its hold: into the galley store, or into the shared region (R436). -/
def State.unblock (s : State) (q : QId) : State :=
  match s.inQ q .blocked with
  | [] => s
  | p :: _ =>
    match s.toGalley p.id with
    | some s => s
    | none =>
      if (s.inQ q .galley).isEmpty && !s.spills q p.cells then
        (s.updPkt p.id (fun p => { p with place := .shared })).settleQueue q
      else s

/-! ### Spine bindings (R22, R23, R425, R427) -/

/-- A spine island to which no queue binds: its fence has completed, and it may have been reset or switched off behind it, or it
is lost and isolated (R22, R427). -/
def State.spineOut (s : State) (n : Nat) : Bool := [0, 1, 4].contains (s.islState n) || s.isolated n

/-- The same sub-channel of the other spine island. -/
def otherSpine (b : Nat) : Nat := if b < 4 then b + 4 else b - 4

/-- Spine island and sub-channel that a queue binds to when it becomes non-empty (R425), with the other island where that
one is fenced or lost (R23, R427). -/
def State.bindOf (s : State) (q : QId) : Nat :=
  match q with
  | .ingress p _ d t =>
    let b := (p % 16 + d + t) % 8
    if s.spineOut (40 + b / 4) then otherSpine b else b
  | .egress _ _ => 0

/-- Whether a queue holds no packet, in the quad or on its way through the spine, so that no packet can pass another when it binds anew
(R22). -/
def State.unbound (s : State) (q : QId) : Bool := !s.tr.pkts.any (fun x => decide (x.q = q) && (x.queued || decide (x.place = .spine)))

/-- A packet is to enter ingress queue `q`: an empty queue binds (R22, R425). -/
def State.bindFirst (s : State) (q : QId) : State := if s.unbound q then s.setQueue q { s.queue q with bind := s.bindOf q } else s

/-- Packet `p` enters its ingress queue: binding, spill, place (R425, R431). -/
def State.enqueue (s : State) (p : Pkt) : State := ((s.bindFirst p.q).addPkt p).placePkt s.tr.nextId

/-- Ingress queues that hold packets, each once. -/
def State.liveQueues (s : State) : List QId :=
  ((s.tr.pkts.map (·.q)).filter (fun q => match q with
    | .ingress _ _ _ _ => true
    | .egress _ _ => false)).eraseDups

/-- Queues with packets that are bound to spine island `n` bind to the same sub-channel of the other (R23, R427). -/
def State.rebind (s : State) (n : Nat) : State :=
  if (n == 40 || n == 41) && !s.spineOut (81 - n) then
    s.liveQueues.foldl (fun s q =>
      if (s.queue q).bind / 4 == n - 40 then s.setQueue q { s.queue q with bind := otherSpine (s.queue q).bind } else s) s
  else s

/-! ### Fabric routes -/

/-- Own switch ID (R407). -/
def ownSw (v : Imp) : Nat := (Sparse.get? v { typ := 8, index := 0 }).getD 0

/-- DIR of a logical port: DOWN. -/
def dirDown (v : Imp) (p : Nat) : Bool := bit ((Sparse.get? v { typ := 6, index := 0 }).getD 0) p

/-- One part of a route group. -/
def groupPart (v : Imp) (g part : Nat) : Option Nat := Sparse.get? v { typ := 5, index := g, part := part }

/-- Whether all five parts of a group are present (R779). -/
def groupWhole (v : Imp) (g : Nat) : Bool := (span 0 4).all (fun p => (groupPart v g p).isSome)

/-- MEMBER_COUNT of a group. -/
def groupCount (v : Imp) (g : Nat) : Nat := bits ((Sparse.get? v { typ := 7, index := g }).getD 0) 7 0

/-- REBIND_IDLE of a group in µs. -/
def groupIdle (v : Imp) (g : Nat) : Nat := bits ((Sparse.get? v { typ := 7, index := g }).getD 0) 31 16

/-- Member `m` of a group. -/
def groupMember (v : Imp) (g m : Nat) : Nat := bits ((groupPart v g 0).getD 0) (8 * m + 7) (8 * m)

/-- Member number to which a map binds bucket `b`: map U 0, map D 1 (R407). -/
def groupMap (v : Imp) (g c b : Nat) : Nat :=
  let w := (groupPart v g (1 + 2 * c + b / 32)).getD 0
  bits w (4 * (b % 32) + 3) (4 * (b % 32))

/-- Route group of a destination switch, where the route names a whole group. -/
def routeGroup (v : Imp) (dst : Nat) : Option Nat :=
  match Sparse.get? v { typ := 4, index := dst } with
  | some g => if g != 255 && groupWhole v g then some g else none
  | none => none

/-- The bucket of a packet (R410). -/
def bucketOf (srcPort tc srcSw dst : Nat) : Nat := (srcPort + 7 * tc + 13 * srcSw + 29 * dst) % 64

/-- State of a fabric port's link: ACTIVE 5. -/
def State.dlState (s : State) (p : Nat) : Nat := s.reg .TILE_DL_STATUS_STATE (p / 4)

/-- Whether a member is eligible for a packet in virtual channel `c` (R411, R350). -/
def State.eligible (s : State) (p : Nat) (c : Nat) : Bool :=
  s.dlState p == 5 && !s.closed (p / 4) && (dirDown s.com.active p || c == 0)

/-- Key of a bucket's binding in `tr.buckets`: group, map, bucket. -/
def bucketKey (g c b : Nat) : Nat := (g * 2 + c) * 64 + b

/-- The member that a bucket is bound to now: the one it keeps under R412, else its map's; 256 + p stands for a port that a commit took out of
the group. -/
def State.boundMember (s : State) (g c b : Nat) : Nat :=
  match s.tr.buckets.find? (fun e => e.1 == bucketKey g c b) with
  | some e => e.2.1
  | none => groupMap s.com.active g c b

/-- The first eligible member from number `m`, in member order, wrapping round (R411): its number and its port. A port that has left the group
serves the buckets that it keeps while it is eligible, and the members follow from number 0. DESIGN CHOICE: log entry 18. -/
def State.nextMember (s : State) (g c m : Nat) : Option (Nat × Nat) :=
  let n := groupCount s.com.active g
  let kept := 256 ≤ m
  let from_ := if kept then 0 else m
  ((if kept then [(m, m - 256)] else []) ++
    (List.range n).map (fun i => ((from_ + i) % n, groupMember s.com.active g ((from_ + i) % n)))).find? (fun e => s.eligible e.2 c)

/-- The member port for a packet to switch `dst` in channel `c` from (`sw`, `port`) in class `tc`. The routes are those in force when the packet
is routed, whatever epoch it was classified at (R105). DESIGN CHOICE: log entry 174. -/
def State.routePort (s : State) (dst c sw port tc : Nat) : Option Nat :=
  match routeGroup s.com.active dst with
  | some g => (s.nextMember g c (s.boundMember g c (bucketOf port tc sw dst))).map (·.2)
  | none => none

/-- A bucket's packet uses another member than the one its bucket is bound to: the bucket is at that member until
BUCKET_REBIND moves it (R411, R412). -/
def State.keepBucket (s : State) (dst c sw port tc : Nat) : State :=
  match routeGroup s.com.active dst with
  | some g =>
    let b := bucketOf port tc sw dst
    match s.nextMember g c (s.boundMember g c b) with
    | some (m, _) =>
      if m == s.boundMember g c b then s
      else
        let k := bucketKey g c b
        { s with tr := { s.tr with buckets := s.tr.buckets.filter (fun e => e.1 != k) ++ [(k, m, s.now)] } }
    | none => s
  | none => s

/-- A packet that this switch makes for another switch enters a queue of port `p` toward switch `dst` (R345, R350); a completion keeps the
subscriber of its request and the quad that classified it (R443, R463). -/
def State.sendFabric (s : State) (p : Nat) (fp : FabPkt) (cls : PClass) (imprint sub quad : Option Nat) : State :=
  match s.routePort fp.dstSw 0 fp.srcSw fp.srcPort fp.tc with
  | none => s.report 0x56 0 fp.dstSw none (some (32 + quadOf p))
  | some e =>
    let s := s.keepBucket fp.dstSw 0 fp.srcSw fp.srcPort fp.tc
    s.enqueue {
      id := 0, req := { src := .fabric fp.srcSw fp.srcPort, inPort := p, kind := fp.kind, addr := fp.addr, len := 0, tag := fp.tag, tc := fp.tc, data := fp.data, ts := s.dev },
      cls, status := fp.status, imprint, sub, kind := 4, destA := fp.dstSw, dest := e, fab := some fp, cells := ceilDiv (1 + fp.len) 4,
      q := .ingress p (if cls = .nonposted then 1 else 0) e fp.tc, quad, epoch := s.reg .CMP_EPOCH_EPOCH 0 }

/-! ### Answers that the switch makes (R275, R278, R345, R375) -/

/-- What the switch needs of a request to answer it: who asked, the port and the class it arrived in, its tag, and what its lookup gave. -/
structure Asked where
  src : Source
  inPort : Nat
  tag : Nat
  tc : Nat := 0
  imprint : Option Nat := none
  sub : Option Nat := none
  quad : Option Nat := none

/-- A completion without data that the switch makes to a request; to a fabric origin it goes toward its switch (R345, R375). -/
def State.sayFail (s : State) (a : Asked) (st : CplStatus) : State :=
  match a.src with
  | .fabric sw sp =>
    s.sendFabric a.inPort {
      ptype := 3, tc := a.tc, dstSw := sw, srcSw := ownSw s.com.active, srcPort := a.inPort, tag := a.tag, rid := fabRid sw sp, status := st }
      .completion a.imprint a.sub a.quad
  | src => s.emit (.cpl src a.tag st [] false)

/-- An answer that the switch has made is counted in SYNTH (R600). -/
def State.countSynth (s : State) (a : Asked) : State := s.count { imprint := a.imprint, kind := .synth, ts := s.dev, src := 32 + quadOf a.inPort }

/-- A completion that the switch makes to a request, counted in SYNTH (R600). -/
def State.synth (s : State) (a : Asked) (st : CplStatus) : State := (s.sayFail a st).countSynth a

/-- The answer to a non-posted request for `len` bytes that meets a lost destination: for a host all ones or Unsupported Request (R275), for
a device or a fabric origin Unsupported Request (R278, R345), counted in SYNTH. `data` says that it expects data. -/
def State.synthLost (s : State) (a : Asked) (len : Nat) (data : Bool) : State :=
  match a.src, data with
  | .host _, true => (s.emit (.cpl a.src a.tag .sc (ones len) false)).countSynth a
  | _, _ => s.synth a .ur

/-- What the switch needs of an outstanding request to answer it. -/
def OutReq.asked (o : OutReq) : Asked :=
  { src := o.src, inPort := o.inPort, tag := o.tag, tc := o.tc, imprint := o.imprint, sub := o.sub, quad := o.quad }

/-- What the switch needs of an arrived request to answer it, with the imprint that its lookup gave. -/
def askedOf (r : Req) (imprint : Option Nat) : Asked := { src := r.src, inPort := r.inPort, tag := r.tag, tc := r.tc, imprint, quad := some (quadOf r.inPort) }

/-! ### Drops -/

/-- The outcome of a selected packet is known (R626): DELIVERED 0, REFUSED 1, DROPPED 2, DISCARDED 3. DEDUCED: log entry 163. -/
def State.sampleEnd (s : State) (p : Pkt) (o egress : Nat) : State :=
  match p.sample with
  | none => s
  | some n => s.updMet (fun m =>
    { m with
      sampPend := m.sampPend ++ [(n, {
        seq := n % 2 ^ 32, hdr := Config.tlpHeader n, addr := p.addr,
        ingress := p.req.ts, egress, imprint := p.imprint.getD 0xFFFF, domain := p.domain, inPort := p.req.inPort,
        dest := p.dest, outcome := o + 8 * flag p.spilled + 16 * flag p.sealed, epoch := p.epoch })] })

/-- The outcome of a selected packet that stays a while. -/
def State.outcome (s : State) (p : Pkt) (o egress : Nat) : State :=
  if p.sample.isNone then s else (s.sampleEnd p o egress).updPkt p.id (fun x => { x with sample := none })

/-- Packet `p` is dropped after classification (R600): counted against its imprint or the device record. -/
def State.countDrop (s : State) (p : Pkt) : State :=
  s.count { imprint := p.imprint, kind := .dropped, tc := p.req.tc, ts := s.dev,
            src := if p.place = .cipher then p.dest - 82 else 32 + p.q.quad }

/-- An outstanding request by number. -/
def State.outReq (s : State) (i : Nat) : Option OutReq := s.tr.outs.find? (fun o => o.id == i)

/-- A tile and a quad that served a port have work until now (R51). -/
def State.workPort (s : State) (p : Nat) : State := if p < 128 then (s.work (p / 4)).work (32 + p / 16) else s

/-- `s` without an outstanding request: its islands had work until now (R51). -/
def State.delOut (s : State) (i : Nat) : State :=
  let t := { s with tr := { s.tr with outs := s.tr.outs.filter (fun o => o.id != i) } }
  match s.outReq i with
  | some o => (t.workPort o.inPort).workPort o.port
  | none => t

/-- `s` with an outstanding request changed. -/
def State.updOut (s : State) (i : Nat) (f : OutReq → OutReq) : State :=
  { s with tr := { s.tr with outs := s.tr.outs.map (fun o => if o.id == i then f o else o) } }

/-- `s` with one more outstanding request, under the next number. -/
def State.addOut (s : State) (o : OutReq) : State :=
  { s with tr := { s.tr with outs := s.tr.outs ++ [{ o with id := s.tr.nextId }], nextId := s.tr.nextId + 1 } }

/-- How many bytes from offset `n` on have come back without a gap, looking at `fuel` pieces. -/
def prefixLen (got : List (Nat × List Byte)) : Nat → Nat → Nat
  | 0, n => n
  | f + 1, n =>
    match got.find? (fun e => e.1 == n && !e.2.isEmpty) with
    | some e => prefixLen got f (n + e.2.length)
    | none => n

/-- The bytes from offset `n` on that have come back without a gap. -/
def prefixData (got : List (Nat × List Byte)) : Nat → Nat → List Byte
  | 0, _ => []
  | f + 1, n =>
    match got.find? (fun e => e.1 == n && !e.2.isEmpty) with
    | some e => e.2 ++ prefixData got f (n + e.2.length)
    | none => []

/-- Bytes of an outstanding request that have been delivered, in address order (R227). -/
def gotLen (o : OutReq) : Nat := prefixLen o.got o.got.length 0

/-- Outstanding request `o` answered as a lost destination (R275, R278, R345) and retired; bytes already delivered are
not repeated (R652). -/
def State.outLost (s : State) (o : OutReq) : State :=
  if o.answered then s.delOut o.id
  else (s.synthLost o.asked (o.len - gotLen o) (wantsData o.kind)).delOut o.id

/-- Outstanding request `o` answered with a status and retired. -/
def State.outFail (s : State) (o : OutReq) (st : CplStatus) : State :=
  if o.answered then s.delOut o.id else (s.synth o.asked st).delOut o.id

/-- One piece of request `o` will not complete: it counts as failed, and the last one answers a request without data (R227). DESIGN CHOICE:
log entry 172. -/
def State.pieceFail (s : State) (o : OutReq) (st : CplStatus) : State :=
  if o.pieces ≤ 1 then s.outFail o st else s.updOut o.id (fun o => { o with fails := o.fails ++ [(0, st)], pieces := o.pieces - 1 })

/-- A completion on its way back is lost with its island: the switch answers for its bytes as for a lost destination, and where that is a
failure the answer has ended; of a pool request, whose data is put in order only after the spine, it answers all that is due (R57, R68, R429,
R534). -/
def State.cplGone (s : State) (p : Pkt) : State :=
  match p.kind == 3, p.outId.bind s.outReq with
  | true, some o => s.outLost o
  | true, none => s
  | false, o =>
    let s := s.synthLost { src := p.req.src, inPort := p.req.inPort, tag := p.req.tag, tc := p.req.tc, imprint := p.imprint, sub := p.sub, quad := p.quad }
      p.payload (wantsData p.req.kind)
    match p.req.src, o with
    | .host _, _ => s
    | _, some o => s.updOut o.id (fun o => { o with answered := true })
    | _, none => s

/-- Packet `p` is discarded, or dropped (`outcome`): it leaves its queue, is counted in DROPPED, and its non-posted request, if it has one,
is answered by `f`. -/
def State.discard (s : State) (p : Pkt) (f : State → OutReq → State) (outcome : Nat := 3) : State :=
  let s := (((s.delPkt p.id).work (32 + p.q.quad)).countDrop p).sampleEnd p outcome 0
  match p.outId with
  | some i =>
    match s.outReq i with
    | some o => if p.cls = .nonposted then f s o else s
    | none => s
  | none => s

/-- Discards every packet of a list. -/
def State.discardAll (s : State) (l : List Pkt) (f : State → OutReq → State) (outcome : Nat := 3) : State :=
  l.foldl (fun s p => s.discard p f outcome) s

/-- The queues of a list of packets settle after drops. -/
def State.settleAll (s : State) (l : List Pkt) : State :=
  ((l.map (·.q)).eraseDups).foldl (fun s q => s.settleQueue q) s

/-- Posted packets discarded toward port `p` are counted in FLT_PORT.DISCARD (R276, R646, R647). DEDUCED: log entry 122. -/
def State.bumpDiscard (s : State) (p n : Nat) : State := if n = 0 then s else s.bump .FLT_PORT_DISCARD p n

/-- Destination port `p` is lost: packets queued for it are flushed with their galley parts, outstanding non-posted
requests to it are answered (R275, R276, R278, R438). While an isolated host's link stays up (R647), completions to
it stay: `cpls` is false. -/
def State.loseDest (s : State) (p : Nat) (cpls : Bool := true) : State :=
  let gone := s.tr.pkts.filter (fun k => k.dest == p && decide (k.place ≠ .cipher) && (cpls || decide (k.cls ≠ .completion)))
  let posted := gone.filter (fun k => decide (k.cls = .posted))
  let s := s.discardAll gone (fun s o => s.outLost o) 2
  let s := (s.settleAll gone).bumpDiscard p posted.length
  (s.tr.outs.filter (fun o => o.port == p)).foldl (fun s o => s.outLost o) s

/-- A function is lost: packets to it and outstanding requests to it, as `loseDest` (R649, R270). -/
def State.loseFunc (s : State) (p rid : Nat) : State :=
  let gone := s.tr.pkts.filter (fun k => k.dest == p && k.destB == rid && k.kind == 1 && decide (k.cls ≠ .completion))
  let posted := gone.filter (fun k => decide (k.cls = .posted))
  let s := s.discardAll gone (fun s o => s.outLost o) 2
  let s := (s.settleAll gone).bumpDiscard p posted.length
  (s.tr.outs.filter (fun o => o.port == p && o.rid == rid)).foldl (fun s o => s.outLost o) s

end Sys2Proof.Machine
end

