-- ==== Sys2Proof/Machine/Lookup.lean ====
section
/-! DEFINITION. Source domains, the lookup and its checks (08_imposition_table.md), fabric route choice (R407 to R412)
and the ingress policers (R478 to R484). -/

namespace Sys2Proof.Machine

/-! ### Entries and descriptors (R366, R367) -/

/-- VALID of an entry. -/
def eValid (w : Nat) : Bool := bit w 0
/-- DOMAIN of an entry. -/
def eDomain (w : Nat) : Nat := bits w 12 1
/-- SIZE of an entry. -/
def eSize (w : Nat) : Nat := bits w 18 13
/-- BASE of an entry, in 4 KiB units. -/
def eBase (w : Nat) : Nat := bits w 70 19
/-- TARGET of an entry. -/
def eTarget (w : Nat) : Nat := bits w 86 71
/-- IMPRINT of an entry. -/
def eImprint (w : Nat) : Nat := bits w 96 87
/-- RD of an entry. -/
def eRd (w : Nat) : Bool := bit w 97
/-- WR of an entry. -/
def eWr (w : Nat) : Bool := bit w 98
/-- AT of an entry. -/
def eAt (w : Nat) : Bool := bit w 99
/-- SEALED of an entry. -/
def eSealed (w : Nat) : Bool := bit w 100
/-- KEY_GEN of an entry. -/
def eGen (w : Nat) : Nat := bits w 108 101
/-- SUBSCRIBER of an entry. -/
def eSub (w : Nat) : Nat := bits w 122 109
/-- P2P of an entry. -/
def eP2p (w : Nat) : Bool := bit w 123
/-- KIND of a descriptor. -/
def dKind (w : Nat) : Nat := bits w 2 0
/-- XLATE of a descriptor: REBASE. -/
def dRebase (w : Nat) : Bool := bit w 3
/-- DEST_A of a descriptor. -/
def dDestA (w : Nat) : Nat := bits w 15 8
/-- DEST_B of a descriptor. -/
def dDestB (w : Nat) : Nat := bits w 31 16
/-- NEW_BASE of a descriptor, in 4 KiB units. -/
def dNewBase (w : Nat) : Nat := bits w 115 64

/-- The 128-bit value of an entry with the given fields. -/
def mkEntry (domain size base target imprint : Nat) (rd wr at_ sealed : Bool) (gen sub : Nat) (p2p : Bool) : Nat :=
  1 + domain * 2 ^ 1 + size * 2 ^ 13 + base * 2 ^ 19 + target * 2 ^ 71 + imprint * 2 ^ 87 + flag rd * 2 ^ 97 +
  flag wr * 2 ^ 98 + flag at_ * 2 ^ 99 + flag sealed * 2 ^ 100 + gen * 2 ^ 101 + sub * 2 ^ 109 + flag p2p * 2 ^ 123

/-- The 128-bit value of a descriptor with the given fields. -/
def mkTarget (kind : Nat) (rebase : Bool) (a b base : Nat) : Nat :=
  kind + flag rebase * 2 ^ 3 + a * 2 ^ 8 + b * 2 ^ 16 + base * 2 ^ 64

/-- Key of entry `i`. -/
def entryKey (i : Nat) : ImpKey := { typ := 1, index := i }
/-- Key of descriptor `i`. -/
def targetKey (i : Nat) : ImpKey := { typ := 2, index := i }

/-- Whether address `a` lies in the range of an entry (R371). -/
def eHolds (w a : Nat) : Bool := a / 2 ^ (eSize w + 12) * 2 ^ eSize w == eBase w

/-- The entry with the smallest SIZE among the valid entries of domain `d` whose range contains `a` (R370, R371), with its
key; entries that a kill mark covers take no part (R109). -/
def selectIn (v : Imp) (covered : List ImpKey) (d a : Nat) : Option (ImpKey × Nat) :=
  v.foldl (fun best e =>
    if e.1.typ == 1 && eValid e.2 && eDomain e.2 == d && eHolds e.2 a && !covered.contains e.1 then
      match best with
      | some b => if eSize e.2 < eSize b.2 then some e else best
      | none => some e
    else best) none

/-- The outgoing address of a lookup (R369). -/
def outAddr (ent des a : Nat) : Nat :=
  let r := dNewBase des * 4096 + (a - eBase ent * 4096)
  if !dRebase des then a
  else if dKind des == 4 then dDestA des * 2 ^ 58 + r % 2 ^ 58
  else r

/-! ### Views of an epoch (R105, R364) -/

/-- The table that a packet with ingress timestamp `ts` sees, and the entries hidden from it. -/
def State.view (s : State) (ts : Nat) : Imp × List ImpKey :=
  match s.com.old with
  | some (tc, v, _) =>
    if ts < tc then (v, [])
    else (s.com.active, match s.com.cur with
      | some c => c.covered
      | none => [])
  | none => (s.com.active, match s.com.cur with
    | some c => c.covered
    | none => [])

/-- The assignments of the epoch that contains `ts`. -/
def State.hierAt (s : State) (ts : Nat) : List HierRec :=
  match s.com.old with
  | some (tc, _, h) => if ts < tc then h else s.com.hier
  | none => s.com.hier

/-- The epoch that contains `ts`. -/
def State.epochAt (s : State) (ts : Nat) : Nat :=
  let e := s.reg .CMP_EPOCH_EPOCH 0
  match s.com.old with
  | some (tc, _, _) => if ts < tc then e - 1 else e
  | none => e

/-! ### Source domains -/

/-- Device-side requester ID of PF `pf`, on bus 0x01 (R233). -/
def pfRid (pf : Nat) : Nat := 0x100 + pf

/-- Requester ID of VF `n` of PF `pf` of the device on port `p`: a VF Stride of 1 (R245). DESIGN CHOICE: log entry 177. -/
def State.vfRid (s : State) (p pf n : Nat) : Nat :=
  match s.link.devices.find? (fun d => d.port == p) with
  | some d =>
    match d.fns.find? (fun f => f.rid == pfRid pf) with
    | some f => f.vfRid0 + n
    | none => 0x200 + n
  | none => 0x200 + n

/-- Device port of an assignment. -/
def hierPort (r : HierRec) : Nat := 4 * r.devTile + r.devSlot

/-- Whether an assignment record is one (not SRIOV_SETUP). -/
def isAssign (r : HierRec) : Bool := r.kind != 4

/-- Requester IDs of the functions of an assignment, function 0 first (R245). -/
def State.assignRids (s : State) (r : HierRec) : List Nat :=
  match r.kind with
  | 1 =>
    match s.link.devices.find? (fun d => d.port == hierPort r) with
    | some d => d.fns.map (·.rid)
    | none => []
  | 2 => (span 0 (r.vfCount - 1)).map (fun n => s.vfRid (hierPort r) r.pf (r.vfFirst + n))
  | _ => [pfRid r.pf]

/-- Whether requester ID `rid` on port `p` belongs to an assignment. -/
def State.assigned (s : State) (r : HierRec) (p rid : Nat) : Bool :=
  isAssign r && hierPort r == p && (r.kind == 1 || (s.assignRids r).contains rid)

/-- Domain of the assignment at virtual downstream port `v` of host port `k` (R362). -/
def assignDomain (k v : Nat) : Nat := 3072 + 31 * k + v - 1

/-- Domain that a SOURCE record gives: KIND, PORT, FIRST, LAST, DOMAIN (R380). -/
def sourceDomain (v : Imp) (kind port id : Nat) : Nat :=
  match v.find? (fun e => e.1.typ == 3 && bits e.2 7 0 == kind && bits e.2 15 8 == port &&
      decide (bits e.2 31 16 ≤ id) && decide (id ≤ bits e.2 47 32)) with
  | some e => bits e.2 63 48
  | none => 4095

/-- Base and size of BAR2 of host `k`'s management endpoint, where it is present and Memory Space is enabled. -/
def State.bar2 (s : State) (k : Nat) : Option (Nat × Nat) :=
  match s.hostRec k with
  | some r =>
    if r.bar2Log2 == 0 || !bit (s.vreg k .mep .command) 1 then none
    else some (s.vreg k .mep (.bar 2) + s.vreg k .mep (.bar 3) * 2 ^ 32, 2 ^ r.bar2Log2)
  | none => none

/-- Base of BAR0 of host `k`'s management endpoint, while Memory Space is enabled. -/
def State.bar0 (s : State) (k : Nat) : Option Nat :=
  if bit (s.vreg k .mep .command) 1 then some (s.vreg k .mep (.bar 0) + s.vreg k .mep (.bar 1) * 2 ^ 32) else none

/-- The device physical address that host `k`'s logical device makes of a host physical address: its one HDM decoder, where it is committed, maps
its range, one way, from 0 on; none outside it (R264, R363). PRESUMED: log entry 20. -/
def State.hdmAddr (s : State) (k a : Nat) : Option Nat :=
  let r := fun x => s.vreg k (.fn 31 0) x
  let b := r (.hdm 1) + r (.hdm 2) * 2 ^ 32
  if bit (r .hdmCtl) 9 && b ≤ a && a < b + r (.hdm 3) + r (.hdm 4) * 2 ^ 32 then some (a - b) else none

/-- Source domain and address looked up of a request (R361 to R364). A CXL.mem request outside the decoder's range is looked up where no entry
can lie (DESIGN CHOICE, log entry 157). -/
def State.domainOf (s : State) (r : Req) : Nat × Nat :=
  let (v, _) := s.view r.ts
  match r.src with
  | .host k =>
    if r.cxlMem then (32 + k, (s.hdmAddr k r.addr).getD (2 ^ 64 + r.addr))
    else match s.bar2 k with
      | some (b, n) => if b ≤ r.addr && r.addr < b + n then (32 + k, r.addr - b) else (k, r.addr)
      | none => (k, r.addr)
  | .device p rid =>
    match (s.hierAt r.ts).find? (fun h => s.assigned h p rid) with
    | some h => (assignDomain h.host h.vdsp, r.addr)
    | none => (sourceDomain v 1 p rid, r.addr)
  | .fabric sw p => (sourceDomain v 2 sw p, r.addr % 2 ^ 58)

/-! ### Lookup and checks (R374) -/

/-- Outcomes of the checks of R374. -/
inductive Checked where
  | unsourced
  | eccEntry
  | eccTarget (imprint : Nat)
  | miss
  | perm (imprint : Nat)
  | ok (ent des : Nat)
  deriving DecidableEq, Repr

/-- The imprint of the entry that a lookup selected. -/
def Checked.imprint : Checked → Option Nat
  | .eccTarget i => some i
  | .perm i => some i
  | .ok ent _ => some (eImprint ent)
  | _ => none

/-- A read of an item in quad `q`'s replica finds an error: a corrected one is logged, an uncorrectable one makes the item unreadable until
the quad has rewritten it from the master copy, within 10 µs (R389). -/
def State.replicaError (s : State) (q : Nat) (k : ImpKey) (correctable : Bool) : State :=
  if correctable then (s.bump .IMP_Q_ECC_CORR q).report 0x42 0 q
  else { s.bump .IMP_Q_ECC_UE q with com := { s.com with unreadable := s.com.unreadable ++ [(q, s.now + 10000, k)] } }

/-- Quad `q` reads an item: check bits that an injection inverted are found (R657). -/
def State.readItem (s : State) (q : Nat) (k : ImpKey) : State :=
  match s.com.flips.find? (fun e => e.1 == q && decide (e.2.1 = k)) with
  | some e =>
    { s with com := { s.com with flips := s.com.flips.filter (fun x => !decide (x = e)) } }.replicaError q k (e.2.2 != 2)
  | none => s

/-- Quad `q` reads the entry and the descriptor that a lookup selects. -/
def State.readReplica (s : State) (q : Nat) (r : Req) (d a : Nat) : State :=
  match selectIn (s.view r.ts).1 (s.view r.ts).2 d a with
  | some (k, ent) => (s.readItem q k).readItem q (targetKey (eTarget ent))
  | none => s

/-- Whether an item of quad `q`'s replica is unreadable now. -/
def State.unreadable (s : State) (q : Nat) (k : ImpKey) : Bool :=
  s.com.unreadable.any (fun e => e.1 == q && decide (e.2.2 = k) && decide (s.now ≤ e.2.1))

/-- The lookup and the checks of R374 in order, in quad `q`, for a request with a domain and an address. A device reaches another
device through a peer-to-peer window only (R224, R255, R393). DEDUCED: log entry 160. -/
def State.check (s : State) (q : Nat) (r : Req) (d a : Nat) : Checked :=
  let (v, hidden) := s.view r.ts
  let dev := match r.src with
    | .device _ _ => true
    | _ => false
  if d == 4095 && dev then .unsourced
  else if s.com.unreadable.any (fun e => e.1 == q && e.2.2.typ == 1 && decide (s.now ≤ e.2.1)) then .eccEntry
  else match selectIn v hidden d a with
    | none => .miss
    | some (_, ent) =>
      if s.unreadable q (targetKey (eTarget ent)) then .eccTarget (eImprint ent)
      else
        let des := (Sparse.get? v (targetKey (eTarget ent))).getD 0
        if dKind des == 0 || (dev && dKind des == 1 && !eP2p ent) then .miss
        else
          let ok := match r.kind with
            | .read => eRd ent
            | .write => eWr ent
            | .dmWrite => eWr ent
            | .atomic => eAt ent
          if ok then .ok ent des else .perm (eImprint ent)

/-- Scope of a fault of a request's source: its function, or its port (R374, R634). -/
def State.srcScope (s : State) (r : Req) : Nat × Nat :=
  match r.src with
  | .host k => (1, (s.hostPort k).getD 0)
  | .device p rid => (3, p * 4096 + rid)
  | .fabric _ _ => (1, r.inPort)

/-- A refusal is counted and, while nothing is captured, captured (R376). `knd` is MISS 0, PERM 1, UNSOURCED 2,
ECC_UE 3. -/
def State.logRefusal (s : State) (q : Nat) (r : Req) (d a knd : Nat) : State :=
  let s := if knd == 1 then s.bump .IMP_Q_COUNT_PERM q else s.bump .IMP_Q_COUNT_MISS q
  if s.reg .IMP_Q_LOG_INFO_VALID q == 1 then s
  else
    let req := match r.kind with
      | .read => 0
      | .write => 1
      | .atomic => 2
      | .dmWrite => 3
    s.setRegs [(.IMP_Q_LOG_INFO_VALID, q, 1), (.IMP_Q_LOG_INFO_KIND, q, knd), (.IMP_Q_LOG_INFO_DOMAIN, q, d),
      (.IMP_Q_LOG_INFO_TILE, q, r.inPort / 4), (.IMP_Q_LOG_INFO_REQ, q, req), (.IMP_Q_LOG_ADDR_ADDR, q, a)]

/-! ### Policers -/

/-- Charged length of a request on its ingress port (R466). -/
def State.chargedIn (s : State) (r : Req) : Nat :=
  if s.role r.inPort == 3 then 32 * (1 + flag (!r.pre.isEmpty) + ceilDiv r.data.length 32) else r.hdr + r.data.length

/-- Green 0, yellow 1 or red 2, and the buckets after a packet of `b` bytes at `now`: RFC 2698, colour-blind (R480,
R481). Rates are in Mb/s, so a nanosecond adds `rate` units of 1/8,000 byte. -/
def policeWith (cir pir cbs pbs : Nat) (u : PolBucket) (b now : Nat) : Nat × PolBucket :=
  let dt := now - u.last
  let tc := min (cbs * 8000) (u.tc + cir * dt)
  let tp := min (pbs * 8000) (u.tp + max cir pir * dt)
  let n := b * 8000
  if tp < n then (2, ⟨tc, tp, max now u.last⟩)
  else if tc < n then (1, ⟨tc, tp - n, max now u.last⟩)
  else (0, ⟨tc - n, tp - n, max now u.last⟩)

/-- The policer of a request of domain `d`, if one polices it (R479), and the register values and buckets of its epoch. -/
def State.policerOf (s : State) (r : Req) (d : Nat) : Option (Nat × List RegCell × Bool) :=
  let (regs, old) := match s.tr.policyOld with
    | some (tc, l, _) => if r.ts < tc then (l, true) else (s.regs, false)
    | none => (s.regs, false)
  if d < 4095 && bit (rget regs .SHP_POL_MAP_TC_MASK d) r.tc then
    some (64 * (r.inPort / 4) + rget regs .SHP_POL_MAP_OFFSET d, regs, old)
  else none

/-- Whether the request passes its policer, and the state with the policer's buckets moved and its drop counted (R479 to
R484). A changed policer measures packets from before T_c with its old buckets; every other policer has one pair. -/
def State.police (s : State) (r : Req) (d : Nat) : Bool × State :=
  match s.policerOf r d with
  | none => (true, s)
  | some (n, regs, old) =>
    let cbs := rget regs .SHP_POL_CBS_CBS n
    let pbs := rget regs .SHP_POL_PBS_PBS n
    let kept := match s.tr.policyOld with
      | some (_, _, b) => if old && (Sparse.get? b n).isSome then some b else none
      | none => none
    let tbl := kept.getD s.tr.pols
    let u := (Sparse.get? tbl n).getD ⟨cbs * 8000, pbs * 8000, r.ts⟩
    let (col, u) := policeWith (rget regs .SHP_POL_CIR_CIR n) (rget regs .SHP_POL_PIR_PIR n) cbs pbs u (s.chargedIn r) r.ts
    let tbl := Sparse.set id tbl n u
    let s := match kept, s.tr.policyOld with
      | some _, some (tc, l, _) => { s with tr := { s.tr with policyOld := some (tc, l, tbl) } }
      | _, _ => { s with tr := { s.tr with pols := tbl } }
    let drop := (col == 1 && rget regs .SHP_POL_CBS_YELLOW_ACT n == 1) || (col == 2 && rget regs .SHP_POL_CBS_RED_ACT n == 1)
    if drop then (false, s.bump .SHP_POL_PBS_DROP_COUNT n) else (true, s)

end Sys2Proof.Machine
end

