-- ==== Sys2Proof/Machine/Metering.lean ====
section
/-! DEFINITION. Metering ledger, performance counters and transaction sampling (13_metering_and_telemetry.md). -/

namespace Sys2Proof.Machine

/-! ### Counting records (R596 to R604) -/

/-- Element `t` of a counter array raised by `n`. -/
def addAt (l : List Nat) (t n : Nat) : List Nat := l.set t (nth l t + n)

/-- One counting record added to an imprint's counters; 32-bit counts saturate (R609). -/
def MetRec.add (m : MetRec) (c : CountRec) : MetRec :=
  let top := 2 ^ 32 - 1
  match c.kind with
  | .req => { m with reqBytes := addAt m.reqBytes c.tc c.bytes, reqTxn := addAt m.reqTxn c.tc 1 }
  | .cpl => { m with cplBytes := addAt m.cplBytes c.tc c.bytes, cplTxn := addAt m.cplTxn c.tc 1 }
  | .refused => { m with refused := satAdd top m.refused 1 }
  | .dropped => { m with dropped := satAdd top m.dropped 1 }
  | .synth => { m with synth := satAdd top m.synth 1 }

/-- A bank with one record changed, created where the imprint has none. -/
def updRec (l : List MetRec) (i : Option Nat) (f : MetRec → MetRec) : List MetRec :=
  if l.any (fun m => decide (m.imprint = i)) then l.map (fun m => if m.imprint = i then f m else m)
  else l ++ [f { imprint := i }]

/-- A record's bytes in the peak window of its timestamp, of `w` ns, and the peaks after them (R596, R602). -/
def MetRec.peak (m : MetRec) (w : Nat) (c : CountRec) : MetRec :=
  let n := c.ts / w
  let (x, y) := ((m.wins.find? (fun e => e.1 == n)).map (·.2)).getD (0, 0)
  let put := fun x y => { m with
    wins := m.wins.filter (fun e => e.1 != n) ++ [(n, x, y)], peakReq := max m.peakReq x, peakCpl := max m.peakCpl y }
  match c.kind with
  | .req => put (x + c.bytes) y
  | .cpl => put x (y + c.bytes)
  | _ => m

/-- A record counted in a bank whose peak windows have `w` ns. -/
def bankTake (w : Nat) (l : List MetRec) (c : CountRec) : List MetRec := updRec l c.imprint (fun r => (r.add c).peak w c)

/-- A record counted in a bank as LATE (R604). -/
def bankLate (l : List MetRec) (c : CountRec) : List MetRec :=
  updRec l c.imprint (fun r => let r := r.add c
                               { r with late := satAdd (2 ^ 32 - 1) r.late 1 })

/-- A record reaches the metering island, whose peak window is `w` ns: the interval of its timestamp, or the open one with LATE (R603,
R604). -/
def Meter.take (m : Meter) (w : Nat) (c : CountRec) : Meter :=
  match m.closing with
  | some (l, a, b) =>
    if a ≤ c.ts && c.ts < b then { m with closing := some (bankTake m.winOld l c, a, b) }
    else if m.start ≤ c.ts then { m with opened := bankTake w m.opened c }
    else { m with opened := bankLate m.opened c }
  | none =>
    if m.start ≤ c.ts then { m with opened := bankTake w m.opened c }
    else { m with opened := bankLate m.opened c }

/-- Whether the metering island takes records. -/
def State.metRuns (s : State) : Bool := s.running 53

/-- Whether a record's interval has already closed (R604). -/
def Meter.late (m : Meter) (c : CountRec) : Bool :=
  match m.closing with
  | some (_, a, _) => decide (c.ts < a)
  | none => decide (c.ts < m.start)

/-- The peak window of the plan in force, in ns (R602). -/
def State.peakNs (s : State) : Nat := s.com.meter.peakWindow * 1000

/-- A record arrives in the metering island. -/
def State.takeRec (s : State) (c : CountRec) : State :=
  let s := s.tally 53 0x50
  let s := if s.met.late c then s.tally 53 0x51 else s
  (s.work c.src).updMet (fun m => m.take s.peakNs c)

/-- The counting records that have not reached the metering island, in the order in which each sender sent its own. -/
def Meter.sent (m : Meter) : List CountRec := m.recQ ++ m.recHeld

/-- Every record that is still on its way arrives. -/
def State.drainRecs (s : State) : State :=
  if s.metRuns then s.met.sent.foldl (fun s c => s.takeRec c) (s.updMet (fun m => { m with recQ := [], recHeld := [] })) else s

/-- COUNTING_RECORD: the first record of its sender crosses into the metering island and is counted (R43, R596 to R604). -/
def execCountingRecord (c : CountRec) (s : State) : Res :=
  run (fun s =>
    if s.metRuns && decide (s.met.sent.find? (fun x => x.src == c.src) = some c) then
      (s.updMet (fun m => { m with recQ := m.sent.erase c, recHeld := [] })).takeRec c
    else s) s

/-! ### Intervals (R603 to R607) -/

/-- A bank whose peak windows of `w` ns that ended more than 5 µs before `t` are over; the peaks hold what they reached (R602, R604).
DEDUCED: log entry 164. -/
def foldPeak (w t : Nat) (l : List MetRec) : List MetRec :=
  l.map (fun m => { m with wins := m.wins.filter (fun e => decide (t < (e.1 + 1) * w + 5000)) })

/-- Microseconds that `[a, b)` shares with a span (R601). -/
def Span.share (p : Span) (a b : Nat) : Nat :=
  let e := match p.stop with
    | some e => min e b
    | none => b
  p.weight * ((e - max p.start a) / 1000)

/-- A bank with its spans added in (R601). -/
def withSpans (spans : List Span) (l : List MetRec) (a b : Nat) : List MetRec :=
  spans.foldl (fun l p =>
    if p.share a b = 0 && p.stop.isSome then l
    else updRec l (some p.imprint) (fun m =>
      if p.sheet then { m with sheetUs := m.sheetUs + p.share a b } else { m with funcUs := m.funcUs + p.share a b })) l

/-- Whether a record goes into a batch though its counters are zero: the imprint holds a lease, an assignment or a key
(R607). -/
def State.holds (s : State) (i : Nat) : Bool :=
  s.pool.leases.any (fun l => l.live && l.imprint == i) || s.com.hier.any (fun h => h.kind != 4 && h.imprint == i) ||
  s.reg .BAL_KEY_SLOT_STATE i != 0

/-- Whether a counter other than PEAK is non-zero. -/
def MetRec.used (m : MetRec) : Bool :=
  (m.reqBytes ++ m.reqTxn ++ m.cplBytes ++ m.cplTxn ++ [m.sheetUs, m.funcUs, m.refused, m.dropped, m.synth, m.late]).any
    (fun n => n != 0)

/-- The records of a batch: the device record, then imprints in ascending order (R607). -/
def State.batchRecords (s : State) (l : List MetRec) : List MetRec :=
  let dev := (l.find? (fun m => m.imprint == none)).getD { imprint := none }
  dev :: (List.range 1024).filterMap (fun i =>
    match l.find? (fun m => m.imprint == some i) with
    | some m => if m.used || s.holds i then some m else none
    | none => if s.holds i then some { imprint := some i } else none)

/-- The bank of a new interval: the imprints that are quarantined as it begins carry the flag (R609). -/
def State.freshBank (s : State) : List MetRec :=
  ((List.range 32).map (fun w =>
    let v := s.reg .FLT_QUAR_QUARANTINED w
    if v = 0 then [] else (span 0 31).filterMap (fun b =>
      if bit v b then some { imprint := some (32 * w + b), quarantined := true } else none))).flatten

/-- The batch of the interval `[a, b)`, bound for the ring that is in force as it closes (R606 to R608). `partialFlag` marks
the close of R158 and R655. DEDUCED: log entry 128. -/
def State.mkBatch (s : State) (l : List MetRec) (a b : Nat) (partialFlag : Bool) : Batch :=
  let l := withSpans s.met.spans l a b
  {
    flags := flag partialFlag + 2 * flag s.met.gap + 16 * flag s.met.merged + 32 * flag s.safeMode, start := a, stop := b,
    bootId := s.met.bootId, epoch := s.reg .CMP_EPOCH_EPOCH 0, plan := s.com.meter,
    records := s.batchRecords l }

/-- Spans that ended before an instant are done. -/
def keepSpans (l : List Span) (b : Nat) : List Span :=
  l.filter (fun p => match p.stop with
    | some e => decide (b < e)
    | none => true)

/-- Spans of a lease (sheet) or an assignment (function) that still run end at `t` (R601). -/
def State.endSpan (s : State) (sheet : Bool) (key t : Nat) : State :=
  s.updMet (fun m => { m with
    spans := m.spans.map (fun p => if p.sheet == sheet && p.key == key && p.stop.isNone then { p with stop := some t } else p) })

/-- A span starts at `t`. DEDUCED: log entry 33. -/
def State.startSpan (s : State) (sheet : Bool) (imprint weight key t : Nat) : State :=
  s.updMet (fun m => { m with spans := m.spans ++ [{ imprint, sheet, weight, key, start := t }] })

/-- Number of an assignment's span: virtual downstream port `v` of host port `k`. -/
def spanKey (k v : Nat) : Nat := 32 * k + v

/-- The end of the interval that is open at `t` under tick `k` seconds. -/
def nextTick (t k : Nat) : Nat := (t / (k * 1000000000) + 1) * (k * 1000000000)

/-- A new first interval starts now (R603). -/
def State.meterStart (s : State) : State :=
  let t := s.dev
  (s.updMet (fun m => { m with start := t, nextEnd := nextTick t s.com.meter.tickS, opened := s.freshBank, closing := none, running := true })).setReg
    .MET_INTERVAL_START 0 t

/-- The open interval closes at once as a batch with PARTIAL, after the interval whose bank still closes (R158, R604, R655). -/
def State.closePartial (s : State) : State :=
  let s := s.drainRecs
  let s := match s.met.closing with
    | some (l, a, b) =>
      let bt := s.mkBatch l a b false
      s.updMet (fun m => { m with closing := none, batches := m.batches ++ [bt], gap := false, merged := false })
    | none => s
  let b := s.mkBatch s.met.opened s.met.start s.dev true
  s.updMet (fun m => { m with batches := m.batches ++ [b], opened := s.freshBank, start := s.dev, gap := false, merged := false })

/-- PEAK_WINDOW_END (R602). -/
def execPeakWindowEnd (s : State) : Res :=
  run (fun s =>
    let w := s.peakNs
    let s := (s.atDev ((s.met.winAt / w + 1) * w)).drainRecs
    s.updMet (fun m => { m with opened := foldPeak w s.dev m.opened, winAt := s.dev })) s

/-- Two banks of one merged interval (R615). -/
def mergeBanks (l k : List MetRec) : List MetRec :=
  k.foldl (fun l c => updRec l c.imprint (fun m =>
    let z := fun (a b : List Nat) => List.zipWith (· + ·) a b
    { m with
             reqBytes := z m.reqBytes c.reqBytes, reqTxn := z m.reqTxn c.reqTxn, cplBytes := z m.cplBytes c.cplBytes,
             cplTxn := z m.cplTxn c.cplTxn, peakReq := max m.peakReq c.peakReq, peakCpl := max m.peakCpl c.peakCpl, wins := c.wins,
             refused := satAdd (2 ^ 32 - 1) m.refused c.refused, dropped := satAdd (2 ^ 32 - 1) m.dropped c.dropped,
             synth := satAdd (2 ^ 32 - 1) m.synth c.synth, late := satAdd (2 ^ 32 - 1) m.late c.late,
             quarantined := m.quarantined || c.quarantined, revoked := m.revoked || c.revoked })) l

/-- At B + 5 µs the old bank becomes a batch; with 16 batches held its interval stays open (R604, R615). -/
def State.bankClose (s : State) : State :=
  match s.met.closing with
  | none => s
  | some (_, _, b0) =>
    let s := (s.atDev (b0 + 5000)).drainRecs
    match s.met.closing with
    | none => s
    | some (l, a, b) =>
      if 16 ≤ s.met.batches.length then
        let fresh := !s.on .MET_STATUS_MERGING
        let s := s.updMet (fun m => { m with closing := none, opened := mergeBanks l m.opened, start := a, merged := true })
        let s := (s.setReg .MET_STATUS_MERGING 0 1).setReg .MET_INTERVAL_START 0 a
        if fresh then s.causeOn 0x10 0 0 else s
      else
        let bt := s.mkBatch l a b false
        let s := s.updMet (fun m => { m with
                                             closing := none, batches := m.batches ++ [bt], gap := false, merged := false,
                                             spans := keepSpans m.spans b })
        if s.on .MET_STATUS_MERGING then (s.setReg .MET_STATUS_MERGING 0 0).causeOff 0x10 0 else s

/-- The metering island is unfenced: a new interval starts now (R603). One that it has kept over the fence and a reset (R164) ends here, and
its bank closes as after a boundary. DEDUCED: log entry 57. -/
def State.meterResume (s : State) : State :=
  if s.met.running then
    let s := s.bankClose
    let m := s.met
    s.meterStart.updMet (fun t => { t with closing := some (m.opened, m.start, s.dev), winOld := s.peakNs })
  else s.meterStart

/-- BANK_CLOSE (R604, R615). -/
def execBankClose (s : State) : Res := run (fun s => s.bankClose) s

/-- TICK_BOUNDARY (R604, R606): at a boundary new records go to the new bank; a changed plan applies. The bank of the
boundary before has closed by then. -/
def execTickBoundary (s : State) : Res :=
  run (fun s =>
    if s.phase < 5 || !s.metRuns then s
    else
      let s := (s.bankClose.atDev s.met.nextEnd).drainRecs
      let b := s.met.nextEnd
      let old := s.peakNs
      let s := match s.com.meterNext with
        | some m => { s with com := { s.com with meter := m, meterNext := none } }
        | none => s
      (s.updMet (fun m => { m with
                                   closing := some (m.opened, m.start, b), opened := s.freshBank, start := b, winOld := old,
                                   nextEnd := nextTick b s.com.meter.tickS })).setReg .MET_INTERVAL_START 0 b) s

/-! ### Batches and the ring (R608 to R619) -/

/-- A record of a batch (R609). -/
def MetRec.bytes (m : MetRec) : List Nat :=
  let row := fun (l : List Nat) => l.flatMap (bytesOf 8)
  bytesOf 2 (m.imprint.getD 0xFFFF) ++ bytesOf 2 (flag m.quarantined + 2 * flag m.revoked) ++ zeros 12 ++ row m.reqBytes ++ row m.cplBytes ++
  row m.reqTxn ++ row m.cplTxn ++ row [m.sheetUs, m.funcUs, m.peakReq, m.peakCpl] ++ bytesOf 4 m.refused ++ bytesOf 4 m.dropped ++
  bytesOf 4 m.synth ++ bytesOf 4 m.late

/-- The bytes of a batch before its signature block (R607, R608). -/
def Batch.bytes (serial : Nat) (b : Batch) : List Nat :=
  bytesOf 4 0x4D444C48 ++ bytesOf 2 1 ++ bytesOf 2 b.flags ++ bytesOf 4 (160 + 320 * b.records.length + 4640) ++ bytesOf 4 b.records.length ++
  bytesOf 8 b.seq ++ bytesOf 8 b.start ++ bytesOf 8 b.stop ++ bytesOf 16 b.bootId ++ bytesOf 16 serial ++ bytesOf 8 b.epoch ++
  bytesOf 2 b.plan.tickS ++ bytesOf 2 b.plan.peakWindow ++ zeros 12 ++ bytesOf 64 b.prev ++ b.records.flatMap MetRec.bytes

/-- The first batch that is not signed gets its place in the chain, its digest and its signature (R610, R611). -/
def Meter.signNext (key serial : Nat) (m : Meter) : List Batch → List Batch × Meter
  | [] => ([], m)
  | b :: bs =>
    match b.digest with
    | some _ => let (t, m) := m.signNext key serial bs
                (b :: t, m)
    | none =>
      let b := { b with seq := m.nextSeq, prev := m.prev, flags := b.flags + (if m.chainStart then 8 else 0) }
      let d := Config.digest (b.bytes serial)
      ({ b with digest := some d, sig := Config.signature key d } :: bs,
        { m with prev := d, nextSeq := m.nextSeq + 1, chainStart := false })

/-- Signs the first unsigned batch. -/
def State.signBatch (s : State) : State :=
  let (l, m) := s.met.signNext (s.sysKey 2) s.part.serial s.met.batches
  { s with met := { m with batches := l } }

/-- A key command is running: KEY_IMPORT or KEY_REVOKE (R553). -/
def State.keyCommand (s : State) : Bool :=
  match s.port.running with
  | some r => (r.opcode == 0x38 || r.opcode == 0x39) && r.result.isNone
  | none => false

/-- BATCH_SIGNED (R553, R610). -/
def execBatchSigned (s : State) : Res := run (fun s => if s.keyCommand then s else s.signBatch) s

/-- Whether the ring of a batch holds it back (R606, R614); before P5 no batch is written (R159). -/
def State.heldBack (s : State) (b : Batch) : Bool :=
  let k := b.plan.billing
  let full := (s.reg .MET_RING_HEAD_HEAD 0 + 2 ^ 32 - s.reg .MET_RING_TAIL_TAIL 0) % 2 ^ 32 == b.plan.ringSlots
  let up := match s.hostPort k with
    | some p => s.on .TILE_PORT_STATUS_LINK_UP p
    | none => false
  s.phase != 5 || !s.on .MET_STATUS_ARMED || full || s.reg .CMP_DMA_STATUS_STATE k == 2 || !up

/-- The oldest batch, where it is signed and nothing holds it back, is in its slot of the ring: head word, HEAD, ledger vector
(R614, R616). -/
def State.writeBatch (s : State) : State :=
  match s.met.batches with
  | b :: bs =>
    if b.digest.isSome && !s.heldBack b then
      let h := s.reg .MET_RING_HEAD_HEAD 0
      let k := b.plan.billing
      let s := s.updMet (fun m => { m with batches := bs })
      let s := s.emit (.ledger k (b.plan.ringBase + 524288 * (h % b.plan.ringSlots))
        (b.bytes s.part.serial ++ signatureBlock (s.sysKey 2) 2 (b.digest.getD 0)))
      let s := s.emit (.headWord k b.plan.headAddr (bytesOf 4 (h + 1) ++ bytesOf 4 b.seq))
      let s := (s.setReg .MET_RING_HEAD_HEAD 0 (h + 1)).setReg .MET_SEQ_LAST 0 b.seq
      (s.tally 53 0x52).vector k 2
    else s
  | [] => s

/-- BATCH_WRITE_DONE (R612, R616). -/
def execBatchWriteDone (s : State) : Res := run (fun s => s.writeBatch) s

/-- Whether host `k` is the billing host. -/
def State.billing (s : State) (k : Nat) : Bool := s.com.meter.billing == k && (s.hostPort k).isSome

/-- A write to MET_RING_CTL (R618): START, and ARM sets HEAD and TAIL to it. -/
def State.ringCtl (s : State) (k v : Nat) : State :=
  if s.billing k then
    let s := s.setReg .MET_RING_CTL_START 0 (bits v 11 0)
    if bit v 12 then s.setRegs [(.MET_RING_HEAD_HEAD, 0, bits v 11 0), (.MET_RING_TAIL_TAIL, 0, bits v 11 0), (.MET_STATUS_ARMED, 0, 1)]
    else s
  else s

/-- MET_RING_ARM. -/
def execMetRingArm (k start : Nat) (s : State) : Res :=
  run (fun s =>
    s.meetReg 53 { host := k, tag := 0, offset := 0xE004, size := 4, kind := .write, value := start % 4096 + 4096 } (fun s => s.ringCtl k (start % 4096 + 4096))) s

/-- A write to MET_RING_TAIL: only the billing host port's takes effect (R618). -/
def State.ringTail (s : State) (k v : Nat) : State := if s.billing k then s.setReg .MET_RING_TAIL_TAIL 0 v else s

/-- MET_RING_TAIL_WRITE. -/
def execMetRingTailWrite (k v : Nat) (s : State) : Res :=
  run (fun s => s.meetReg 53 { host := k, tag := 0, offset := 0xE00C, size := 4, kind := .write, value := v } (fun s => s.ringTail k v)) s

/-! ### Performance counters (R620 to R624) -/

/-- The event codes that a counter's block lists (R622). -/
def ctrListed (i e : Nat) : Bool :=
  let r := fun (a b : Nat) => decide (a ≤ e) && decide (e ≤ b)
  e == 0 || (if i < 256 then r 0x01 0x06 else if i < 384 then r 0x10 0x1A else if i < 400 then r 0x20 0x21
  else if i < 432 then r 0x30 0x35 else if i < 464 then r 0x40 0x43 else if i < 468 then r 0x50 0x52
  else if i < 472 then r 0x60 0x62 else r 0x70 0x71)

/-- A write of PMC_CFG[i]: it clears the counter; an EVENT that the block does not list is kept out (R621, R622, R9). -/
def State.pmcCfg (s : State) (i v : Nat) : State :=
  let s := (s.keepSnap i).updMet (fun t => { t with ctrs := Sparse.erase t.ctrs i })
  let s := if ctrListed i (bits v 7 0) then s.setReg .PMC_CFG_EVENT i (bits v 7 0) else s
  s.setRegs [(.PMC_CFG_MODE, i, bits v 8 8), (.PMC_CFG_ENABLE, i, bits v 9 9), (.PMC_CFG_IMP_MATCH, i, bits v 10 10),
    (.PMC_CFG_IMPRINT, i, bits v 21 12)]

/-- PMC_CFG_WRITE. -/
def execPmcCfgWrite (k i v : Nat) (s : State) : Res :=
  run (fun s =>
    if i < 476 && s.operator k then s.meetReg 55 { host := k, tag := 0, offset := 0x401000 + 4 * i, size := 4, kind := .write, value := v } (fun s => s.pmcCfg i v)
    else s) s

/-- A write of 1 to SNAP starts a snapshot unless one runs (R623). -/
def State.snap (s : State) : State :=
  if s.on .PMC_CTL_BUSY then s else (s.setReg .PMC_CTL_BUSY 0 1).updMet (fun m => { m with
    snapAt := some s.dev, snapSet := (List.range 476).filter (fun i => s.reg .PMC_CFG_ENABLE i == 1), snapKept := [] })

/-- PMC_SNAP. -/
def execPmcSnap (k : Nat) (s : State) : Res :=
  run (fun s =>
    if s.operator k then s.meetReg 55 { host := k, tag := 0, offset := 0x400000, size := 4, kind := .write, value := 1 } (fun s => s.snap) else s) s

/-- SNAPSHOT_DONE (R623, R624): the counters that the snapshot found enabled, copied one every 20 ns, each with what it held at its own
instant. -/
def execSnapshotDone (s : State) : Res :=
  run (fun s =>
    match s.met.snapAt with
    | none => s
    | some t0 =>
      let ens := s.met.snapSet
      let s := ((List.range ens.length).zip ens).foldl (fun s e =>
        let i := e.2
        let c := s.snapCopy i (t0 + 20 * e.1)
        let ok := !(c.2 == 0 || c.2 == 4 || c.2 == 5)
        s.setRegs [(.PMC_SNAP_VAL_COUNT, i, c.1), (.PMC_SNAP_VAL_VALID, i, flag ok),
          (.PMC_SNAP_VAL_STOPPED, i, flag (c.2 == 3)), (.PMC_SNAP_TIME_TIME, i, t0 + 20 * e.1)]) s
      ((((s.atDev (t0 + 20 * ens.length)).setReg .PMC_CTL_BUSY 0 0).work 55)).updMet (fun m => { m with
        snapAt := none, snapSet := [], snapKept := [] })) s

/-! ### Sampling (R625 to R627) -/

/-- A write of PMC_SAMP_CFG: ENABLE written 1 restarts the match count and clears FULL (R625, R629). DEDUCED: log entry 104. -/
def State.sampCfg (s : State) (v : Nat) : State :=
  let s := s.setRegs [(.PMC_SAMP_CFG_N_MINUS_1, 0, bits v 23 0), (.PMC_SAMP_CFG_ENABLE, 0, bits v 24 24),
    (.PMC_SAMP_CFG_WRAP, 0, bits v 25 25), (.PMC_SAMP_CFG_QUAD_MASK, 0, bits v 33 26), (.PMC_SAMP_CFG_TC_MASK, 0, bits v 41 34),
    (.PMC_SAMP_CFG_IMPRINT, 0, bits v 51 42), (.PMC_SAMP_CFG_IMP_MATCH, 0, bits v 52 52)]
  if bit v 24 then (s.setReg .PMC_SAMP_STATUS_FULL 0 0).updMet (fun m => { m with matched := 0 }) else s.work 55

/-- PMC_SAMP_CFG_WRITE. -/
def execPmcSampCfgWrite (k v : Nat) (s : State) : Res :=
  run (fun s =>
    if s.operator k then s.meetReg 55 { host := k, tag := 0, offset := 0x400010, size := 8, kind := .write, value := v } (fun s => s.sampCfg v) else s) s

/-- TRANSACTION_SAMPLE (R626): the entry of selection number `i` is written; a full buffer overwrites its oldest entry, or stops with FULL. -/
def execTransactionSample (i : Nat) (s : State) : Res :=
  run (fun s =>
    match s.met.sampPend.find? (fun e => e.1 == i) with
    | none => s
    | some e =>
      let s := (s.updMet (fun m => { m with sampPend := m.sampPend.filter (fun x => x.1 != i) })).work 55
      if s.met.samples.length < 4096 then s.updMet (fun m => { m with samples := m.samples ++ [e.2] })
      else if s.on .PMC_SAMP_CFG_WRAP then
        s.updMet (fun m => { m with samples := m.samples.set m.sampOld e.2, sampOld := (m.sampOld + 1) % 4096 })
      else s.setReg .PMC_SAMP_STATUS_FULL 0 1) s

end Sys2Proof.Machine
end

