-- ==== Sys2Proof/Machine/Ports.lean ====
section
/-! DEFINITION. Ports that go down, are contained and are released: what the families of faults, islands, links, slots and
composing commands share (R59, R269 to R278, R342 to R345, R645 to R651, R655). -/

namespace Sys2Proof.Machine

/-! ### Virtual registers and hot-plug (R269 to R274, R783) -/

/-- `s` with its link part changed. -/
def State.updLink (s : State) (f : Links → Links) : State := { s with link := f s.link }

/-- `s` with a virtual register set; its value after a reset is not listed. -/
def State.setVreg (s : State) (k : Nat) (t : CfgTarget) (r : CfgReg) (v : Nat) : State :=
  let rest := s.link.vregs.filter (fun e => !decide (e.1 = ⟨k, t, r⟩))
  s.updLink (fun l => { l with vregs := if v = cfgReset r then rest else rest ++ [(⟨k, t, r⟩, v)] })

/-- Presence Detect State of the port that holds an assignment (R783). -/
def State.presence (s : State) (h : HierRec) : Bool := s.link.devices.any (fun d => d.port == hierPort h)

/-- Data Link Layer Link Active of the port that holds an assignment (R783). -/
def State.linkActive (s : State) (h : HierRec) : Bool :=
  s.presence h && s.on .TILE_PORT_STATUS_LINK_UP (hierPort h) && s.reg .FLT_PORT_STATE (hierPort h) == 0

/-- Both states of every virtual downstream port that holds an assignment: host, port, presence, link active. -/
def State.vdspView (s : State) : List (Nat × Nat × Bool × Bool) :=
  (s.com.hier.filter isAssign).map (fun h => (h.host, h.vdsp, s.presence h, s.linkActive h))

/-- The two states of one port in a view; both 0 where it holds no assignment. -/
def viewOf (l : List (Nat × Nat × Bool × Bool)) (k v : Nat) : Bool × Bool :=
  match l.find? (fun e => e.1 == k && e.2.1 == v) with
  | some e => e.2.2
  | none => (false, false)

/-- The changed bits of Slot Status, and the host's signals where Slot Control, and for a link that is active again DPC Control, enable
them (R269, R272, R783). `up` is the new Link Active. -/
def State.slotEvent (s : State) (k v : Nat) (pdc dlc up : Bool) : State :=
  if !pdc && !dlc then s
  else
    let st := s.vreg k (.vdsp v) .slotStatus
    let ctl := s.vreg k (.vdsp v) .slotCtl
    let st := if pdc then putBit st 3 true else st
    let st := if dlc then putBit st 8 true else st
    let s := s.setVreg k (.vdsp v) .slotStatus st
    let s := if bit ctl 5 && ((pdc && bit ctl 3) || (dlc && bit ctl 12)) then s.emit (.message k "hot-plug") else s
    if dlc && up && bit (s.vreg k (.vdsp v) .dpcCtl) 7 then s.emit (.message k "ERR_COR") else s

/-- A change with the hot-plug events that follow from it; before P5 the virtual ports do not exist (R145). -/
def State.hotplug (f : State → State) (s : State) : State :=
  let a := s.vdspView
  let t := f s
  let b := t.vdspView
  (((a ++ b).map (fun e => (e.1, e.2.1))).eraseDups).foldl (fun t e =>
    let x := viewOf a e.1 e.2
    let y := viewOf b e.1 e.2
    if t.phase < 5 then t else t.slotEvent e.1 e.2 (x.1 != y.1) (x.2 != y.2) y.2) t

/-- DPC Trigger Status, Reason 0b11 and Reason Extension 0b01 at every virtual downstream port with an assignment on port
`p`, with DPC Interrupt Status and the host's signals as DPC Control enables them (R272). PRESUMED: log entry 20. -/
def State.dpcTrigger (s : State) (p : Nat) : State :=
  (s.com.hier.filter (fun h => isAssign h && hierPort h == p)).foldl (fun s h =>
    let t := CfgTarget.vdsp h.vdsp
    let ctl := s.vreg h.host t .dpcCtl
    let s := s.setVreg h.host t .dpcStatus (0x27 + 8 * flag (bit ctl 3 || bit (s.vreg h.host t .dpcStatus) 3))
    let s := if bit ctl 3 then s.emit (.message h.host "DPC") else s
    if bit ctl 4 then s.emit (.message h.host "ERR_COR") else s) s

/-! ### Placement of a device's BARs (R782) -/

/-- The smallest power of two that is not less than `n`. -/
def pow2Up (n : Nat) : Nat := if 2 ^ Nat.log2 n == n then n else 2 ^ (Nat.log2 n + 1)

/-- A range to place: its function, BAR index, whether it is a VF BAR, whether 64-bit, size. -/
structure BarRange where
  rid : Nat
  index : Nat
  vf : Bool
  is64 : Bool
  size : Nat
  deriving DecidableEq, Repr

/-- The memory BARs of a device as ranges (R782 step 1). `nvf` gives NumVFs by PF. -/
def barRanges (nvf : Nat → Nat) (fns : List DevFn) : List BarRange :=
  ((fns.map (fun f => f.bars.map (fun b =>
    let n := 2 ^ max 12 b.sizeLog2
    { rid := f.rid, index := b.index, vf := b.vf, is64 := b.is64 && b.index != 6, size := if b.vf then n * nvf (f.rid % 256) else n }))).flatten).filter
    (fun (r : BarRange) => r.size != 0)

/-- Whether range `a` is placed before range `b` (R782 step 2). -/
def BarRange.first (a b : BarRange) : Bool :=
  let x := pow2Up a.size
  let y := pow2Up b.size
  let i := a.index + 8 * flag a.vf
  let j := b.index + 8 * flag b.vf
  decide (y < x) || (x == y && (decide (a.rid < b.rid) || (a.rid == b.rid && decide (i < j))))

/-- A range put in its place of an ordered list. -/
def BarRange.into (r : BarRange) : List BarRange → List BarRange
  | [] => [r]
  | x :: xs => if r.first x then r :: x :: xs else x :: r.into xs

/-- `a` rounded up to a multiple of `n`. -/
def alignUp (a n : Nat) : Nat := ceilDiv a n * n

/-- The lowest aligned address for a range that overlaps no placed one (R782 step 3). -/
def BarRange.fit (r : BarRange) (placed : List Placed) : Option Nat :=
  let lo := if r.is64 then 2 ^ 38 else 2 ^ 31
  let free := fun a => !placed.any (fun q => match q.base with
    | some b => decide (a < b + q.size) && decide (b < a + r.size)
    | none => false)
  let cand := alignUp lo (pow2Up r.size) :: placed.filterMap (fun q => q.base.map (fun b => alignUp (max lo (b + q.size)) (pow2Up r.size)))
  let ok := cand.filter (fun a => free a && (r.is64 || decide (a + r.size ≤ 2 ^ 32)))
  ok.foldl (fun m a => match m with
    | some x => some (min x a)
    | none => some a) none

/-- Whether a range is one that stands placed. -/
def BarRange.isAt (r : BarRange) (q : Placed) : Bool := r.rid == q.rid && r.index == q.index && r.vf == q.vf && r.size == q.size

/-- The placement of a device's BARs beside those that stay (R782). DESIGN CHOICE: log entry 162. -/
def placeBars (nvf : Nat → Nat) (fns : List DevFn) (old : List Placed := []) : List Placed :=
  let all := barRanges nvf fns
  let kept := old.filter (fun q => all.any (fun r => r.isAt q))
  ((all.filter (fun r => !kept.any r.isAt)).foldl (fun l r => r.into l) []).foldl (fun out r =>
    out ++ [{ rid := r.rid, index := r.index, vf := r.vf, size := r.size, base := r.fit out }]) kept

/-! ### Lanes of a port -/

/-- `s` with a lane field written on every lane of a port. -/
def State.setLanes (s : State) (p : Nat) (f : Fld) (v : Nat) : State := (s.lanes p).foldl (fun s l => s.setReg f l v) s

/-- State field of a lane direction. -/
def laneField : Dir → Fld
  | .tx => .TILE_LANE_STATUS_TX_STATE
  | .rx => .TILE_LANE_STATUS_RX_STATE

/-- The number under which a lane direction's sleep is kept. -/
def dirKey (l : Nat) : Dir → Nat
  | .tx => 2 * l
  | .rx => 2 * l + 1

/-- A direction that is ACTIVE sleeps: SLEEP_LIGHT from now, its clock recovery unlocked (R197 to R200). -/
def State.sleepDir (s : State) (l : Nat) (d : Dir) : State :=
  if s.reg (laneField d) l == 1 then
    let s := (s.setReg (laneField d) l 2).updLink (fun k => { k with asleep := Sparse.set id k.asleep (dirKey l d) s.now })
    match d with
    | .rx => s.setReg .TILE_LANE_STATUS_CDR_LOCK l 0
    | .tx => s
  else s

/-- The eye after a step toward `v`, which moves it by 1/64 of its present opening at most, and by one unit of the register where that is
less than one (R193). DEDUCED: log entry 145. -/
def eyeStep (cur v : Nat) : Nat := min (cur + max 1 (cur / 64)) (max (cur - max 1 (cur / 64)) v)

/-- A receiver adapts by one step toward an eye and a peaking code; an eye that falls below a quarter of its trained height is marked and
logged (R193, R195). -/
def State.adaptTo (s : State) (l h w c : Nat) : State :=
  let t := (Sparse.get? s.link.trainedEye l).getD 0
  let h := eyeStep (s.reg .TILE_LANE_ADAPT_EYE_H l) (min 255 h)
  let w := eyeStep (s.reg .TILE_LANE_ADAPT_EYE_W l) (min 255 w)
  let low := decide (4 * h < t)
  let was := decide (4 * s.reg .TILE_LANE_ADAPT_EYE_H l < t)
  let s := s.setRegs [(.TILE_LANE_ADAPT_EYE_H, l, h), (.TILE_LANE_ADAPT_EYE_W, l, w), (.TILE_LANE_ADAPT_CTLE, l, c)]
  if low && !was then (s.setReg .TILE_LANE_STATUS_MARGIN_LOW l 1).report 0x57 0 l else s

/-- A sleeping direction is ready for data again: the receiver relocks, from deep sleep after an offset calibration and a short adaptation
(R200). DESIGN CHOICE: log entry 167. -/
def State.wakeDir (s : State) (l : Nat) (d : Dir) : State :=
  let deep := s.reg (laneField d) l == 3
  let s := (s.setReg (laneField d) l 1).updLink (fun k => { k with asleep := Sparse.erase k.asleep (dirKey l d) })
  match d with
  | .rx =>
    let s := s.setRegs [(.TILE_LANE_STATUS_CDR_LOCK, l, 1), (.TILE_LANE_STATUS_SIG_DET, l, 1)]
    let e := Config.wakeEye l s.now
    if deep then (s.bump .TILE_LANE_ADAPT_CAL_COUNT l).adaptTo l e.1 e.2.1 e.2.2 else s
  | .tx => s

/-- Twice the rate of an encoding of R169, in GT/s. -/
def rate2 (r : Nat) : Nat :=
  match r with
  | 1 => 5
  | 2 => 10
  | 3 => 16
  | 4 => 32
  | 5 => 64
  | 6 => 128
  | 7 => 256
  | _ => 0

/-- Bits that a lane's checker has checked since the last read of TILE_PRBS_ERR (R215, R216): the test rate while it is
synchronised. -/
def State.checkedBits (s : State) (l : Nat) : Nat :=
  match Sparse.get? s.link.prbs l with
  | some (since, n) =>
    if s.reg .TILE_LANE_TEST_CHK_SYNC l == 1 then n + rate2 (s.reg .TILE_LANE_STATUS_RATE l) * (s.now - since) / 2 else n
  | none => 0

/-- The checked-bit count goes on from `n` now. -/
def State.countFrom (s : State) (l n : Nat) : State := s.updLink (fun k => { k with prbs := Sparse.set id k.prbs l (s.now, n) })

/-- The checker of a lane stops: it is no longer synchronised, and what it has checked stays until it is read (R215, R216). -/
def State.checkerOff (s : State) (l : Nat) : State :=
  if s.reg .TILE_LANE_TEST_CHK_SYNC l == 1 then (s.countFrom l (s.checkedBits l)).setReg .TILE_LANE_TEST_CHK_SYNC l 0 else s

/-- Both directions of a lane: OFF 0, ACTIVE 1, SLEEP_LIGHT 2, SLEEP_DEEP 3, TEST 4 (R218). -/
def State.laneTo (s : State) (l st : Nat) : State := s.setRegs [(.TILE_LANE_STATUS_TX_STATE, l, st), (.TILE_LANE_STATUS_RX_STATE, l, st)]

/-- Every RW field of TILE_LANE_TEST at its reset value (R221); the checker, the generator and the injection stop. -/
def State.clearTest (s : State) (l : Nat) : State :=
  ((s.checkerOff l).updLink (fun k => { k with injecting := Sparse.erase k.injecting l, gens := Sparse.erase k.gens l })).setRegs [(.TILE_LANE_TEST_LPBK, l, 0),
    (.TILE_LANE_TEST_GEN_PAT, l, 0), (.TILE_LANE_TEST_CHK_PAT, l, 0), (.TILE_LANE_TEST_INJ_MODE, l, 0), (.TILE_LANE_TEST_INJ_EXP, l, 8),
    (.TILE_LANE_TEST_TX_IDLE, l, 0)]

/-- A lane goes OFF in both directions. -/
def State.laneOff (s : State) (l : Nat) : State :=
  ((s.laneTo l 0).updLink (fun k => { k with asleep := Sparse.erase (Sparse.erase k.asleep (2 * l)) (2 * l + 1) })).setRegs [(.TILE_LANE_STATUS_RATE, l, 0), (.TILE_LANE_STATUS_SIG_DET, l, 0), (.TILE_LANE_STATUS_CDR_LOCK, l, 0)]

/-- Whether a lane is in TEST. -/
def State.inTest (s : State) (l : Nat) : Bool := s.reg .TILE_LANE_STATUS_TX_STATE l == 4

/-- Coefficients of a transmitter. -/
def State.setCoefs (s : State) (l : Nat) (c : Nat × Nat × Nat) : State :=
  s.setRegs [(.TILE_LANE_EQ_C_PRE, l, c.1), (.TILE_LANE_EQ_C_MAIN, l, c.2.1), (.TILE_LANE_EQ_C_POST, l, c.2.2)]

/-- Equalisation of a transmitter starts at a rate: from INIT_PRESET, or INIT_PRESET_Q at PAM4 rates; below 8 GT/s none is applied
(R180, R191, R219). -/
def State.startEq (s : State) (l rate : Nat) (sl : LanePort) : State :=
  if rate < 3 then (s.setReg .TILE_LANE_EQ_PRESET l 15).setCoefs l (0, 0, 0)
  else
    let n := if 6 ≤ rate then sl.presetQ else sl.preset
    (s.setReg .TILE_LANE_EQ_PRESET l n).setCoefs l (Config.presetCoefs n)

/-- Whether the transmitter accepts a coefficient set at a rate (R189). -/
def coefsOk (rate pre main post : Nat) : Bool :=
  pre + main + post == 48 && decide (pre + post + (if rate ≤ 5 then 16 else 12) ≤ main) && decide (pre ≤ 12) && decide (post ≤ 16)

/-- Whether a request of the partner is accepted: EQ_LOCK rejects every one, and a set must keep the limits (R189 to R191). -/
def eqAccepts (rate : Nat) (sl : LanePort) (q : EqRequest) : Bool :=
  decide (3 ≤ rate) && !sl.eqLock && (match q with
    | .preset n => decide (n ≤ 10)
    | .coefs a b c => coefsOk rate a b c)

/-- A request of the partner is applied where it is accepted (R189 to R191, R219). -/
def State.requestEq (s : State) (l rate : Nat) (sl : LanePort) (q : EqRequest) : State :=
  if eqAccepts rate sl q then
    match q with
    | .preset n => (s.setReg .TILE_LANE_EQ_PRESET l n).setCoefs l (Config.presetCoefs n)
    | .coefs a b c => (s.setReg .TILE_LANE_EQ_PRESET l 15).setCoefs l (a, b, c)
  else s

/-- The polarity of physical lane `l` that its tile's entry gives, and `detected` on its receiver where the entry forces none (R179, R185,
R186, R218). -/
def State.setPolarity (s : State) (l : Nat) (detected : Bool) : State :=
  let tile := (s.tileRec (l / 8)).getD { tile := l / 8, mode := 0 }
  let j := l % 8
  s.setRegs [(.TILE_LANE_STATUS_RX_INV, l, flag (if bit tile.rxPolForce j then bit tile.rxPolVal j else detected)),
    (.TILE_LANE_STATUS_TX_INV, l, flag (bit tile.txInv j))]

/-- Physical lane `l` runs as port lane `i` of a port at a rate: polarity, order and the eye at the end of training (R180, R185 to R188,
R195). -/
def State.tuneLane (s : State) (l i rate : Nat) (t : LaneTune) (sl : LanePort) : State :=
  let rev := if sl.revForce then sl.revVal else t.reversed
  let s := ((s.laneTo l 1).setPolarity l (bit t.polarity i)).setRegs [(.TILE_LANE_STATUS_PORT_LANE, l, i), (.TILE_LANE_STATUS_REVERSED, l, flag rev), (.TILE_LANE_STATUS_RATE, l, rate),
    (.TILE_LANE_STATUS_SIG_DET, l, 1), (.TILE_LANE_STATUS_CDR_LOCK, l, 1),
    (.TILE_LANE_ADAPT_EYE_H, l, t.eyeH), (.TILE_LANE_ADAPT_EYE_W, l, t.eyeW), (.TILE_LANE_ADAPT_CTLE, l, t.ctle)]
  s.updLink (fun k => { k with
    trainedEye := Sparse.set id k.trainedEye l (t.eyeH % 256), asleep := Sparse.erase (Sparse.erase k.asleep (2 * l)) (2 * l + 1) })

/-- Equalisation of a host or device port's lane in training: the initial preset, then the partner's requests for it in order; none where
both sides have declared that none is needed, and its transmitter keeps what it has (R190, R191). -/
def State.equalise (s : State) (l i rate : Nat) (t : LaneTune) (sl : LanePort) : State :=
  if t.noEq then s else ((t.eq.filter (fun e => e.1 == i)).foldl (fun s e => s.requestEq l rate sl e.2) (s.startEq l rate sl))

/-- Lanes of a port that lost its link go OFF until it next trains; a lane in TEST stays (R188, R204, DEDUCED, log entry 41). -/
def State.lanesOff (s : State) (p : Nat) : State :=
  (s.lanes p).foldl (fun s l => if s.inTest l then s else s.laneOff l) s

/-- Lane directions of a port that is disabled or in L1 sleep, but those that are OFF or in TEST (R197, R199). -/
def State.lanesSleep (s : State) (p : Nat) : State := (s.lanes p).foldl (fun s l => (s.sleepDir l .tx).sleepDir l .rx) s

/-! ### The composing lock and the running command (R98, R715 to R718) -/

/-- `s` with the running command changed. -/
def State.updRun (s : State) (f : Running → Running) : State := { s with port := { s.port with running := s.port.running.map f } }

/-- The running command that waits for `w` has its result. -/
def State.finish (s : State) (w : Wait) (code : Nat) (ret : List Nat := []) : State :=
  s.updRun (fun r => if r.wait = w && r.result.isNone then { r with result := some (code, ret) } else r)

/-- Staged copies of the scopes of a mask return to their active values (R97, R98). -/
def State.discardScopes (s : State) (mask : Nat) : State :=
  let parts := (s.com.parts.map (fun a => { a with scopes := a.scopes - (a.scopes &&& mask) })).filter (fun a => a.scopes != 0)
  { s with
      staged := s.staged.filter (fun e => !bit mask e.1.fld.scope),
      com := { s.com with staged := if bit mask 0 then [] else s.com.staged, parts } }

/-- The lock is released and all staged state discarded; `broken` sets BROKEN (R98, R715, R718). -/
def State.releaseLock (s : State) (broken : Bool) : State :=
  let s := if broken then s.setReg .CMP_LOCK_BROKEN 0 1 else s
  ((s.setRegs [(.CMP_LOCK_HELD, 0, 0), (.CMP_LOCK_HOST_INDEX, 0, 0), (.CMP_LOCK_FUNCTION, 0, 0)]).discardScopes 0xFF).vectorOps 3

/-- Whether host `k` holds the composing lock. -/
def State.holdsLock (s : State) (k : Nat) : Bool := s.on .CMP_LOCK_HELD && s.reg .CMP_LOCK_HOST_INDEX 0 == k

/-- A reset, FLR or removal reaches host `k`: a command of its own runs on and loses its result; the lock that it holds is
released now, or when that command ends (R162, R715, R716). -/
def State.ownerReset (s : State) (k : Nat) : State :=
  match s.port.running with
  | some r =>
    if r.host == k then
      let s := s.updRun (fun r => { r with discard := true })
      if s.holdsLock k then { s with port := { s.port with lockDrop := true } } else s
    else if s.holdsLock k then s.releaseLock true else s
  | none => if s.holdsLock k then s.releaseLock true else s

/-! ### Guard bands (R491, R493) -/

/-- Longest time on the wire of one packet in bytes (R491): by role, flit mode, CXL and rate. -/
def bMax (role : Nat) (flit cxl : Bool) (rate : Nat) : Nat :=
  if role == 3 then 5120
  else if cxl then (if rate == 6 then 4864 else 4488)
  else if flit then 4864
  else if rate ≤ 2 then 5215
  else 4238

/-- Guard band in ns of a link (R491). -/
def guardOf (b rate width : Nat) : Nat := ceilDiv (b * 16) (rate2 rate * width)

/-- A port's rate or width changes: its new guard band waits to come into force, and the larger governs (R493). -/
def State.guardChange (s : State) (p rate width : Nat) : State :=
  let g := guardOf (bMax (s.role p) (s.on .TILE_PORT_STATUS_FLIT p) (s.on .TILE_PORT_STATUS_CXL p) rate) rate width
  { s with tr := { s.tr with guardNew := Sparse.set id s.tr.guardNew p g } }

/-! ### Proofs (R205, R727, R729) -/

/-- A running proof ends: its outcome, its vector (R729, R730); a march returns its sheets (R545), a lane test its lanes
(R205, R221). -/
def State.endProof (s : State) (h outcome : Nat) : State :=
  match s.port.proofs.find? (fun p => p.handle == h) with
  | none => s
  | some p =>
    let s := ({ s with port := { s.port with proofs := s.port.proofs.filter (fun p => p.handle != h) } }).work 55
    let s := s.setRegs [(.CMP_PROOF_STATE, h, 2), (.CMP_PROOF_OUTCOME, h, outcome)]
    let s := if p.typ == 2 then (span p.target (p.target + p.param - 1)).foldl (fun s n =>
        if s.reg .MEM_SHEET_STATE n == 5 then s.setReg .MEM_SHEET_STATE n 0 else s) s else s
    let s := if p.typ == 1 then (s.lanes p.target).foldl (fun s l => (s.clearTest l).laneOff l) s else s
    s.vector (s.reg .CMP_PROOF_HOST_INDEX h) 4

/-- Whether a proof keeps island `i` out of service: a tile of its port, a memory island or a quad (R205, R729). -/
def State.proofOn (s : State) (p : Proof) (i : Nat) : Bool :=
  match p.typ with
  | 1 => (s.portTiles p.target).contains i
  | 2 => decide (42 ≤ i) && decide (i ≤ 45)
  | 3 => i == 42 + p.target
  | 4 => i == 42 + p.target
  | _ => i == 32 + p.target

/-- A reset or loss of island `i`, or a fence of a tile, ends the proofs on it with ABORTED (R205, R729). -/
def State.abortProofs (s : State) (i : Nat) : State :=
  (s.port.proofs.filter (fun p => s.proofOn p i)).foldl (fun s p => s.endProof p.handle 3) s

/-! ### DMA engines (R281 to R287) -/

/-- Completion timeout in ns that Device Control 2 selects (R285). -/
def dmaTimeout (v : Nat) : Nat :=
  match v % 16 with
  | 1 => 100000
  | 2 => 10000000
  | 5 => 55000000
  | 6 => 210000000
  | 9 => 900000000
  | 10 => 3500000000
  | 13 => 13000000000
  | 14 => 64000000000
  | _ => 50000000

/-- Whether the endpoint of host `k` may master: Bus Master Enable is set and it is in D0 (R243). -/
def State.mayMaster (s : State) (k : Nat) : Bool := bit (s.vreg k .mep .command) 2 && s.vreg k .mep .pmcsr % 4 != 3

/-- Reads into which the engine splits `len` bytes from `addr` with a Max Read Request Size (R281). -/
def readCount (addr len unit : Nat) : Nat := if len = 0 then 0 else (addr + len - 1) / unit - addr / unit + 1

/-- The lowest tag of host `k` that is neither outstanding nor in quarantine. -/
def State.freeTag (s : State) (k : Nat) : Option Nat :=
  (List.range 256).find? (fun t => !s.link.dma.any (fun e => e.host == k && e.tag == t))

/-- The engine of host `k` issues the next read of a recovery load or of the running command, where it has one and a free tag
(R152, R281). -/
def State.issueRead (s : State) (k : Nat) : State :=
  match s.freeTag k with
  | none => s
  | some t =>
    let tag : DmaTag := { host := k, tag := t, due := s.now + dmaTimeout (s.vreg k .mep .devCtl2) }
    let put := fun (s : State) => { s with link := { s.link with dma := s.link.dma ++ [tag] } }
    if s.reg .CMP_DMA_STATUS_STATE k != 1 then s
    else match s.boot.recov, s.port.running with
    | some _, _ => if k == s.boot.recovHost && s.boot.recovReads != 0 then put { s with boot := { s.boot with recovReads := s.boot.recovReads - 1 } } else s
    | none, some r => if r.host == k && r.reads != 0 && r.wait = .dma && r.result.isNone then put (s.updRun (fun r => { r with reads := r.reads - 1 })) else s
    | none, none => s

/-- The engine of host `k` starts to read: as many of `n` reads as it has tags (R281). -/
def State.startReads (s : State) (k n : Nat) : State := (List.range (min 256 n)).foldl (fun s _ => s.issueRead k) (s.setReg .CMP_DMA_STATUS_STATE k 1)

/-- Outstanding tags of host `k`'s engine go into quarantine (R281, R282). -/
def State.quarantineTags (s : State) (k : Nat) : State :=
  let due := s.now + dmaTimeout (s.vreg k .mep .devCtl2)
  s.updLink (fun l => { l with dma := l.dma.map (fun t => if t.host == k && !t.quarantined then { t with quarantined := true, due } else t) })

/-- A command of host `k` that reads through the engine ends with DMA_ERROR (R281, R284). -/
def State.dmaFail (s : State) (k : Nat) : State := s.updRun (fun r =>
  if r.host == k && r.wait = .dma && r.result.isNone then { r with result := some (0x17, []) } else r)

/-- Host `k`'s DMA engine stops (R282, R287). -/
def State.dmaStop (s : State) (k : Nat) (signal : Bool) : State :=
  let was := s.reg .CMP_DMA_STATUS_STATE k == 2
  let s := ((s.quarantineTags k).dmaFail k).setReg .CMP_DMA_STATUS_STATE k 2
  if signal && !was then s.vector k 5 else s

/-! ### Sealed read-modify-writes that fail (R405) -/

/-- `s` with its list of line locks replaced. -/
def State.setSeals (s : State) (l : List SealRmw) : State := { s with tr := { s.tr with seals := l } }

/-- `s` without a line lock. -/
def State.delSeal (s : State) (i ln : Nat) : State := s.setSeals (s.tr.seals.filter (fun x => !(x.pkt == i && x.line == ln)))

/-- The line of packet `i` is merged: it may leave in its turn. -/
def State.sealDone (s : State) (i : Nat) : State := s.updPkt i (fun p => { p with place := .shared, merged := true })

/-- A read-modify-write fails: the lock is released, and its packet, which writes to that line alone, is dropped (R405); of a deferrable
write that piece ends with Completer Abort. DESIGN CHOICE: log entry 172. -/
def State.sealFail (s : State) (x : SealRmw) : State :=
  let s := (s.delSeal x.pkt x.line).bump .IMP_Q_SEAL_RMW_FAIL x.quad
  match s.pkt x.pkt with
  | none => s
  | some p => ((s.report 0x33 2 (p.imprint.getD 0) none (some (32 + x.quad))).discard p (fun s o => s.pieceFail o .ca) 2).settleQueue p.q

/-- Every read-modify-write toward a port fails. -/
def State.sealFailPort (s : State) (p : Nat) : State :=
  (s.tr.seals.filter (fun x => x.port == p)).foldl (fun s x => s.sealFail x) s

/-! ### Host and device ports that go down (R276 to R278) -/

/-- A port's link is gone: its status, its sleep, its security; its lanes go OFF, or sleep where the port is disabled (R188, R197). -/
def State.linkGone (s : State) (p : Nat) (disabled : Bool := false) : State :=
  let s := s.setRegs [(.TILE_PORT_STATUS_LINK_UP, p, 0), (.TILE_PORT_STATUS_RATE, p, 0), (.TILE_PORT_STATUS_WIDTH, p, 0),
    (.TILE_PORT_STATUS_FLIT, p, 0), (.TILE_PORT_STATUS_CXL, p, 0), (.TILE_PORT_STATUS_IDE, p, 0), (.GATE_GUARD_GUARD, p, 0)]
  let s := (s.bump .TILE_PORT_STATUS_LINK_DOWN_COUNT p).updLink (fun l =>
    { l with
      quiet := dropFrom p l.quiet, training := dropFrom p l.training, follow := dropFrom p l.follow, flits := l.flits.filter (fun f => f.port != p),
      ideKeys := l.ideKeys.filter (fun e => e.1 != p), ideMem := Sparse.erase l.ideMem p })
  let s := (s.portTiles p).foldl (fun s t => s.work t) s
  if disabled then s.lanesSleep p else s.lanesOff p

/-- A port without a link trains no more, and follows no loopback any more: its lanes go OFF (R211). -/
def State.trainStop (s : State) (p : Nat) : State :=
  let was := s.link.follow.contains p
  let s := s.updLink (fun l => { l with training := dropFrom p l.training, follow := dropFrom p l.follow })
  if was then s.lanesOff p else s

/-- A device port goes link down (R276, R405, R783). DEDUCED: log entry 85. -/
def State.deviceDown (s : State) (p : Nat) : State :=
  if s.on .TILE_PORT_STATUS_LINK_UP p then State.hotplug (fun s => ((s.linkGone p (s.reg .FLT_PORT_STATE p == 1)).sealFailPort p).loseDest p) s
  else s.trainStop p

/-- Outstanding requests of a host are retired, and no answer is sent (R277). -/
def State.retireHost (s : State) (k : Nat) : State :=
  { s with tr := { s.tr with outs := s.tr.outs.filter (fun o => !decide (o.src = .host k)) } }

/-- Function-seconds of a host port's assignments end (R601). -/
def State.endHostSpans (s : State) (p : Nat) : State :=
  match s.portRec p with
  | some r => (span 1 31).foldl (fun s v => s.endSpan false (spanKey r.hostIndex v) s.dev) s
  | none => s

/-- A host port's link goes down: packets and requests to it are lost (R278). -/
def State.hostLinkDown (s : State) (p : Nat) : State :=
  if s.on .TILE_PORT_STATUS_LINK_UP p then ((s.linkGone p).loseDest p).endHostSpans p
  else s.trainStop p

/-- SLOT_PERST_N of a device port's channel: low while `low`. -/
def State.slotPerst (s : State) (p : Nat) (low : Bool) : State :=
  match s.portChan p with
  | some k => s.setReg .SLT_STATUS_PERST k (flag low)
  | none => s

/-- Registers of a management endpoint of its own: command results, arguments, late completions. -/
def ofEndpoint (r : RegKey) (k : Nat) : Bool :=
  match r.fld with
  | .CMP_RESULT_STATE | .CMP_RESULT_RESULT | .CMP_RESULT_OPCODE | .CMP_RESULT_TOKEN | .CMP_DMA_LATE_COUNT => r.idx == k
  | .CMP_ARG_VALUE => r.idx / 32 == k
  | .CMP_RET_VALUE => r.idx / 16 == k
  | _ => false

/-- The registers and state of host `k`'s management endpoint function return to their reset values (R277, R287). -/
def State.clearMep (s : State) (k : Nat) : State :=
  { s with
      regs := s.regs.filter (fun c => !ofEndpoint c.1 k),
      link := { s.link with
        vregs := s.link.vregs.filter (fun e => !(e.1.host == k && decide (e.1.target = .mep))),
        msix := s.link.msix.filter (fun e => e.1 / 256 != k), pba := Sparse.erase s.link.pba k } }

/-- The registers and state of host `k`'s virtual functions return to their reset values (R277). -/
def State.clearVregs (s : State) (k : Nat) : State :=
  (s.clearMep k).updLink (fun l => { l with vregs := l.vregs.filter (fun e => e.1.host != k) })

/-- A hierarchy change that follows from a reset waits for its commit (R235, R247, R387). -/
def State.askHier (s : State) (k : Nat) : State :=
  { s with com := { s.com with hierQ := s.com.hierQ ++ [{ host := k, target := .usp, reg := .other 0xFFFF, value := 0, answer := false }] } }

/-- A Function Level Reset goes to a device function. -/
def State.sendFlr (s : State) (p rid : Nat) : State := s.emit (.forward p rid "FLR")

/-- Assigned functions of host `k` are reset: a whole device by a hot reset of its port, VFs by FLR (R277, R246). -/
def State.resetAssigned (s : State) (k : Nat) : State :=
  (s.com.hier.filter (fun h => h.host == k)).foldl (fun s h =>
    match h.kind with
    | 1 => s.emit (.forward (hierPort h) 0 "hot reset")
    | 2 => (s.assignRids h).foldl (fun s r => s.sendFlr (hierPort h) r) s
    | _ => s) s

/-- Host `k`'s writes to its hierarchy that wait for a commit, or for the answer after one, are retired with it (R277). -/
def State.dropWrites (s : State) (k : Nat) : State :=
  let keep := fun (l : List HierWrite) => l.filter (fun w => w.host != k)
  { s with com := { s.com with
                      hierQ := keep s.com.hierQ, redo := keep s.com.redo, owed := keep s.com.owed,
                      cur := s.com.cur.map (fun c => { c with writes := keep c.writes }) } }

/-- A host-port reset of host `k`; before P5 it affects the port's colophon view alone (R157, R162, R167, R277). -/
def State.hostReset (s : State) (k : Nat) : State :=
  if s.phase < 5 then (s.dmaStop k false).clearVregs k
  else
    let s := (s.dmaStop k false).retireHost k
    (((((s.dropWrites k).resetAssigned k).clearVregs k).askHier k).ownerReset k)

/-! ### Fabric ports that go down (R342 to R345) -/

/-- The data link of a fabric port. -/
def State.dlink (s : State) (p : Nat) : Dlink := (s.dl.find? (fun d => d.port == p)).getD { port := p }

/-- `s` with the data link of a fabric port replaced. -/
def State.setDlink (s : State) (p : Nat) (d : Dlink) : State :=
  { s with dl := s.dl.filter (fun e => e.port != p) ++ [{ d with port := p }] }

/-- `s` with the data link of a fabric port changed. -/
def State.updDlink (s : State) (p : Nat) (f : Dlink → Dlink) : State := s.setDlink p (f (s.dlink p))

/-- The record of a request that left this switch over the fabric under a requester ID and a tag (R353). -/
def State.fabMatch (s : State) (rid tag : Nat) : Option OutReq :=
  s.tr.outs.find? (fun o => o.sent && s.role o.port == 3 && o.tag == tag && fabRid (ownSw s.com.active) o.inPort == rid)

/-- A completion without data for a request that came over the fabric (R345). -/
def State.fabricUr (s : State) (p : Nat) (t : Transit) : State :=
  let own := ownSw s.com.active
  s.sendFabric p { ptype := 3, tc := t.tc, dstSw := t.srcSw, srcSw := own, srcPort := p, tag := t.tag, rid := t.rid, status := .ur } .completion none none none

/-- A non-posted request that cannot go on is answered (R345, R351): where its requester is on this switch, as a lost destination answers it;
else toward its origin. -/
def State.fabricAnswer (s : State) (p : Nat) (t : Transit) : State :=
  if t.srcSw == ownSw s.com.active then
    match s.fabMatch t.rid t.tag with
    | some o => s.outLost o
    | none => s
  else (s.fabricUr p t).count { imprint := none, kind := .synth, tc := t.tc, ts := s.dev, src := 32 + quadOf p }

/-- A transit record is answered and retired (R345). -/
def State.answerTransit (s : State) (t : Transit) : State :=
  let s := { s with tr := { s.tr with transits := s.tr.transits.filter (fun x => x.id != t.id) } }
  match t.origin with
  | some i =>
    match s.outReq i with
    | some o => s.outLost o
    | none => s
  | none => s.fabricAnswer t.port t

/-- Packets of which a replay buffer holds a part: those whose headers stand in it, and the one that its first folio goes on with. -/
def replayCount (d : Dlink) : Nat :=
  d.replay.foldl (fun n e => n + (e.pkts.filter (fun p => p.ptype != 0 && p.ptype != 4)).length) 0 +
  flag (d.replay.head?.any (fun e => e.fhp != 0))

/-- The registers of a data link that is not in training: DOWN, no width, no lanes (R355). -/
def State.dlDown (s : State) (t : Nat) : State :=
  s.setRegs [(.TILE_DL_STATUS_STATE, t, 0), (.TILE_DL_STATUS_TX_WIDTH, t, 0), (.TILE_DL_STATUS_RX_WIDTH, t, 0),
    (.TILE_DL_STATUS_TX_PEND, t, 0), (.TILE_DL_STATUS_RX_PEND, t, 0), (.TILE_DL_MASK_TX_MASK, t, 0), (.TILE_DL_MASK_RX_MASK, t, 0)]

/-- A fabric port goes link down: everything queued for it is dropped and counted, its transit records are answered, its
data link starts again from training, after 1 ms unless it is disabled or its tile is fenced (R342 to R345). `src` is
the fault logged, `disabled` says that the port is being disabled. DEDUCED: log entry 22. -/
def State.fabDown (s : State) (p : Nat) (src : Option Nat) (disabled : Bool := false) : State :=
  let st := s.dlState p
  if st == 0 || st == 6 then s
  else
    let t := p / 4
    let s := match src with
      | some c => s.report c 1 p (if c == 0x29 then some 2 else none)
      | none => s
    let d := s.dlink p
    let s := s.dlDown t
    let gone := s.tr.pkts.filter (fun k => k.dest == p && decide (k.place ≠ .cipher))
    let n := gone.length + replayCount d + d.cmdQ.length + (if d.partly.isSome then 1 else 0)
    let s := (s.discardAll gone (fun s o => s.outLost o) 2).settleAll gone
    let s := s.bump .TILE_DL_DROP_COUNT t n
    let s := s.setDlink p { port := p, retryAt := some (s.now + 1000000), left := if s.closed t then [] else d.left ++ d.inbox }
    let s := { s with isl := { s.isl with waking := s.isl.waking.map (fun (e : Nat × Held) => match e.2 with
      | .fab q f ts l => (e.1, .fab q f ts (l && q != p))
      | h => (e.1, h)) } }
    let s := s.linkGone p disabled
    let s := s.finish (.width p) 0x30
    (s.tr.transits.filter (fun x => x.port == p)).foldl (fun s x => s.answerTransit x) s

/-- A fabric port is disabled. -/
def State.fabDisable (s : State) (p : Nat) : State :=
  let s := s.fabDown p none true
  (s.updDlink p (fun d => { d with retryAt := none })).setReg .TILE_DL_STATUS_STATE (p / 4) 6

/-! ### Containment and release (R645 to R651) -/

/-- A device port enters Downstream Port Containment (R646). -/
def State.dpc (s : State) (p : Nat) : State :=
  if s.reg .FLT_PORT_STATE p != 0 then s
  else
    let s := State.hotplug (fun s => ((s.setReg .FLT_PORT_STATE p 1).deviceDown p)) s
    (s.slotPerst p true).dpcTrigger p

/-- A port is contained as its role gives (R645). -/
def State.containPort (s : State) (p : Nat) : State :=
  match s.role p with
  | 2 => s.dpc p
  | 1 => if s.reg .FLT_PORT_STATE p != 0 then s else (s.setReg .FLT_PORT_STATE p 2).loseDest p false
  | 3 => if s.reg .FLT_PORT_STATE p != 0 then s else (s.setReg .FLT_PORT_STATE p 2).fabDisable p
  | _ => s

/-- An imprint is quarantined, and the record of the interval carries it (R648, R609). -/
def State.quarantine (s : State) (i : Nat) : State :=
  let w := s.reg .FLT_QUAR_QUARANTINED (i / 32)
  (s.setReg .FLT_QUAR_QUARANTINED (i / 32) (putBit w (i % 32) true)).updMet (fun m =>
    { m with opened := updRec m.opened (some i) (fun r => { r with quarantined := true }) })

/-- The FLT_FUNC entry of a function. -/
def State.funcEntry (s : State) (p rid : Nat) : Option Nat :=
  (List.range 256).find? (fun n => s.reg .FLT_FUNC_STATE n != 0 && s.reg .FLT_FUNC_PORT n == p && s.reg .FLT_FUNC_RID n == rid)

/-- Whether a function is a PF of an SRIOV_SETUP entry, so that a FUNCTION scope that names it is widened to its port (R649). -/
def State.widened (s : State) (p rid : Nat) : Bool := s.com.hier.any (fun h => h.kind == 4 && hierPort h == p && pfRid h.pf == rid)

/-- A function is contained, widened to its port for a PF of an SRIOV_SETUP entry and when no entry is free (R649). -/
def State.containFunc (s : State) (p rid : Nat) : State :=
  if s.widened p rid then s.containPort p
  else
    match s.funcEntry p rid with
    | some _ => s
    | none =>
      match (List.range 256).find? (fun n => s.reg .FLT_FUNC_STATE n == 0) with
      | none => s.containPort p
      | some n => (s.setRegs [(.FLT_FUNC_STATE, n, 1), (.FLT_FUNC_RID, n, rid), (.FLT_FUNC_PORT, n, p)]).loseFunc p rid

/-- Containment of a scope (R645). -/
def State.contain (s : State) (kind scope : Nat) : State :=
  match kind with
  | 1 => s.containPort (scope % 128)
  | 2 => s.quarantine (scope % 1024)
  | 3 => s.containFunc (scope / 4096 % 128) (scope % 4096)
  | _ => s

/-- A channel of the slot-power die. -/
def State.ch (s : State) (k : Nat) : Chan := (s.chan.find? (fun c => c.k == k)).getD { k := k }

/-- `s` with a channel changed. -/
def State.updCh (s : State) (k : Nat) (f : Chan → Chan) : State :=
  { s with chan := s.chan.filter (fun c => c.k != k) ++ [{ f (s.ch k) with k := k }] }

/-- Whether SLOT_PERST_N of a channel may be high (R693). -/
def State.perstFree (s : State) (k p : Nat) : Bool :=
  decide (s.boot.stage = .none) && s.reg .SLT_STATUS_STATE k == 4 && decide ((s.ch k).stateAt + 100000000 ≤ s.now) && s.reg .FLT_PORT_STATE p != 1 &&
  (s.link.training.contains p || s.on .TILE_PORT_STATUS_LINK_UP p) && !(s.lanes p).any s.inTest

/-- SLOT_PERST_N of a device port's channel takes the level that R693 gives it. -/
def State.perstRule (s : State) (p : Nat) : State :=
  match s.portChan p with
  | some k => s.setReg .SLT_STATUS_PERST k (flag !(s.perstFree k p))
  | none => s

/-- PERST_N of a host port is low (R135). -/
def State.perstHeld (s : State) (p : Nat) : Bool :=
  match s.portRec p with
  | some r => r.role == 1 && s.link.perstLow.contains r.hostIndex
  | none => false

/-- A port may train: nothing holds it down, and the switch has reached P4 (R135, R136, R204, R646). DEDUCED: log entry 70. -/
def State.mayTrain (s : State) (p : Nat) : Bool :=
  decide (4 ≤ s.phase) && !s.perstHeld p && s.reg .FLT_PORT_STATE p != 1 && (s.portTiles p).all (fun t => !s.closed t && s.running t) &&
  !(s.lanes p).any s.inTest

/-- A port begins training; a device port's SLOT_PERST_N is released as R693 gives (R651). -/
def State.startTrain (s : State) (p : Nat) : State :=
  if s.mayTrain p then (s.updLink (fun l => { l with training := addTo p l.training })).perstRule p else s

/-- Release of a scope (R651); a scope that is not contained: no effect (R650). Lanes of a port that is disabled no more sleep no more: they are
OFF until it trains (R188, R197). -/
def State.releaseScope (s : State) (kind scope : Nat) : State :=
  match kind with
  | 1 =>
    let p := scope % 128
    if s.reg .FLT_PORT_STATE p == 0 then s
    else
      let s := s.setReg .FLT_PORT_STATE p 0
      match s.role p with
      | 2 => (s.lanesOff p).startTrain p
      | 3 =>
        let s := s.lanesOff p
        if (s.lanes p).any s.inTest || !(s.portTiles p).all s.running then (s.setReg .TILE_DL_STATUS_STATE (p / 4) 0).updDlink p (fun d => { d with retryAt := some s.now })
        else s.setReg .TILE_DL_STATUS_STATE (p / 4) 1
      | _ => s
  | 2 =>
    let i := scope % 1024
    s.setReg .FLT_QUAR_QUARANTINED (i / 32) (putBit (s.reg .FLT_QUAR_QUARANTINED (i / 32)) (i % 32) false)
  | 3 =>
    let p := scope / 4096 % 128
    let rid := scope % 4096
    match s.funcEntry p rid with
    | some n =>
      if s.reg .FLT_FUNC_STATE n == 1 then
        let s := (s.setReg .FLT_FUNC_STATE n 2).sendFlr p rid
        { s with flt := { s.flt with releases := s.flt.releases ++ [(n, s.now + 100000000)] } }
      else s
    | none => s
  | _ => s

/-! ### Whole tiles and the whole switch -/

/-- A host-port reset by link down logs HOST_LINK_DOWN (R277). -/
def State.hostDown (s : State) (p : Nat) : State :=
  match s.portRec p with
  | some r =>
    let up := s.on .TILE_PORT_STATUS_LINK_UP p
    let s := s.hostLinkDown p
    if !up then s
    else
      let s := s.hostReset r.hostIndex
      if s.phase < 5 then s else s.report 0x53 0 p
  | none => s

/-- A port goes down with the handling of its role. -/
def State.portDown (s : State) (p : Nat) (src : Option Nat) : State :=
  match s.role p with
  | 1 => s.hostDown p
  | 2 => s.deviceDown p
  | 3 => s.fabDown p src
  | _ => s

/-- Every port of tile `t` goes down, and lane tests on it end (R59, R67, R205). -/
def State.tileDown (s : State) (t : Nat) : State :=
  ((s.tilePorts t).foldl (fun s p => s.portDown p none) s).abortProofs t

/-- The switch halts (R655). DEDUCED: log entry 24. -/
def State.halt (s : State) : State :=
  if s.halted then s
  else
    let s := s.setReg .FLT_STATUS_HALTED 0 1
    let s := (s.portRecs.filter (fun r => r.role == 2)).foldl (fun s r => s.dpc (portIx r)) s
    let s := (s.portRecs.filter (fun r => r.role == 3)).foldl (fun s r => s.fabDisable (portIx r)) s
    if s.metRuns then (s.closePartial).signBatch else s

end Sys2Proof.Machine
end

