-- ==== Sys2Proof/Machine/Faults.lean ====
section
/-! DEFINITION. The fault collector: reports, first fault, causes, escalation, safe mode, injection
(14_faults_and_containment.md). -/

namespace Sys2Proof.Machine

/-! ### Sources (R634, R635) -/

/-- Sources of kind C. -/
def sourceIsCond (c : Nat) : Bool := [0x08, 0x09, 0x0A, 0x0D, 0x0F, 0x10, 0x12, 0x18, 0x19, 0x1A].contains c

/-- Sources whose Scope column names PORT, OWNER or FUNCTION (R660). -/
def sourceScoped (c : Nat) : Bool :=
  [0x18, 0x19, 0x1A, 0x20, 0x21, 0x22, 0x23, 0x24, 0x25, 0x26, 0x27, 0x28, 0x29, 0x30, 0x31, 0x32, 0x33, 0x34, 0x35, 0x36, 0x37,
    0x40, 0x41].contains c

/-- Sources that accept injection at all times (INV). -/
def sourceInv (c : Nat) : Bool := [0x21, 0x32, 0x34, 0x35, 0x36, 0x40, 0x41, 0x42, 0x44, 0x45, 0x46].contains c

/-- Sources that accept injection in the factory test mode (FACT). -/
def sourceFact (c : Nat) : Bool := [0x02, 0x03, 0x0D, 0x0E, 0x0F, 0x12, 0x18, 0x19, 0x1A].contains c

/-- The GLOBAL record of the active fault policy (R659). -/
def State.fltGlobal (s : State) : FaultRec := (s.com.faults.find? (fun r => r.typ == 1)).getD { typ := 1 }

/-- Effective severity of a source, as FLT_CAUSE shows it: its latest report's. -/
def State.causeSev (s : State) (c : Nat) : Nat := s.effSev c (Sparse.get? s.flt.lastSev c)

/-- Whether a cause of kind C is present for a source. -/
def State.active (s : State) (c : Nat) : Bool := sourceIsCond c && s.flt.causes.any (fun r => r.source == c)

/-- Whether some source of effective severity `n` has PENDING set (R661). -/
def State.pendSev (s : State) (n : Nat) : Bool :=
  (List.range 128).any (fun c => s.on .FLT_CAUSE_PENDING c && s.causeSev c == n)

/-- ALERT_N is asserted (R656). -/
def State.alert (s : State) : Bool := s.pendSev 2 || s.pendSev 3 || s.safeMode

/-- QUIET of a source. -/
def State.quiet (s : State) (c : Nat) : Bool := ((s.fltSource c).map (·.quiet)).getD false

/-! ### Escalation (R639 to R644) -/

/-- Timer of a source in ns (R639). -/
def State.escTimer (s : State) (c sev : Nat) : Nat :=
  let t := ((s.fltSource c).map (·.timer)).getD 0
  1000 * (if t != 0 then t else if sev == 2 then s.fltGlobal.tS2 else s.fltGlobal.tS3)

/-- Safe mode begins (R654). -/
def State.enterSafe (s : State) : State := s.setReg .FLT_STATUS_SAFE_MODE 0 1

/-- Entry `e` runs. -/
def State.escOn (s : State) (e : Nat) : Bool := s.on .FLT_ESC_VALID e

/-- Entry `e` starts for a report. -/
def State.escStart (s : State) (e : Nat) (r : Report) (kind sev : Nat) : State :=
  let s := s.setRegs [(.FLT_ESC_VALID, e, 1), (.FLT_ESC_SOURCE, e, r.source), (.FLT_ESC_SCOPE_KIND, e, kind), (.FLT_ESC_SCOPE, e, r.scope)]
  { s with flt := { s.flt with expiry := Sparse.set id s.flt.expiry e (s.now + s.escTimer r.source sev) } }

/-- Entry `e` is freed. -/
def State.escFree (s : State) (e : Nat) : State :=
  let s := s.setRegs [(.FLT_ESC_VALID, e, 0), (.FLT_ESC_SOURCE, e, 0), (.FLT_ESC_SCOPE_KIND, e, 0), (.FLT_ESC_SCOPE, e, 0)]
  { s with flt := { s.flt with expiry := Sparse.erase s.flt.expiry e } }

/-- An S2 fault arms a timer for its (source, scope), or contains its scope at once (R639, R643). -/
def State.armS2 (s : State) (r : Report) : State :=
  if (List.range 224).any (fun e => s.escOn e && s.reg .FLT_ESC_SOURCE e == r.source && s.reg .FLT_ESC_SCOPE_KIND e == r.kind &&
      s.reg .FLT_ESC_SCOPE e == r.scope) then s
  else
    match (List.range 224).find? (fun e => !s.escOn e) with
    | some e => s.escStart e r r.kind 2
    | none => s.contain r.kind r.scope

/-- An S3 fault arms a timer for its source, or safe mode begins at once (R639, R644). -/
def State.armS3 (s : State) (r : Report) : State :=
  if (span 224 255).any (fun e => s.escOn e && s.reg .FLT_ESC_SOURCE e == r.source) then s
  else
    match (span 224 255).find? (fun e => !s.escOn e) with
    | some e => s.escStart e r 0 3
    | none => s.enterSafe

/-! ### The collector (R631, R636, R637) -/

/-- Containment that a source causes at once (R646). -/
def State.immediate (s : State) (r : Report) : State :=
  let dev := s.role r.scope == 2
  if [0x18, 0x19, 0x1A, 0x20, 0x22].contains r.source && dev then s.dpc r.scope
  else if r.source == 0x21 && dev && ((s.portRec r.scope).map (·.ideRequired)).getD false then s.dpc r.scope
  else s

/-- One report is recorded and acted on. -/
def State.collect (s : State) (r : Report) : State :=
  let sev := s.effSev r.source r.sev
  let s := match r.sev with
    | some v => { s with flt := { s.flt with lastSev := Sparse.set id s.flt.lastSev r.source v } }
    | none => s
  let s := s.setRegs [(.FLT_CAUSE_PENDING, r.source, 1), (.FLT_CAUSE_LAST_KIND, r.source, r.kind), (.FLT_CAUSE_LAST_SCOPE, r.source, r.scope)]
  let s := s.bump .FLT_CAUSE_COUNT r.source r.count
  let s := match sev with
    | 2 => s.armS2 r
    | 3 => s.armS3 r
    | 4 => s.halt
    | _ => s
  let s := s.immediate r
  if s.fltGlobal.notifyMin ≤ sev && !s.quiet r.source then s.vectorOps 1 else s

/-- Whether report `a` goes before `b` for FLT_FIRST (R636). -/
def State.before (s : State) (a b : Report) : Bool :=
  let x := s.effSev a.source a.sev
  let y := s.effSev b.source b.sev
  if x != y then decide (y < x) else if a.source != b.source then decide (a.source < b.source) else decide (a.scope ≤ b.scope)

/-- The report that FLT_FIRST records among those of one cycle. -/
def State.firstOf (s : State) : List Report → Option Report
  | [] => none
  | r :: rs =>
    match s.firstOf rs with
    | some b => if s.before r b then some r else some b
    | none => some r

/-- The collector takes the reports of one supervisor cycle. -/
def State.collectAll (s : State) (rs : List Report) : State :=
  let s := match s.firstOf rs with
    | some r =>
      if s.on .FLT_FIRST_VALID then s
      else s.setRegs [(.FLT_FIRST_VALID, 0, 1), (.FLT_FIRST_SEVERITY, 0, s.effSev r.source r.sev), (.FLT_FIRST_SOURCE, 0, r.source),
        (.FLT_FIRST_SCOPE_KIND, 0, r.kind), (.FLT_FIRST_SCOPE, 0, r.scope), (.FLT_FIRST_TIME_TIME, 0, s.time)]
    | none => s
  rs.foldl (fun s r => s.collect r) s

/-- A report that the collector accepts: a listed code, a scope that fits its field. -/
def goodReport (r : Report) : Bool :=
  (sourceSev r.source).isSome && decide (1 ≤ r.count) && decide (r.kind < 4) && decide (r.scope < 2 ^ 20)

/-- FAULT_REPORT: the oldest `n` reports on their way, and `direct` ones that a unit outside this model detects, reach the
collector in one cycle; what was only counted is added (R631, R632). -/
def execFaultReport (n : Nat) (direct : List Report) (s : State) : Res :=
  run (fun s =>
    let rs := s.flt.reportQ.take n ++ direct.filter goodReport
    let counted := s.flt.counted
    let s := counted.foldl (fun s e => s.bump .FLT_CAUSE_COUNT e.1 e.2) { s with flt := { s.flt with reportQ := s.flt.reportQ.drop n, counted := [] } }
    s.collectAll rs) s

/-- ESCALATION_EXPIRY (R641, R642). -/
def execEscalationExpiry (e : Nat) (s : State) : Res :=
  run (fun s =>
    if e < 256 && s.escOn e then
      let s := s.atNow ((Sparse.get? s.flt.expiry e).getD 0)
      let kind := s.reg .FLT_ESC_SCOPE_KIND e
      let scope := s.reg .FLT_ESC_SCOPE e
      let s := if e < 224 then s.contain kind scope else s.enterSafe
      s.escFree e
    else s) s

/-- FUNCTION_RELEASE_DONE (R651): 100 ms after its FLR the function's traffic resumes and its entry is freed. -/
def execFunctionReleaseDone (n : Nat) (s : State) : Res :=
  run (fun s =>
    if s.reg .FLT_FUNC_STATE n == 2 then
      let s := s.atNow ((Sparse.get? s.flt.releases n).getD 0)
      let s := s.setRegs [(.FLT_FUNC_STATE, n, 0), (.FLT_FUNC_RID, n, 0), (.FLT_FUNC_PORT, n, 0)]
      { s with flt := { s.flt with releases := Sparse.erase s.flt.releases n } }
    else s) s

/-! ### Software's writes -/

/-- A write of 1 to FLT_FIRST.VALID (R636). -/
def State.firstClear (s : State) : State := s.setReg .FLT_FIRST_VALID 0 0

/-- FLT_FIRST_CLEAR. -/
def execFltFirstClear (k : Nat) (s : State) : Res := run (fun s => if s.operator k then s.firstClear else s) s

/-- A write of 1 to FLT_CAUSE[c].PENDING (R637). -/
def State.pendingClear (s : State) (c : Nat) : State := if s.active c then s else s.setReg .FLT_CAUSE_PENDING c 0

/-- FLT_CAUSE_PENDING_CLEAR. -/
def execFltCausePendingClear (k c : Nat) (s : State) : Res :=
  run (fun s => if s.operator k && c < 128 then s.pendingClear c else s) s

/-- A write of 1 to FLT_CAUSE[c].ACK_ALL (R640). -/
def State.ackSource (s : State) (c : Nat) : State :=
  ((List.range 256).filter (fun e => s.escOn e && s.reg .FLT_ESC_SOURCE e == c)).foldl (fun s e => s.escFree e) s

/-- ACK_ALL. -/
def execAckAll (k c : Nat) (s : State) : Res := run (fun s => if s.operator k then s.ackSource c else s) s

/-- A write of 1 to FLT_ESC[e].ACK (R640). -/
def State.escAck (s : State) (e : Nat) : State := if s.escOn e then s.escFree e else s

/-- FLT_ESC_ACK. -/
def execFltEscAck (k e : Nat) (s : State) : Res := run (fun s => if s.operator k && e < 256 then s.escAck e else s) s

/-- A write of 1 to FLT_STATUS.SAFE_MODE (R638). -/
def State.safeClear (s : State) : State := if s.pendSev 3 then s else s.setReg .FLT_STATUS_SAFE_MODE 0 0

/-- SAFE_MODE_CLEAR. -/
def execSafeModeClear (k : Nat) (s : State) : Res := run (fun s => if s.operator k then s.safeClear else s) s

/-! ### Injection (R657, R658) -/

/-- A write of FLT_INJECT: SOURCE, TARGET and MODE take their values (R9 for MODE), and GO arms an injection where R658
allows it. MODE NONE arms nothing. DEDUCED: log entry 14. -/
def State.inject (s : State) (k v : Nat) : State :=
  let s := s.setRegs [(.FLT_INJECT_SOURCE, 0, bits v 6 0), (.FLT_INJECT_TARGET, 0, bits v 27 8)]
  let s := if bits v 29 28 ≤ 2 then s.setReg .FLT_INJECT_MODE 0 (bits v 29 28) else s
  let c := s.reg .FLT_INJECT_SOURCE 0
  let m := s.reg .FLT_INJECT_MODE 0
  if bit v 30 && s.holdsLock k && (sourceInv c || (sourceFact c && s.part.factoryTest)) && s.flt.armed.isNone && m != 0 then
    { s.setReg .FLT_INJECT_DONE 0 0 with flt := { s.flt with armed := some ⟨c, s.reg .FLT_INJECT_TARGET 0, m⟩ } }
  else s

/-- FLT_INJECT_GO. -/
def execFltInjectGo (k v : Nat) (s : State) : Res :=
  run (fun s => if s.operator k then s.inject k (putBit (v % 2 ^ 32) 30 true) else s) s

end Sys2Proof.Machine
end

