-- ==== Sys2Proof/Machine/Forme.lean ====
section
/-! DEFINITION. Images: verification and anti-rollback (R74 to R93), the limits of each section (R17, R18, R24, R26, R39,
R182, R289, R291, R382 to R409, R453, R501, R503, R513, R558, R613, R660, R669, R777, R779), and the values that the records of
a section give. -/

namespace Sys2Proof.Machine

/-! ### Container (R74 to R83) -/

/-- AMENDABLE of a section (R81). -/
def sectionAmendable (id : Nat) : Bool := [3, 6, 7, 8, 9, 11, 12, 13].contains id

/-- No value occurs twice. -/
def distinctNats : List Nat → Bool
  | [] => true
  | x :: xs => !xs.contains x && distinctNats xs

/-- No two elements are related. -/
def noPair {α : Type} (r : α → α → Bool) : List α → Bool
  | [] => true
  | x :: xs => xs.all (fun y => !r x y) && noPair r xs

/-- Two section bodies overlap. -/
def bodiesMeet (a b : DirEntry) : Bool := decide (a.offset < b.offset + b.length) && decide (b.offset < a.offset + a.length)

/-- Whether an image is a forme by its MAGIC. -/
def isForme (im : Image) : Bool := im.magic == 0x46444C48

/-- Whether an image is an amendment by its MAGIC. -/
def isAmend (im : Image) : Bool := im.magic == 0x41444C48

/-- Longest image of its kind (R80). -/
def imageLimit (im : Image) : Nat := if isForme im then 40 * 2 ^ 20 else 20 * 2 ^ 20

/-- R74 to R77, R79 and R81: a well-formed image. DEDUCED: log entry 34. -/
def wellFormedImage (im : Image) : Bool :=
  let n := im.dir.length
  let secOk := fun (e : DirEntry) =>
    decide (1 ≤ e.id) && decide (e.id ≤ 13) && e.fmt == (if isForme im then 1 else 2) && e.flags == flag (sectionAmendable e.id) &&
    e.length == (sectionBytes im e.id).length && e.offset % 16 == 0 && decide (128 + 16 * n ≤ e.offset) && decide (e.offset + e.length + 4640 ≤ im.imageLen)
  (isForme im || isAmend im) && im.format == 1 && im.hdrLen == 0x80 && im.reservedZero && im.sectionCount == n &&
  im.imageLen % 16 == 0 && decide (im.imageLen ≤ imageLimit im) && im.sigOffset + 4640 == im.imageLen && im.sigLength == 4627 &&
  im.sigSigner == im.signer && decide (im.signer < 4) && distinctNats (im.dir.map (·.id)) && im.dir.all secOk && noPair bodiesMeet im.dir &&
  (if isForme im then n == 13 && im.amendSeq == 0 && im.baseDigest == 0 else decide (1 ≤ n) && decide (n ≤ 8) && decide (1 ≤ im.amendSeq))

/-- The result of R83 for an image, in the encoding of CMP_FORME_STATUS.BANK_A: VALID 1, BAD_SIGNATURE 2, BAD_FORMAT 4. -/
def State.verifyImage (s : State) (im : Image) : Nat :=
  if !wellFormedImage im then 4
  else if im.deviceId != 0x9256 || im.steppingMask != 1 then 4
  else if nth s.flash.pubKeys im.signer != nth s.part.signerKeys im.signer then 2
  else if bit s.part.signerRevoked im.signer then 2
  else if im.sigKey != nth s.flash.pubKeys im.signer || im.sigOver != imageBody im then 2
  else 1

/-! ### The values that records give -/

/-- The fields of the register at a BAR0 offset as a value gives them. -/
def cellsAt (a v : Nat) : List (Fld × Nat × Nat) :=
  match regAt a with
  | some (r, i, 0) => r.fields.map (fun f => (f.fld, i, bits v (f.lo + f.fld.width - 1) f.lo))
  | _ => []

/-- A 32-bit word of a payload. -/
def payWord (p n : Nat) : Nat := p / 2 ^ (32 * n) % 2 ^ 32

/-- The register images of a SHAPING record (R500): offset and value. -/
def shapeRegs (r : ShapeRec) : List (Nat × Nat) :=
  let p := r.payload
  let quads := if r.quad == 255 then span 0 7 else [r.quad]
  match r.typ with
  | 1 => [(0x100000 + 16 * r.index, payWord p 0), (0x100004 + 16 * r.index, payWord p 1), (0x100008 + 16 * r.index, payWord p 2)]
  | 2 => [(0x140000 + 16 * r.index, payWord p 0), (0x140004 + 16 * r.index, payWord p 1), (0x140008 + 16 * r.index, payWord p 2)]
  | 3 => [(0x148000 + 16 * r.index, payWord p 0), (0x148004 + 16 * r.index, payWord p 1), (0x148008 + 16 * r.index, payWord p 2)]
  | 4 => (span 0 3).map (fun w => (0x150000 + 16 * r.index + 4 * w, payWord p w))
  | 5 => [(0x158000 + 4 * r.index, payWord p 0)]
  | 6 => quads.map (fun q => (0x80200 + 0x10000 * q + 8 * r.index, p % 2 ^ 64))
  | _ => quads.map (fun q => (0x80100 + 0x10000 * q + 4 * r.index, p % 2 ^ 32))

/-- The SH fields that register images give. -/
def shCells (l : List (Nat × Nat)) : List (Fld × Nat × Nat) :=
  ((l.map (fun e => cellsAt e.1 e.2)).flatten).filter (fun e => e.1.acc == .sh)

/-- Records for every quad go before those of one quad (R453, R501). -/
def everyQuadFirst {α : Type} (quad : α → Nat) (l : List α) : List α :=
  l.filter (fun r => quad r == 255) ++ l.filter (fun r => quad r != 255)

/-- The SH fields that a SHAPING section gives (R501). -/
def shapeCells (l : List ShapeRec) : List (Fld × Nat × Nat) :=
  ((everyQuadFirst (fun r => if r.typ == 6 || r.typ == 7 then r.quad else 0) l).map (fun r => shCells (shapeRegs r))).flatten

/-- The SH fields that an ARBITER section gives (R452, R453). -/
def arbCells (l : List ArbRec) : List (Fld × Nat × Nat) :=
  ((everyQuadFirst ArbRec.quad l).map (fun r =>
    ((if r.quad == 255 then span 0 7 else [r.quad]).map (fun q =>
      if r.imprint == 0xFFFF then [(Fld.ARB_TRANSIT_TICKETS, q, r.tickets), (Fld.ARB_TRANSIT_URGENT_OK, q, flag r.urgentOk)]
      else [(Fld.ARB_TICKET_TICKETS, q * 1024 + r.imprint, r.tickets),
        (Fld.ARB_TICKET_URGENT_OK, q * 1024 + r.imprint, flag r.urgentOk)])).flatten)).flatten

/-- The SH fields that a GATES section gives (R502). -/
def gateCells (l : List GateRec) : List (Fld × Nat × Nat) :=
  (l.map (fun r =>
    if r.typ == 1 then [(Fld.GATE_CTL_ENTRY_COUNT, r.port, r.entryCount), (Fld.GATE_CTL_LEADIN, r.port, r.leadin),
      (Fld.GATE_CYCLE_CYCLE, r.port, r.cycle), (Fld.GATE_BASE_BASE, r.port, r.base)]
    else [(Fld.GATE_ENTRY_GATES, r.port * 256 + r.index, r.gates), (Fld.GATE_ENTRY_INTERVAL, r.port * 256 + r.index, r.interval)])).flatten

/-- The register fields that a SLOTPOWER section gives (R668): profiles, and each channel's profile number. -/
def slotCells (l : List SlotRec) : List (Fld × Nat × Nat) :=
  (l.map (fun r =>
    if r.typ == 1 then ((List.range 16).map (fun w => cellsAt (0xC000 + 0x40 * r.index + 4 * w) (nth r.words w))).flatten
    else [(Fld.SLT_CFG_PROFILE, r.index, if nth r.words 0 % 256 == 0xFF then 15 else nth r.words 0)])).flatten

/-- The items of the table that an IMPOSITION record names (R377), with payloads: a group part brings MEMBER_COUNT and
REBIND_IDLE along, the FABRIC record OWN_SW. -/
def impItems (r : ImpRec) : List (ImpKey × Nat) :=
  match r.typ with
  | 5 => [(⟨5, r.index, r.part⟩, r.payload), (⟨7, r.index, 0⟩, r.aux)]
  | 6 => [(⟨6, 0, 0⟩, r.payload), (⟨8, 0, 0⟩, r.aux % 256)]
  | t => [(⟨t, r.index, 0⟩, r.payload)]

/-- A view with items set. -/
def impSet (v : Imp) (l : List (ImpKey × Nat)) : Imp := l.foldl (fun v e => Sparse.set ImpKey.code v e.1 e.2) v

/-! ### Checks of the imposition table (R366 to R369, R382, R394, R397, R409, R571, R779) -/

/-- A software index of an item type (R378). -/
def softIndex (typ index : Nat) : Bool :=
  match typ with
  | 1 => decide (index ≤ 0xEFBFF)
  | 2 => decide (index ≤ 0xDFFF)
  | 3 => decide (index ≤ 0xFFF)
  | _ => decide (index ≤ 63)

/-- The roles that the table's checks ask for: device port, fabric port, DOWN port. -/
structure PortView where
  dev : Nat → Bool
  fab : Nat → Bool

/-- The fields of an entry lie in their ranges (R366, R382). -/
def entryOk (w : Nat) : Bool :=
  decide (w / 2 ^ 124 % 16 = 0) && decide (eSize w ≤ 52) && decide (eDomain w < 4064) && eBase w % 2 ^ eSize w == 0 &&
  decide (eBase w < 2 ^ 52)

/-- The fields of a descriptor lie in their ranges (R367, R368, R382). -/
def targetOk (pv : PortView) (w : Nat) : Bool :=
  let k := dKind w
  bits w 7 4 == 0 && bits w 63 32 == 0 && bits w 127 116 == 0 &&
  (match k with
  | 1 => dRebase w && pv.dev (dDestA w) && decide (dDestB w < 4096)
  | 2 => !dRebase w && decide (dDestA w < 32) && dDestB w == 0
  | 3 => dRebase w && dDestA w == 0 && decide (dDestB w < 1024) && decide (dNewBase w < 2 ^ 16)
  | 4 => dRebase w && decide (dDestA w < 64) && dDestB w == 0 && decide (dNewBase w < 2 ^ 46)
  | _ => true)

/-- The fields of a SOURCE record lie in their ranges: a device's requester IDs are encoded as DEST_B, a fabric origin's ports as SRC_PORT
(R380). -/
def sourceRanges (w : Nat) : Bool :=
  let k := bits w 7 0
  (k == 1 || k == 2) && decide (bits w 31 16 ≤ bits w 47 32) && decide (bits w 47 32 < (if k == 1 then 4096 else 128)) &&
  decide (64 ≤ bits w 63 48) && decide (bits w 63 48 ≤ 3071) && decide (w < 2 ^ 64) && decide (bits w 15 8 < (if k == 1 then 128 else 64))

/-- A SOURCE record is valid: a device's PORT is a device port (R380). -/
def sourceOk (pv : PortView) (w : Nat) : Bool := sourceRanges w && (bits w 7 0 != 1 || pv.dev (bits w 15 8))

/-- The fields of a descriptor lie in their ranges (R367). -/
def targetRanges (w : Nat) : Bool :=
  match dKind w with
  | 1 => decide (dDestA w < 128) && decide (dDestB w < 4096)
  | 2 => decide (dDestA w < 32) && dDestB w == 0
  | 3 => dDestA w == 0 && decide (dDestB w < 1024) && decide (dNewBase w < 2 ^ 16)
  | 4 => decide (dDestA w < 64) && dDestB w == 0 && decide (dNewBase w < 2 ^ 46)
  | _ => true

/-- The payload of a staging command holds fields in their ranges (R366, R367, R380, R720). -/
def payloadRanges (typ w : Nat) : Bool :=
  match typ with
  | 1 => decide (eSize w ≤ 52) && decide (eDomain w ≤ 4094)
  | 2 => targetRanges w
  | 3 => sourceRanges w
  | _ => true

/-- Two SOURCE records overlap. -/
def sourcesMeet (a b : Nat) : Bool :=
  bits a 15 0 == bits b 15 0 && decide (bits a 31 16 ≤ bits b 47 32) && decide (bits b 31 16 ≤ bits a 47 32)

/-- The device-side range of a valid entry that names a PORT_FN descriptor: port, first address, size. -/
def devRange (v : Imp) (w : Nat) : Option (Nat × Nat × Nat) :=
  let d := (Sparse.get? v (targetKey (eTarget w))).getD 0
  if dKind d == 1 then some (dDestA d, dNewBase d * 4096, 2 ^ (eSize w + 12)) else none

/-- A sealed entry and a valid entry meet on the device side, and the latter is not sealed alike (R397). -/
def sealClash (v : Imp) (a b : Nat) : Bool :=
  match devRange v a, devRange v b with
  | some (p, x, n), some (q, y, m) =>
    p == q && decide (x < y + m) && decide (y < x + n) && ((eSealed a && eValid b) || (eSealed b && eValid a)) &&
    !(eSealed a && eSealed b && eImprint a == eImprint b && eGen a == eGen b)
  | _, _ => false

/-- A sealed entry's own conditions (R397). -/
def sealOk (v : Imp) (w : Nat) : Bool :=
  !eSealed w || ((devRange v w).isSome && !(decide (32 ≤ eDomain w) && decide (eDomain w ≤ 63)))

/-- A peer-to-peer window's conditions (R394). -/
def p2pOk (v : Imp) (w : Nat) : Bool := !eP2p w || (decide (64 ≤ eDomain w) && (devRange v w).isSome)

/-- A route group with all five parts meets R409. -/
def groupOk (pv : PortView) (v : Imp) (g : Nat) : Bool :=
  let n := groupCount v g
  decide (1 ≤ n) && decide (n ≤ 16) && (List.range n).all (fun m => pv.fab (groupMember v g m)) &&
  (List.range 64).all (fun b => decide (groupMap v g 0 b < n) && decide (groupMap v g 1 b < n) && dirDown v (groupMember v g (groupMap v g 1 b))) &&
  decide (1 ≤ groupIdle v g) && decide (groupIdle v g ≤ 1000)

/-- Values of a type in a view. -/
def impValues (v : Imp) (t : Nat) : List Nat := (v.filter (fun e => e.1.typ == t)).map (·.2)

/-- Two valid entries are the same range of one domain. -/
def sameRange (a b : Nat) : Bool := eDomain a == eDomain b && eBase a == eBase b && eSize a == eSize b

/-- Every check of R382, R394, R397 and R779 on a view. -/
def viewOk (pv : PortView) (v : Imp) : Bool :=
  let es := impValues v 1
  let live := es.filter eValid
  let ds := impValues v 2
  es.all entryOk && noPair sameRange live && ds.all (targetOk pv) &&
  ds.all (fun d => dKind d != 4 || (dDestA d != ownSw v && (routeGroup v (dDestA d)).isSome)) &&
  (impValues v 3).all (sourceOk pv) && noPair sourcesMeet (impValues v 3) &&
  (span 0 63).all (fun g => !groupWhole v g || groupOk pv v g) &&
  live.all (fun w => decide (dKind ((Sparse.get? v (targetKey (eTarget w))).getD 0) ≤ 4)) && es.all (fun w => sealOk v w && p2pOk v w) &&
  noPair (sealClash v) es

/-- The port view of the running forme. -/
def State.portView (s : State) : PortView := { dev := fun p => s.role p == 2, fab := fun p => s.role p == 3 }

/-- The device BAR of every sealed entry lies within the limit of R571. -/
def State.sealBarsOk (s : State) (v : Imp) : Bool :=
  ((impValues v 1).filter eSealed).all (fun w =>
    match devRange v w with
    | some (p, x, _) =>
      match s.link.devices.find? (fun d => d.port == p) with
      | some d => d.bars.all (fun b => match b.base with
        | some y => !(decide (y ≤ x) && decide (x < y + b.size)) || decide (b.size ≤ 2 ^ 46)
        | none => true)
      | none => true
    | none => true)

/-- Key state of every sealed entry (R572). -/
def State.sealKeysOk (s : State) (v : Imp) : Bool :=
  ((impValues v 1).filter (fun w => eValid w && eSealed w)).all (fun w =>
    s.reg .BAL_KEY_SLOT_STATE (eImprint w) == 1 && s.reg .BAL_KEY_SLOT_GEN (eImprint w) == eGen w)

/-- A record changes a software item without POOL content or a domain from 32 to 63 (R383). -/
def impPolicyOk (typ index payload : Nat) : Bool :=
  softIndex typ index &&
  !(typ == 1 && decide (32 ≤ eDomain payload) && decide (eDomain payload ≤ 63)) && !(typ == 2 && dKind payload == 3)

/-! ### Section limits -/

/-- Lanes of the ports of a bifurcation mode (R17, R18). -/
def modeWidths (mode : Nat) : List Nat :=
  match mode with
  | 0 => [8]
  | 1 => [4, 4]
  | 2 => [4, 2, 2]
  | 3 => [2, 2, 2, 2]
  | 4 => [16]
  | _ => []

/-- Slots of the ports of a tile entry; the higher tile of a pair has none. -/
def tileSlots (t : LaneTile) : List Nat :=
  if t.mode == 4 && t.tile % 2 == 1 then [] else List.range (modeWidths t.mode).length

/-- A port slot lies in its ranges (R180). -/
def lanePortOk (p : LanePort) : Bool := decide (1 ≤ p.maxRate) && decide (p.maxRate ≤ 7) && decide (p.preset ≤ 10) && decide (p.presetQ ≤ 10)

/-- The LANES section (R182). -/
def lanesOk (im : Image) : Bool :=
  let ts := im.laneTiles
  ts.length == 32 && im.refSsc.length == 1 && distinctNats (ts.map (·.tile)) && ts.all (fun t => decide (t.tile < 32) && decide (t.mode ≤ 5)) &&
  ts.all (fun t => t.mode != 4 || ts.any (fun u => u.mode == 4 && u.tile / 2 == t.tile / 2 && u.tile != t.tile)) &&
  ts.all (fun t =>
    (tileSlots t).all (fun n => match t.ports[n]? with
      | some p => lanePortOk p
      | none => false) &&
    ((List.range 4).filter (fun n => !(tileSlots t).contains n)).all (fun n => match t.ports[n]? with
      | some p => p.maxRate == 0 && !p.revForce && !p.revVal && !p.eqLock && !p.feAllow && p.preset == 0 && p.presetQ == 0
      | none => true))

/-- Width of a port of an image, 0 where the LANES map has none. -/
def imgWidth (im : Image) (r : PortRec) : Nat :=
  match im.laneTiles.find? (fun t => t.tile == r.tile) with
  | some t => if (tileSlots t).contains r.slot then nth (modeWidths t.mode) r.slot else 0
  | none => 0

/-- MAX_RATE of a port of an image. -/
def imgRate (im : Image) (r : PortRec) : Nat :=
  match im.laneTiles.find? (fun t => t.tile == r.tile) with
  | some t => ((t.ports[r.slot]?).map (·.maxRate)).getD 0
  | none => 0

/-- Ports of the LANES map. -/
def imgPorts (im : Image) : List Nat := (im.laneTiles.map (fun t => (tileSlots t).map (fun n => 4 * t.tile + n))).flatten

/-- The PORTS section (R24, R182, R289). -/
def portsOk (im : Image) : Bool :=
  let ps := im.ports
  let hosts := ps.filter (fun r => r.role == 1)
  im.signedOnly.length == 1 && distinctNats (ps.map portIx) && ps.length == (imgPorts im).length &&
  ps.all (fun r => (imgPorts im).contains (portIx r) && decide (1 ≤ r.role) && decide (r.role ≤ 3) && decide (r.slot < 4)) &&
  distinctNats (hosts.map (·.hostIndex)) && hosts.all (fun r => decide (r.hostIndex < 32)) &&
  distinctNats ((ps.filter (fun r => r.channel != 255)).map (·.channel)) &&
  ps.all (fun r => r.channel == 255 || (r.role == 2 && decide (r.channel < 32))) &&
  ps.all (fun r => r.role == 1 || (!r.operator && !r.cxl && r.hostIndex == 255 && r.bar2Log2 == 0)) && hosts.any (·.operator) &&
  ps.all (fun r => !r.ideRequired || r.role != 3) &&
  hosts.all (fun r => (r.bar2Log2 == 0 || (decide (28 ≤ r.bar2Log2) && decide (r.bar2Log2 ≤ 38))) && (!r.cxl || decide (imgRate im r ≤ 6))) &&
  (ps.filter (fun r => r.role == 3)).all (fun r => (imgWidth im r == 8 || imgWidth im r == 16) && imgRate im r == 7) &&
  decide (hosts.length ≤ 32) && decide ((ps.filter (fun r => r.role == 3)).length ≤ 16) && decide (ps.length ≤ 128)

/-- Path partners of an island (R40). -/
def partners (n : Nat) : List Nat :=
  if n < 32 then [32 + n / 4]
  else if n < 40 then span (4 * (n - 32)) (4 * (n - 32) + 3) ++ [40, 41, 53, 51]
  else if n < 42 then span 32 39 ++ span 46 49
  else if n < 46 then [n + 4]
  else if n < 50 then [40, 41, n - 4, 53, 51]
  else if n == 53 then span 32 39 ++ span 46 49
  else if n == 51 then span 32 39 ++ span 46 49 ++ [52, 50]
  else if n == 52 then [51]
  else if n == 50 then [51]
  else []

/-- The POWER record of an island in a plan. -/
def powerRec (l : List PowerRec) (n : Nat) : PowerRec := (l.find? (fun r => r.island == n)).getD { island := n, state := 2 }

/-- Islands that may stop (R50). -/
def mayStop (n : Nat) : Bool := decide (n < 40) || n == 52 || n == 55

/-- The POWER section (R39, R776, R777). -/
def powerOk (l : List PowerRec) : Bool :=
  distinctNats (l.map (·.island)) &&
  l.all (fun r => decide (r.island < 56) && (r.state == 0 || r.state == 2) && decide (1 ≤ r.idleUs) && decide (r.idleUs ≤ 1000) &&
    (!r.stopOk || mayStop r.island) && !(r.state == 0 && (r.island == 50 || r.island == 51 || r.island == 52))) &&
  (List.range 56).all (fun n => (powerRec l n).state == 0 || (partners n).all (fun p => (powerRec l p).state == 2))

/-- The POOL section (R508, R512, R513). -/
def poolOk (l : List PoolRec) : Bool :=
  match l.filter (fun r => r.typ == 1) with
  | [g] =>
    let w := l.filter (fun r => r.typ == 2)
    let q := l.filter (fun r => r.typ == 3)
    g.galleySheets % 4 == 0 && decide (g.galleySheets ≤ 128) && decide (g.interleave ≤ 1) && l.all (fun r => decide (1 ≤ r.typ) && decide (r.typ ≤ 3)) &&
    w.all (fun r => decide (r.first ≤ r.last) && decide (r.last + g.galleySheets < 1024)) &&
    noPair (fun a b => decide (a.first ≤ b.last) && decide (b.first ≤ a.last)) w &&
    distinctNats (q.map (·.imprint)) && q.all (fun r => decide (r.imprint < 1024) && decide (r.maxSheets ≤ 1024))
  | _ => false

/-- The KEYS section (R557, R558). -/
def keysOk (im : Image) : Bool :=
  let p := im.keys.filter (fun r => r.typ == 1)
  im.keys.all (fun r => (r.typ == 1 && decide (r.policy ≤ 2) && decide (r.first ≤ r.last) && decide (r.last < 1024)) ||
    (r.typ == 2 && decide (r.slot < 4) && r.slot != im.signer)) &&
  noPair (fun a b => decide (a.first ≤ b.last) && decide (b.first ≤ a.last)) p

/-- POLICY of an imprint: DISABLED 0, GENERATED 1, IMPORTED 2 (R557, R558). -/
def keyPolicy (l : List KeyRec) (i : Nat) : Nat :=
  match l.find? (fun r => r.typ == 1 && decide (r.first ≤ i) && decide (i ≤ r.last)) with
  | some r => r.policy
  | none => 1

/-- The ARBITER section (R452, R453). -/
def arbRecsOk (op : Nat) (l : List ArbRec) : Bool :=
  l.all (fun r => (decide (r.quad < 8) || r.quad == 255) && (decide (r.imprint < 1024) || r.imprint == 0xFFFF) && decide (1 ≤ r.tickets) &&
    decide (r.tickets ≤ 65535) && r.op == op) &&
  noPair (fun a b => a.quad == b.quad && a.imprint == b.imprint) l

/-- Number of items of a SHAPING type. -/
def shapeCount (typ : Nat) : Nat :=
  match typ with
  | 1 => 16384
  | 2 => 2048
  | 3 => 128
  | 4 => 2048
  | 5 => 4095
  | 6 => 16
  | 7 => 32
  | _ => 0

/-- A register image holds only listed values of SH fields, zeros elsewhere (R500, R501). -/
def imageOk (a v : Nat) : Bool :=
  let cs := cellsAt a v
  match regAt a with
  | some (r, _, _) =>
    let sh := r.fields.filter (fun f => f.fld.acc == .sh)
    let back := sh.foldl (fun n f => n + bits v (f.lo + f.fld.width - 1) f.lo * 2 ^ f.lo) 0
    back == v && cs.all (fun e => e.1.acc != .sh || e.1.listed e.2.2)
  | none => false

/-- Bytes of the PAYLOAD that a SHAPING type uses; the others are zero (R500). -/
def shapeBytesUsed (typ : Nat) : Nat :=
  match typ with
  | 4 => 16
  | 5 | 7 => 4
  | 6 => 8
  | _ => 12

/-- The SHAPING section (R500, R501). -/
def shapeRecsOk (op : Nat) (l : List ShapeRec) : Bool :=
  l.all (fun r => decide (r.payload < 2 ^ (8 * shapeBytesUsed r.typ)) && decide (r.index < shapeCount r.typ) && (if r.typ == 6 || r.typ == 7 then decide (r.quad < 8) || r.quad == 255 else r.quad == 0) &&
    r.op == op && (shapeRegs r).all (fun e => imageOk e.1 e.2)) &&
  noPair (fun a b => a.typ == b.typ && a.quad == b.quad && a.index == b.index) l

/-- The GATES section over a set of ports; `count` gives a port's ENTRY_COUNT where no LIST record does (R502, R503). -/
def gateRecsOk (op : Nat) (isPort : Nat → Bool) (count : Nat → Nat) (l : List GateRec) : Bool :=
  let cnt := fun p => match l.find? (fun r => r.typ == 1 && r.port == p) with
    | some r => r.entryCount
    | none => count p
  l.all (fun r => isPort r.port && r.op == op &&
    (if r.typ == 1 then decide (r.leadin < 128) && decide (r.entryCount ≤ 256) && Fld.listed .GATE_CYCLE_CYCLE r.cycle
     else r.typ == 2 && decide (r.index < cnt r.port) && decide (r.gates < 128) && Fld.listed .GATE_ENTRY_INTERVAL r.interval)) &&
  noPair (fun a b => a.typ == b.typ && a.port == b.port && (a.typ == 1 || a.index == b.index)) l

/-- The FAULTS section; a DELTA need not hold a GLOBAL record (R659, R660). -/
def faultRecsOk (op : Nat) (l : List FaultRec) : Bool :=
  let g := l.filter (fun r => r.typ == 1)
  let src := l.filter (fun r => r.typ == 2)
  let t := fun n => decide (1 ≤ n) && decide (n ≤ 10000000)
  (if op == 0 then g.length == 1 else decide (g.length ≤ 1)) && l.all (fun r => (r.typ == 1 || r.typ == 2) && r.op == op) &&
  g.all (fun r => decide (r.notifyMin ≤ 4) && t r.tS2 && t r.tS3 && decide (1 ≤ r.devCto) && decide (r.devCto ≤ 20000) &&
    decide (1 ≤ r.hostCto) && decide (r.hostCto ≤ 20000)) &&
  src.all (fun r => (sourceSev r.source).isSome && (r.timer == 0 || t r.timer) && (decide (r.severity ≤ 3) || r.severity == 255) &&
    !(sourceSev r.source == some 4 && r.severity != 255) && !(r.severity == 2 && !sourceScoped r.source)) &&
  distinctNats (src.map (·.source))

/-- A SLOTPOWER profile's values lie in their ranges and order (R669, R697). -/
def profileOk (w : List Nat) : Bool :=
  let h := fun n => nth w n % 65536
  let g := fun n => nth w n / 65536
  let i := fun (j : Nat) => bits (nth w (4 + j / 2)) (16 * (j % 2) + 15) (16 * (j % 2))
  let t := fun (j : Nat) => nth w (8 + j)
  let n := ((List.range 8).takeWhile (fun j => i j != 0)).length
  w.length == 16 && decide (3300 ≤ h 0) && decide (h 0 ≤ 60000) && decide (500 ≤ g 0) && decide (g 0 ≤ 20000) && decide (100 ≤ h 1) &&
  decide (1 ≤ h 2) && decide (h 2 ≤ 2000) && decide (bits (nth w 2) 23 16 ≤ 200) && decide (50 ≤ bits (nth w 2) 30 24) &&
  decide (bits (nth w 2) 30 24 ≤ 95) && (h 3 == 0 || (decide (100 ≤ h 3) && decide (h 3 ≤ 10000))) && decide (1 ≤ g 3) &&
  decide (1 ≤ n) && (List.range 8).all (fun j => decide (j < n) || i j == 0) &&
  (List.range (n - 1)).all (fun j => decide (i j < i (j + 1)) && decide (t (j + 1) < t j)) &&
  (List.range n).all (fun j => t j % 2 == 0 && decide (2 ≤ t j) && decide (t j ≤ 60000000)) &&
  decide (h 1 < i 0) && decide (i (n - 1) < g 1) && decide (g 1 ≤ 40000000 / g 0)

/-- The SLOTPOWER section (R668, R669); `chan` tells whether a channel is associated with a device port. -/
def slotRecsOk (op : Nat) (chan : Nat → Bool) (l : List SlotRec) : Bool :=
  l.all (fun r => r.op == op && ((r.typ == 1 && decide (r.index < 8) && profileOk r.words) ||
    (r.typ == 2 && decide (r.index < 32) && (nth r.words 0 == 0xFF || (decide (nth r.words 0 < 8) && chan r.index)) &&
      (r.words.drop 1).all (fun w => w == 0)))) &&
  noPair (fun a b => a.typ == b.typ && a.index == b.index) l

/-- The METERING record (R613); `oper` tells whether a host port index is an operator host port. -/
def meterOk (oper : Nat → Bool) (m : MeterRec) : Bool :=
  decide (1 ≤ m.tickS) && decide (m.tickS ≤ 60) && oper m.billing && decide (1 ≤ m.peakWindow) && decide (m.peakWindow ≤ 1000) &&
  1000000 % m.peakWindow == 0 && decide (4 ≤ m.ringSlots) && decide (m.ringSlots ≤ 4096) && m.ringBase % 4096 == 0 && m.headAddr % 8 == 0 &&
  decide (m.headAddr + 8 ≤ 2 ^ 64) && decide (m.ringBase + 524288 * m.ringSlots ≤ 2 ^ 64)

/-- A HIERARCHY after any DELTA (R231, R244, R290, R291); `ports` are the PORTS entries. -/
def hierOk (ports : List PortRec) (l : List HierRec) : Bool :=
  let as := l.filter (fun r => r.kind != 4)
  let setups := l.filter (fun r => r.kind == 4)
  let port := fun (r : HierRec) => ports.find? (fun p => p.tile == r.devTile && p.slot == r.devSlot)
  let host := fun (r : HierRec) => ports.find? (fun p => p.role == 1 && p.hostIndex == r.host)
  let same := fun (a b : HierRec) => a.devTile == b.devTile && a.devSlot == b.devSlot
  l.all (fun r => (match port r with
      | some p => p.role == 2
      | none => false) && decide (1 ≤ r.kind) && decide (r.kind ≤ 4) && decide (r.imprint < 1024)) &&
  as.all (fun r => decide (1 ≤ r.vdsp) && decide (r.vdsp ≤ 31) && (match host r with
      | some h => (!h.cxl || r.vdsp != 31) && (r.kind != 3 || h.operator)
      | none => false)) &&
  setups.all (fun r => r.host == 255 && r.vdsp == 0 && decide (1 ≤ r.vfFirst) && decide (r.vfFirst ≤ 256) && r.vfCount == 0) &&
  as.all (fun r => match r.kind with
    | 1 => r.pf == 0 && r.vfFirst == 0 && r.vfCount == 0
    | 2 => decide (1 ≤ r.vfCount) && decide (r.vfCount ≤ 256) && setups.any (fun e => same e r && e.pf == r.pf && decide (r.vfFirst + r.vfCount ≤ e.vfFirst))
    | _ => r.vfFirst == 0 && r.vfCount == 0 && setups.any (fun e => same e r && e.pf == r.pf)) &&
  noPair (fun a b => a.host == b.host && a.vdsp == b.vdsp) as &&
  noPair (fun a b => same a b && (a.kind == 1 || b.kind == 1 || (a.kind == 3 && b.kind == 3 && a.pf == b.pf) ||
    (a.kind == 2 && b.kind == 2 && a.pf == b.pf && decide (a.vfFirst < b.vfFirst + b.vfCount) && decide (b.vfFirst < a.vfFirst + a.vfCount)))) as &&
  noPair (fun a b => same a b && a.pf == b.pf) setups &&
  as.all (fun a => a.kind != 1 || !setups.any (same a))

/-- The AUX bytes of a record of the table lie where its type lists them (R377). -/
def auxOk (r : ImpRec) : Bool :=
  match r.typ with
  | 5 => bits r.aux 15 8 == 0 && decide (r.aux < 2 ^ 32)
  | 6 => decide (r.aux < 64)
  | _ => r.aux == 0

/-- The table that a FULL IMPOSITION section gives. -/
def seedTable (im : Image) : Imp := impSet [] ((im.imp.map impItems).flatten)

/-- The IMPOSITION section of a forme (R377 to R383, R409, R558, R779). -/
def seedOk (im : Image) : Bool :=
  let v := seedTable im
  let role := fun n (p : Nat) => im.ports.any (fun r => portIx r == p && r.role == n)
  im.imp.all (fun r => r.op == 0 && decide (1 ≤ r.typ) && decide (r.typ ≤ 6) && (if r.typ == 6 then r.index == 0 else impPolicyOk r.typ r.index r.payload) &&
    (r.typ == 5 || r.part == 0) && decide (r.part ≤ 4) && (r.typ != 4 || decide (r.payload ≤ 63) || r.payload == 255) && auxOk r) &&
  noPair (fun a b => a.typ == b.typ && a.index == b.index && a.part == b.part) im.imp && viewOk { dev := role 2, fab := role 3 } v &&
  (span 0 63).all (fun g => groupWhole v g || (span 0 4).all (fun p => (groupPart v g p).isNone)) &&
  (impValues v 1).all (fun w => !(eValid w && eSealed w) || (keyPolicy im.keys (eImprint w) == 1 && eGen w == 1))

/-- The structural limits of a forme (R86). -/
def formeLimits (im : Image) : Bool :=
  let isPort := fun p => (imgPorts im).contains p
  lanesOk im && portsOk im && hierOk im.ports im.hier && im.hier.all (fun r => r.op == 0) && powerOk im.power && poolOk im.pool && seedOk im &&
  arbRecsOk 0 im.arb && shapeRecsOk 0 im.shape && gateRecsOk 0 isPort (fun _ => 0) im.gates && keysOk im && faultRecsOk 0 im.flts &&
  slotRecsOk 0 (fun k => im.ports.any (fun r => r.role == 2 && r.channel == k)) im.slots &&
  (match im.meter with
  | [m] => meterOk (fun k => im.ports.any (fun r => r.role == 1 && r.hostIndex == k && r.operator)) m
  | _ => false)

/-- The result for a forme bank's image (R83, R85, R86, R88): VALID 1, BAD_SIGNATURE 2, ROLLBACK 3, BAD_FORMAT 4,
LIMITS 5. -/
def State.formeResult (s : State) (im : Image) : Nat :=
  let v := s.verifyImage im
  if !isForme im then 4
  else if v != 1 then v
  else if im.rollbackVer < s.flash.rollback then 3
  else if formeLimits im then 1 else 5

end Sys2Proof.Machine
end

