-- ==== Sys2Proof/Machine/Requests.lean ====
section
/-! DEFINITION. REQUEST_ARRIVAL and IO_REQUEST: a memory request at its ingress tile and quad (01, 08, 09, 11, 14). -/

namespace Sys2Proof.Machine

/-! ### Destinations -/

/-- Whether a port lies behind closed crossing ends: its tile's or its quad's (R58, R67). -/
def State.shutPort (s : State) (p : Nat) : Bool := s.closed (p / 4) || s.closed (32 + p / 16)

/-- Whether a host or device port can take requests: link up, not contained or isolated, tile and quad open (R275). -/
def State.portUp (s : State) (p : Nat) : Bool :=
  s.on .TILE_PORT_STATUS_LINK_UP p && s.reg .FLT_PORT_STATE p == 0 && !s.shutPort p &&
  !s.link.follow.contains p

/-- Whether a function of a device port is contained or still releasing (R649, R651). -/
def State.funcClosed (s : State) (p rid : Nat) : Bool :=
  (List.range 256).any (fun n => s.reg .FLT_FUNC_STATE n != 0 && s.reg .FLT_FUNC_PORT n == p && s.reg .FLT_FUNC_RID n == rid)

/-- Whether an imprint is quarantined (R648). -/
def State.quarantined (s : State) (i : Nat) : Bool := bit (s.reg .FLT_QUAR_QUARANTINED (i / 32)) (i % 32)

/-- INTERLEAVE is WAY1. -/
def State.way1 (s : State) : Bool :=
  match s.com.pool.find? (fun r => r.typ == 1) with
  | some r => r.interleave == 1
  | none => false

/-- Stack and stack-local address of offset `o` of sheet `n` (R509, R510). -/
def State.place (s : State) (n o : Nat) : Nat × Nat :=
  if s.way1 || n + s.galleySheets ≥ 1024 then (n % 4, n / 4 * 2 ^ 28 + o)
  else (o / 256 % 4, n * 2 ^ 26 + o / 1024 * 256 + o % 256)

/-- Whether stack `m` can be reached (R543). -/
def State.stackUp (s : State) (m : Nat) : Bool := !s.closed (42 + m) && !s.closed (46 + m)

/-! ### Pieces (R227, R509) -/

/-- Cuts `[a, a + n)` at multiples of `unit`: offsets from `a` and lengths. `fuel` bounds the number of pieces. -/
def cut (unit : Nat) : Nat → Nat → Nat → Nat → List (Nat × Nat)
  | 0, _, _, _ => []
  | fuel + 1, a, off, n =>
    if n = 0 then []
    else
      let m := min n (unit - (a + off) % unit)
      (off, m) :: cut unit fuel a (off + m) (n - m)

/-- Lane PC 0 or NP 1 of a class (R422). -/
def laneOf (c : PClass) : Nat := if c = .nonposted then 1 else 0

/-! ### Refusals -/

/-- A refused request: a non-posted one is answered, a posted one discarded (R375). -/
def State.refuse (s : State) (r : Req) (st : CplStatus) (imprint : Option Nat) : State :=
  if isNP r.kind then s.synth (askedOf r imprint) st else s

/-- A request to a lost destination behind port `p` (R275, R276, R278). -/
def State.lost (s : State) (r : Req) (p : Option Nat) (imprint : Option Nat) : State :=
  if isNP r.kind then s.synthLost (askedOf r imprint) r.len (wantsData r.kind)
  else
    let s := match p with
      | some p => s.bumpDiscard p 1
      | none => s
    s.count { imprint, kind := .dropped, tc := r.tc, ts := s.dev, src := 32 + quadOf r.inPort }

/-- A posted item for an island behind closed crossing ends is discarded and counted there (R58, R67, R73). -/
def State.shutOut (s : State) (closed : Bool) (r : Req) : State :=
  if closed && !isNP r.kind then s.bump .SUP_XING_DROP_COUNT 0 else s

/-- A miss: counted, captured, reported, answered (R374 to R376, R526). -/
def State.missed (s : State) (q : Nat) (r : Req) (d a knd : Nat) : State :=
  let s := (s.tally (32 + q) 0x11).logRefusal q r d a knd
  let s := if r.cxlMem then
      (if isNP r.kind && wantsData r.kind then s.emit (.cpl r.src r.tag .sc (ones r.len) true)
       else s.emit (.cpl r.src r.tag .sc [] false))
    else s.refuse r .ur none
  s.count { imprint := none, kind := .refused, tc := r.tc, ts := s.dev, src := 32 + q }

/-! ### Forwarding -/

/-- A request that passed its checks is counted (R597). -/
def State.counted (s : State) (q : Nat) (r : Req) (imprint : Nat) : State :=
  s.count { imprint := some imprint, kind := .req, bytes := r.data.length, tc := r.tc, ts := r.ts, src := 32 + q }

/-- Sampling of a request that was looked up (R625): the selection number, where it is the N-th match, and the state. -/
def State.select (s : State) (q : Nat) (r : Req) (imprint : Option Nat) : Option Nat × State :=
  let m := s.on .PMC_SAMP_CFG_ENABLE && !s.on .PMC_SAMP_STATUS_FULL && bit (s.reg .PMC_SAMP_CFG_QUAD_MASK 0) q &&
    bit (s.reg .PMC_SAMP_CFG_TC_MASK 0) r.tc &&
    (!s.on .PMC_SAMP_CFG_IMP_MATCH || imprint == some (s.reg .PMC_SAMP_CFG_IMPRINT 0))
  if m then
    let n := s.met.matched + 1
    if n % (s.reg .PMC_SAMP_CFG_N_MINUS_1 0 + 1) == 0 then
      (some s.met.selected, { s with met := { s.met with matched := n, selected := s.met.selected + 1 } })
    else (none, { s with met := { s.met with matched := n } })
  else (none, s)

/-- Payload of a piece of a request. -/
def pieceData (r : Req) (off n : Nat) : List Byte := (r.data.drop off).take n

/-- Queues the pieces of a classified request toward `dest`, with one outstanding record for a non-posted one. `base` is
the packet that every piece copies; `addr` the outgoing address. DEDUCED: log entry 120. -/
def State.sendPieces (s : State) (base : Pkt) (pieces : List (Nat × Nat × Nat)) : State :=
  let r := base.req
  let np := isNP r.kind
  let oid := s.tr.nextId
  let s := if np then s.addOut {
      id := 0, src := r.src, tag := r.tag, inPort := r.inPort, port := base.dest,
      rid := base.destB, kind := r.kind, addr := base.addr, len := r.len, imprint := base.imprint, sub := base.sub,
      tc := r.tc, quad := base.quad, sealed := base.sealed, gen := base.gen, ts := r.ts, pieces := pieces.length, reqId := r.rid, bounds := pieces.map (fun e => e.1 + e.2.1) } else s
  pieces.foldl (fun s e =>
    let (off, n, dest) := e
    let data := pieceData r off n
    let q := QId.ingress r.inPort (laneOf base.cls) dest r.tc
    s.enqueue { base with
      req := { r with addr := r.addr + off, len := n, data }, addr := base.addr + off, dest, q,
      cells := (base.fab.map (fun f => ceilDiv (1 + f.len) 4)).getD (cellsOf data.length), outId := if np then some oid else none, sample := if off = 0 then base.sample else none }) s

/-- Whether a pool read waits for an earlier posted pool write of the same host port to a line it reads (R535). -/
def State.readHeld (s : State) (src : Source) (lo hi ts : Nat) : Bool :=
  match src with
  | .host _ => s.tr.pkts.any (fun p => decide (p.req.src = src) && p.kind == 3 && decide (p.cls = .posted) &&
      decide (p.place ≠ .cipher) && decide (p.req.ts < ts) &&
      decide ((p.destB * 2 ^ 28 + p.addr) / 64 ≤ hi / 64) && decide (lo / 64 ≤ (p.destB * 2 ^ 28 + p.addr + p.req.len - 1) / 64))
  | _ => false

/-- A size that bits of a Device Control register select. -/
def ctlSize (v : Nat) : Nat := 128 * 2 ^ min 5 v

/-- The largest piece that a request's egress side takes: a device port's limits, or those that a host has programmed in its
virtual upstream port (R226, R227). -/
def State.pieceUnit (s : State) (kind p : Nat) (write : Bool) : Nat :=
  if kind == 1 then (Sparse.get? (if write then s.link.limits else s.link.readLimits) p).getD 4096
  else
    let c := s.vreg (match s.portRec p with
      | some r => r.hostIndex
      | none => 0) .usp .devCtl
    ctlSize (if write then bits c 7 5 else bits c 14 12)

/-- The pieces of a request of `n` bytes to outgoing address `a`: one that does not exceed the limit stays whole (R227). -/
def pieces (unit a n : Nat) : List (Nat × Nat) := if n ≤ unit then [(0, n)] else cut unit 64 a 0 n

/-- Words as little-endian bytes. -/
def wordBytes (l : List Nat) : List Byte := l.flatMap (fun w => leBytes 4 w)

/-- A request that passed every check goes to its destination; `smp` is its selection for sampling. Over the fabric its prefixes and further
header content go in the slot of HDR_EXT (R254, R300; DESIGN CHOICE, log entry 148). -/
def State.forward (s : State) (q : Nat) (r : Req) (d a ent des : Nat) (smp : Option Nat) : State :=
  let imp := eImprint ent
  let s := s.counted q r imp
  let cls : PClass := if isNP r.kind then .nonposted else .posted
  let out := outAddr ent des a
  let base : Pkt := {
    id := 0, req := r, cls, imprint := some imp, sub := some (eSub ent), domain := d,
    sealed := eSealed ent, gen := eGen ent, p2p := eP2p ent, kind := dKind des, destA := dDestA des, destB := dDestB des, addr := out,
    epoch := s.epochAt r.ts, quad := some q, dest := dDestA des, q := .ingress r.inPort (laneOf cls) (dDestA des) r.tc,
    sample := smp }
  let gone := fun (s : State) (dest : Nat) => s.sampleEnd { base with dest } 2 0
  match dKind des with
  | 1 =>
    let p := dDestA des
    if !s.portUp p || s.funcClosed p (dDestB des) then ((gone s p).shutOut (s.shutPort p) r).lost r (some p) (some imp)
    else
      s.sendPieces base ((pieces (s.pieceUnit 1 p (decide (r.kind ≠ .read))) out (max 1 r.len)).map (fun e => (e.1, e.2, p)))
  | 2 =>
    match s.hostPort (dDestA des) with
    | some p =>
      if s.portUp p then
        s.sendPieces { base with dest := p } ((pieces (s.pieceUnit 2 p (decide (r.kind ≠ .read))) out (max 1 r.len)).map (fun e => (e.1, e.2, p)))
      else ((gone s p).shutOut (s.shutPort p) r).lost r (some p) (some imp)
    | none => (gone s (dDestA des)).lost r none (some imp)
  | 3 =>
    let sheet := dDestB des
    let pcs := (cut 256 64 out 0 (max 1 r.len)).map (fun e => (e.1, e.2, 128 + (s.place sheet (out + e.1)).1))
    if pcs.all (fun e => s.stackUp (e.2.2 - 128)) then
      let first := s.tr.nextId
      let held := isNP r.kind && s.readHeld r.src (sheet * 2 ^ 28 + out) (sheet * 2 ^ 28 + out + r.len - 1) r.ts
      let s := s.sendPieces base pcs
      if held then s.setPkts (s.tr.pkts.map (fun p => if first ≤ p.id then { p with hold := true } else p)) else s
    else ((gone s (128 + (s.place sheet out).1)).shutOut true r).lost r none (some imp)
  | _ =>
    let v := s.com.active
    let own := ownSw v
    let dst := dDestA des
    match s.routePort dst 0 own r.inPort r.tc with
    | some p =>
      let fp : FabPkt := {
        ptype := if isNP r.kind then 2 else 1, tc := r.tc, poison := r.poison, dstSw := dst, srcSw := own,
          srcPort := r.inPort, hdrExt := !r.pre.isEmpty, ext := wordBytes r.pre, len := flag (!r.pre.isEmpty) + ceilDiv r.data.length 32,
        addr := out, kind := r.kind, reqLen := r.len, tag := r.tag, rid := fabRid own r.inPort, data := r.data }
      (s.keepBucket dst 0 own r.inPort r.tc).sendPieces { base with dest := p, fab := some fp } [(0, r.len, p)]
    | none => ((gone s dst).report 0x56 0 dst none (some (32 + q))).lost r none (some imp)

/-- The lookup stage of quad `q`: policer, lookup, checks, containment, forwarding. -/
def State.classify (s : State) (q : Nat) (r : Req) : State :=
  let (d, a) := s.domainOf r
  let pass := (s.police r d).1
  let s := (s.police r d).2
  if !pass then
    ((s.tally (r.inPort / 4) 0x06).refuse r .ca none).count { imprint := none, kind := .dropped, tc := r.tc, ts := s.dev, src := 32 + q }
  else
    let (sk, sc) := s.srcScope r
    let s := s.readReplica q r d a
    let c := s.check q r d a
    let s := s.tally (32 + q) 0x10 c.imprint
    let smp := (s.select q r c.imprint).1
    let s := (s.select q r c.imprint).2
    let k : Pkt := {
      id := 0, req := r, cls := .posted, imprint := c.imprint, domain := d, dest := Config.sampleDest (smp.getD 0) % 256, q := .ingress r.inPort 0 0 r.tc,
      epoch := s.epochAt r.ts, sample := smp }
    let turned := fun (s : State) => s.sampleEnd k 1 0
    match c with
    | .unsourced => ((turned s).missed q r d a 2).report 0x30 3 sc
    | .eccEntry => ((turned s).missed q r d a 3).report 0x32 0 q none (some (32 + q))
    | .eccTarget i => ((turned s).missed q r d a 3).report 0x32 2 i none (some (32 + q))
    | .miss =>
      let gone := match r.src with
        | .host k => s.link.removed.any (fun e => e.1 == k && decide (e.2.1 ≤ r.addr) && decide (r.addr < e.2.1 + e.2.2))
        | _ => false
      if gone then (turned s).lost r none none else ((turned s).missed q r d a 0).report 0x50 0 q
    | .perm i =>
      let s := (((turned s).tally (32 + q) 0x11 (some i)).logRefusal q r d a 1).report 0x31 sk sc
      (s.refuse r .ca (some i)).count { imprint := some i, kind := .refused, tc := r.tc, ts := s.dev, src := 32 + q }
    | .ok ent des =>
      let i := eImprint ent
      if s.quarantined i then
        ((turned s).refuse r .ca (some i)).count { imprint := some i, kind := .refused, tc := r.tc, ts := s.dev, src := 32 + q }
      else if r.bufUe then
        (((s.sampleEnd k 2 0).refuse r .ca (some i)).count { imprint := some i, kind := .dropped, tc := r.tc, ts := s.dev, src := 32 + q }).report 0x35 2 i none (some (32 + q))
      else s.forward q r d a ent des smp

/-- What waits at its sender for an island, of port `p`: whether it is a non-posted request, and its cells (R43, R44). -/
def State.waitingOf (s : State) (p : Nat) : List (Bool × Nat) :=
  s.isl.waking.filterMap (fun e => match e.2 with
    | .req r => if r.inPort == p then some (isNP r.kind, cellsOf r.data.length) else none
    | .cpl c => if c.inPort == p then some (false, cellsOf c.data.length) else none
    | .fab q f _ _ => if q == p then some (f.ptype == 2, ceilDiv (1 + f.len) 4) else none)

/-- Non-posted requests outstanding from a port, those that still wait for its quad among them (R229). -/
def State.outstanding (s : State) (p : Nat) : Nat :=
  (s.tr.outs.filter (fun o => o.inPort == p)).length + ((s.waitingOf p).filter (·.1)).length

/-- Whether a request falls in a BAR of host `k`'s management endpoint: BAR0 0, BAR2 2. -/
def State.inBar (s : State) (k a : Nat) : Option Nat :=
  match s.bar0 k with
  | some b =>
    if b ≤ a && a < b + 2 ^ 26 then some 0
    else match s.bar2 k with
      | some (b, n) => if b ≤ a && a < b + n then some 2 else none
      | none => none
  | none => none

/-- An item raises a wake of a stopped island and waits (R52), or waits for one in reset (R49). -/
def State.waitWake (s : State) (n : Nat) (h : Held) : State :=
  let s := s.touch n
  { s with isl := { s.isl with waking := s.isl.waking ++ [(n, h)] } }

/-- An item meets quad `q`: answered by `shut` where its crossings are closed to it (R58, R67), held while the quad is stopped or in
reset (R49, R53) or cannot hand on a counting record (R44, R45), else taken by `go`. -/
def State.meetQuad (s : State) (q : Nat) (h : Held) (closed : Bool) (shut go : State → State) : State :=
  if closed then shut s
  else if s.islState (32 + q) != 2 then s.waitWake (32 + q) h
  else if s.metHeld then s.waitWake 53 h
  else go s

/-- A request reaches its quad. -/
def State.quadRequest (s : State) (r : Req) : State :=
  s.meetQuad (quadOf r.inPort) (.req r) (s.closed (32 + quadOf r.inPort)) (fun s => (s.shutOut true r).lost r none none) (fun s => s.classify (quadOf r.inPort) r)

/-- A memory request arrives at its ingress tile (R358). -/
def State.arrive (s : State) (r : Req) : State :=
  let s := if r.poison then s.report 0x52 0 r.inPort else s
  match r.src with
  | .host k =>
    if s.phase < 5 && r.kind = .atomic && (s.inBar k r.addr).isSome then s.emit (.cpl r.src r.tag .ur [] false)
    else if s.phase < 5 then
      (if (s.inBar k r.addr == some 2) && decide (r.kind = .read) then
        s.emit (.cpl r.src r.tag .sc (List.replicate r.len 0) false) else s.refuse r .ur none)
    else if (s.halted || s.reg .FLT_PORT_STATE r.inPort == 2) && (r.cxlMem || s.inBar k r.addr != some 0) then s.lost r (some r.inPort) none
    else if r.kind = .atomic && !r.cxlMem && (s.inBar k r.addr).isSome then s.emit (.cpl r.src r.tag .ur [] false)
    else s.quadRequest r
  | .device p rid =>
    if s.halted || s.reg .FLT_PORT_STATE p != 0 then s
    else if s.funcClosed p rid then s.refuse r .ca none
    else s.quadRequest r
  | .fabric _ _ => if s.halted then s else s.quadRequest r

/-- Cells of a host or device port's reserve that its packets occupy: those held against it, and those that wait for their quad, whose link
credits have not come back (R43, R44, R418 to R420, R436). -/
def State.reserveUsed (s : State) (p : Nat) : Nat :=
  cellSum (s.tr.pkts.filter (fun k => k.req.inPort == p && decide (k.place = .blocked) && !QId.isEgress k.dest k.q)) +
  ((s.waitingOf p).map (·.2)).sum

/-- Whether the link credits of a host or device port cover one more packet of `n` bytes: 2,048 cells of reserve for each lane. -/
def State.hasCredit (s : State) (p n : Nat) : Bool :=
  s.reserveUsed p == 0 || decide (s.reserveUsed p + cellsOf n ≤ 2048 * (s.lanes p).length)

/-- Whether a request can arrive: its port has a link, one trained as CXL for a CXL.mem request (R267); a non-posted one of a host
or device port finds a free outstanding record (R229); the port's reserve takes it (R420); its length fits one request that crosses no 4 KiB boundary. -/
def State.canArrive (s : State) (r : Req) : Bool :=
  let up := if s.role r.inPort == 3 then s.dlState r.inPort == 5 else s.on .TILE_PORT_STATUS_LINK_UP r.inPort
  up && (!r.cxlMem || s.on .TILE_PORT_STATUS_CXL r.inPort) &&
  (!isNP r.kind || s.role r.inPort == 3 || decide (s.outstanding r.inPort < 16384)) &&
  (s.role r.inPort == 3 || s.hasCredit r.inPort r.data.length) && decide (r.addr % 4096 + r.len ≤ 4096)

/-- IO_REQUEST (R360): Unsupported Request, and no state changes. -/
def execIoRequest (src : Source) (tag : Nat) (s : State) : Res :=
  run (fun s => s.emit (.cpl src tag .ur [] false)) s

end Sys2Proof.Machine
end

