-- ==== Sys2Proof/Machine/Completions.lean ====
section
/-! DEFINITION. Completions on their way back to the requester (R29, R30, R227, R248 to R250, R400), and the cipher of
sealed windows (R398, R571). -/

namespace Sys2Proof.Machine

/-! ### Sealed windows -/

/-- The placed BAR of port `p` that holds device-side address `a`. -/
def State.barAt (s : State) (p a : Nat) : Option Placed :=
  match s.link.devices.find? (fun d => d.port == p) with
  | some d => d.bars.find? (fun b => match b.base with
    | some x => decide (x ≤ a) && decide (a < x + b.size)
    | none => false)
  | none => none

/-- Tweak of the sealed line at device-side address `a` behind a descriptor (R569, R571). DEDUCED: log entry 116. -/
def State.sealTweak (s : State) (p rid a : Nat) : Nat :=
  let (off, ix) := match s.barAt p a with
    | some b => (a - b.base.getD 0, b.index)
    | none => (a, 0)
  off / 64 % 2 ^ 40 + ix % 8 * 2 ^ 40 + rid % 2 ^ 16 * 2 ^ 48 + p % 2 ^ 8 * 2 ^ 64 + 2 * 2 ^ 96

/-- The sealed key of an imprint at a generation (R567). -/
def State.sealKey (s : State) (imp gen : Nat) : List Nat := bytesOf 64 (s.dataKey (.seal imp gen))

/-- Whole lines from `a` on through the cipher of a sealed window, `fuel` lines at most. -/
def State.sealLines (s : State) (enc : Bool) (p rid imp gen : Nat) : Nat → Nat → List Byte → List Byte
  | 0, _, _ => []
  | f + 1, a, d =>
    if d.isEmpty then []
    else Config.xts enc (s.sealKey imp gen) (s.sealTweak p rid a) (d.take 64) ++ s.sealLines enc p rid imp gen f (a + 64) (d.drop 64)

/-! ### Identities -/

/-- The requester ID under which host `k` enumerated function `n` behind virtual downstream port `v` (R249). -/
def State.hostFnRid (s : State) (k v n : Nat) : Nat := bits (s.vreg k (.vdsp v) .busNumbers) 15 8 * 256 + n % 256

/-- Requester ID of host `k`'s management endpoint. -/
def State.mepRid (s : State) (k : Nat) : Nat := bits (s.vreg k (.vdsp 0) .busNumbers) 15 8 * 256

/-- Position of a requester ID in a list. -/
def ridIndex (rid : Nat) : List Nat → Nat
  | [] => 0
  | r :: rs => if r == rid then 0 else ridIndex rid rs + 1

/-- Requester ID that a request of `src` carries behind port `port` (R248, R249, R353). DEDUCED: log entry 115. -/
def State.srcRid (s : State) (src : Source) (port : Nat) : Nat :=
  match src with
  | .host k => 8 * k
  | .device p rid =>
    if s.role port == 1 then
      match s.com.hier.find? (fun h => s.assigned h p rid) with
      | some h => s.hostFnRid h.host h.vdsp (if h.kind == 1 then rid % 256 else ridIndex rid (s.assignRids h))
      | none => rid
    else rid
  | .fabric sw p => fabRid sw p

/-- Requester ID of an outstanding request where it was forwarded. -/
def State.reqRid (s : State) (o : OutReq) : Nat := s.srcRid o.src o.port

/-- The forwarded request that a completion on port `p` answers (R29). -/
def State.matchOut (s : State) (c : Cpl) : Option OutReq :=
  s.tr.outs.find? (fun o => o.sent && o.port == c.inPort && o.tag == c.tag && s.reqRid o == c.rid)

/-! ### The way back -/

/-- Logical port of a source on this switch. -/
def State.srcPort (s : State) (src : Source) : Option Nat :=
  match src with
  | .host k => s.hostPort k
  | .device p _ => some p
  | .fabric _ _ => none

/-- Completer ID of the answer to request `o` at port `p`: of a device function the one under which the owning host enumerated it (R250);
otherwise a free value. -/
def State.cplRid (s : State) (o : OutReq) (p : Nat) : Nat :=
  if s.role o.port == 2 then s.srcRid (.device o.port o.rid) p else Config.completerId o.port p

/-- A completion for outstanding request `o` enters the queue of ingress port `inP` toward its requester (R29, R353), with the
requester's own ID and tag (R248, R250). A
requester whose link is down gets none, and the packet is counted as dropped. A pool completion (`egr`) is already in
its requester's quad and joins the egress queue there (R534). -/
def State.sendCpl (s : State) (o : OutReq) (inP : Nat) (st : CplStatus) (data : List Byte) (poison : Bool) (ts : Nat)
    (egr : Bool := false) : State :=
  match o.src with
  | .fabric sw sp =>
    s.sendFabric inP {
                       ptype := 3, tc := o.tc, poison, dstSw := sw, srcSw := ownSw s.com.active, srcPort := inP, len := flag (!o.pre.isEmpty) + ceilDiv data.length 32,
                       hdrExt := !o.pre.isEmpty, ext := wordBytes o.pre, tag := o.tag, rid := fabRid sw sp, status := st, reqLen := data.length,
                       data } .completion o.imprint o.sub o.quad
  | src =>
    match s.srcPort src with
    | some p =>
      if s.on .TILE_PORT_STATUS_LINK_UP p then
        let k : Pkt := {
          id := 0, req := { src, inPort := inP, kind := o.kind, addr := o.addr, len := data.length, data, tc := o.tc, tag := o.tag, poison, rid := o.reqId, pre := o.pre, ts },
          cls := .completion, status := st, imprint := o.imprint, sub := o.sub, quad := o.quad, dest := p, cid := s.cplRid o p, outId := some o.id,
          cells := cellsOf data.length, q := .ingress inP 0 p o.tc, epoch := s.reg .CMP_EPOCH_EPOCH 0 }
        if egr then (s.addPkt { k with q := .egress p o.tc, enq := s.dev }).placePkt s.tr.nextId else s.enqueue k
      else s.count { imprint := o.imprint, kind := .dropped, tc := o.tc, ts := s.dev, src := 32 + quadOf inP }
    | none => s

/-- The end of the piece of a request that holds offset `n`. -/
def pieceEnd (o : OutReq) (n : Nat) : Nat := (o.bounds.find? (fun b => decide (n < b))).getD o.len

/-- Bytes of a request that are due no more: they have come back, or their piece has failed. -/
def settledLen (o : OutReq) : Nat :=
  (o.got.map (fun e => e.2.length)).sum + (o.fails.map (fun e => pieceEnd o e.1 - e.1)).sum

/-- Request `o`, of which `n` bytes had gone on, after a piece came back: the bytes that are now without a gap go on in address order, poisoned where some of them are,
then the failure that stands there and ends the answer; a record that waits for nothing more is retired (R227, R534).
DEDUCED: log entry 120. -/
def State.deliverOn (s : State) (o : OutReq) (n inP ts : Nat) (egr : Bool) : State :=
  let new := prefixData o.got o.got.length n
  let m := n + new.length
  let bad := if o.answered then none else o.fails.find? (fun e => e.1 == m)
  let s := if o.answered || new.isEmpty then s else s.sendCpl o inP .sc new (o.poisonAt.any (fun a => decide (n ≤ a) && decide (a < m))) ts egr
  let s := match bad with
    | some e => s.sendCpl o inP e.2 [] false ts egr
    | none => s
  let o := { o with answered := o.answered || bad.isSome }
  if o.len ≤ m || (o.answered && decide (o.len ≤ settledLen o)) then s.delOut o.id else s.updOut o.id (fun _ => o)

/-- Bytes at offset `off` of request `o` have come back (R227, R534). -/
def State.deliver (s : State) (o : OutReq) (inP off : Nat) (data : List Byte) (poison : Bool) (ts : Nat)
    (egr : Bool := false) : State :=
  s.deliverOn { o with got := o.got ++ [(off, data)], poisonAt := if poison then o.poisonAt ++ [off] else o.poisonAt } (gotLen o) inP ts egr

/-- A completion without data of one piece: the last one answers the request, with a failure where a piece had one, and retires the
record. -/
def State.deliverDone (s : State) (o : OutReq) (inP ts : Nat) (egr : Bool := false) : State :=
  if o.pieces ≤ 1 then (s.sendCpl o inP ((o.fails.map (·.2)).headD .sc) [] false ts egr).delOut o.id
  else s.updOut o.id (fun _ => { o with pieces := o.pieces - 1 })

/-- A completion with an error status for the piece at offset `off`: it ends the answer in its place in address order (R227). -/
def State.deliverFail (s : State) (o : OutReq) (inP : Nat) (st : CplStatus) (off ts : Nat) (egr : Bool := false) : State :=
  let o := { o with fails := o.fails ++ [(prefixLen o.got o.got.length off, st)] }
  if wantsData o.kind then s.deliverOn o (gotLen o) inP ts egr else s.deliverDone o inP ts egr

/-- A completion from a destination is counted by island `isl`, which took it (R598). -/
def State.countCpl (s : State) (isl : Nat) (imprint : Option Nat) (tc n ts : Nat) : State :=
  s.count { imprint, kind := .cpl, bytes := n, tc, ts, src := isl }

/-- A matched completion with data for a sealed read: its whole lines are decrypted, and only requested bytes go on
(R399, R400). `off` counts from the first line's start. -/
def State.unseal (s : State) (o : OutReq) (off : Nat) (data : List Byte) : Nat × List Byte :=
  let base := o.addr / 64 * 64
  let clear := s.sealLines false o.port o.rid (o.imprint.getD 0) o.gen (data.length / 64 + 1) (base + off) data
  let lo := o.addr - base
  let skip := lo - off
  let d := (clear.drop skip).take (lo + o.len - max lo off)
  (off + skip - lo, d)

/-- A completion that matches request `o` (R29, R227, R400, R653); a sealed read whose key no longer exists is answered with
Unsupported Request (R781). -/
def State.takeCpl (s : State) (o : OutReq) (c : Cpl) : State :=
  let s := s.countCpl (32 + quadOf c.inPort) o.imprint o.tc c.data.length c.ts
  let o := { o with pre := c.pre }
  if o.sealed && decide (o.kind = .read) && s.keys.dead.contains (.seal (o.imprint.getD 0) o.gen) then
    (s.outFail o .ur).count { imprint := o.imprint, kind := .dropped, tc := o.tc, ts := s.dev, src := 32 + quadOf c.inPort }
  else match c.status with
  | .sc =>
    if wantsData o.kind then
      let (off, d) := if o.sealed then s.unseal o c.offset c.data else (c.offset, c.data)
      s.deliver o c.inPort off d c.poison c.ts
    else s.deliverDone o c.inPort c.ts
  | st => s.deliverFail o c.inPort st (if o.sealed then (s.unseal o c.offset []).1 else c.offset) c.ts

/-- A completion that matches nothing is discarded and logged (R30). -/
def State.unexpected (s : State) (p : Nat) : State := s.report 0x51 0 p

/-- Whether a quad takes no completion from its tiles: its fence is complete or it is lost or off. While it drains, what it has
sent for still comes back (R55, R56). DEDUCED: log entry 132. -/
def State.cplShut (s : State) (q : Nat) : Bool := s.closed (32 + q) && !s.fencing (32 + q)

/-- A completion at closed crossing ends is discarded and counted (R58, R67, R600). -/
def State.cplLost (s : State) (p tc : Nat) : State :=
  (s.bump .SUP_XING_DROP_COUNT 0).count { imprint := none, kind := .dropped, tc, ts := s.dev, src := 32 + quadOf p }

/-- A completion of a host or device port meets its quad: it finds its request, and one for a sealed read whose key entry awaits
redelivery waits (R29, R30, R579). -/
def State.cplIn (s : State) (c : Cpl) : State :=
  s.meetQuad (quadOf c.inPort) (.cpl c) (s.cplShut (quadOf c.inPort)) (fun s => s.cplLost c.inPort 0) (fun s =>
    match s.matchOut c with
    | some o =>
      let s := if o.sealed then s.readKey (32 + quadOf c.inPort) (.seal (o.imprint.getD 0) o.gen) else s
      if o.sealed && s.keys.redeliver.contains (32 + quadOf c.inPort, .seal (o.imprint.getD 0) o.gen) then
        s.waitWake (32 + quadOf c.inPort) (.cpl c)
      else s.takeCpl o c
    | none => s.unexpected c.inPort)

end Sys2Proof.Machine
end

