-- ==== Sys2Proof/Machine/Quads.lean ====
section
/-! DEFINITION. Arbiters of quads and spine, and the queues' traffic with the galley store
(09_quads_spine_arbitration.md). -/

namespace Sys2Proof.Machine

/-! ### The draw (R446 to R448) -/

/-- One advance of the Galois LFSR (R446). -/
def lfsrStep (x : Nat) : Nat :=
  let y := 2 * x % 2 ^ 32
  if 2 ^ 31 ≤ x % 2 ^ 32 then y ^^^ 0x00400007 else y

/-- A requester's bid in a draw: its slot, its tickets, whether it is urgent, whether it is eligible, its packet. -/
structure Bid where
  slot : Nat
  tickets : Nat
  urgent : Bool
  ok : Bool
  pkt : Nat
  deriving DecidableEq, Repr

/-- The first slot of an ascending list at or after a pointer, cyclic. -/
def firstFrom (l : List Nat) (ptr : Nat) : Nat := (l.find? (fun i => decide (ptr ≤ i))).getD (l.headD 0)

/-- The first bid whose running ticket sum exceeds `r`. -/
def lottery (r : Nat) : List Bid → Nat → Nat
  | [], _ => 0
  | b :: bs, acc => if r < acc + b.tickets then b.slot else lottery r bs (acc + b.tickets)

/-- Loss counts and forced flags of requesters without a bid are cleared (R448). -/
def Arb.clearIdle (a : Arb) (bids : List Bid) (n : Nat) : Arb :=
  let has := fun (i : Nat) => bids.any (fun b => b.slot == i)
  { a with
      loss := (List.range n).map (fun i => if has i then nth a.loss i else 0),
      forced := (List.range n).map (fun i => has i && (a.forced[i]?).getD false) }

/-- Every other eligible requester whose flag is clear loses once more; fifteen losses set its flag. -/
def Arb.lose (a : Arb) (w : Nat) (el : List Bid) : Arb :=
  el.foldl (fun a b =>
    if b.slot == w || (a.forced[b.slot]?).getD false then a
    else
      let l := nth a.loss b.slot + 1
      { a with loss := a.loss.set b.slot l, forced := if l == 15 then a.forced.set b.slot true else a.forced }) a

/-- The winner's loss count and flag are cleared. -/
def Arb.win (a : Arb) (w : Nat) : Arb := { a with loss := a.loss.set w 0, forced := a.forced.set w false }

/-- How a draw was won. -/
inductive Won where
  | urgent
  | forced
  | lottery
  deriving DecidableEq, Repr

/-- One draw among `n` slots (R447): the winner's slot, how it won, and the arbiter after the draw. -/
def Arb.draw (a : Arb) (n : Nat) (bids : List Bid) : Option (Nat × Won) × Arb :=
  let a := { a.clearIdle bids n with lfsr := lfsrStep a.lfsr }
  let el := bids.filter (·.ok)
  let urgent := (el.filter (·.urgent)).map (·.slot)
  let forced := (el.filter (fun b => (a.forced[b.slot]?).getD false)).map (·.slot)
  if !urgent.isEmpty then
    let w := firstFrom urgent a.urgentPtr
    (some (w, .urgent), { a with urgentPtr := (w + 1) % n }.win w)
  else if !forced.isEmpty then
    let w := firstFrom forced a.forcedPtr
    (some (w, .forced), { a.lose w el with forcedPtr := (w + 1) % n }.win w)
  else if el.isEmpty then (none, a)
  else
    let total := el.foldl (fun t b => t + b.tickets) 0
    let w := lottery (a.lfsr * total / 2 ^ 32) el 0
    (some (w, .lottery), (a.lose w el).win w)

/-! ### Arbiters (R439, R446) -/

/-- Island of an arbiter. -/
def arbIsland : ArbId → Nat
  | .quadLocal q _ => 32 + q
  | .quadSpine q _ _ => 32 + q
  | .spineQuad s _ _ => 40 + s
  | .spineMem s _ _ => 40 + s

/-- Number of an arbiter within its island. -/
def arbIx : ArbId → Nat
  | .quadLocal _ t => t
  | .quadSpine _ s k => 4 + 4 * s + k
  | .spineQuad _ d k => 4 * d + k
  | .spineMem _ m k => 32 + 4 * m + k

/-- Whether an arbiter exists. -/
def arbOk : ArbId → Bool
  | .quadLocal q t => decide (q < 8) && decide (t < 4)
  | .quadSpine q s k => decide (q < 8) && decide (s < 2) && decide (k < 4)
  | .spineQuad s d k => decide (s < 2) && decide (d < 8) && decide (k < 4)
  | .spineMem s m k => decide (s < 2) && decide (m < 4) && decide (k < 4)

/-- Requester slots of an arbiter. -/
def arbSlots : ArbId → Nat
  | .quadLocal _ _ => 32
  | .quadSpine _ _ _ => 32
  | .spineQuad _ _ _ => 12
  | .spineMem _ _ _ => 8

/-- The block whose ARB_STAT counts an arbiter's grants (R459). -/
def arbStat : ArbId → Nat
  | .quadLocal q _ => q
  | .quadSpine q _ _ => q
  | .spineQuad s _ _ => 8 + s
  | .spineMem s _ _ => 8 + s

/-- The seeds of an island's arbiters are drawn anew (R446): in P3, and at every reset of the island. -/
def State.seedArbs (s : State) (isl : Nat) : State :=
  if decide (32 ≤ isl) && decide (isl < 42) then
    { s with
        draws := s.draws + (if isl < 40 then 12 else 48),
        tr := { s.tr with
                  arbs := s.tr.arbs.filter (fun e => arbIsland e.1 != isl),
                  arbSeed := Sparse.set id s.tr.arbSeed isl s.draws } }
  else s

/-- Number of an arbiter in the switch. -/
def arbNo : ArbId → Nat
  | .quadLocal q t => 12 * q + t
  | .quadSpine q s k => 12 * q + 4 + 4 * s + k
  | .spineQuad s d k => 96 + 48 * s + 4 * d + k
  | .spineMem s m k => 96 + 48 * s + 32 + 4 * m + k

/-- An arbiter's state; before its first draw, its seed, which is not zero and whose low byte no other arbiter's has (R446; DESIGN CHOICE, log
entry 42). -/
def State.arb (s : State) (a : ArbId) : Arb :=
  match s.tr.arbs.find? (fun e => decide (e.1 = a)) with
  | some e => e.2
  | none =>
    let n := arbSlots a
    let base := (Sparse.get? s.tr.arbSeed (arbIsland a)).getD 0
    {
      lfsr := Config.random (base + arbIx a) % 2 ^ 24 * 256 + arbNo a + 1, loss := List.replicate n 0,
      forced := List.replicate n false }

/-- `s` with an arbiter's state. -/
def State.setArb (s : State) (a : ArbId) (v : Arb) : State :=
  { s with tr := { s.tr with arbs := s.tr.arbs.filter (fun e => !decide (e.1 = a)) ++ [(a, v)] } }

/-! ### Bids (R440 to R443) -/

/-- Tickets of a packet that is queued in, or came from, quad `q`, and whether its bid is urgent (R442, R443). -/
def State.ticketsOf (s : State) (p : Pkt) (q : Nat) : Nat × Bool :=
  match p.imprint with
  | some i =>
    let n := p.quad.getD q * 1024 + i
    (s.reg .ARB_TICKET_TICKETS n, p.req.tc == 7 && s.reg .ARB_TICKET_URGENT_OK n == 1)
  | none => (s.reg .ARB_TRANSIT_TICKETS q, p.req.tc == 7 && s.reg .ARB_TRANSIT_URGENT_OK q == 1)

/-- Quad in which a destination lies: an egress port's, or 132 + q for the quad itself; none for a stack. -/
def destQuad (d : Nat) : Option Nat := if d < 128 then some (quadOf d) else if d < 132 then none else some (d - 132)

/-- Whether the head of a queue goes to an output of quad arbiter `a`; a packet whose transfers have begun stays on its
sub-channel (R427). -/
def State.toOutput (s : State) (a : ArbId) (h : Pkt) : Bool :=
  match a with
  | .quadLocal q t => destQuad h.dest == some q && h.dest / 4 % 4 == t
  | .quadSpine q si k =>
    destQuad h.dest != some q && (if h.granted = 0 then (s.queue h.q).bind else h.route) == 4 * si + k
  | _ => false

/-- Requester slot of an ingress queue. -/
def slotOf : QId → Nat
  | .ingress p l _ _ => 2 * (p % 16) + l
  | .egress _ _ => 0

/-- The heads of quad `q`'s ingress queues: the first packet of each. -/
def queueHeads (q : Nat) : List Pkt → List QId → List Pkt
  | [], _ => []
  | p :: ps, seen =>
    match p.q with
    | .ingress _ _ _ _ =>
      if p.q.quad == q && p.queued && !seen.contains p.q then p :: queueHeads q ps (p.q :: seen) else queueHeads q ps seen
    | .egress _ _ => queueHeads q ps seen

/-- Whether a head is held back by R423: an earlier packet stands in the PC queue of its port, destination and class. -/
def State.behindPc (s : State) (h : Pkt) : Bool :=
  match h.q with
  | .ingress p 1 d t => s.tr.pkts.any (fun x => decide (x.q = .ingress p 0 d t) && x.queued && decide (x.req.ts < h.req.ts))
  | _ => false

/-- Whether the egress queue of a packet's destination admits packets (R437). -/
def State.admits (s : State) (h : Pkt) : Bool := 128 ≤ h.dest || (s.queue (.egress h.dest h.req.tc)).taking

/-- Source slot of a packet at the spine: its quad, or 8 + m for a completion from memory cipher port m. -/
def spineSlot (p : Pkt) : Nat := if p.kind == 3 && decide (p.cls = .completion) then 8 + p.destA else p.q.quad

/-- Transfers in the spine's input buffer of source slot `j` at island `si`, sub-channel `k` (R440). -/
def State.spineUsed (s : State) (j si k : Nat) : Nat :=
  ((s.tr.spineQ.filterMap s.pkt).filter (fun p => p.route == 4 * si + k && spineSlot p == j)).length

/-- Requests that stack `m`'s memory cipher island has outstanding (R532). -/
def State.stackBusy (s : State) (m : Nat) : Nat :=
  (s.tr.pkts.filter (fun p => p.dest == 128 + m && decide (p.place = .cipher))).length

/-- Spine island of an arbiter. -/
def spineOf : ArbId → Nat
  | .quadSpine _ si _ => 40 + si
  | a => arbIsland a

/-- Whether a head may be granted a transfer by a quad arbiter, but for its output's room (R423, R427, R437, R535). -/
def State.headOk (s : State) (a : ArbId) (h : Pkt) : Bool :=
  decide (h.place = .shared) &&
  (decide (0 < h.granted) || (!s.behindPc h && !h.hold && (match a with
    | .quadLocal _ _ => true
    | _ => s.running (spineOf a) && !s.fencing (spineOf a)))) &&
  (match a with
    | .quadLocal _ _ => s.admits h
    | _ => true)

/-- The earliest packet of a list by ingress timestamp. -/
def earliest : List Pkt → Option Pkt
  | [] => none
  | p :: ps =>
    match earliest ps with
    | some b => if p.req.ts ≤ b.req.ts then some p else some b
    | none => some p

/-- The bids of a quad arbiter (R440, R428): one for each requester slot that has a head for the output.
DEDUCED: log entry 25. -/
def State.quadBids (s : State) (a : ArbId) (q : Nat) : List Bid :=
  let heads := (queueHeads q s.tr.pkts []).filter (s.toOutput a)
  let room := match a with
    | .quadSpine q si k => decide (s.spineUsed q si k < 64)
    | _ => true
  (List.range 32).filterMap (fun i =>
    let mine := heads.filter (fun h => slotOf h.q == i)
    let pick := match mine.find? (fun h => decide (0 < h.granted)) with
      | some h => some h
      | none =>
        match earliest (mine.filter (s.headOk a)) with
        | some h => some h
        | none => earliest mine
    pick.map (fun h =>
      let (t, u) := s.ticketsOf h q
      { slot := i, tickets := t, urgent := u, ok := room && s.headOk a h, pkt := h.id }))

/-- The head of one spine input queue for an output (R440): the oldest urgent transfer, else the oldest. -/
def State.spineHead (s : State) (route slot : Nat) (out : Pkt → Bool) : Option Pkt :=
  let l := (s.tr.spineQ.filterMap s.pkt).filter (fun p => p.route == route && spineSlot p == slot && out p)
  match l.find? (fun p => (s.ticketsOf p p.q.quad).2) with
  | some p => some p
  | none => l.head?

/-- The bids of a spine arbiter. -/
def State.spineBids (s : State) (a : ArbId) : List Bid :=
  (List.range (arbSlots a)).filterMap (fun j =>
    match a with
    | .spineQuad si d k =>
      (s.spineHead (4 * si + k) j (fun p => destQuad p.dest == some d)).map (fun p =>
        let (t, u) := s.ticketsOf p p.q.quad
        { slot := j, tickets := t, urgent := u, ok := s.admits p && (s.running (32 + d) || s.closed (32 + d)), pkt := p.id })
    | .spineMem si m k =>
      (s.spineHead (4 * si + k) j (fun p => p.dest == 128 + m)).map (fun p =>
        let (t, u) := s.ticketsOf p p.q.quad
        {
          slot := j, tickets := t, urgent := u,
          ok := decide (s.stackBusy m < 8192) && (s.running (46 + m) || s.closed (46 + m)), pkt := p.id })
    | _ => none)

/-! ### Grants (R426 to R428, R444) -/

/-- A packet that leaves the shared buffer: a corrected error in its cells is logged (R634, R657). -/
def State.readCells (s : State) (p : Pkt) : State := if p.flip == 1 then s.report 0x45 0 p.q.quad else s

/-- One transfer of packet `p` is granted by its quad arbiter. -/
def State.grantQuad (s : State) (a : ArbId) (p : Pkt) : State :=
  let last := p.cells ≤ p.granted + 1
  let s := if p.granted = 0 then s.readCells p else s
  let s := match a with
    | .quadSpine _ si k =>
      let s := s.updPkt p.id (fun x => { x with granted := x.granted + 1, route := 4 * si + k, place := if last then .spine else x.place })
      { s with tr := { s.tr with spineQ := s.tr.spineQ ++ [p.id] } }
    | _ => s.updPkt p.id (fun x => { x with granted := x.granted + 1, place := if last then .arrived else x.place })
  if last then s.settleQueue p.q else s

/-- `l` without the first `n` in it. -/
def eraseFirst (n : Nat) : List Nat → List Nat
  | [] => []
  | x :: xs => if x == n then xs else x :: eraseFirst n xs

/-- A packet reaches a closed island as a new item (R58): it is answered as to a lost destination, a posted one counted. -/
def State.refuseNew (s : State) (p : Pkt) : State :=
  let s := if p.cls = .nonposted then s else s.bump .SUP_XING_DROP_COUNT 0
  s.discard p (fun s o => s.outLost o)

/-- One transfer of packet `p` is granted by its spine arbiter. A request that reaches a memory cipher island is a new item for the memory
island, which may be closed (R55, R58, R67). -/
def State.grantSpine (s : State) (p : Pkt) (isl : Nat) : State :=
  let s := { s with tr := { s.tr with spineQ := eraseFirst p.id s.tr.spineQ } }
  let last := decide (p.cells ≤ p.passed + 1)
  if (p.passed = 0 && s.closed isl) || (last && decide (46 ≤ isl) && s.closed (isl - 4)) then s.refuseNew p
  else
    let s := s.updPkt p.id (fun x => { x with
                                         passed := x.passed + 1,
                                         place := if last then (if isl < 40 then .arrived else .cipher) else x.place })
    if last && decide (46 ≤ isl) then
      let s := (s.setPkts (s.tr.pkts.filter (fun (x : Pkt) => x.id != p.id) ++ s.tr.pkts.filter (fun x => x.id == p.id))).outcome p 0 s.dev
      (s.setReg .MEM_STK_STATUS_MAX_OUTSTANDING (isl - 46)
        (max (s.reg .MEM_STK_STATUS_MAX_OUTSTANDING (isl - 46)) (s.stackBusy (isl - 46))))
    else s

/-- A packet whose cells have an uncorrectable error is discarded and logged (R438, R634, R657). -/
def State.cellsLost (s : State) (p : Pkt) : State :=
  if p.flip != 2 then s
  else match p.imprint with
    | some i => s.report 0x35 2 i none (some (32 + p.q.quad))
    | none => s.report 0x35 0 p.q.quad none (some (32 + p.q.quad))

/-- Requests of a quarantined imprint at the head of a queue, and packets whose cells cannot be read, are discarded with Completer Abort
(R634, R648); `fuel` bounds how many. -/
def State.purge (q : Nat) : Nat → State → State
  | 0, s => s
  | f + 1, s =>
    match (queueHeads q s.tr.pkts []).find? (fun h =>
      decide (h.place = .shared) && h.granted == 0 && (h.flip == 2 || decide (h.cls ≠ .completion) &&
        (match h.imprint with
          | some i => s.quarantined i
          | none => false))) with
    | some h => State.purge q f (((s.cellsLost h).discard h (fun s o => s.outFail o .ca)).settleQueue h.q)
    | none => s

/-- Whether a queue can take a packet of one cell (R435, R437). DEDUCED: log entry 117. -/
def State.canTake (s : State) (q : QId) : Bool :=
  (s.inQ q .blocked).isEmpty && ((!(s.queue q).spill && !s.spills q 1) || (s.galleyFit q 1).isSome)

/-- Admission to an egress queue that can take no further packet is withdrawn (R437). -/
def State.withdraw (s : State) (q : QId) : State :=
  if (s.queue q).taking && !s.canTake q then (s.setQueue q { s.queue q with taking := false }).bump .QD_SPILL_COUNT_XOFF q.quad else s

/-- Egress queues for which what waits at an arbiter is bound. -/
def State.boundFor (s : State) (a : ArbId) : List QId :=
  ((match a with
    | .quadLocal q _ => (queueHeads q s.tr.pkts []).filter (s.toOutput a)
    | .spineQuad si d k => (s.tr.spineQ.filterMap s.pkt).filter (fun p => p.route == 4 * si + k && destQuad p.dest == some d)
    | _ => []).filterMap (fun (p : Pkt) => if p.dest < 128 then some (QId.egress p.dest p.req.tc) else none)).eraseDups

/-- One draw of an arbiter and its grant. -/
def State.drawArb (s : State) (a : ArbId) : State :=
  let s := match a with
    | .quadLocal q _ => State.purge q s.tr.pkts.length s
    | .quadSpine q _ _ => State.purge q s.tr.pkts.length s
    | _ => s
  let s := (s.boundFor a).foldl (fun s q => s.withdraw q) s
  let bids := match a with
    | .quadLocal q _ => s.quadBids a q
    | .quadSpine q _ _ => s.quadBids a q
    | _ => s.spineBids a
  let (w, v) := (s.arb a).draw (arbSlots a) bids
  let s := s.setArb a v
  match w with
  | none => s
  | some (i, how) =>
    let isl := arbIsland a
    let imp := ((bids.find? (fun b => b.slot == i)).bind (fun b => s.pkt b.pkt)).bind (·.imprint)
    let s := if 40 ≤ isl then s.tally isl 0x20 else s.tally isl (match how with
      | .lottery => 0x15
      | .urgent => 0x16
      | .forced => 0x17) imp
    let s := match how with
      | .urgent => s.bump .ARB_STAT_URGENT (arbStat a)
      | .forced => s.bump .ARB_STAT_FORCED (arbStat a)
      | .lottery => s
    match bids.find? (fun b => b.slot == i) with
    | none => s
    | some b =>
      match s.pkt b.pkt with
      | none => s
      | some p =>
        match a with
        | .spineQuad _ d _ => s.grantSpine p (32 + d)
        | .spineMem _ m _ => s.grantSpine p (46 + m)
        | _ => s.grantQuad a p

/-- ARBITER_DRAW: one core cycle of one arbiter (R444 to R448). A halted switch grants nothing (R655).
DESIGN CHOICE: log entry 29. -/
def execArbiterDraw (a : ArbId) (s : State) : Res :=
  run (fun s =>
    let isl := arbIsland a
    if arbOk a && !s.halted && (s.running isl || s.fencing isl) then s.drawArb a else s) s

/-! ### Arrival at the egress quad (R434, R437) -/

/-- Device-side lines that a packet touches. -/
def Pkt.lines (k : Pkt) : List Nat := (span (k.addr / 64) ((k.addr + max 1 k.req.len - 1) / 64)).map (· * 64)

/-- Lines that a write covers only in part. -/
def Pkt.partLines (k : Pkt) : List Nat := k.lines.filter (fun l => !(decide (k.addr ≤ l) && decide (l + 64 ≤ k.addr + k.req.len)))

/-- Whether a packet goes through a sealed window to a device. -/
def Pkt.sealedReq (k : Pkt) : Bool := k.sealed && k.kind == 1 && decide (k.cls ≠ .completion)

/-- Whether a packet is a write through a sealed window to a device. -/
def Pkt.sealedWrite (k : Pkt) : Bool := k.sealedReq && (decide (k.req.kind = .write) || decide (k.req.kind = .dmWrite))

/-- Whether a packet waits for a read-modify-write of its own. -/
def Pkt.needsRmw (k : Pkt) : Bool := k.sealedWrite && !k.merged && !k.partLines.isEmpty

/-- The parts in which a write through a sealed window goes to its device (R401): the lines that it covers in full, together, and by itself each
line that it covers in part; offsets and lengths. -/
def Pkt.sealParts (k : Pkt) : List (Nat × Nat) :=
  let a := k.addr
  let e := a + k.req.len
  let lo := ceilDiv a 64 * 64
  let hi := e / 64 * 64
  if k.sealedWrite && decide (lo ≤ hi) && k.req.len != 0 then [(0, lo - a), (lo - a, hi - lo), (hi - a, e - hi)].filter (fun x => x.2 != 0)
  else [(0, k.req.len)]

/-- Whether a line of a packet is locked by another packet (R402). -/
def State.lockedOut (s : State) (k : Pkt) : Bool :=
  k.sealedReq && s.tr.seals.any (fun x => x.pkt != k.id && x.port == k.dest && k.lines.contains x.line)

/-- A packet that has arrived at its egress quad joins its egress queue, behind every packet that is there (R434); a write through a sealed
window in its parts, each of which a non-posted one completes for itself (R401). -/
def State.joinEgress (s : State) (p : Pkt) : State :=
  let q := QId.egress p.dest p.req.tc
  let moved : Pkt := {
    p with q, place := .shared, enq := s.dev, granted := 0, passed := 0, key := .transit, pages := [], flip := 0, storeFlip := 0, waited := s.lockedOut p }
  let s := s.setPkts (s.tr.pkts.filter (fun (x : Pkt) => x.id != p.id))
  match p.sealParts with
  | [_] => ((s.setPkts (s.tr.pkts ++ [moved])).placePkt p.id).withdraw q
  | parts =>
    let s := match p.outId with
      | some i => s.updOut i (fun o => { o with pieces := o.pieces + parts.length - 1 })
      | none => s
    parts.foldl (fun s e =>
      let k : Pkt := { moved with addr := p.addr + e.1, req := { p.req with addr := p.req.addr + e.1, len := e.2, data := pieceData p.req e.1 e.2 }, cells := cellsOf e.2 }
      (if e.1 = 0 then (s.setPkts (s.tr.pkts ++ [k])).placePkt p.id else (s.addPkt { k with sample := none }).placePkt s.tr.nextId).withdraw q) s

/-- A pool completion arrives in the quad that classified its request, which returns the data in address order (R534). -/
def State.poolReturn (s : State) (p : Pkt) : State :=
  let s := s.delPkt p.id
  match p.outId with
  | some i =>
    match s.outReq i with
    | some o =>
      match p.status with
      | .sc => if wantsData o.kind then s.deliver o o.inPort p.addr p.req.data p.req.poison p.req.ts true else s.deliverDone o o.inPort p.req.ts true
      | st => s.deliverFail o o.inPort st p.addr p.req.ts true
    | none => s
  | none => s

/-- Whether an arrived packet may not pass an earlier posted one of its ingress port, destination and class that has not joined the
egress queue yet: Relaxed Ordering frees posted requests and completions, ID-Based Ordering those of another requester (R251). -/
def State.mustFollow (s : State) (p : Pkt) : Bool :=
  let loose := p.req.ro && decide (p.cls ≠ .nonposted)
  !loose && s.tr.pkts.any (fun x => decide (x.id < p.id) && x.req.inPort == p.req.inPort && x.dest == p.dest && x.req.tc == p.req.tc &&
    decide (x.cls = .posted) && !QId.isEgress p.dest x.q && !(p.req.ido && (decide (x.req.src ≠ p.req.src) || x.req.rid != p.req.rid)))

/-- EGRESS_QUEUE_ARRIVAL: packets that R251 orders join their egress queue in order. -/
def execEgressQueueArrival (i : Nat) (s : State) : Res :=
  run (fun s =>
    match s.pkt i with
    | some p =>
      if p.place = .arrived then
        if p.kind == 3 && decide (p.cls = .completion) then s.poolReturn p
        else if p.dest < 128 && !s.mustFollow p then s.joinEgress p
        else s
      else s
    | none => s) s

/-- ADMISSION_RESTORE (R437). -/
def execAdmissionRestore (n : Nat) (s : State) : Res :=
  run (fun s =>
    let q := QId.ofNat n
    if !(s.queue q).taking && s.canTake q then s.setQueue q { s.queue q with taking := true } else s) s

/-! ### The galley store -/

/-- GALLEY_UNBLOCK (R436). -/
def execGalleyUnblock (n : Nat) (s : State) : Res := run (fun s => s.unblock (QId.ofNat n)) s

/-- A packet in the galley store that was discarded, or whose key is destroyed, is freed without being read (R579,
R781). -/
def State.freeDead (s : State) (p : Pkt) : State :=
  (if p.dead then s.delPkt p.id else s.discard p (fun s o => s.outFail o .ur)).settleQueue p.q

/-- The islands of every page of a packet run (R511). -/
def State.pagesRun (s : State) (p : Pkt) : Bool := p.pages.all s.pageRuns

/-- A packet meets an uncorrectable error in the galley store: it is discarded, answered with Completer Abort and logged (R438). -/
def State.galleyUe (s : State) (p : Pkt) : State :=
  let s := (s.discard p (fun s o => s.outFail o .ca) 2).settleQueue p.q
  match p.imprint with
  | some i => s.report 0x34 2 i none (some (32 + p.q.quad))
  | none => s.report 0x34 0 p.q.quad none (some (32 + p.q.quad))

/-- Stack `m` is lost: every packet with a page on it meets an uncorrectable error (R438). -/
def State.galleyLose (s : State) (m : Nat) : State :=
  (s.tr.pkts.filter (fun p => decide (p.place = .galley) && p.pages.any (fun pg => pg % 4 == m))).foldl (fun s p => s.galleyUe p) s

/-- GALLEY_READ_BACK: the oldest packet of a queue's galley part is read back into the shared region (R433); `bad` says
that a line of it has an uncorrectable error (R438). -/
def execGalleyReadBack (n : Nat) (bad : Bool) (s : State) : Res :=
  run (fun s =>
    let q := QId.ofNat n
    match s.inQ q .galley with
    | [] => s
    | p :: _ =>
      if s.keys.dead.contains p.key || p.dead then s.freeDead p
      else if decide (cellSum (s.sharedQ q) < s.reg .QD_SPILL_PROF_REFILL (s.profile q)) && decide (p.cells ≤ s.sharedFree q.quad) &&
          s.pagesRun p && !p.pages.any (fun pg => s.keys.redeliver.contains (46 + pg % 4, p.key)) then
        if bad || p.storeFlip == 2 then s.galleyUe p
        else ((s.tally (32 + q.quad) 0x13 p.imprint).updPkt p.id (fun x => { x with place := .shared, pages := [], key := .transit })).settleQueue q
      else s) s

end Sys2Proof.Machine
end

