-- ==== Sys2Proof/Machine/Pool.lean ====
section
/-! DEFINITION. The memory pool: pool requests, fill granules, partial lines, scrub and row repair
(11_memory_pool.md). -/

namespace Sys2Proof.Machine

/-- `s` with its pool part changed. -/
def State.updPool (s : State) (f : Pool → Pool) : State := { s with pool := f s.pool }

/-! ### Memory -/

/-- The canonical form of pool memory: addresses strictly rise, and no byte listed is zero, which an unlisted byte reads
as. -/
def Memory.wf (m : List Host.Cell) : Bool := Sparse.sorted id m && m.all (fun c => c.2 != 0)

/-- One byte of memory. DESIGN CHOICE: log entry 15. -/
def memGet (m : List Host.Cell) (a : Nat) : Byte := (Sparse.get? m a).getD 0

/-- One byte written. -/
def memSet (m : List Host.Cell) (a : Nat) (b : Byte) : List Host.Cell := if b = 0 then Sparse.erase m a else Sparse.set id m a b

/-- Bytes written from an address on. -/
def memPut (m : List Host.Cell) : Nat → List Byte → List Host.Cell
  | _, [] => m
  | a, b :: bs => memPut (memSet m a b) (a + 1) bs

/-- `n` bytes from an address on. -/
def memRead (m : List Host.Cell) (a n : Nat) : List Byte := (List.range n).map (fun i => memGet m (a + i))

/-- Memory with the bytes of some lines cleared. -/
def memClear (m : List Host.Cell) (lines : List Nat) : List Host.Cell := m.filter (fun c => !lines.contains (c.1 / 64))

/-! ### Where lines lie (R509, R510) -/

/-- Whether sheet `n` is placed whole. -/
def State.whole (s : State) (n : Nat) : Bool := s.way1 || decide (1024 ≤ n + s.galleySheets)

/-- Stack and stack-local address of a pool physical address. -/
def State.locate (s : State) (pa : Nat) : Nat × Nat := s.place (pa / 2 ^ 28) (pa % 2 ^ 28)

/-- Fill granule of a pool physical address: stack · 2^24 + number. -/
def State.granule (s : State) (pa : Nat) : Nat :=
  let (m, l) := s.locate pa
  m * 2 ^ 24 + l / 4096

/-- Line indices of a fill granule, in stack-local order. -/
def State.granLines (s : State) (g : Nat) : List Nat :=
  let m := g / 2 ^ 24
  let l := g % 2 ^ 24 * 4096
  let whole := 4 * (l / 2 ^ 28) + m
  if s.whole whole && s.place whole (l % 2 ^ 28) == (m, l) then (List.range 64).map (fun i => (whole * 2 ^ 28 + l % 2 ^ 28) / 64 + i)
  else (List.range 64).map (fun i => (l / 2 ^ 26 * 2 ^ 28 + (l % 2 ^ 26 / 256 + i / 4) * 1024 + m * 256) / 64 + i % 4)

/-- DRAM row and bank of a stack-local address: rows of 1 KiB, 64 banks (DESIGN CHOICE, log entry 44). -/
def rowOf (l : Nat) : Nat × Nat := (l / 1024, l / 1024 % 64)

/-- The lease that holds a sheet. -/
def State.leaseOf (s : State) (n : Nat) : Option Lease := s.pool.leases.find? (fun l => l.sheets.contains n)

/-- Key reference of a lease's sheet key. -/
def Lease.key (l : Lease) : KeyRef := .sheet l.handle l.epoch l.imprint l.gen

/-! ### Row repair (R541, R542) -/

/-- A row is remapped to a spare row of its bank, or reported when its bank has none (R541, R542). -/
def State.remap (s : State) (m row bank : Nat) : State :=
  if s.pool.remaps.any (fun e => e.1 == m && e.2.1 == row) then s
  else if s.part.bankSpares ≤ (s.pool.remaps.filter (fun e => e.1 == m && e.2.2 == bank)).length then s.report 0x11 0 m
  else
    let s := s.updPool (fun p => { p with
                                     remaps := p.remaps ++ [(m, row, bank)], copying := p.copying ++ [(m, row)],
                                     rowErrs := p.rowErrs.filter (fun e => !(e.1 == m && e.2.1 == row)) })
    let s := s.bump .MEM_STK_SPARE_USED m
    if 3 * s.part.spareTotal ≤ 4 * s.reg .MEM_STK_SPARE_USED m && !s.on .MEM_STK_SPARE_LOW m then
      (s.setReg .MEM_STK_SPARE_LOW m 1).report 0x59 0 m
    else s

/-- A corrected error in a row: counted, logged; the second within 24 hours remaps it (R538, R541). -/
def State.corrected (s : State) (m row bank : Nat) : State :=
  let s := ((s.tally (42 + m) 0x34).bump .MEM_STK_ECC_CORR m).report 0x44 0 m
  if s.pool.rowErrs.any (fun e => e.1 == m && e.2.1 == row && decide (s.now < e.2.2 + 86400000000000)) then s.remap m row bank
  else s.updPool (fun p => { p with rowErrs := p.rowErrs.filter (fun e => !(e.1 == m && e.2.1 == row)) ++ [(m, row, s.now)] })

/-- An uncorrectable error in a row (R539, R541). -/
def State.uncorrected (s : State) (m row bank imprint : Nat) : State :=
  ((s.bump .MEM_STK_ECC_UE m).report 0x36 2 imprint none (some (42 + m))).remap m row bank

/-! ### Lines (R527 to R530, R653) -/

/-- Tag of a line. -/
def State.tag (s : State) (ln : Nat) : Option LineTag := Sparse.get? s.pool.lines ln

/-- `s` with a line's tag. -/
def State.setTag (s : State) (ln : Nat) (t : LineTag) : State := s.updPool (fun p => { p with lines := Sparse.set id p.lines ln t })

/-- A line decrypted under a lease's key and epoch: its bytes where it was written under them, else unpredictable data
(R527, R528). -/
def State.lineData (s : State) (l : Lease) (ln : Nat) : List Byte :=
  match s.tag ln with
  | some t =>
    if t.key = l.key && poolTweak ln t.epoch == poolTweak ln l.epoch then memRead s.pool.mem (64 * ln) 64
    else (Config.garbled (s.dataKey l.key) (poolTweak ln l.epoch) s.draws ++ List.replicate 64 0).take 64
  | none => (Config.garbled (s.dataKey l.key) (poolTweak ln l.epoch) s.draws ++ List.replicate 64 0).take 64

/-- A whole line encrypted and written; an armed injection takes place (R657). -/
def State.putLine (s : State) (l : Lease) (ln : Nat) (d : List Byte) (poison : Bool) : State :=
  let m := (s.locate (64 * ln)).1
  let s := (s.tally (42 + m) 0x31).tally (46 + m) 0x40 (some l.imprint)
  let f1 := (s.armedWrite [0x36] l.imprint).1
  let s := (s.armedWrite [0x36] l.imprint).2
  let f2 := (s.armedWrite [0x44] m).1
  let s := (s.armedWrite [0x44] m).2
  let f := max f1 f2
  (s.updPool (fun p => { p with mem := memPut p.mem (64 * ln) d })).setTag ln {
    key := l.key, epoch := l.epoch, poison, ue := f == 2, corr := f == 1 }

/-- The bytes of packet `k` in line `ln` over what the line held. -/
def overlay (k : Pkt) (pa ln : Nat) (old : List Byte) : List Byte :=
  (List.range 64).map (fun i =>
    let a := 64 * ln + i
    if pa ≤ a && a < pa + k.req.data.length then (k.req.data[a - pa]?).getD 0 else (old[i]?).getD 0)

/-- Whether a packet at pool physical address `pa` covers line `ln` in full. -/
def covers (k : Pkt) (pa ln : Nat) : Bool := decide (pa ≤ 64 * ln) && decide (64 * ln + 64 ≤ pa + k.req.data.length)

/-- Line indices that a packet touches. -/
def poolLines (k : Pkt) (pa : Nat) : List Nat := span (pa / 64) ((pa + max 1 k.req.len - 1) / 64)

/-- The first write to a granule begins to fill it with zeros (R530). -/
def State.beginFill (s : State) (l : Lease) (g : Nat) : State :=
  let ls := s.granLines g
  let s := (s.tally (42 + g / 2 ^ 24) 0x33).updPool (fun p => { p with
                                   mem := memClear p.mem ls, filling := p.filling ++ [(g / 2 ^ 24, g % 2 ^ 24)] })
  ls.foldl (fun s ln => s.setTag ln { key := l.key, epoch := l.epoch }) s

/-! ### Answers -/

/-- Spine island and sub-channel of a completion of pool request `k`: those of the request (DEDUCED, log entry 45). -/
def State.replyRoute (s : State) (k : Pkt) : Nat := if s.closed (40 + k.route / 4) then (k.route + 4) % 8 else k.route

/-- Whether the spine's input buffer of stack `m` has room for the completion of request `k`, beside those of the requests whose read-modify-writes
are in progress (R440). -/
def State.replyRoom (s : State) (k : Pkt) (m : Nat) : Bool :=
  let r := s.replyRoute k
  let owed := (s.tr.pkts.filter (fun p => decide (p.cls = .nonposted) && p.dest == 128 + m && p.route == k.route && s.pool.rmw.any (fun e => e.1 == p.id))).length
  decide (k.cls ≠ .nonposted) ||
  decide (s.spineUsed (8 + m) (r / 4) (r % 4) + owed + cellsOf (if wantsData k.req.kind then k.req.len else 0) ≤ 64)

/-- A completion of a pool request goes back through the spine to the quad that classified the request (R534), on the
island and sub-channel that the request used (DEDUCED, log entry 45). -/
def State.poolReply (s : State) (k : Pkt) (m : Nat) (st : CplStatus) (data : List Byte) (poison : Bool) : State :=
  match k.outId.bind s.outReq with
  | none => s
  | some o =>
    let s := s.countCpl (46 + m) k.imprint k.req.tc data.length s.dev
    let dest := match s.srcPort o.src with
      | some p => p
      | none => 132 + k.quad.getD 0
    let route := s.replyRoute k
    let i := s.tr.nextId
    let c := cellsOf data.length
    let s := s.addPkt { k with
                          cls := .completion, status := st, req := { k.req with data, len := data.length, poison, ts := s.dev }, addr := k.addr - o.addr,
                          destA := m, dest, place := .spine, cells := c, granted := c, passed := 0, route, sample := none }
    { s with tr := { s.tr with spineQ := s.tr.spineQ ++ List.replicate c i } }

/-- Packet `k` has been served: it leaves its memory cipher island. -/
def State.served (s : State) (k : Pkt) : State := s.delPkt k.id

/-! ### Requests (R527 to R537) -/

/-- Whether a line of the packet is locked, being filled or copied, or asked for by a request that reached the island
earlier (R530, R533, R536, R541). -/
def State.poolWaits (s : State) (k : Pkt) (m pa : Nat) : Bool :=
  let ls := poolLines k pa
  let g := s.granule pa
  let row := (rowOf (s.locate pa).2).1
  s.pool.filling.contains (g / 2 ^ 24, g % 2 ^ 24) || s.pool.copying.contains (m, row) ||
  s.pool.rmw.any (fun e => ls.contains e.2) ||
  (s.tr.pkts.takeWhile (fun x => x.id != k.id)).any (fun x =>
    x.dest == k.dest && decide (x.place = .cipher) && (poolLines x (x.destB * 2 ^ 28 + x.addr)).any (fun l => ls.contains l))

/-- A pool write of a packet whose lease and key stand (R530, R536, R653). -/
def State.poolWrite (s : State) (k : Pkt) (l : Lease) (m pa : Nat) : State :=
  let ls := poolLines k pa
  let g := s.granule pa
  let done := fun (s : State) => (match k.cls with
    | .nonposted => s.poolReply k m .sc [] false
    | _ => s).served k
  if !s.pool.granules.contains g then
    let s := s.beginFill l g
    let s := ls.foldl (fun s ln =>
      let s := s.putLine l ln (overlay k pa ln []) k.req.poison
      if covers k pa ln then s else (s.tally (46 + m) 0x42 (some l.imprint)).bump .MEM_STK_RMW_DONE m) s
    done s
  else
    let part := ls.filter (fun ln => !covers k pa ln)
    let s := (ls.filter (covers k pa)).foldl (fun s ln => s.putLine l ln (overlay k pa ln []) k.req.poison) s
    if part.isEmpty then done s
    else (part.foldl (fun s _ => s.tally (46 + m) 0x42 (some l.imprint)) s).updPool (fun p => { p with rmw := p.rmw ++ part.map (fun ln => (k.id, ln)) })

/-- Lines are read and decrypted for a lease. -/
def State.lineReads (s : State) (l : Lease) (m n : Nat) : State :=
  (List.range n).foldl (fun s _ => (s.tally (42 + m) 0x30).tally (46 + m) 0x41 (some l.imprint)) s

/-- A pool read: zeros from a granule never written, else decrypted lines; poisoned where a line is poisoned or has an
uncorrectable error (R529, R539, R653). DEDUCED: log entry 119. -/
def State.poolRead (s : State) (k : Pkt) (l : Lease) (m pa : Nat) (ecc : EccResult) : State :=
  let ls := poolLines k pa
  let (row, bank) := rowOf (s.locate pa).2
  if !s.pool.granules.contains (s.granule pa) then ((s.tally (42 + m) 0x32).poolReply k m .sc (List.replicate k.req.len 0) false).served k
  else
    let s := s.lineReads l m ls.length
    let tags := ls.filterMap s.tag
    let bad := decide (ecc = .bad) || tags.any (·.ue)
    let poison := bad || tags.any (·.poison)
    let data := ((ls.map (s.lineData l)).flatten.drop (pa % 64)).take k.req.len
    let s := { s with draws := s.draws + 1 }
    let s := if decide (ecc = .corrected) || tags.any (·.corr) then s.corrected m row bank else s
    let s := if bad then
        let s := if decide (ecc = .bad) then ls.take 1 |>.foldl (fun s ln => match s.tag ln with
          | some t => s.setTag ln { t with ue := true }
          | none => s) s else s
        s.uncorrected m row bank l.imprint
      else s
    (s.poolReply k m .sc data poison).served k

/-- Requests of stack `m` whose partial-line writes are in progress. -/
def State.rmwBusy (s : State) (m : Nat) : Nat := (s.pool.rmw.filter (fun e => (s.locate (64 * e.2)).1 == m)).length

/-- A request at its memory cipher island. -/
def State.poolServe (s : State) (k : Pkt) (m : Nat) (ecc : EccResult) : State :=
  let pa := k.destB * 2 ^ 28 + k.addr
  match s.leaseOf k.destB with
  | none => s.discard k (fun s o => s.outFail o .ur)
  | some l =>
    let s := s.readKey (46 + m) l.key
    if l.gen != k.gen || s.keys.dead.contains l.key then s.discard k (fun s o => s.outFail o .ur)
    else if s.keys.redeliver.contains (46 + m, l.key) || s.poolWaits k m pa || !s.replyRoom k m then s
    else
      match k.req.kind with
      | .read => s.poolRead k l m pa ecc
      | .atomic => (s.poolReply k m .ur [] false).served k
      | _ =>
        let part := (poolLines k pa).filter (fun ln => !covers k pa ln)
        if s.pool.granules.contains (s.granule pa) && decide (512 < s.rmwBusy m + part.length) && !part.isEmpty then s
        else s.poolWrite k l m pa

/-- Whether memory island `42 + m` takes nothing any more: it is fenced, switched off, or lost and isolated (R58, R67). -/
def State.memShut (s : State) (m : Nat) : Bool := [0, 4].contains (s.islState (42 + m)) || s.isolated (42 + m)

/-- POOL_REQUEST: `ecc` is what the memory island's ECC finds in the lines of a read. At a memory island
that is shut the request is answered, or discarded and counted (R58, R67). -/
def execPoolRequest (i : Nat) (ecc : EccResult) (s : State) : Res :=
  run (fun s =>
    match s.pkt i with
    | some k =>
      let m := k.dest - 128
      if k.place = .cipher && decide (128 ≤ k.dest) && m < 4 && s.running (42 + m) && s.running (46 + m) && !s.halted &&
          !s.pool.rmw.any (fun e => e.1 == i) then s.poolServe k m ecc
      else if k.place = .cipher && decide (128 ≤ k.dest) && m < 4 && s.running (46 + m) && s.memShut m then s.refuseNew k
      else s
    | none => s) s

/-- GRANULE_FILL_DONE: all 64 lines have been written, and the bit is set (R530). -/
def execGranuleFillDone (m g : Nat) (s : State) : Res :=
  run (fun s =>
    if s.pool.filling.contains (m, g) then
      s.updPool (fun p => { p with filling := p.filling.filter (fun e => e != (m, g)), granules := addTo (m * 2 ^ 24 + g) p.granules })
    else s) s

/-- The read of a partial-line write returns: the line is merged and written, or its bytes are discarded, counted, and its row is
remapped (R536, R537, R541, R600). -/
def State.rmwLine (s : State) (k : Pkt) (l : Lease) (m ln : Nat) (ecc : EccResult) : State :=
  let pa := k.destB * 2 ^ 28 + k.addr
  let (row, bank) := rowOf (s.locate (64 * ln)).2
  let t := s.tag ln
  let s := s.lineReads l m 1
  let s := if decide (ecc = .corrected) || (t.map (·.corr)).getD false then s.corrected m row bank else s
  if decide (ecc = .bad) || (t.map (·.ue)).getD false then
    let s := match t with
      | some t => s.setTag ln { t with ue := true }
      | none => s
    ((((s.bump .MEM_STK_RMW_FAIL m).bump .MEM_STK_ECC_UE m).report 0x37 2 l.imprint none (some (46 + m))).remap m row bank).countDrop k
  else
    let d := overlay k pa ln (s.lineData l ln)
    let s := { s with draws := s.draws + 1 }
    (s.putLine l ln d (k.req.poison || (t.map (·.poison)).getD false)).bump .MEM_STK_RMW_DONE m

/-- POOL_RMW_READ_DONE: for the packet's first line that waits. -/
def execPoolRmwReadDone (i : Nat) (ecc : EccResult) (s : State) : Res :=
  run (fun s =>
    match s.pool.rmw.find? (fun e => e.1 == i), s.pkt i with
    | some e, some k =>
      let m := k.dest - 128
      match s.leaseOf k.destB with
      | none => (s.updPool (fun p => { p with rmw := p.rmw.filter (fun x => x.1 != i) })).discard k (fun s o => s.outFail o .ur)
      | some l =>
        if s.keys.dead.contains l.key then
          (s.updPool (fun p => { p with rmw := p.rmw.filter (fun x => x.1 != i) })).discard k (fun s o => s.outFail o .ur)
        else if s.running (42 + m) && s.running (46 + m) then
          let s := (s.updPool (fun p => { p with rmw := p.rmw.filter (fun x => x != e) })).rmwLine k l m e.2 ecc
          if s.pool.rmw.any (fun x => x.1 == i) then s
          else (match k.cls with
            | .nonposted => s.poolReply k m .sc [] false
            | _ => s).served k
        else s
    | _, _ => s) s

/-- POOL_READ_HOLD_RELEASE: every earlier write of the same host port to the read's lines has reached its island (R535). -/
def execPoolReadHoldRelease (i : Nat) (s : State) : Res :=
  run (fun s =>
    match s.pkt i with
    | some k =>
      let pa := k.destB * 2 ^ 28 + k.addr
      if k.hold && !s.readHeld k.req.src pa (pa + k.req.len - 1) k.req.ts then s.updPkt i (fun x => { x with hold := false }) else s
    | none => s) s

/-! ### Scrub and repair (R540, R541) -/

/-- Whether patrol scrub looks at a line: its sheet is LEASED or RELEASING and its granule's bit is set (R540). -/
def State.scrubs (s : State) (ln : Nat) : Bool :=
  let st := s.reg .MEM_SHEET_STATE (ln / 2 ^ 22)
  (st == 1 || st == 2) && s.pool.granules.contains (s.granule (64 * ln))

/-- Whether a line is the last one of its stack that scrub looks at. -/
def State.lastScrub (s : State) (m ln : Nat) : Bool :=
  let l := (s.locate (64 * ln)).2
  l % 4096 == 4032 && !s.pool.granules.any (fun g => g / 2 ^ 24 == m && decide (l / 4096 < g % 2 ^ 24) && (s.granLines g).any s.scrubs)

/-- SCRUB_STEP: one line of stack `m` is read; the error found in it, in a row of a bank (R538 to R541). PROGRESS is the
part of the stack's address space that lies behind (DESIGN CHOICE, log entry 46). -/
def execScrubStep (m ln row bank : Nat) (found : EccResult) (s : State) : Res :=
  run (fun s =>
    let l := s.locate (64 * ln)
    if m < 4 && s.running (42 + m) && l.1 == m && ln < 2 ^ 32 && s.scrubs ln then
      let t := s.tag ln
      let imp := ((s.leaseOf (ln / 2 ^ 22)).map (·.imprint)).getD 0
      let s := if decide (found = .corrected) || (t.map (·.corr)).getD false then
          (match t with
            | some t => s.setTag ln { t with corr := false }
            | none => s).corrected m row bank
        else s
      let s := if decide (found = .bad) || (t.map (·.ue)).getD false then
          (match t with
            | some t => s.setTag ln { t with ue := true }
            | none => s).uncorrected m row bank imp
        else s
      if s.lastScrub m ln then (s.setReg .MEM_STK_SCRUB_PROGRESS m 0).bump .MEM_STK_SCRUB_PASSES m
      else s.setReg .MEM_STK_SCRUB_PROGRESS m (l.2 * 100 / 2 ^ 36)
    else s) s

/-- ROW_COPY_DONE (R541): accesses to the row go on. -/
def execRowCopyDone (m row : Nat) (s : State) : Res :=
  run (fun s => s.updPool (fun p => { p with copying := p.copying.filter (fun e => e != (m, row)) })) s

end Sys2Proof.Machine
end

