-- ==== Sys2Proof/Machine/Folio.lean ====
section
/-! DEFINITION. The codecs of the lanes and of the Durriha link: pattern sequences, PAM4 symbols, CRC-64, the two Reed-Solomon
codewords, folio and packet headers, striping, scrambling, mark blocks (R212, R295 to R308, R336). -/

namespace Sys2Proof.Folio

/-! ### Pattern sequences and symbols (R212, R306) -/

/-- The exponents of a pattern's polynomial but x⁰, the degree first (R212). -/
def patTaps (pat : Nat) : List Nat :=
  match pat with
  | 1 => [7, 6]
  | 2 => [9, 5]
  | 3 => [11, 9]
  | 4 => [15, 14]
  | 5 => [23, 18]
  | 6 => [31, 28]
  | 7 => [13, 12, 2, 1]
  | 8 => [31, 28]
  | _ => []

/-- Degree of a pattern's polynomial. -/
def patDegree (pat : Nat) : Nat := (patTaps pat).headD 0

/-- The bit of a pattern that follows register `reg`, whose bit `e - 1` is the bit sent `e` bits ago. -/
def prbsBit (pat reg : Nat) : Nat := (patTaps pat).foldl (fun v e => v + reg / 2 ^ (e - 1)) 0 % 2

/-- The register after one more bit. -/
def shiftIn (pat reg b : Nat) : Nat := (2 * reg + b) % 2 ^ patDegree pat

/-- The next `n` bits of a pattern, and the register after them. -/
def prbsBits (pat : Nat) : Nat → Nat → List Nat × Nat
  | 0, reg => ([], reg)
  | n + 1, reg =>
    let r := prbsBits pat n (shiftIn pat reg (prbsBit pat reg))
    (prbsBit pat reg :: r.1, r.2)

/-- The next `n` bits of a pattern, the first at bit 0, and the register after them: a register that takes its newest bit at bit 0, and gives the
bit that it takes. DESIGN CHOICE (the register's convention is open): log entry 147. -/
def prbsTake (pat : Nat) : Nat → Nat → Nat × Nat
  | 0, reg => (0, reg)
  | n + 1, reg =>
    let b := prbsBit pat reg
    let r := prbsTake pat n (shiftIn pat reg b)
    (b + 2 * r.1, r.2)

/-- Gray code of two bits, which is its own inverse: the level of a PAM4 symbol for its bits, and back. -/
def gray (v : Nat) : Nat := v ^^^ (v / 2)

/-- The two bits of a PAM4 symbol, the less significant first (DEDUCED, log entry 146). -/
def pamBits (v : Nat) : List Nat := [gray v % 2, gray v / 2 % 2]

/-- A byte as four symbols, bits [1:0] first (R306). -/
def byteSyms (b : Byte) : List Nat := [gray (b.toNat % 4), gray (b.toNat / 4 % 4), gray (b.toNat / 16 % 4), gray (b.toNat / 64)]

/-- Symbols as bytes; symbols that fill no byte are left out. -/
def symBytes : List Nat → List Byte
  | a :: b :: c :: d :: t => BitVec.ofNat 8 (gray (a % 4) + 4 * gray (b % 4) + 16 * gray (c % 4) + 64 * gray (d % 4)) :: symBytes t
  | _ => []

/-! ### CRC-64 (R303) -/

/-- One bit of the reflected CRC. -/
def crcBit : Nat → Nat → Nat
  | 0, c => c
  | n + 1, c => crcBit n (if c % 2 == 1 then (c / 2) ^^^ 0xC96C5795D7870F42 else c / 2)

/-- The CRC register after a list of bytes. -/
def crcBytes (c : Nat) (l : List Byte) : Nat := l.foldl (fun c b => crcBit 8 (c ^^^ b.toNat)) c

/-- CRC-64 of a list of bytes. -/
def crc64 (l : List Byte) : Nat := crcBytes 0xFFFFFFFFFFFFFFFF l ^^^ 0xFFFFFFFFFFFFFFFF

/-! ### GF(2^8) with x⁸ + x⁴ + x³ + x² + 1 (R304) -/

/-- `a` times x. -/
def xtime (a : Nat) : Nat := if 128 ≤ a then (2 * a) ^^^ 0x11D else 2 * a

/-- Product of two field elements, over `n` bits of `b`. -/
def mulBits : Nat → Nat → Nat → Nat
  | 0, _, _ => 0
  | n + 1, a, b => (if b % 2 == 1 then a else 0) ^^^ mulBits n (xtime a) (b / 2)

/-- Product of two field elements. -/
def mul (a b : Nat) : Nat := mulBits 8 a b

/-- `a` to the power `n`. -/
def pow (a : Nat) : Nat → Nat
  | 0 => 1
  | n + 1 => mul a (pow a n)

/-- Inverse of a field element: its 254th power. -/
def inv (a : Nat) : Nat :=
  let a2 := mul a a
  let a4 := mul a2 a2
  let a8 := mul a4 a4
  let a16 := mul a8 a8
  let a32 := mul a16 a16
  let a64 := mul a32 a32
  let a128 := mul a64 a64
  mul a128 (mul a64 (mul a32 (mul a16 (mul a8 (mul a4 a2)))))

/-- Value at `x` of a polynomial whose coefficients stand highest degree first. -/
def evalHigh (l : List Nat) (x : Nat) : Nat := l.foldl (fun v c => mul v x ^^^ c) 0

/-- Value at `x` of a polynomial whose coefficients stand lowest degree first. -/
def evalLow (l : List Nat) (x : Nat) : Nat := evalHigh l.reverse x

/-- The eight syndromes of a codeword. -/
def syndromes (l : List Nat) : List Nat := (List.range 8).map (fun j => evalHigh l (pow 2 j))

/-- Coefficient `i`, 0 beyond the end. -/
def coef (l : List Nat) (i : Nat) : Nat := (l[i]?).getD 0

/-- Sum of two polynomials, lowest degree first. -/
def add : List Nat → List Nat → List Nat
  | [], b => b
  | a, [] => a
  | x :: a, y :: b => (x ^^^ y) :: add a b

/-- A polynomial times a constant. -/
def scale (k : Nat) (l : List Nat) : List Nat := l.map (mul k)

/-- Berlekamp and Massey: `n` syndromes still to read, index `i`, locator `c`, copy `b`, length `len`, gap `m`, last
discrepancy `d0`. -/
def locate (s : List Nat) : Nat → Nat → List Nat → List Nat → Nat → Nat → Nat → List Nat × Nat
  | 0, _, c, _, len, _, _ => (c, len)
  | n + 1, i, c, b, len, m, d0 =>
    let d := (List.range (len + 1)).foldl (fun v j => v ^^^ mul (coef c j) (coef s (i - j))) 0
    if d = 0 then locate s n (i + 1) c b len (m + 1) d0
    else
      let t := add c (List.replicate m 0 ++ scale (mul d (inv d0)) b)
      if 2 * len ≤ i then locate s n (i + 1) t c (i + 1 - len) 1 d
      else locate s n (i + 1) t b len (m + 1) d0

/-- The odd coefficients of a polynomial: its derivative in characteristic 2, over x². -/
def derivative (l : List Nat) : List Nat := (List.range l.length).map (fun i => if i % 2 == 0 then coef l (i + 1) else 0)

/-- Corrects up to four symbols of a codeword of 160 (R305): the codeword and how many were wrong; none where it cannot be
corrected. -/
def correct (l : List Nat) : Option (List Nat × Nat) :=
  let s := syndromes l
  if s.all (· == 0) then some (l, 0)
  else
    let (c, len) := locate s 8 0 [1] [1] 0 1 1
    if 4 < len then none
    else
      let omega := ((List.range 8).map (fun i => (List.range (i + 1)).foldl (fun v j => v ^^^ mul (coef c j) (coef s (i - j))) 0))
      let dc := derivative c
      let errs := (List.range 160).filterMap (fun k =>
        let x := pow 2 k
        let xi := inv x
        if evalLow c xi = 0 then some (159 - k, mul x (mul (evalLow omega xi) (inv (evalLow dc xi)))) else none)
      if errs.length != len then none
      else
        let fixed := errs.foldl (fun l e => l.set e.1 (coef l e.1 ^^^ e.2)) l
        if (syndromes fixed).all (· == 0) then some (fixed, len) else none

/-- Codeword `c` of a folio: bytes 0 to 303 of its parity, then its eight parity bytes (R304). -/
def codeword (f : List Byte) (c : Nat) : List Nat :=
  ((List.range 152).map (fun i => ((f[2 * i + c]?).getD 0).toNat)) ++ ((List.range 8).map (fun i => ((f[304 + 2 * i + c]?).getD 0).toNat))

/-- The received folio after correction, and the symbols corrected; none for a bad folio (R305). -/
def receive (f : List Byte) : Option (List Byte × Nat) :=
  if f.length != 320 then none
  else
    match correct (codeword f 0), correct (codeword f 1) with
    | some (a, n), some (b, m) =>
      let body := ((List.range 304).map (fun i => BitVec.ofNat 8 (coef (if i % 2 == 0 then a else b) (i / 2))))
      if crc64 (body.take 296) = leNat (body.drop 296) then some (body, n + m) else none
    | _, _ => none

/-- The generator polynomial of the code, highest degree first, without its leading 1 (R304). -/
def gen : List Nat :=
  ((List.range 8).foldl (fun g j => add (g ++ [0]) (0 :: scale (pow 2 j) g)) [1]).drop 1

/-- The eight parity symbols of a codeword's 152 (R304). -/
def parity (l : List Nat) : List Nat :=
  l.foldl (fun r c => add (r.drop 1 ++ [0]) (scale (c ^^^ coef r 0) gen)) (List.replicate 8 0)

/-- The folio of a header word and a data area, with its CRC and its parity (R295, R303, R304). -/
def assemble (head : Nat) (area : List Byte) : List Byte :=
  let body := leBytes 8 head ++ area
  let body := body ++ leBytes 8 (crc64 body)
  let par := fun c => parity ((codeword body c).take 152)
  body ++ (List.range 16).map (fun i => BitVec.ofNat 8 (coef (par (i % 2)) (i / 2)))

/-! ### Striping and scrambling (R306, R307) -/

/-- Bytes under the keystream of PRBS31 from a register on (R307). DEDUCED: log entry 147. -/
def scramble : Nat → List Byte → List Byte
  | _, [] => []
  | reg, b :: bs => BitVec.ofNat 8 (b.toNat ^^^ (prbsTake 6 8 reg).1) :: scramble (prbsTake 6 8 reg).2 bs

/-- The scrambler's register of port lane `n` at the start of a folio. -/
def laneSeed (n : Nat) : Nat := 0x01000000 + 17 * n

/-- What a folio puts on each lane of a mask, lowest lane first, as symbols (R306, R307). -/
def toWire (mask : Nat) (f : List Byte) : List (List Nat) :=
  let ns := setBits 16 mask
  (List.range ns.length).map (fun i =>
    let mine := (List.range (160 / ns.length)).flatMap (fun t => (f.drop (2 * (i + ns.length * t))).take 2)
    (scramble (laneSeed ((ns[i]?).getD 0)) mine).flatMap byteSyms)

/-- The folio that the symbols on the lanes of a mask bring. -/
def fromWire (mask : Nat) (rx : List (List Nat)) : List Byte :=
  let ns := setBits 16 mask
  let lanes := (List.range ns.length).map (fun i => scramble (laneSeed ((ns[i]?).getD 0)) (symBytes ((rx[i]?).getD [])))
  (List.range 160).flatMap (fun u => (((lanes[u % ns.length]?).getD []).drop (2 * (u / ns.length))).take 2)

/-! ### Mark blocks (R308) -/

/-- A mark block: SWITCH 1, ALIGN 2, EQ 3, and its bytes 9 to 11. -/
def mark (typ b9 b10 b11 : Nat) : List Byte :=
  let l : List Byte := [BitVec.ofNat 8 typ, BitVec.ofNat 8 b9, BitVec.ofNat 8 b10, BitVec.ofNat 8 b11]
  [0xA6, 0x59, 0xA6, 0x59, 0xA6, 0x59, 0xA6, 0x59] ++ l ++ l.map (fun b => ~~~b)

/-- A SWITCH or ALIGN mark of a width code and a mask. -/
def widthMark (typ width mask : Nat) : List Byte := mark typ width (mask % 256) (mask / 256)

/-- Width code and mask of a received mark block of a type, if its inverse bytes match. -/
def readMark (typ : Nat) (b : List Byte) : Option (Nat × Nat) :=
  let w := leNat ((b.drop 9).take 1)
  let m := leNat ((b.drop 10).take 2)
  if b = widthMark typ w m then some (w, m) else none

/-- Request byte and status of a received EQ mark block, if its inverse bytes match (R308). -/
def readEq (b : List Byte) : Option (Nat × Nat) :=
  let r := leNat ((b.drop 9).take 1)
  let st := leNat ((b.drop 10).take 1)
  if b = mark 3 r st (leNat ((b.drop 11).take 1)) then some (r, st) else none

/-- What the blocks of the lanes of `mask` bring as marks of a type; block `i` is the one that lane `i` of the port received, empty where
it received none (R309, R338, R340). -/
def marksOn (mask typ : Nat) (blocks : List (List Byte)) : List (Option (Nat × Nat)) :=
  (((List.range 16).zip blocks).filter (fun e => bit mask e.1)).map (fun e => readMark typ e.2)

/-- The mark that more than half of `n` lanes have brought (R309, R340). -/
def majority (n : Nat) (l : List (Option (Nat × Nat))) : Option (Nat × Nat) :=
  (l.filterMap id).find? (fun m => decide (n < 2 * (l.filter (fun x => decide (x = some m))).length))

/-! ### Header and slots (R296, R299, R336) -/

/-- A folio header. -/
structure Header where
  ftype : Nat
  seq : Nat
  ack : Nat
  nak : Bool
  fhp : Nat
  crVc : Nat
  crHdr : Nat
  crData : Nat
  crValid : Bool
  deriving DecidableEq, Repr

/-- The header of a folio's first eight bytes. -/
def header (f : List Byte) : Header :=
  let w := leNat (f.take 8)
  {
    ftype := bits w 1 0, seq := bits w 13 2, ack := bits w 25 14, nak := bit w 26, fhp := bits w 30 27, crVc := bits w 34 31,
    crHdr := bits w 46 35, crData := bits w 58 47, crValid := bit w 59 }

/-- The word of a folio header. -/
def Header.word (h : Header) : Nat :=
  h.ftype + 2 ^ 2 * h.seq + 2 ^ 14 * h.ack + 2 ^ 26 * flag h.nak + 2 ^ 27 * h.fhp + 2 ^ 31 * h.crVc + 2 ^ 35 * h.crHdr +
  2 ^ 47 * h.crData + 2 ^ 59 * flag h.crValid

/-- Slot `n` of a folio. -/
def slot (f : List Byte) (n : Nat) : List Byte := (f.drop (8 + 32 * n)).take 32

/-- Byte `n` of a slot. -/
def at_ (s : List Byte) (n : Nat) : Nat := ((s[n]?).getD 0).toNat

/-- A packet header slot. -/
structure PHdr where
  ptype : Nat
  cls : Nat
  dstSw : Nat
  srcSw : Nat
  srcPort : Nat
  len : Nat
  hops : Nat
  rsv : Nat := 0
  addr : Nat
  tlp : Nat
  deriving DecidableEq, Repr

/-- The fields of a packet header slot. -/
def pktHeader (s : List Byte) : PHdr :=
  {
    ptype := at_ s 0, cls := at_ s 1, dstSw := at_ s 2, srcSw := at_ s 3, srcPort := at_ s 4, len := at_ s 5, hops := at_ s 6, rsv := at_ s 7,
    addr := leNat ((s.drop 8).take 8), tlp := leNat ((s.drop 16).take 16) }

/-- A packet header slot, written out. -/
def PHdr.bytes (p : PHdr) : List Byte :=
  [BitVec.ofNat 8 p.ptype, BitVec.ofNat 8 p.cls, BitVec.ofNat 8 p.dstSw, BitVec.ofNat 8 p.srcSw, BitVec.ofNat 8 p.srcPort,
    BitVec.ofNat 8 p.len, BitVec.ofNat 8 p.hops, BitVec.ofNat 8 p.rsv] ++ leBytes 8 p.addr ++ leBytes 16 p.tlp

/-- `n` slots of bytes, zero-padded (R300). -/
def pad (n : Nat) (l : List Byte) : List (List Byte) :=
  (List.range n).map (fun i => (((l.drop (32 * i)).take 32) ++ List.replicate 32 0).take 32)

/-- The data areas of the folios that slots fill, the rest NOP headers, which are zero (R298, R301), each with the FHP value of a
packet whose header is the first slot (R296). -/
def areas (slots : List (List Byte)) : List (Nat × List Byte) :=
  (List.range (ceilDiv slots.length 9)).map (fun i =>
    let left := slots.length - 9 * i
    (if i == 0 then 0 else if 9 ≤ left then 15 else left,
      ((slots.drop (9 * i)).take 9 ++ List.replicate (9 - left) (List.replicate 32 0)).flatten))

/-- The data area of a TRAIN folio (R311). -/
def trainArea (switch port dir lanes seen ping echo hdrCredits dataCredits : Nat) : List Byte :=
  leBytes 1 1 ++ leBytes 1 switch ++ leBytes 1 port ++ leBytes 1 dir ++ leBytes 2 lanes ++ leBytes 1 seen ++ leBytes 1 ping ++ leBytes 1 echo ++
  List.replicate 7 0 ++ (List.range 16).flatMap (fun _ => leBytes 2 hdrCredits ++ leBytes 2 dataCredits) ++ List.replicate 208 0

/-- Whether a packet header is one that R299 and R301 allow: no reserved encoding, reserved bits zero (R302). DEDUCED: log entry 169. -/
def PHdr.ok (p : PHdr) : Bool :=
  decide (p.ptype ≤ 4) && bits p.cls 7 6 == 0 && p.rsv == 0 && decide (p.srcPort ≤ 127) && decide (p.len ≤ 129) && (!(p.ptype == 0 || p.ptype == 4) || p.len == 0)

/-- Virtual channel of a packet (R325). -/
def PHdr.vc (p : PHdr) : Nat := 2 * bits p.cls 2 0 + bits p.cls 3 3

/-- Whether a packet takes credits (R327). -/
def PHdr.charged (p : PHdr) : Bool := p.ptype == 1 || p.ptype == 2 || p.ptype == 3

end Sys2Proof.Folio
end

