-- ==== Sys2Proof/Machine/Durriha.lean ====
section
/-! DEFINITION. The Durriha fabric link: training, folios, replay, credits, width changes, forwarding
(07_durriha_link.md). -/

namespace Sys2Proof.Machine

/-! ### Widths and lanes -/

/-- Width code of a number of lanes (R335). -/
def widthCode (n : Nat) : Nat := if n == 2 then 1 else if n == 4 then 2 else if n == 8 then 3 else if n == 16 then 4 else 0

/-- Largest width of 2, 4, 8 or 16 that `n` lanes fill (R313, R335). -/
def widthFit (n : Nat) : Nat := if 16 ≤ n then 16 else if 8 ≤ n then 8 else if 4 ≤ n then 4 else if 2 ≤ n then 2 else 0

/-- The mask of the `n` lowest lanes of a mask. -/
def lowLanes (mask n : Nat) : Nat := ((setBits 16 mask).take n).foldl (fun v i => v + 2 ^ i) 0

/-- Physical lane of port lane `i`. -/
def State.portLane (s : State) (p i : Nat) : Option Nat := (s.lanes p)[i]?

/-- A direction of a port takes the lanes of a mask: those in it are ACTIVE, usable others sleep (R197, R337). -/
def State.maskLanes (s : State) (p mask : Nat) (tx : Bool) : State :=
  ((List.range 16).filterMap (fun i => (s.portLane p i).map (fun l => (i, l)))).foldl (fun s e =>
    if bit mask e.1 then s.wakeDir e.2 (if tx then .tx else .rx)
    else if bit (s.dlink p).usable e.1 then s.sleepDir e.2 (if tx then .tx else .rx)
    else s) s

/-- Effective replay window in ns (R323). -/
def State.effWindow (s : State) (p : Nat) : Nat :=
  max (10 * s.reg .TILE_DL_CTL_REPLAY_WINDOW (p / 4)) (s.reg .TILE_DL_RTT_RTT (p / 4) + 100)

/-- TILE_DL_RTT.EFF_WINDOW follows its parts. -/
def State.setWindow (s : State) (p : Nat) : State := s.setReg .TILE_DL_RTT_EFF_WINDOW (p / 4) (s.effWindow p)

/-- Whether a port is a fabric port whose link is ACTIVE. -/
def State.fabActive (s : State) (p : Nat) : Bool := s.role p == 3 && s.dlState p == 5

/-! ### Sending folios and marks (R295 to R301, R306 to R308, R319, R329) -/

/-- Credits that this side advertises on every channel (R326). -/
def ownHdr : Nat := 512
/-- See `ownHdr`. -/
def ownData : Nat := 2047

/-- A packet leaves the port's receive buffer: its credits are freed (R329, R420), unless its link has gone down since. -/
def State.freeCredits (s : State) (p v n : Nat) : State :=
  if !s.fabActive p || nth (s.dlink p).usedHdr v == 0 then s
  else s.updDlink p (fun d => { d with
                             usedHdr := setNth d.usedHdr v (nth d.usedHdr v - 1), usedData := setNth d.usedData v (nth d.usedData v - n),
                             freedHdr := setNth d.freedHdr v ((nth d.freedHdr v + 1) % 4096),
                             freedData := setNth d.freedData v ((nth d.freedData v + n) % 4096) })

/-- Packets that are held against the reserve no more free their credits (R420, R436). -/
def State.settleOwed (s : State) (p : Nat) : State :=
  let gone := (s.dlink p).owed.filter (fun e =>
    !s.tr.pkts.any (fun k => decide (e.1 ≤ k.id) && decide (k.id < e.2.1) && k.req.inPort == p && decide (k.place = .blocked)))
  let s := gone.foldl (fun s e => s.freeCredits p e.2.2.1 e.2.2.2) s
  s.updDlink p (fun d => { d with owed := d.owed.filter (fun e => !gone.contains e) })

/-- A SWITCH 1 or ALIGN 2 mark of a mask goes out on lanes of a port (R308). -/
def State.putMark (s : State) (p lanes typ mask : Nat) : State :=
  s.emit (.mark p lanes (Folio.widthMark typ (widthCode (popCount 16 mask)) mask))

/-- An ALIGN mark goes out on every lane of the active mask; 16,384 folios follow until the next (R309). -/
def State.putAlign (s : State) (p : Nat) : State :=
  let m := s.reg .TILE_DL_MASK_TX_MASK (p / 4)
  (s.updDlink p (fun d => { d with sent := 0 })).putMark p m 2 m

/-- A folio goes out at the mask in force: its header carries the acknowledgement of R319 and, from ACTIVE on, the counts of one
channel, each in its turn (R329); after the 16,384th an ALIGN mark follows (R309). DESIGN CHOICE: log entry 149. -/
def State.putFolio (s : State) (p ftype seq fhp : Nat) (area : List Byte) : State :=
  let s := s.settleOwed p
  let d := s.dlink p
  let up := s.dlState p == 5
  let v := d.crTurn % 16
  let h : Folio.Header := {
    ftype, seq, ack := if d.episode then d.nextRx else (d.nextRx + 4095) % 4096, nak := d.episode, fhp, crVc := if up then v else 0,
    crHdr := if up then nth d.freedHdr v else 0, crData := if up then nth d.freedData v else 0, crValid := up }
  let mask := s.reg .TILE_DL_MASK_TX_MASK (p / 4)
  let s := (s.updDlink p (fun d => { d with crTurn := (v + 1) % 16, sent := d.sent + 1 })).emit
    (.folio p mask (Folio.toWire mask (Folio.assemble h.word area)))
  if 16384 ≤ d.sent + 1 then s.putAlign p else s

/-- An IDLE folio goes out (R297); its FHP, for which the manual gives no value, is 0. DESIGN CHOICE: log entry 149. -/
def State.putIdle (s : State) (p : Nat) : State := s.putFolio p 0 0 0 (List.replicate 288 0)

/-- A DATA folio goes out, for the first time or again (R321). -/
def State.putCopy (s : State) (p : Nat) (c : FolioCopy) : State := s.putFolio p 1 c.seq c.fhp c.area

/-- The slots of a packet (R298 to R300). -/
def pktSlots (f : FabPkt) : List (List Byte) :=
  let h : Folio.PHdr := {
    ptype := f.ptype, cls := f.tc % 8 + 8 * (f.vc % 2) + 16 * flag f.poison + 32 * flag f.hdrExt, dstSw := f.dstSw, srcSw := f.srcSw,
    srcPort := f.srcPort, len := f.len, hops := f.hops, addr := f.addr, tlp := f.tlp }
  h.bytes :: Folio.pad f.len ((if f.hdrExt then (f.ext ++ List.replicate 32 0).take 32 else []) ++ f.data)

/-- A packet is sent in DATA folios of its own, which take the next sequence numbers and are kept for replay, on an x16 port by turns in its
two tiles (R316); the replay window starts
with the first folio that enters an empty buffer (R297, R315, R321, R323). DESIGN CHOICE: log entries 43 and 150. -/
def State.putPacket (s : State) (p : Nat) (f : FabPkt) : State :=
  (Folio.areas (pktSlots f)).foldl (fun s a =>
    let d := s.dlink p
    let c : FolioCopy := { seq := d.nextTx, tile := nth (s.portTiles p) (d.nextTx % (s.portTiles p).length), fhp := a.1, area := a.2, pkts := if a.1 == 0 then [f] else [] }
    let s := s.updDlink p (fun d => { d with
      nextTx := (d.nextTx + 1) % 4096, lastAdv := if d.replay.isEmpty then s.now else d.lastAdv, replay := d.replay ++ [c] })
    s.putCopy p c) s

/-- A link command goes to the partner in a DATA folio; while 1,024 folios are unacknowledged, or a replay is due, it waits (R315, R321,
R336). DESIGN CHOICE: log entry 148. -/
def State.putCmd (s : State) (p addr : Nat) : State :=
  if (s.dlink p).replay.length < 1024 && !(s.dlink p).due then
    s.putPacket p { ptype := 4, tc := 7, dstSw := s.reg .TILE_DL_STATUS_PARTNER_SW (p / 4), srcSw := ownSw s.com.active, srcPort := p, addr }
  else s.updDlink p (fun d => { d with cmdQ := d.cmdQ ++ [addr] })

/-- Link commands that waited go out. -/
def State.putWaiting (s : State) (p : Nat) : State :=
  (s.dlink p).cmdQ.foldl (fun s a => s.putCmd p a) (s.updDlink p (fun d => { d with cmdQ := [] }))

/-- Own DIR in the encoding of R311: UP 1, DOWN 2. -/
def State.ownDir (s : State) (p : Nat) : Nat := if dirDown s.com.active p then 2 else 1

/-- A TRAIN folio goes out with the next PING, whose instant is kept until it comes back (R311, R314); PEER_SEEN says that one of the
partner's has come. -/
def State.putTrain (s : State) (p : Nat) : State :=
  let s := s.updDlink p (fun d => { d with ping := (d.ping + 1) % 256, pings := Sparse.set id d.pings ((d.ping + 1) % 256) s.now })
  let d := s.dlink p
  s.putFolio p 2 0 0 (Folio.trainArea (ownSw s.com.active) p (s.ownDir p) d.lanes (flag d.heard.isSome) d.ping d.echo ownHdr ownData)

/-- An EQ mark goes out on port lane `i`: a request byte and the status bits (R308). -/
def State.putEq (s : State) (p i ask status : Nat) : State := s.emit (.mark p (2 ^ i) (Folio.mark 3 ask status i))

/-! ### Training (R310 to R314) -/

/-- A coefficient after HOLD 0, INC 1 or DEC 2 (R308); 99, which breaks every limit, for a reserved code and below 0. -/
def eqStep (v op : Nat) : Nat :=
  match op with
  | 0 => v
  | 1 => v + 1
  | 2 => if v = 0 then 99 else v - 1
  | _ => 99

/-- The request of an EQ mark's byte 9 to a transmitter with C−1 and C+1, if it makes one; C0 is what they leave of 48 (R308, R310). -/
def eqRequestOf (pre post b : Nat) : Option EqRequest :=
  if b / 16 != 15 then some (.preset (b / 16))
  else if b % 16 = 0 then none
  else
    let x := eqStep pre (b % 4)
    let y := eqStep post (b / 4 % 4)
    some (.coefs x (48 - x - y) y)

/-- Port lane `i` takes part in one exchange of EQ marks: the partner's request is applied or rejected, and the lane's next mark says which,
with its own receiver's request (R189, R191, R308, R310). -/
def State.eqLane (s : State) (p : Nat) (r : EqRound) (i : Nat) : State :=
  let ask := (r.asks[i]?).getD 0xF0
  match s.portLane p i, s.slotRec p, Folio.readEq ((r.blocks[i]?).getD []) with
  | some l, some sl, some (b, _) =>
    match eqRequestOf (s.reg .TILE_LANE_EQ_C_PRE l) (s.reg .TILE_LANE_EQ_C_POST l) b with
    | some q => (s.requestEq l 7 sl q).putEq p i ask (if eqAccepts 7 sl q then 1 else 2)
    | none => s.putEq p i ask 0
  | _, _, _ => s.putEq p i ask 0

/-- One exchange of EQ marks on the lanes of a mask, after which each lane sends 4,096 bytes of PRBS13Q (R310). -/
def State.eqRound (s : State) (p lanes : Nat) (r : EqRound) : State :=
  ((setBits 16 lanes).foldl (fun s i => s.eqLane p r i) s).emit (.ctl p "PRBS13Q" 4096 lanes)

/-- The port lanes on which the partner's mark of an exchange has RX_READY (R308, R310). -/
def eqReady (r : EqRound) : Nat :=
  (List.range 16).foldl (fun m i =>
    match Folio.readEq ((r.blocks[i]?).getD []) with
    | some (_, st) => if bit st 2 then m + 2 ^ i else m
    | none => m) 0

/-- DETECT_EXIT: signal on at least two lanes for 1 ms; equalisation starts from INIT_PRESET_Q (R191). -/
def execDetectExit (p signal : Nat) (s : State) : Res :=
  run (fun s =>
    let w := (s.lanes p).length
    let m := signal % 2 ^ w
    if s.role p == 3 && s.dlState p == 1 && s.mayTrain p && 2 ≤ popCount w m then
      let s := (s.setReg .TILE_DL_STATUS_STATE (p / 4) 2).updDlink p (fun d => { d with usable := m })
      let slot := s.slotRec p
      let s := (setBits w m).foldl (fun s i =>
        match s.portLane p i, slot with
        | some l, some r => (s.setReg .TILE_LANE_STATUS_SIG_DET l 1).startEq l 7 r
        | _, _ => s) s
      (setBits w m).foldl (fun s i => s.putEq p i 0xF0 0) s
    else s) s

/-- EQ_EXIT: the exchanges of EQ marks end, in the last of which the partner is ready on lanes that are ready here (`usable`). Each direction
takes the largest width that they fill, and the port's other lanes go OFF (R188, R310, R313). -/
def execEqExit (p usable : Nat) (found : EqFound) (s : State) : Res :=
  run (fun s =>
    let w := (s.lanes p).length
    let here := usable % 2 ^ w &&& (s.dlink p).usable
    let m := here &&& (found.rounds.getLast?.map eqReady).getD 0
    if s.role p == 3 && s.dlState p == 2 then
      let n := widthFit (popCount w m)
      let t := p / 4
      let s := found.rounds.foldl (fun s r => s.eqRound p (s.dlink p).usable r) s
      if n = 0 then s.setReg .TILE_DL_STATUS_STATE t 1
      else
        let a := lowLanes m n
        let s := (setBits w here).foldl (fun s i => s.putEq p i 0xF0 4) s
        let s := s.updDlink p (fun d => { d with lanes := here, usable := a, failed := 0, run := 0, heard := none, pings := [], rtt := none })
        let s := s.setRegs [(.TILE_DL_STATUS_STATE, t, 3), (.TILE_DL_STATUS_TX_WIDTH, t, widthCode n), (.TILE_DL_STATUS_RX_WIDTH, t, widthCode n),
          (.TILE_DL_MASK_TX_MASK, t, a), (.TILE_DL_MASK_RX_MASK, t, a)]
        let slot := (s.slotRec p).getD { maxRate := 7 }
        let s := (List.range w).foldl (fun s i =>
          match s.portLane p i with
          | some l => if bit a i then s.tuneLane l i 7 found.tune slot else s.laneOff l
          | none => s) s
        (s.putAlign p).putIdle p
    else s) s

/-- ALIGN_EXIT: 64 good IDLE folios have come in a row; TRAIN folios follow (R310). -/
def execAlignExit (p : Nat) (s : State) : Res :=
  run (fun s =>
    if s.role p == 3 && s.dlState p == 3 && 64 ≤ (s.dlink p).run then
      ((s.setReg .TILE_DL_STATUS_STATE (p / 4) 4).updDlink p (fun d => { d with run := 0 })).putTrain p
    else s) s

/-- Whether advertised credits are ones that can be advertised: those in the range of R326, by which R328 counts. DEDUCED: log entry 170. -/
def creditsOk (t : TrainInfo) : Bool :=
  t.hdrCredits.length == 16 && t.dataCredits.length == 16 && t.hdrCredits.all (fun c => decide (1 ≤ c) && decide (c ≤ 2047)) &&
  t.dataCredits.all (fun c => decide (130 ≤ c) && decide (c ≤ 2047))

/-- CONFIG fails: the port returns to DETECT after 1 ms, and until then reads DOWN (R312, R355). DESIGN CHOICE: log entry 142. -/
def State.configFail (s : State) (p src : Nat) : State :=
  let d := s.dlink p
  (((s.report src 1 p).dlDown (p / 4)).setDlink p { port := p, left := d.left, retryAt := some (s.now + 1000000) }).lanesOff p

/-- The link becomes ACTIVE: sequence numbers and credits start (R310, R314, R315, R326, R328). Its round-trip time is the least that CONFIG
has measured. -/
def State.fabUp (s : State) (p : Nat) (t : TrainInfo) : State :=
  let z := List.replicate 16 0
  let d := s.dlink p
  let s := s.setDlink p {
    port := p, usable := d.usable, left := d.left, sent := d.sent, lastAdv := s.now, goodAt := s.now, consHdr := z, consData := z,
    limHdr := t.hdrCredits, limData := t.dataCredits, advHdr := t.hdrCredits, advData := t.dataCredits, freedHdr := z, freedData := z,
    usedHdr := z, usedData := z }
  let n := popCount 16 (s.reg .TILE_DL_MASK_TX_MASK (p / 4))
  let s := s.setRegs [(.TILE_DL_STATUS_STATE, p / 4, 5), (.TILE_DL_STATUS_PARTNER_SW, p / 4, t.switchId),
    (.TILE_DL_RTT_RTT, p / 4, min 65535 (d.rtt.getD 0)), (.TILE_PORT_STATUS_LINK_UP, p, 1), (.TILE_PORT_STATUS_RATE, p, 7),
    (.TILE_PORT_STATUS_WIDTH, p, n)]
  (s.setWindow p).guardChange p 7 n

/-- CONFIG_EXIT: eight good TRAIN folios in a row had PEER_SEEN, the latest of which says `t`, and the checks of R312; where both fail, the
switch logs the first. DESIGN CHOICE: log entry 170. -/
def execConfigExit (p : Nat) (t : TrainInfo) (s : State) : Res :=
  run (fun s =>
    if s.role p == 3 && s.dlState p == 4 && 8 ≤ (s.dlink p).run && (s.dlink p).heard == some t then
      if t.dir == s.ownDir p then s.configFail p 0x28
      else if !creditsOk t then s.configFail p 0x24
      else s.fabUp p t
    else s) s

/-- RETRAIN_TIMER: 1 ms after link down the port retrains from DETECT unless it is disabled or fenced, or in lane test (R204, R342). -/
def execRetrainTimer (p : Nat) (s : State) : Res :=
  run (fun s =>
    match (s.dlink p).retryAt with
    | some t =>
      if s.role p == 3 && s.dlState p == 0 && (s.portTiles p).all (fun t => !s.closed t) && !(s.lanes p).any s.inTest then
        ((s.atNow t).updDlink p (fun d => { d with retryAt := none })).setReg .TILE_DL_STATUS_STATE (p / 4) 1
      else s
    | none => s) s

/-- FABRIC_LINK_DOWN (R343). -/
def execFabricLinkDown (p : Nat) (s : State) : Res := run (fun s => if s.role p == 3 then s.fabDown p none else s) s

/-- TRANSIT_RECORD_EXPIRY: 50 ms after it was made a transit record is retired (R344). -/
def execTransitRecordExpiry (p i : Nat) (s : State) : Res :=
  run (fun s =>
    match s.tr.transits.find? (fun t => t.id == i && t.port == p) with
    | some t => { s.atNow t.due with tr := { s.tr with transits := s.tr.transits.filter (fun t => t.id != i) } }
    | none => s) s

/-! ### Replay (R318 to R324) -/

/-- A NAK episode opens (R318). -/
def State.openEpisode (s : State) (p : Nat) : State :=
  if (s.dlink p).episode then s else (s.updDlink p (fun d => { d with episode := true })).bump .TILE_DL_NAK_SENT (p / 4)

/-- OLDEST advances by `n` folios (R320): their copies are released, and what waits for their room goes out once the folio is dealt with. A
replay that brought it on has recovered the link. -/
def State.advance (s : State) (p n : Nat) : State :=
  if n = 0 then s
  else
    let d := s.dlink p
    let s := if d.replays = 0 then s else s.report 0x41 1 p
    s.updDlink p (fun d => { d with oldest := (d.oldest + n) % 4096, replay := d.replay.drop n, replays := 0, lastAdv := s.now })

/-- A replay starts from OLDEST; the eighth in a row takes the link down (R321, R324, R356). -/
def State.replayFrom (s : State) (p : Nat) (byNak : Bool) : State :=
  let d := s.dlink p
  let s := (s.tally (p / 4) 0x04).bump (if byNak then .TILE_DL_REPLAY_BY_NAK else .TILE_DL_REPLAY_BY_TIMER) (p / 4)
  if 7 ≤ d.replays then s.fabDown p (some 0x25)
  else
    let s := s.updDlink p (fun d => { d with replays := d.replays + 1, lastAdv := s.now, lastNak := some (d.oldest, s.now), due := false })
    d.replay.foldl (fun s c => s.putCopy p c) s

/-- A received folio is dealt with: a replay that it asked for starts, then link commands that waited go out (R321, R339). -/
def State.afterFolio (s : State) (p : Nat) : State :=
  let s := if (s.dlink p).due then s.replayFrom p true else s
  if s.fabActive p then s.putWaiting p else s

/-- REPLAY_WINDOW_EXPIRY (R323). -/
def execReplayWindowExpiry (p : Nat) (s : State) : Res :=
  run (fun s =>
    if s.fabActive p && !(s.dlink p).replay.isEmpty then (s.atNow ((s.dlink p).lastAdv + s.effWindow p)).replayFrom p false
    else s) s

/-- ACK value `a` (R320): the state after it, or none for a protocol error. A value up to 2,047 past the last one sent counts as not yet
sent, another as one before OLDEST (DESIGN CHOICE, log entry 151). -/
def State.ackFolio (s : State) (p a : Nat) : Option State :=
  let d := s.dlink p
  let n := (a + 4096 - (d.oldest + 4095) % 4096) % 4096
  let out := (d.nextTx + 4096 - d.oldest) % 4096
  if n ≤ out then some (s.advance p n) else if n < 2048 then none else some s

/-- NAK naming `a` (R320, R322), with the boundary of `ackFolio` (DESIGN CHOICE, log entry 151); a replay that it asks for starts once the
folio is dealt with, behind the mark of a width change that it brings (R339). -/
def State.nakFolio (s : State) (p a : Nat) : Option State :=
  let d := s.dlink p
  let n := (a + 4096 - d.oldest) % 4096
  let out := (d.nextTx + 4096 - d.oldest) % 4096
  if n < out then
    let s := s.advance p n
    let recent := match d.lastNak with
      | some (b, t) => b == a && decide (s.now < t + s.effWindow p)
      | none => false
    if recent then some s else some ((s.bump .TILE_DL_NAK_RECEIVED (p / 4)).updDlink p (fun d => { d with due := true }))
  else if n < 2048 then none
  else some s

/-! ### Credits (R327 to R331) -/

/-- A valid credit return for channel `v` (R328, R331). -/
def State.takeCredits (s : State) (p v h dt : Nat) : Option State :=
  let d := s.dlink p
  let lh := (nth d.advHdr v + h) % 4096
  let ld := (nth d.advData v + dt) % 4096
  if (lh + 4096 - nth d.consHdr v) % 4096 ≤ nth d.advHdr v && (ld + 4096 - nth d.consData v) % 4096 ≤ nth d.advData v then
    some (s.updDlink p (fun d => { d with limHdr := setNth d.limHdr v lh, limData := setNth d.limData v ld }))
  else none

/-- A received packet takes credits of channel `v`; none where it has too few (R331). -/
def State.useCredits (s : State) (p v n : Nat) : Option State :=
  let d := s.dlink p
  if nth d.usedHdr v + 1 ≤ ownHdr && nth d.usedData v + n ≤ ownData then
    some (s.updDlink p (fun d => { d with
                                     usedHdr := setNth d.usedHdr v (nth d.usedHdr v + 1), usedData := setNth d.usedData v (nth d.usedData v + n) }))
  else none

/-- CREDIT_RETURN_SEND: IDLE folios carry the counts of the channels in their turn, up to and with channel `v` (R297, R329). -/
def execCreditReturnSend (p v : Nat) (s : State) : Res :=
  run (fun s =>
    if s.fabActive p && v < 16 then
      (List.range ((v + 16 - (s.dlink p).crTurn % 16) % 16 + 1)).foldl (fun s _ => s.putIdle p) s
    else s) s

/-! ### Width changes (R333 to R341, R725) -/

/-- A link command goes to the partner, with the ADDRESS bytes of R336. -/
def State.linkCmd (s : State) (p cmd dirn width reason mask : Nat) : State :=
  s.putCmd p (cmd + 2 ^ 8 * dirn + 2 ^ 16 * width + 2 ^ 24 * reason + 2 ^ 32 * mask)

/-- A SWITCH mark on the transmit side: the port sends at the new mask from now on (R337, R338). -/
def State.txSwitch (s : State) (p mask : Nat) : State :=
  let n := popCount 16 mask
  let s := s.putMark p (s.reg .TILE_DL_MASK_TX_MASK (p / 4) ||| mask) 1 mask
  let s := s.setRegs [(.TILE_DL_MASK_TX_MASK, p / 4, mask), (.TILE_DL_STATUS_TX_WIDTH, p / 4, widthCode n), (.TILE_DL_STATUS_TX_PEND, p / 4, 0),
    (.TILE_PORT_STATUS_WIDTH, p, n)]
  let s := s.updDlink p (fun d => { d with chTx := none })
  ((s.maskLanes p mask true).guardChange p 7 n).finish (.width p) 0

/-- A change of the transmit direction starts: a narrowing one switches at once, since no packet is in the middle; a
widening one wakes its lanes and waits for WIDTH_READY (R337 to R339). DEDUCED: log entry 23. -/
def State.txChange (s : State) (p mask : Nat) (byCommand : Bool) : State :=
  let old := s.reg .TILE_DL_MASK_TX_MASK (p / 4)
  if mask &&& old = mask then s.txSwitch p mask
  else
    let s := s.updDlink p (fun d => { d with chTx := some { mask, widening := true, since := s.now, byCommand } })
    let s := s.maskLanes p (old ||| mask) true
    (s.setReg .TILE_DL_STATUS_TX_PEND (p / 4) 1).putMark p (mask &&& (65535 ^^^ old)) 2 mask

/-- Lanes of a port that can receive: those that it trained on but those that have failed since (R341). -/
def Dlink.live (d : Dlink) : Nat := d.usable &&& (65535 ^^^ d.failed)

/-- Whether a mask holds as many lanes as a width code says, all of `lanes`. -/
def maskFits (lanes width mask : Nat) : Bool :=
  widthCode (popCount 16 mask) == width && width != 0 && mask &&& lanes == mask

/-- A WIDTH_REQ from the partner (R334, R338, R341): lanes that a widening adds to the receive direction wake. -/
def State.widthReq (s : State) (p : Nat) (partnerTx : Bool) (width mask : Nat) : State :=
  let d := s.dlink p
  let m := mask % 65536
  if partnerTx then
    if d.chTx.isSome then s.linkCmd p 3 1 width 1 m
    else if !maskFits d.usable width m then s.linkCmd p 3 1 width 2 m
    else s.txChange p m false
  else
    if d.chRx.isSome then s.linkCmd p 3 0 width 1 m
    else if !maskFits d.live width m then s.linkCmd p 3 0 width 2 m
    else
      let old := s.reg .TILE_DL_MASK_RX_MASK (p / 4)
      let wide := m &&& old != m
      let s := (s.updDlink p (fun d => { d with chRx := some { mask := m, widening := wide, since := s.now } })).setReg .TILE_DL_STATUS_RX_PEND (p / 4) 1
      if wide then s.maskLanes p (old ||| m) false else s

/-- WIDTH_REQ. -/
def execWidthReq (p : Nat) (partnerTx : Bool) (width mask : Nat) (s : State) : Res :=
  run (fun s => if s.fabActive p then s.widthReq p partnerTx width mask else s) s

/-- A WIDTH_READY from the partner (R338). -/
def State.widthReady (s : State) (p mask : Nat) : State :=
  match (s.dlink p).chTx with
  | some c => if c.mask == mask % 65536 then s.txSwitch p c.mask else s
  | none => s

/-- WIDTH_READY. -/
def execWidthReady (p mask : Nat) (s : State) : Res := run (fun s => if s.fabActive p then s.widthReady p mask else s) s

/-- A WIDTH_REFUSE from the partner: the change it names is abandoned, and lanes that woke for it sleep again (R197, R338, R341,
R725). -/
def State.widthRefuse (s : State) (p : Nat) (partnerTx : Bool) (reason : Nat) : State :=
  let d := s.dlink p
  let mine := (if partnerTx then d.chTx else d.chRx)
  match mine with
  | none => s
  | some c =>
    let s := if partnerTx then
        ((s.updDlink p (fun d => { d with chTx := none })).setReg .TILE_DL_STATUS_TX_PEND (p / 4) 0).maskLanes p (s.reg .TILE_DL_MASK_TX_MASK (p / 4)) true
      else
        ((s.updDlink p (fun d => { d with chRx := none })).setReg .TILE_DL_STATUS_RX_PEND (p / 4) 0).maskLanes p (s.reg .TILE_DL_MASK_RX_MASK (p / 4)) false
    if c.byCommand then s.finish (.width p) 0x30 [reason % 256] else s

/-- WIDTH_REFUSE. -/
def execWidthRefuse (p : Nat) (partnerTx : Bool) (reason : Nat) (s : State) : Res :=
  run (fun s => if s.fabActive p then s.widthRefuse p partnerTx reason else s) s

/-- The mark of a type that a majority of the current lanes brings, its inverse bytes matching (R309, R340). -/
def State.heardMark (s : State) (p typ : Nat) (blocks : List (List Byte)) : Option (Nat × Nat) :=
  let m := s.reg .TILE_DL_MASK_RX_MASK (p / 4)
  Folio.majority (popCount 16 m) (Folio.marksOn m typ blocks)

/-- A change of the receive direction that the switch asks for after lane loss: the largest width of the lowest remaining lanes of its mask, or,
where they are fewer than two, the two lowest that can receive (R25, R335). -/
def State.dropReq (s : State) (p : Nat) : State :=
  let d := s.dlink p
  let old := s.reg .TILE_DL_MASK_RX_MASK (p / 4)
  let rest := old &&& d.live
  let m := if widthFit (popCount 16 rest) = 0 then lowLanes d.live 2 else lowLanes rest (widthFit (popCount 16 rest))
  let wide := m &&& old != m
  let s := (s.updDlink p (fun d => { d with chRx := some { mask := m, widening := wide, since := s.now } })).setReg .TILE_DL_STATUS_RX_PEND (p / 4) 1
  (if wide then s.maskLanes p (old ||| m) false else s).linkCmd p 1 0 (widthCode (popCount 16 m)) 0 m

/-- The receive direction goes on at a new mask (R340). A lane of it that has failed meanwhile is asked to be dropped in turn (R334, R341). -/
def State.rxSwitch (s : State) (p width m : Nat) : State :=
    if widthCode (popCount 16 m) == width && width != 0 && m < 2 ^ (s.lanes p).length then
      let old := s.reg .TILE_DL_MASK_RX_MASK (p / 4)
      let by_ := match (s.dlink p).chRx with
        | some c => c.byCommand && c.mask == m
        | none => false
      let s := s.setRegs [(.TILE_DL_MASK_RX_MASK, p / 4, m), (.TILE_DL_STATUS_RX_WIDTH, p / 4, width), (.TILE_DL_STATUS_RX_PEND, p / 4, 0)]
      let s := (s.updDlink p (fun d => { d with chRx := none, failed := d.failed &&& (65535 ^^^ (m &&& (65535 ^^^ old))) })).maskLanes p m false
      let s := if by_ then s.finish (.width p) 0 else s
      if (s.dlink p).failed &&& m != 0 && s.on .TILE_DL_CTL_AUTO_DROP (p / 4) && 2 ≤ popCount 16 (s.dlink p).live then s.dropReq p else s
    else s

/-- SWITCH_MARK: blocks received on the current lanes bring a SWITCH mark of the partner (R340). -/
def execSwitchMark (p : Nat) (low high : List (List Byte)) (s : State) : Res :=
  run (fun s =>
    match s.heardMark p 1 (low ++ high) with
    | some (w, m) => if s.fabActive p then s.rxSwitch p w m else s
    | none => s) s

/-- WIDTH_CHANGE_TIMEOUT: 100 µs without WIDTH_READY; the change is abandoned and refused with TIMEOUT (R338). -/
def execWidthChangeTimeout (p : Nat) (s : State) : Res :=
  run (fun s =>
    match (s.dlink p).chTx with
    | some c =>
      if s.fabActive p then
        let s := s.atNow (c.since + 100000)
        let s := (s.updDlink p (fun d => { d with chTx := none })).setReg .TILE_DL_STATUS_TX_PEND (p / 4) 0
        let s := s.linkCmd p 3 1 (widthCode (popCount 16 c.mask)) 3 c.mask
        let s := s.maskLanes p (s.reg .TILE_DL_MASK_TX_MASK (p / 4)) true
        if c.byCommand then s.finish (.width p) 0x30 [3] else s
      else s
    | none => s) s

/-- AUTO_DROP: an active lane of the receive direction loses CDR_LOCK or SIG_DET (R25, R334, R335, R342). -/
def execAutoDrop (p lane : Nat) (s : State) : Res :=
  run (fun s =>
    let old := s.reg .TILE_DL_MASK_RX_MASK (p / 4)
    if s.fabActive p && bit old lane && lane < 16 then
      let s := match s.portLane p lane with
        | some l => s.setRegs [(.TILE_LANE_STATUS_CDR_LOCK, l, 0)]
        | none => s
      let s := s.updDlink p (fun d => { d with failed := putBit d.failed lane true })
      if popCount 16 (s.dlink p).live < 2 then s.fabDown p (some 0x29)
      else if s.on .TILE_DL_CTL_AUTO_DROP (p / 4) then
        let s := s.report 0x29 1 p (some 1)
        if (s.dlink p).chRx.isSome then s else s.dropReq p
      else s
    else s) s

/-! ### Received folios (R297 to R309, R317 to R320) -/

/-- A received link command (R336); none for a reserved encoding, a reserved byte among them (R302). DEDUCED: log entry 169. -/
def State.gotLinkCmd (s : State) (p addr : Nat) : Option State :=
  let cmd := bits addr 7 0
  let dirn := bits addr 15 8
  let width := bits addr 23 16
  let reason := bits addr 31 24
  let mask := bits addr 47 32
  if 1 < dirn || width == 0 || 4 < width || (if cmd == 3 then reason == 0 || decide (3 < reason) else reason != 0) || addr / 2 ^ 48 != 0 then none
  else
    match cmd with
    | 1 => some (s.widthReq p (dirn == 0) width mask)
    | 2 => some (s.widthReady p mask)
    | 3 => some (s.widthRefuse p (dirn == 0) reason)
    | _ => none

/-- The fabric packet that a header slot begins, with its data. -/
def fabPktOf (h : Folio.PHdr) (data : List Byte) : FabPkt :=
  {
    ptype := h.ptype, tc := bits h.cls 2 0, vc := bits h.cls 3 3, poison := bit h.cls 4, hdrExt := bit h.cls 5, dstSw := h.dstSw % 64,
    srcSw := h.srcSw % 64, srcPort := h.srcPort % 128, len := h.len, hops := h.hops % 64, addr := h.addr, tlp := h.tlp, data }

/-- The slots of an accepted DATA folio, in order; none for a protocol error (R298 to R302, R331). -/
def State.takeSlots (p : Nat) : List (List Byte) → State → Option State
  | [], s => some s
  | sl :: rest, s =>
    match (s.dlink p).partly with
    | some (fp, data, r) =>
      let data := data ++ sl
      let whole := if fp.hdrExt then { fp with ext := data.take 32, data := data.drop 32 } else { fp with data }
      if r ≤ 1 then State.takeSlots p rest (s.updDlink p (fun d => { d with partly := none, inbox := d.inbox ++ [whole] }))
      else State.takeSlots p rest (s.updDlink p (fun d => { d with partly := some (fp, data, r - 1) }))
    | none =>
      let h := Folio.pktHeader sl
      if !h.ok then none
      else if h.ptype == 0 then State.takeSlots p rest s
      else if h.ptype == 4 then
        match s.gotLinkCmd p h.addr with
        | some s => State.takeSlots p rest s
        | none => none
      else
        match s.useCredits p h.vc h.len with
        | none => none
        | some s =>
          let fp := fabPktOf h []
          if h.len == 0 then State.takeSlots p rest (s.updDlink p (fun d => { d with inbox := d.inbox ++ [fp] }))
          else State.takeSlots p rest (s.updDlink p (fun d => { d with partly := some (fp, [], h.len) }))

/-- The FHP value that the packet lengths so far require (R296, R302). -/
def fhpOf (d : Dlink) : Nat :=
  match d.partly with
  | some (_, _, r) => if 9 ≤ r then 15 else r
  | none => 0

/-- A bad folio (R305, R309, R318). -/
def State.badFolio (s : State) (p : Nat) : State :=
  let s := ((s.tally (p / 4) 0x03).bump .TILE_DL_BAD_COUNT (p / 4)).openEpisode p
  s.updDlink p (fun d =>
    let n := d.badRun + 1
    { d with badRun := n, lostAt := if 8 ≤ n && d.lostAt.isNone then some s.now else d.lostAt })

/-- A good DATA folio (R317, R318). -/
def State.dataFolio (s : State) (p : Nat) (h : Folio.Header) (f : List Byte) : Option State :=
  let d := s.dlink p
  let dist := (h.seq + 4096 - d.nextRx) % 4096
  if dist = 0 then
    if h.fhp != fhpOf d then none
    else
      let s := s.updDlink p (fun d => { d with nextRx := (d.nextRx + 1) % 4096, episode := false })
      State.takeSlots p ((List.range 9).map (Folio.slot f)) s
  else if dist ≤ 1023 then some (s.openEpisode p)
  else if dist ≤ 3071 then none
  else some s

/-- A good folio with its ACK, NAK and credits (R297, R319, R320, R328). -/
def State.goodFolio (s : State) (p : Nat) (f : List Byte) : Option State :=
  let h := Folio.header f
  if h.ftype == 3 then none
  else if h.ftype == 2 then some s
  else
    match (if h.nak then s.nakFolio p h.ack else s.ackFolio p h.ack) with
    | none => none
    | some s =>
      match (if h.crValid then s.takeCredits p h.crVc h.crHdr h.crData else some s) with
      | none => none
      | some s => if h.ftype == 1 then s.dataFolio p h f else some s

/-- A folio of an ACTIVE link; while its alignment is lost none is found (R309). A bad one and a DATA folio are answered with an IDLE folio
(R319). DESIGN CHOICE: log entry 149. -/
def State.activeFolio (s : State) (p : Nat) (f : Option (List Byte × Nat)) : State :=
  if (s.dlink p).lostAt.isSome then s
  else match f with
  | none => (s.badFolio p).putIdle p
  | some (f, n) =>
    let s := (s.bump .TILE_DL_FEC_CORR_COUNT (p / 4) n).updDlink p (fun d => { d with badRun := 0, goodAt := s.now })
    match s.goodFolio p f with
    | some t =>
      let t := t.afterFolio p
      if (Folio.header f).ftype == 1 && t.fabActive p then t.putIdle p else t
    | none => s.fabDown p (some 0x24)

/-- What a TRAIN folio says of its sender (R311). -/
def trainInfo (f : List Byte) : TrainInfo :=
  let credit := fun (o v : Nat) => leNat ((f.drop (24 + 4 * v + o)).take 2)
  {
    switchId := Folio.at_ f 9 % 64, port := Folio.at_ f 10, dir := Folio.at_ f 11, lanes := leNat ((f.drop 12).take 2),
    hdrCredits := (List.range 16).map (credit 0), dataCredits := (List.range 16).map (credit 2) }

/-- A TRAIN folio in CONFIG: it counts toward the exit with PEER_SEEN, its ECHO measures the round trip of a PING that comes back for the
first time, and one of this side's answers it (R310, R311, R314). -/
def State.configFolio (s : State) (p : Nat) (f : List Byte) : State :=
  let d := s.dlink p
  let echo := Folio.at_ f 16
  let rtt := match Sparse.get? d.pings echo with
    | some t => some (min (s.now - t) (d.rtt.getD (s.now - t)))
    | none => d.rtt
  (s.updDlink p (fun d => { d with
    run := if bit (Folio.at_ f 14) 0 then d.run + 1 else 0, heard := some (trainInfo f), echo := Folio.at_ f 15,
    pings := Sparse.erase d.pings echo, rtt })).putTrain p

/-- A folio of a link in ALIGN or CONFIG: the exits count good IDLE and TRAIN folios in a row (R310). DEDUCED: log entry 170. -/
def State.trainFolio (s : State) (p : Nat) (f : Option (List Byte × Nat)) : State :=
  match f with
  | none => ((s.tally (p / 4) 0x03).bump .TILE_DL_BAD_COUNT (p / 4)).updDlink p (fun d => { d with run := 0 })
  | some (f, n) =>
    let s := s.bump .TILE_DL_FEC_CORR_COUNT (p / 4) n
    let typ := (Folio.header f).ftype
    if s.dlState p == 4 && typ == 2 then s.configFolio p f
    else s.updDlink p (fun d => { d with run := if s.dlState p == 3 && typ == 0 then d.run + 1 else 0 })

/-- FOLIO_RECEIVED: the symbols on the lanes of the receive mask bring a folio (R305 to R307, R310, R317, R342). DESIGN CHOICE: log
entry 19. -/
def execFolioReceived (p : Nat) (rx : List (List Nat)) (s : State) : Res :=
  run (fun s =>
    let f := Folio.receive (Folio.fromWire (s.reg .TILE_DL_MASK_RX_MASK (p / 4)) rx)
    if s.fabActive p then s.activeFolio p f
    else if s.role p == 3 && (s.dlState p == 3 || s.dlState p == 4) then s.trainFolio p f
    else s) s

/-- ALIGN_MARK_SEND: the IDLE folios that fill 16,384 have gone out, and an ALIGN mark goes out on every lane of the active mask (R309). The
folios that have only their turn of credits to say are not listed: DESIGN CHOICE, log entry 149. -/
def execAlignMarkSend (p : Nat) (s : State) : Res :=
  run (fun s =>
    if s.fabActive p then
      (s.updDlink p (fun d => { d with crTurn := (d.crTurn + (16384 - d.sent)) % 16 })).putAlign p
    else s) s

/-- ALIGN marks that carry a mask with lanes that the receive direction adds: the change is pending, the lanes wake, and once each of them is
locked and brings the mark, WIDTH_READY goes out for it, once (R338). DEDUCED: log entry 23. -/
def State.addedAligned (s : State) (p : Nat) (blocks : List (List Byte)) : State :=
  let old := s.reg .TILE_DL_MASK_RX_MASK (p / 4)
  match (Folio.marksOn (65535 ^^^ old) 2 blocks).findSome? id with
  | some (w, m) =>
    let added := m &&& (65535 ^^^ old)
    if added != 0 && maskFits ((s.dlink p).usable ||| added) w m && added &&& (s.dlink p).usable == added then
      let s := if (s.dlink p).chRx.isSome then s
        else
          let c : WidthChange := { mask := m, widening := true, since := s.now }
          ((s.updDlink p (fun d => { d with chRx := some c })).setReg .TILE_DL_STATUS_RX_PEND (p / 4) 1).maskLanes p (old ||| m) false
      let got := Folio.marksOn added 2 blocks
      let all := got.length == popCount 16 added && got.all (fun x => x == some (w, m)) &&
        (setBits 16 added).all (fun i => (s.portLane p i).any (fun l => s.on .TILE_LANE_STATUS_CDR_LOCK l))
      match (s.dlink p).chRx with
      | some c => if c.mask == m && !c.ready && all then (s.updDlink p (fun d => { d with chRx := some { c with ready := true } })).linkCmd p 2 0 w 0 m else s
      | none => s
    else s
  | none => s

/-- REALIGN: an ALIGN mark decoded on a majority of the active lanes ends a loss of alignment (R309), one on added lanes makes them
ready (R338). -/
def execRealign (rx : PortBlocks) (s : State) : Res :=
  run (fun s =>
    if s.fabActive rx.port then
      (if (s.heardMark rx.port 2 rx.blocks).isSome then s.updDlink rx.port (fun d => { d with lostAt := none, badRun := 0 }) else s).addedAligned rx.port rx.blocks
    else s) s

/-- DL_ALIGN_LOST: alignment not regained within 100 µs (R342). -/
def execDlAlignLost (p : Nat) (s : State) : Res :=
  run (fun s =>
    match (s.dlink p).lostAt with
    | some t => if s.fabActive p then (s.atNow (t + 100000)).fabDown p (some 0x26) else s
    | none => s) s

/-- DL_SILENT: no good folio for 10 µs (R342). -/
def execDlSilent (p : Nat) (s : State) : Res :=
  run (fun s => if s.fabActive p then (s.atNow ((s.dlink p).goodAt + 10000)).fabDown p (some 0x27) else s) s

/-! ### Fabric packets (R344, R347 to R351) -/

/-- The 32-bit words of header content that the slot of HDR_EXT brings, without the zeros that pad it (R300). -/
def extWords (f : FabPkt) : List Nat :=
  if f.hdrExt then
    let l := (List.range 8).map (fun i => leNat ((f.ext.drop (4 * i)).take 4))
    l.take (max 1 (8 - (l.reverse.takeWhile (· == 0)).length))
  else []

/-- Request of a fabric packet, as the ingress tile records it: the bytes that pad its last slot are none of its data (R300). -/
def fabReq (p : Nat) (f : FabPkt) (ts : Nat) : Req :=
  let kind := if f.ptype == 1 then ReqKind.write else f.kind
  {
    src := .fabric f.srcSw f.srcPort, inPort := p, kind, addr := f.addr, len := f.reqLen,
    data := if kind = .read then [] else f.data.take f.reqLen, tc := f.tc, tag := f.tag, poison := f.poison, pre := extWords f,
    hdr := tlpBase f.addr + 4 * (extWords f).length, ts }

/-- A completion from another switch for a request of this one (R345, R353). One with Unsupported Request that is not the destination
switch's own was made on the way for a lost link, and a host's request is answered as that (R275). -/
def State.fabCpl (s : State) (p : Nat) (f : FabPkt) (ts : Nat) : State :=
  match s.fabMatch f.rid f.tag with
  | none => s.unexpected p
  | some o =>
    let data := if wantsData o.kind then f.data.take (o.len - gotLen o) else []
    let s := s.countCpl (32 + quadOf p) o.imprint o.tc data.length ts
    let o := { o with pre := extWords f }
    match f.status with
    | .sc => if wantsData o.kind then s.deliver o p (gotLen o) data f.poison ts else s.deliverDone o p ts
    | st => if f.srcSw != o.addr / 2 ^ 58 % 64 then s.outLost o else s.deliverFail o p st (gotLen o) ts

/-- A packet that cannot go on: a non-posted one is answered (R345, R351). -/
def State.fabRefuse (s : State) (p : Nat) (f : FabPkt) : State :=
  if f.ptype == 2 then
    s.fabricAnswer p { id := 0, port := p, rid := fabRid f.srcSw f.srcPort, tag := f.tag, srcSw := f.srcSw, srcPort := f.srcPort, due := 0, tc := f.tc }
  else s

/-- A transit packet goes on by the route table (R348, R350, R351). -/
def State.fabForward (s : State) (p : Nat) (f : FabPkt) (ts : Nat) : State :=
  let s := s.count { imprint := none, kind := if f.ptype == 3 then .cpl else .req, bytes := f.data.length, tc := f.tc, ts, src := 32 + quadOf p }
  let h := f.hops - 1
  let dropped := fun (s : State) => (s.fabRefuse p f).count { imprint := none, kind := .dropped, tc := f.tc, ts := s.dev, src := 32 + quadOf p }
  if h = 0 then dropped (s.report 0x55 0 p)
  else
    match s.routePort f.dstSw f.vc f.srcSw f.srcPort f.tc with
    | none => dropped (s.report 0x56 0 f.dstSw none (some (32 + quadOf p)))
    | some e =>
      let s := s.keepBucket f.dstSw f.vc f.srcSw f.srcPort f.tc
      let cls : PClass := if f.ptype == 1 then .posted else if f.ptype == 2 then .nonposted else .completion
      s.enqueue {
        id := 0, req := fabReq p f ts, cls, status := f.status, kind := 4, destA := f.dstSw, dest := e, fab := some { f with hops := h },
        quad := some (quadOf p), cells := ceilDiv (1 + f.len) 4, q := .ingress p (laneOf cls) e f.tc, epoch := s.epochAt ts }

/-- A fabric packet for a quad behind closed crossing ends: a non-posted one is answered, another is discarded and counted (R58, R67,
R345, R600). -/
def State.fabShut (s : State) (p : Nat) (f : FabPkt) : State :=
  if f.ptype == 2 then s.fabRefuse p f else s.cplLost p f.tc

/-- A received packet meets its quad: classified here, matched to its request, or sent on (R348). DEDUCED: log entry 132. -/
def State.fabPass (s : State) (p : Nat) (f : FabPkt) (ts : Nat) (live : Bool) : State :=
  let own := f.dstSw == ownSw s.com.active
  let q := quadOf p
  if !own && s.halted then s
  else if own && f.ptype != 3 then s.meetQuad q (.fab p f ts live) (s.closed (32 + q)) (fun s => s.arrive (fabReq p f ts)) (fun s => s.arrive (fabReq p f ts))
  else s.meetQuad q (.fab p f ts live) (if own then s.cplShut q else s.closed (32 + q)) (fun s => s.fabShut p f)
    (fun s => if own then s.fabCpl p f ts else s.fabForward p f ts)

/-- Channel of a packet (R325). -/
def chanOf (f : FabPkt) : Nat := 2 * (f.tc % 8) + f.vc % 2

/-- The oldest packet of its channel in a receive buffer is the one that `f` says it is, but for what its TLP header bytes say beyond the
header slot, which comes with `f` (R332). DESIGN CHOICE: log entry 148. -/
def inboxHead (l : List FabPkt) (f : FabPkt) : Option FabPkt :=
  (l.find? (fun g => chanOf g == chanOf f)).filter (fun g =>
    g = { f with kind := g.kind, reqLen := g.reqLen, tag := g.tag, rid := g.rid, status := g.status })

/-- Packet `f` leaves the receive buffer of port `p`, those of a former link first (R332): whether it is one of this link, and the state. -/
def State.takeInbox (s : State) (p : Nat) (f : FabPkt) : Option (Bool × State) :=
  match inboxHead (s.dlink p).left f, inboxHead (s.dlink p).inbox f with
  | some g, _ => some (false, s.updDlink p (fun d => { d with left := d.left.erase g }))
  | none, some g => if (s.dlink p).left.any (fun g => chanOf g == chanOf f) then none else some (true, s.updDlink p (fun d => { d with inbox := d.inbox.erase g }))
  | none, none => none

/-- A packet meets its quad, and its credits are freed once it waits no more for the quad and what has become of it is placed (R329, R420,
R436). Those of a non-posted request never wait for its progress (R332). DEDUCED: log entry 171. -/
def State.fabTake (s : State) (p : Nat) (f : FabPkt) (ts : Nat) (live : Bool) : State :=
  let t := s.fabPass p f ts live
  if t.isl.waking.length ≤ s.isl.waking.length && live then
    if f.ptype == 2 then t.freeCredits p (chanOf f) f.len
    else (t.updDlink p (fun d => { d with owed := d.owed ++ [(s.tr.nextId, t.tr.nextId, chanOf f, f.len)] })).settleOwed p
  else t

/-- FABRIC_PACKET: a received packet is classified here or goes on (R348). -/
def execFabricPacket (p : Nat) (f : FabPkt) (ts : Nat) (s : State) : Res :=
  run (fun s =>
    match s.takeInbox p f with
    | none => s
    | some (live, s) =>
      let s := (s.atDev ts).tally (p / 4) 0x01
      let s := if f.poison && (f.dstSw != ownSw s.com.active || f.ptype == 3) then s.report 0x52 0 p else s
      let s := if f.ptype == 3 then
          { s with tr := { s.tr with transits := s.tr.transits.filter (fun t => !(t.rid == f.rid && t.tag == f.tag)) } } else s
      s.fabTake p f ts live) s

/-! ### Buckets (R412) -/

/-- Bucket of a packet on its way over the fabric: group, map, bucket. -/
def State.pktBucket (s : State) (k : Pkt) : Option Nat :=
  match k.fab with
  | some f => (routeGroup s.com.active f.dstSw).map (fun g => bucketKey g f.vc (bucketOf f.srcPort f.tc f.srcSw f.dstSw))
  | none => none

/-- BUCKET_REBIND: no packet of the bucket is queued and none has left for REBIND_IDLE: it takes the member of its map. -/
def execBucketRebind (g c b : Nat) (s : State) : Res :=
  run (fun s =>
    let k := bucketKey g c b
    let idle := match Sparse.get? s.tr.lastBucket k with
      | some t => decide (t + 1000 * groupIdle s.com.active g ≤ s.now)
      | none => true
    if c < 2 && b < 64 && idle && !s.tr.pkts.any (fun p => s.pktBucket p == some k) then
      { s with tr := { s.tr with buckets := s.tr.buckets.filter (fun e => e.1 != k) } }
    else s) s

end Sys2Proof.Machine
end

