-- ==== Sys2Proof/Machine/Sched.lean ====
section
/-! DEFINITION. Egress scheduling, shaping, time gates, queue sampling (10_scheduling_and_gates.md), and the cipher
pipeline of sealed windows (R397 to R406). -/

namespace Sys2Proof.Machine

/-! ### Shapers (R460 to R474) -/

/-- Rate field of a shaper, with its instance. -/
def shRate : ShaperId → Fld × Nat
  | .sub i => (.SHP_SUB_RATE_RATE, i)
  | .svc j => (.SHP_SVC_RATE_RATE, j)
  | .port p => (.SHP_PORT_RATE_RATE, p)

/-- Burst field of a shaper. -/
def shBurst : ShaperId → Fld × Nat
  | .sub i => (.SHP_SUB_CFG_BURST, i)
  | .svc j => (.SHP_SVC_CFG_BURST, j)
  | .port p => (.SHP_PORT_CFG_BURST, p)

/-- Enable field of a shaper. -/
def shEnable : ShaperId → Fld × Nat
  | .sub i => (.SHP_SUB_CFG_ENABLE, i)
  | .svc j => (.SHP_SVC_CFG_ENABLE, j)
  | .port p => (.SHP_PORT_CFG_ENABLE, p)

/-- Numbering of shapers. -/
def shCode : ShaperId → Nat
  | .sub i => i
  | .svc j => 16384 + j
  | .port p => 18432 + p

/-- Whether a shaper exists. -/
def shOk : ShaperId → Bool
  | .sub i => decide (i < 16384)
  | .svc j => decide (j < 2048)
  | .port p => decide (p < 128)

/-- A shaper's bucket in 1/1,024 byte; a bucket that is not listed is full. -/
def State.bucket (s : State) (sh : ShaperId) : Int :=
  match Sparse.get? s.tr.tokens sh with
  | some v => v
  | none => Int.ofNat (1024 * s.reg (shBurst sh).1 (shBurst sh).2)

/-- `s` with a shaper's bucket set. -/
def State.setBucket (s : State) (sh : ShaperId) (v : Int) : State :=
  { s with tr := { s.tr with tokens := Sparse.set shCode s.tr.tokens sh v } }

/-- Whether a shaper takes part (R464). -/
def State.shaperOn (s : State) (sh : ShaperId) : Bool := s.reg (shEnable sh).1 (shEnable sh).2 == 1

/-- The shaper path of a packet at port `p` (R462, R463). -/
def State.shaperPath (s : State) (p : Nat) (k : Pkt) : List ShaperId :=
  match k.sub with
  | some i =>
    let j := s.reg .SHP_SUB_LINK_PARENT i
    if s.reg .SHP_SUB_LINK_ATTACHED i == 1 && s.reg .SHP_SVC_LINK_ATTACHED j == 1 && s.reg .SHP_SVC_LINK_PARENT j == p then
      [.sub i, .svc j, .port p]
    else [.port p]
  | none => [.port p]

/-- Charged length of a packet at its egress port (R466): its header in the format of that port, with the address width that the outgoing
address needs, its prefixes and its payload. PRESUMED: log entry 30. -/
def State.chargedOut (s : State) (p : Nat) (k : Pkt) : Nat :=
  if s.role p == 3 then 32 * (1 + k.slots)
  else
    match k.cls with
    | .completion => 12 + 4 * k.req.pre.length + k.payload
    | _ => k.req.hdr - tlpBase k.req.addr + tlpBase k.addr + k.payload

/-- The instant of a shaper's latest refill step; a shaper that is not listed has been full until now. -/
def State.lastStep (s : State) (sh : ShaperId) : Nat := (Sparse.get? s.tr.stepAt sh).getD s.now

/-- A refill step of a shaper at instant `t`. -/
def State.stepped (s : State) (sh : ShaperId) (t : Nat) : State :=
  { s with tr := { s.tr with stepAt := Sparse.set shCode s.tr.stepAt sh t } }

/-- A shaper is charged (R471, R473, R474). A full bucket gains nothing, so its steps may be counted from now. -/
def State.charge (s : State) (sh : ShaperId) (n : Nat) : State :=
  let full := s.bucket sh == Int.ofNat (1024 * s.reg (shBurst sh).1 (shBurst sh).2)
  if s.shaperOn sh then (s.stepped sh (if full then s.now else s.lastStep sh)).setBucket sh (max (-16777216 * 1024) (s.bucket sh - Int.ofNat (1024 * n))) else s

/-- SHAPER_REFILL: the shaper's next step, `dt` ns after its latest (R472): a rate of one Mb/s adds 16/125 of 1/1,024 byte in a ns.
DESIGN CHOICE: log entry 179. -/
def execShaperRefill (sh : ShaperId) (dt : Nat) (s : State) : Res :=
  run (fun s =>
    if shOk sh && 1 ≤ dt && dt ≤ 40 then
      let g := (Sparse.get? s.tr.frac sh).getD 0 + s.reg (shRate sh).1 (shRate sh).2 * dt * 16
      let cap := Int.ofNat (1024 * s.reg (shBurst sh).1 (shBurst sh).2)
      let v := min cap (s.bucket sh + Int.ofNat (g / 125))
      let s := s.setBucket sh v
      let s := { s with tr := { s.tr with frac := Sparse.set shCode s.tr.frac sh (g % 125) } }
      (s.stepped sh (s.lastStep sh + dt)).atNow (s.lastStep sh + dt)
    else s) s

/-! ### Time gates (R485 to R497) -/

/-- Entry `e` of port `p`'s gate list: its gates and its interval. -/
def State.gateEntry (s : State) (p e : Nat) : Nat × Nat :=
  (s.reg .GATE_ENTRY_GATES (256 * p + e), s.reg .GATE_ENTRY_INTERVAL (256 * p + e))

/-- The entry in force at phase `ph` of a cycle of length `cyc`, and where it ends: looks at `fuel` entries from `e` on,
which begins at `at_` (R487). -/
def State.entryAt (s : State) (p n cyc ph : Nat) : Nat → Nat → Nat → Nat × Nat
  | 0, e, _ => (e, cyc)
  | f + 1, e, at_ =>
    let stop := at_ + (s.gateEntry p e).2
    if n ≤ e + 1 then (e, cyc)
    else if ph < stop || cyc ≤ stop then (e, min stop cyc)
    else s.entryAt p n cyc ph f (e + 1) stop

/-- The list of port `p` at instant `t` of the time base: gate states, entry in force, and the next instant at which
something changes (R486, R487, R495). Before P5 a forme's list is in lead-in without an end (R494). -/
def State.gateNow (s : State) (p t : Nat) : Nat × Nat × Option Nat :=
  let n := s.reg .GATE_CTL_ENTRY_COUNT p
  if n = 0 then (0x7F, 0, none)
  else
    match Sparse.get? s.tr.gateFrom p with
    | none => (s.reg .GATE_CTL_LEADIN p, 0, none)
    | some _ =>
      let st := s.reg .GATE_START_START p
      if t < st then (s.reg .GATE_CTL_LEADIN p, 0, some st)
      else
        let cyc := s.reg .GATE_CYCLE_CYCLE p
        let ph := (t - st) % cyc
        let (e, stop) := s.entryAt p n cyc ph n 0 0
        ((s.gateEntry p e).1, e, some (t - ph + stop))

/-- Whether gate `c` is open at `t` and stays open through `lim`, looking at `fuel` changes (R469, R492). -/
def State.openThrough (s : State) (p c lim : Nat) : Nat → Nat → Bool
  | 0, _ => false
  | f + 1, t =>
    let (g, _, nx) := s.gateNow p t
    bit g c &&
    (match nx with
      | none => true
      | some u => if lim < u then true else s.openThrough p c lim f u)

/-- The guard band in force at a start: the larger of the old and the new one (R491, R493). -/
def State.guard (s : State) (p : Nat) : Nat := max (s.reg .GATE_GUARD_GUARD p) ((Sparse.get? s.tr.guardNew p).getD 0)

/-- GATE_STATUS takes the state of an instant. -/
def State.showGate (s : State) (p t : Nat) : State :=
  let (g, e, _) := s.gateNow p t
  let st := if s.reg .GATE_CTL_ENTRY_COUNT p == 0 then 0 else if (Sparse.get? s.tr.gateFrom p).isSome && s.reg .GATE_START_START p ≤ t then 2 else 1
  s.setRegs [(.GATE_STATUS_STATE, p, st), (.GATE_STATUS_ENTRY, p, if st == 2 then e else 0), (.GATE_STATUS_GATES, p, g)]

/-- GATE_ENTRY_CHANGE: the next entry of a running list comes into force (R487, R489). -/
def execGateEntryChange (p : Nat) (s : State) : Res :=
  run (fun s =>
    if p < 128 && s.reg .GATE_STATUS_STATE p == 2 then
      match (s.gateNow p s.dev).2.2 with
      | some t =>
        let s := s.atDev t
        s.showGate p s.dev
      | none => s
    else s) s

/-- LEADIN_END: at S the list runs (R495). -/
def execLeadinEnd (p : Nat) (s : State) : Res :=
  run (fun s =>
    if p < 128 && s.reg .GATE_STATUS_STATE p == 1 && (Sparse.get? s.tr.gateFrom p).isSome then
      let s := s.atDev (s.reg .GATE_START_START p)
      s.showGate p s.dev
    else s) s

/-- GUARD_BAND_UPDATE: a new guard band comes into force (R493). -/
def execGuardBandUpdate (p : Nat) (s : State) : Res :=
  run (fun s =>
    match Sparse.get? s.tr.guardNew p with
    | some g =>
      let s := s.setReg .GATE_GUARD_GUARD p g
      { s with tr := { s.tr with guardNew := Sparse.erase s.tr.guardNew p } }
    | none => s) s

/-- Installs port `p`'s list at `tc` (R494). -/
def State.installGate (s : State) (p tc : Nat) : State :=
  let base := s.reg .GATE_BASE_BASE p
  let cyc := s.reg .GATE_CYCLE_CYCLE p
  let late := decide (base < tc)
  let st := if late then base + ceilDiv (tc + 2000 - base) cyc * cyc else base
  let s := s.setReg .GATE_START_START p st
  let s := if late then s.setReg .GATE_STATUS_LATE_START p 1 else s
  let s := { s with tr := { s.tr with gateFrom := Sparse.set id s.tr.gateFrom p tc } }
  s.showGate p tc

/-! ### Queue samples (R498, R499) -/

/-- One egress queue is sampled at instant `t`. -/
def State.sampleQ (s : State) (p c t : Nat) : State :=
  let l := s.tr.pkts.filter (fun k => decide (k.q = .egress p c) && k.queued)
  let depth := min 0xFFFFF (cellSum (l.filter (fun k => k.inShared || decide (k.place = .galley))))
  let delay := match l with
    | [] => 0
    | k :: _ => min 0xFFFFFFFF (t - k.enq)
  let i := 8 * p + c
  s.setRegs [(.SHP_QSAMP_DEPTH, i, depth), (.SHP_QSAMP_DELAY, i, delay), (.SHP_QMAX_MAX_DEPTH, i, max (s.reg .SHP_QMAX_MAX_DEPTH i) depth),
    (.SHP_QMAX_MAX_DELAY, i, max (s.reg .SHP_QMAX_MAX_DELAY i) delay)]

/-- QUEUE_SAMPLE: the next multiple of PERIOD µs of the time base. -/
def execQueueSample (s : State) : Res :=
  run (fun s =>
    if s.boot.timeBase.isNone then s
    else
      let n := 1000 * s.reg .SHP_SAMPLE_CTL_PERIOD 0
      let t := (s.dev / n + 1) * n
      let s := s.atDev t
      ((s.portRecs.map portIx).filter (fun p => s.running (32 + quadOf p))).foldl (fun s p =>
        (span 0 7).foldl (fun s c => s.sampleQ p c t) s) s) s

/-! ### Sealed windows at egress (R398 to R406) -/

/-- Whether a packet that reached the cipher pipeline before `k`, and that `sel` selects, goes through a sealed window to a line that `k`
touches (R402): the pipeline of a port takes them from its egress queues, in the order in which they joined. DEDUCED: log entry 31. -/
def sealedBefore (sel : Pkt → Bool) (k : Pkt) : List Pkt → Bool
  | [] => false
  | x :: xs =>
    if x.id == k.id then false
    else (QId.isEgress k.dest x.q && x.sealedReq && sel x && x.lines.any (fun l => k.lines.contains l)) || sealedBefore sel k xs

/-- Read-modify-writes in progress in quad `q` (R404). -/
def State.rmws (s : State) (q : Nat) : Nat := (s.tr.seals.filter (fun x => x.quad == q)).length

/-- Whether gate and shapers let class `c` start packet `k` (R469). -/
def State.paced (s : State) (p c : Nat) (k : Pkt) : Bool :=
  s.openThrough p c (s.dev + s.guard p) (s.guard p + 2) s.dev && (s.shaperPath p k).all (fun sh => !s.shaperOn sh || decide (0 ≤ s.bucket sh))

/-- The next packet of port `p` whose read-modify-write can begin, class 7 first: one that finds fewer than 64 in progress, and its line neither
locked nor sought by an earlier access (R402 to R404). DESIGN CHOICE: log entry 31. -/
def State.nextRmw (s : State) (p : Nat) : Option Pkt :=
  let l := (s.tr.pkts.filter (fun k => QId.isEgress p k.q && decide (k.place = .shared))).filter (fun k =>
    k.needsRmw && !s.lockedOut k && !sealedBefore (fun _ => true) k s.tr.pkts && decide (s.rmws (quadOf p) < 64))
  match l.find? (fun k => k.req.tc == 7) with
  | some k => some k
  | none => l.find? (fun k => s.paced p k.req.tc k)

/-- The lowest of the tags 0x3FC0 to 0x3FFF that no read-modify-write of quad `q` uses (R401). DESIGN CHOICE: log entry 31. -/
def State.freeSealTag (s : State) (q : Nat) : Nat :=
  0x3FC0 + ((List.range 64).find? (fun n => !s.tr.seals.any (fun x => x.quad == q && x.tag == 0x3FC0 + n))).getD 0

/-- The line of packet `k` is locked, what else there is for it waits (R402), and its read goes to the device, from bus 0x00, device 0, function 7
(R401); the read is charged as a packet of the same path (R471; DESIGN CHOICE, log entry 31). -/
def State.startRmw (s : State) (p : Nat) (k : Pkt) : State :=
  let q := quadOf k.dest
  let s := (s.shaperPath p k).foldl (fun s sh => s.charge sh (tlpBase k.addr)) s
  let s := k.partLines.foldl (fun s l =>
    let t := s.freeSealTag q
    let s := s.setSeals (s.tr.seals ++ [{ pkt := k.id, port := k.dest, line := l, quad := q, tag := t }])
    s.emit (.lineRead k.dest 7 t l)) s
  let s := s.setPkts (s.tr.pkts.map (fun x =>
    if x.id != k.id && QId.isEgress p x.q && x.sealedReq && x.lines.any (fun l => k.partLines.contains l) then { x with waited := true } else x))
  s.updPkt k.id (fun x => { x with place := .rmw })

/-- The device's line at `ln`, decrypted, around the bytes of packet `k` in it (R401). -/
def State.mergeLine (s : State) (k : Pkt) (ln : Nat) : Pkt × State :=
  let old := Config.deviceLine k.dest ln s.draws
  let clear := Config.xts false (s.sealKey (k.imprint.getD 0) k.gen) (s.sealTweak k.dest k.destB ln) old
  let s := { s with draws := s.draws + 1 }
  let pre := if ln < k.addr then (clear ++ List.replicate 64 0).take (k.addr - ln) else []
  let stop := k.addr + k.req.len
  let post := if stop < ln + 64 then ((clear ++ List.replicate 64 0).take 64).drop (stop - ln) else []
  let data := pre ++ k.req.data ++ post
  ({ k with addr := k.addr - pre.length, req := { k.req with data, len := k.req.len + pre.length + post.length } }, s)

/-! ### Starting a packet (R467 to R471) -/

/-- The header bytes that a packet made by this switch carries in its slot (R299). -/
def ownTlp (f : FabPkt) : Nat :=
  let kind : Nat := match f.kind with
    | .read => 0
    | .write => 1
    | .dmWrite => 2
    | .atomic => 3
  let status : Nat := match f.status with
    | .sc => 0
    | .ur => 1
    | .ca => 2
  Config.fabTlp [f.ptype, kind, status, f.tag, f.rid, f.reqLen, f.addr]

/-- A packet is sent over fabric port `p`: its channel, its credits, its folios and its transit record (R315, R327, R344,
R350). -/
def State.sendFab (s : State) (p : Nat) (k : Pkt) (f : FabPkt) : State :=
  let vc := if dirDown s.com.active p then 1 else f.vc
  let v := 2 * (f.tc % 8) + vc % 2
  let fp := { f with vc, tlp := if f.srcSw == ownSw s.com.active then ownTlp f else f.tlp }
  let s := s.updDlink p (fun d => { d with
                                      consHdr := setNth d.consHdr v ((nth d.consHdr v + 1) % 4096),
                                      consData := setNth d.consData v ((nth d.consData v + f.len) % 4096) })
  let s := s.putPacket p fp
  let s := s.emit (.sent p fp.rid { k with fab := some fp })
  let s := match s.pktBucket k with
    | some b => { s with tr := { s.tr with lastBucket := Sparse.set id s.tr.lastBucket b s.now } }
    | none => s
  if f.ptype == 2 then
    { s with tr := { s.tr with
                       nextId := s.tr.nextId + 1,
                       transits := s.tr.transits ++ [{
                         id := s.tr.nextId, port := p, rid := f.rid, tag := f.tag, srcSw := f.srcSw, srcPort := f.srcPort,
                         due := s.now + 50000000, tc := f.tc, origin := k.outId }] } }
  else s

/-- A packet leaves on host or device port `p`: a completion to its requester, a request under the requester ID that
R248 and R249 give, expanded to whole lines and encrypted in a sealed window (R398 to R401), and its flit (R744). The operands of an AtomicOp
through a sealed window are encrypted as written bytes are (DESIGN CHOICE, log entry 175). -/
def State.sendTlp (s : State) (p : Nat) (k : Pkt) : State :=
  let s := match k.cls with
    | .completion => s.emit (.returned k.req.src k.req.rid k.cid k.req.tag k.status k.req.data k.req.poison k.req.pre)
    | _ =>
      let rid := s.srcRid k.req.src p
      if k.sealedReq then
        match k.req.kind with
        | .read =>
          let a := k.addr / 64 * 64
          s.emit (.sent p rid { k with addr := a, req := { k.req with len := ceilDiv (k.addr + k.req.len) 64 * 64 - a } })
        | _ =>
          let d := s.sealLines true p k.destB (k.imprint.getD 0) k.gen (k.req.len / 64 + 1) k.addr k.req.data
          s.emit (.sent p rid { k with req := { k.req with data := d } })
      else s.emit (.sent p rid k)
  let fl := (s.link.flits.find? (fun f => f.port == p)).getD { port := p }
  let fl := { fl with unacked := fl.unacked ++ [fl.next], next := (fl.next + 1) % 1024, lastAdv := if fl.unacked.isEmpty then s.now else fl.lastAdv }
  s.updLink (fun l => { l with flits := l.flits.filter (fun f => f.port != p) ++ [fl] })

/-- The request record of a packet that leaves: it is forwarded, and its completion timeout starts (R29, R652). -/
def State.markSent (s : State) (p : Nat) (k : Pkt) : State :=
  match k.outId with
  | some i =>
    if k.cls = .nonposted then
      let g := s.fltGlobal
      let due := match s.role p, k.req.src with
        | 2, _ => some (s.now + 50000 * g.devCto)
        | 1, .device _ _ => some (s.now + 50000 * g.hostCto)
        | _, _ => none
      s.updOut i (fun o => { o with sent := true, due := if o.due.isSome then o.due else due })
    else s
  | none => s

/-- Packet `k` starts on port `p` (R467, R471): charged, sent, gone from its queue; its line locks are released. -/
def State.startPkt (s : State) (p : Nat) (k : Pkt) : State :=
  let n := s.chargedOut p k
  let s := s.readCells k
  let s := (s.shaperPath p k).foldl (fun s sh => s.charge sh n) s
  let s := s.markSent p k
  let s := match s.role p, k.fab with
    | 3, some f => (s.armedWrite [0x41] p).2.sendFab p k f
    | _, _ => (s.armedWrite [0x40, 0x21] p).2.sendTlp p k
  let s := ((s.tally (p / 4) 0x02).tally (32 + quadOf p) 0x18 k.imprint).outcome k 0 s.dev
  let locks : Nat := (s.tr.seals.filter (fun x => x.pkt == k.id)).length
  let s := if locks = 0 then s else s.bump .IMP_Q_SEAL_RMW (quadOf p) locks
  let s := s.setSeals (s.tr.seals.filter (fun x => x.pkt != k.id))
  (s.delPkt k.id).settleQueue k.q

/-- Whether port `p` can send: its link is up and awake, its tile and quad run, and the switch is not halted. -/
def State.canSend (s : State) (p : Nat) : Bool :=
  !s.halted && s.running (p / 4) && s.running (32 + quadOf p) &&
  (if s.role p == 3 then s.dlState p == 5
   else s.on .TILE_PORT_STATUS_LINK_UP p && !s.link.quiet.contains p && !s.link.follow.contains p && s.reg .FLT_PORT_STATE p != 1 &&
     !(s.lanes p).any (fun l => s.reg .TILE_LANE_STATUS_TX_STATE l == 2 || s.reg .TILE_LANE_STATUS_TX_STATE l == 3))

/-- Whether the reserve of fabric port `p` has room for the whole completion of request `f` beside those of what was sent there and is
outstanding (R353, R419). DESIGN CHOICE: log entry 173. -/
def State.roomBack (s : State) (p : Nat) (f : FabPkt) : Bool :=
  let l := s.tr.outs.filter (fun o => o.sent && o.port == p)
  let n := fun (k : ReqKind) (n : Nat) => cellsOf (if wantsData k then n else 0)
  l.isEmpty || decide (l.foldl (fun t o => t + n o.kind o.len) 0 + n f.kind f.reqLen ≤ 2048 * (s.lanes p).length)

/-- Whether packet `k` has what its port needs: line locks (R402), on a fabric port credits, room in the replay buffer and in the transit
records (R315, R328, R344), and for a request of this switch room for its completion (R353). -/
def State.ready (s : State) (p : Nat) (k : Pkt) : Bool :=
  decide (k.place = .shared) && !k.needsRmw && !s.lockedOut k && !(k.sealedReq && sealedBefore (·.waited) k s.tr.pkts) &&
  !(k.sealedReq && s.keys.redeliver.contains (32 + quadOf p, .seal (k.imprint.getD 0) k.gen)) &&
  (match s.role p, k.fab with
    | 3, some f =>
      let d := s.dlink p
      let v := 2 * (f.tc % 8) + (if dirDown s.com.active p then 1 else f.vc) % 2
      decide (1 ≤ (nth d.limHdr v + 4096 - nth d.consHdr v) % 4096) && decide (f.len ≤ (nth d.limData v + 4096 - nth d.consData v) % 4096) &&
      decide (d.replay.length + ceilDiv (1 + f.len) 9 ≤ 1024) &&
      (f.ptype != 2 || decide ((s.tr.transits.filter (fun t => t.port == p)).length < 16384) && (f.srcSw != ownSw s.com.active || s.roomBack p f))
    | _, _ => true)

/-- The head of an egress queue. -/
def State.egressHead (s : State) (p c : Nat) : Option Pkt := s.tr.pkts.find? (fun k => decide (k.q = .egress p c) && k.queued)

/-- Whether class `c` from 0 to 6 is eligible now (R469). -/
def State.classOk (s : State) (p c : Nat) : Bool :=
  match s.egressHead p c with
  | some k =>
    s.ready p k && s.paced p c k
  | none => false

/-- WEIGHT_TCt of port `p`'s shaper. -/
def State.weight (s : State) (p c : Nat) : Nat :=
  match c with
  | 0 => s.reg .SHP_PORT_LINK_WEIGHT_TC0 p
  | 1 => s.reg .SHP_PORT_LINK_WEIGHT_TC1 p
  | 2 => s.reg .SHP_PORT_LINK_WEIGHT_TC2 p
  | 3 => s.reg .SHP_PORT_LINK_WEIGHT_TC3 p
  | 4 => s.reg .SHP_PORT_LINK_WEIGHT_TC4 p
  | 5 => s.reg .SHP_PORT_LINK_WEIGHT_TC5 p
  | _ => s.reg .SHP_PORT_LINK_WEIGHT_TC6 p

/-- The next weighted class after `t`, ascending and cyclic. -/
def nextWeighted (w : List Nat) (t : Nat) : Nat :=
  (((List.range 7).map (fun i => (t + 1 + i) % 7)).find? (fun c => nth w c != 0)).getD t

/-- The round-robin loop of R470: weights, eligible classes, charged lengths of their heads, pointer and deficits; `fuel`
bounds its turns. -/
def drrLoop (w : List Nat) (ok : Nat → Bool) (len : Nat → Nat) : Nat → Nat → List Nat → Option Nat × Nat × List Nat
  | 0, t, d => (none, t, d)
  | f + 1, t, d =>
    if ok t && nth w t != 0 && decide (len t ≤ nth d t) then (some t, t, d.set t (nth d t - len t))
    else
      let d := if ok t && nth w t != 0 then d else d.set t 0
      let u := nextWeighted w t
      drrLoop w ok len f u (d.set u (nth d u + 512 * nth w u))

/-- Round-robin state of a port: pointer and deficits. -/
def State.drr (s : State) (p : Nat) : Nat × List Nat :=
  ((s.tr.drr.find? (fun e => e.1 == p)).map (·.2)).getD (0, List.replicate 7 0)

/-- Heads that must not leave: packets whose cells cannot be read (R634), a quarantined imprint's requests (R648), and sealed requests whose
key no longer exists (R781). -/
def State.badHead (s : State) (k : Pkt) : Option CplStatus :=
  if k.flip == 2 && decide (k.place = .shared) then some .ca
  else if decide (k.cls ≠ .completion) && decide (k.place = .shared) then
    if (match k.imprint with
        | some i => s.quarantined i
        | none => false) then some .ca
    else if k.sealedReq && s.keys.dead.contains (.seal (k.imprint.getD 0) k.gen) then some .ur
    else none
  else none

/-- Drops the heads of port `p`'s queues that must not leave; `fuel` bounds how many. -/
def State.purgeEgress (p : Nat) : Nat → State → State
  | 0, s => s
  | f + 1, s =>
    match ((List.range 8).filterMap (s.egressHead p)).find? (fun k => (s.badHead k).isSome) with
    | some k => State.purgeEgress p f (((s.cellsLost k).discard k (fun s o => s.outFail o ((s.badHead k).getD .ca))).settleQueue k.q)
    | none => s

/-- One start opportunity of port `p` (R467 to R470): class 7 first, then the read of a read-modify-write, then the other classes. -/
def State.egress (s : State) (p : Nat) : State :=
  let s := State.purgeEgress p s.tr.pkts.length s
  let s := (s.tr.pkts.filter (fun k => QId.isEgress p k.q && k.sealedReq)).foldl (fun s k =>
    s.readKey (32 + quadOf p) (.seal (k.imprint.getD 0) k.gen)) s
  match (s.egressHead p 7).filter (s.ready p) with
  | some k => s.startPkt p k
  | none =>
    match s.nextRmw p with
    | some k => s.startRmw p k
    | none =>
      let w := (List.range 7).map (s.weight p)
      let ok := fun c => s.classOk p c
      match ([6, 5, 4, 3, 2, 1, 0].filter (fun c => nth w c == 0)).find? ok with
      | some c =>
        match s.egressHead p c with
        | some k => s.startPkt p k
        | none => s
      | none =>
        if (List.range 7).any (fun c => nth w c != 0 && ok c) then
          let (t, d) := s.drr p
          let len := fun c => match s.egressHead p c with
            | some k => s.chargedOut p k
            | none => 0
          let (c, t, d) := drrLoop w ok len 80 t d
          let s := { s with tr := { s.tr with drr := s.tr.drr.filter (fun e => e.1 != p) ++ [(p, t, d)] } }
          match c.bind (s.egressHead p) with
          | some k => s.startPkt p k
          | none => s
        else s

/-- EGRESS_START. A fabric port that holds 1,024 unacknowledged folios sends an IDLE folio (R315). -/
def execEgressStart (p : Nat) (s : State) : Res :=
  run (fun s =>
    if p < 128 && s.canSend p then (if s.role p == 3 && decide (1024 ≤ (s.dlink p).replay.length) then s.putIdle p else s.egress p)
    else s) s

/-- A read of a read-modify-write returns for the packet's first line that waits (R401, R405, R781). -/
def State.rmwDone (s : State) (x : SealRmw) (good : Bool) : State :=
  match s.pkt x.pkt with
  | none => s.delSeal x.pkt x.line
  | some k =>
    if s.keys.dead.contains (.seal (k.imprint.getD 0) k.gen) then
      let s := s.setSeals (s.tr.seals.filter (fun y => y.pkt != x.pkt))
      (s.discard k (fun s o => s.outFail o .ur)).settleQueue k.q
    else if !good then s.sealFail x
    else
      let (k', s) := s.mergeLine k x.line
      let s := s.updPkt k.id (fun _ => k')
      let s := s.setSeals (s.tr.seals.map (fun y => if y.pkt == x.pkt && y.line == x.line then { y with ready := true } else y))
      s.sealDone x.pkt

/-- SEALED_RMW_READ_DONE: the line is merged, and its write goes out in the turn of its queue (R403, R468, R469). -/
def execSealedRmwReadDone (i : Nat) (good poison : Bool) (s : State) : Res :=
  run (fun s =>
    match s.tr.seals.find? (fun x => x.pkt == i && !x.ready) with
    | none => s
    | some x => s.rmwDone x (good && !poison)) s

end Sys2Proof.Machine
end

