-- ==== Sys2Proof/Machine/Commit.lean ====
section
/-! DEFINITION. Staged state, commits and epochs (R94 to R118, R120, R122), hierarchy entries (R234, R235, R384 to R388), and
what each scope's commit instant changes. -/

namespace Sys2Proof.Machine

/-! ### Staged state (R95 to R98, R126) -/

/-- `s` with its commit part changed. -/
def State.updCom (s : State) (f : Commits → Commits) : State := { s with com := f s.com }

/-- A view of the table with staged changes applied. -/
def applyImp (v : Imp) (l : List ImpChange) : Imp := l.foldl (fun v c => Sparse.put ImpKey.code v c.key c.val) v

/-- The staged view of the whole table. -/
def State.stagedImp (s : State) : Imp := applyImp s.com.active s.com.staged

/-- Changed entries of a list of changes: a group's MEMBER_COUNT and REBIND_IDLE go with its parts (R381). -/
def impCount (l : List ImpChange) : Nat := (l.filter (fun c => c.key.typ != 7)).length

/-- Staged changes with one more: an item counts once. -/
def addChange (l : List ImpChange) (c : ImpChange) : List ImpChange := l.filter (fun x => !decide (x.key = c.key)) ++ [c]

/-- Staged changes with a list of further ones. -/
def addChanges (l cs : List ImpChange) : List ImpChange := cs.foldl addChange l

/-- Scope mask of the scopes that hold staged changes (R126). -/
def State.stagedMask (s : State) : Nat :=
  (List.range 8).foldl (fun m b =>
    let has := (b == 0 && !s.com.staged.isEmpty) || s.staged.any (fun c => c.1.fld.scope == b && b != 0) || s.com.parts.any (fun a => bit a.scopes b)
    if has then m + 2 ^ b else m) 0

/-- Participating islands of a scope (03_forme.md, Staging). -/
def scopeIslands (b : Nat) : List Nat :=
  match b with
  | 0 => span 32 39
  | 1 => span 32 41
  | 2 => span 0 39
  | 3 => span 32 39
  | 4 => span 0 31 ++ [52]
  | 5 => span 0 50 ++ span 52 55
  | 6 => [54]
  | _ => [53]

/-- Participating islands of a mask. -/
def maskIslands (m : Nat) : List Nat := (List.range 56).filter (fun i => (setBits 8 m).any (fun b => (scopeIslands b).contains i))

/-- Scope mask of the scopes with a stale or resynchronising island (R126). -/
def State.staleMask (s : State) : Nat :=
  (List.range 8).foldl (fun m b => if (s.isl.stale ++ s.isl.resync).any (fun i => (scopeIslands b).contains i) then m + 2 ^ b else m) 0

/-- A staged change that can only remove reachability (R778). -/
def invalidation (c : ImpChange) : Bool :=
  match c.key.typ, c.val with
  | 1, none => true
  | 1, some w => !eValid w
  | 2, none => true
  | 2, some w => dKind w == 0
  | 3, none => true
  | 4, none => true
  | 4, some w => w % 256 == 255
  | _, _ => false

/-- Assignments of the staged hierarchy. -/
def State.stagedHier (s : State) : List HierRec :=
  match s.com.parts.find? (fun a => bit a.scopes 4 && a.hier.isSome) with
  | some a => a.hier.getD []
  | none => s.com.hier

/-- Domains of the assignments of `a` that `b` lacks. -/
def goneDomains (a b : List HierRec) : List Nat :=
  ((a.filter (fun h => isAssign h && !b.contains h)).map (fun h => assignDomain h.host h.vdsp))

/-- The refusal of a commit of a mask: REFUSED_SAFE_MODE, REFUSED_RESYNC (R102) or REFUSED_STAGED (R386).
DEDUCED: log entry 36. -/
def State.commitRefusal (s : State) (mask : Nat) : Option Nat :=
  let allowed := (setBits 8 mask).all (fun b => [1, 2, 3, 5].contains b || (b == 0 && s.com.staged.all invalidation))
  if s.safeMode && !allowed then some 0x0C
  else if (maskIslands mask).any (fun i => s.isl.resync.contains i) then some 0x0B
  else if bit mask 4 && (goneDomains s.com.hier s.stagedHier).any (fun d =>
      s.com.staged.any (fun c => c.key.typ == 1 &&
        (eDomain (c.val.getD 0) == d || eDomain ((Sparse.get? s.com.active c.key).getD 0) == d))) then some 0x0A
  else none

/-! ### Hierarchy entries (R234, R244, R245, R384) -/

/-- NumVFs of a PF of the device on port `p`. -/
def numVfs (hier : List HierRec) (p pf : Nat) : Nat :=
  match hier.find? (fun h => h.kind == 4 && hierPort h == p && h.pf == pf) with
  | some h => h.vfFirst
  | none => 0

/-- The memory BARs of a function of the device on port `p`: the BAR, its size and where the switch placed it (R782). A VF
has the PF's VF BARs, its own part of each. -/
def State.fnBars (s : State) (hier : List HierRec) (p rid : Nat) : List (DevBar × Nat × Nat) :=
  match s.link.devices.find? (fun d => d.port == p) with
  | none => []
  | some d =>
    let look := fun (r : Nat) (b : DevBar) => d.bars.find? (fun x => x.rid == r && x.index == b.index && x.vf == b.vf)
    match d.fns.find? (fun f => f.rid == rid) with
    | some f => (f.bars.filter (fun b => !b.vf)).filterMap (fun b =>
        match look rid b with
        | some x => x.base.map (fun a => (b, x.size, a))
        | none => none)
    | none =>
      match d.fns.find? (fun f => decide (f.vfRid0 ≤ rid) && decide (rid < f.vfRid0 + numVfs hier p (f.rid - 0x100)) && decide (0x100 ≤ f.rid)) with
      | none => []
      | some f =>
        let n := numVfs hier p (f.rid - 0x100)
        (f.bars.filter (·.vf)).filterMap (fun b =>
          match look f.rid b with
          | some x => x.base.map (fun a => (b, x.size / n, a + (rid - f.vfRid0) * (x.size / n)))
          | none => none)

/-- Whether `[a, a + n)` lies within a memory window of a bridge function. -/
def State.inWindow (s : State) (k : Nat) (t : CfgTarget) (a n : Nat) : Bool :=
  let m := s.vreg k t .memWindow
  let f := s.vreg k t .prefWindow
  let hit := fun lo hi => decide (lo ≤ a) && decide (a + n ≤ hi + 0x100000)
  hit (bits m 15 4 * 2 ^ 20) (bits m 31 20 * 2 ^ 20) ||
  hit (bits f 15 4 * 2 ^ 20 + s.vreg k t .prefBaseUpper * 2 ^ 32) (bits f 31 20 * 2 ^ 20 + s.vreg k t .prefLimitUpper * 2 ^ 32)

/-- Base address in a virtual BAR (R234, R240). -/
def State.barBase (s : State) (k v f : Nat) (b : DevBar) : Nat :=
  let lo := s.vreg k (.fn v f) (.bar b.index) / 16 * 16
  lo + (if b.is64 then s.vreg k (.fn v f) (.bar (b.index + 1)) * 2 ^ 32 else 0)

/-- The BAR ranges of an assignment that the host decodes now: function, BAR, base, size, device-side base (R384). The
Expansion ROM BAR decodes while its enable bit is set. -/
def State.decoded (s : State) (hier : List HierRec) (h : HierRec) : List (Nat × Nat × Nat × Nat × Nat) :=
  let rids := s.assignRids h
  (((List.range rids.length).zip rids).map (fun e =>
    let f := e.1
    if !bit (s.vreg h.host (.fn h.vdsp f) .command) 1 then []
    else (s.fnBars hier (hierPort h) e.2).filterMap (fun (b, n, dev) =>
      let a := s.barBase h.host h.vdsp f b / n * n
      let on := b.index != 6 || bit (s.vreg h.host (.fn h.vdsp f) (.bar 6)) 0
      if on && s.inWindow h.host (.vdsp h.vdsp) a n && s.inWindow h.host .usp a n then some (e.2, b.index, a, n, dev) else none))).flatten

/-- The hierarchy entries and descriptors of a set of assignments (R378, R384): DMA entries from 0xF_0000 on, then one entry for each BAR
with descriptor 0xF020 + j, as far as the 4,064 hierarchy descriptors reach; KEY_GEN is the owner key slot's generation (DEDUCED, log
entry 13). -/
def State.hierItems (s : State) (hier : List HierRec) : Imp :=
  let hosts := (s.portRecs.filter (fun r => r.role == 1)).map (fun r => (targetKey (0xF000 + r.hostIndex), mkTarget 2 false r.hostIndex 0 0))
  let gen := fun i => s.reg .BAL_KEY_SLOT_GEN i
  let rows := ((hier.filter isAssign).map (fun h =>
    let i := h.imprint
    (mkEntry (assignDomain h.host h.vdsp) 52 0 (0xF000 + h.host) i true true true false (gen i) i false, none) ::
    (s.decoded hier h).map (fun (rid, _, a, n, dev) =>
      (mkEntry h.host (Nat.log2 n - 12) (a / 4096) 0 i true true true false (gen i) i false,
        some (mkTarget 1 true (hierPort h) rid (dev / 4096)))))).flatten
  let dma := rows.filterMap (fun r => if r.2.isNone then some r.1 else none)
  let bars := (rows.filterMap (fun r => r.2.map (fun d => (r.1, d)))).take 4064
  hosts ++ ((List.range dma.length).zip dma).map (fun (j, e) => (entryKey (0xF0000 + j), e)) ++
  (((List.range bars.length).zip bars).map (fun (j, e, d) =>
    [(entryKey (0xF0000 + dma.length + j), e + (0xF020 + j) * 2 ^ 71), (targetKey (0xF020 + j), d)])).flatten

/-- A view with the hierarchy's items in place of those it held. -/
def State.withHier (s : State) (v : Imp) (hier : List HierRec) : Imp :=
  impSet (v.filter (fun e => !((e.1.typ == 1 && decide (0xF0000 ≤ e.1.index)) || (e.1.typ == 2 && decide (0xF000 ≤ e.1.index))))) (s.hierItems hier)

/-! ### Beginning a commit (R103, R387) -/

/-- Table changes that put a lease's entries in place, or take them away (R517, R519). -/
def leaseChanges (l : Lease) (on : Bool) : List ImpChange :=
  ((List.range l.sheets.length).zip l.sheets).map (fun (j, n) =>
    let e := mkEntry (32 + l.host) 16 ((l.slot + j) * 2 ^ 16) (0xE000 + n) l.imprint true (!l.readOnly) false false l.gen l.sub false
    [{ key := entryKey (0xEFC00 + n), val := if on then some e else none },
      { key := targetKey (0xE000 + n), val := if on then some (mkTarget 3 true 0 n 0) else none }]) |>.flatten

/-- Live leases of an imprint. -/
def State.leasesOf (s : State) (i : Nat) : List Lease := s.pool.leases.filter (fun l => l.imprint == i)

/-- What a commit of an origin changes: register cells, table changes, kill marks, amendments, configuration writes. -/
def State.commitOf (s : State) (o : Origin) (mask : Nat) : Commit :=
  let base : Commit := { origin := o, mask, tc := 0 }
  match o with
  | .command | .arb =>
    { base with
        cells := s.staged.filter (fun c => c.1.fld.scope != 0 && bit mask c.1.fld.scope)
        imps := if bit mask 0 then s.com.staged else []
        kills := if bit mask 4 then (goneDomains s.com.hier s.stagedHier).map KillMark.domain else []
        parts := (s.com.parts.filter (fun a => a.scopes &&& mask != 0)).map (fun a => { a with scopes := a.scopes &&& mask }) }
  | .lease h => { base with imps := ((s.pool.leases.filter (fun l => l.handle == h)).map (fun l => leaseChanges l true)).flatten }
  | .release h => { base with imps := ((s.pool.leases.filter (fun l => l.handle == h)).map (fun l => leaseChanges l false)).flatten }
  | .revoke i =>
    { base with imps := ((s.leasesOf i).map (fun l => leaseChanges l false)).flatten, kills := [.sealedOf i] }
  | .hierarchy => { base with writes := if s.com.redo.isEmpty then s.com.hierQ else s.com.redo }

/-- A commit is accepted: T_c is the first whole microsecond at least 2 µs later; T_c and the changes go to every
participant, and a stopped one wakes (R103). DEDUCED: log entry 26. -/
def State.beginCommit (s : State) (o : Origin) (mask : Nat) : State :=
  let tc := ceilDiv (s.dev + 2000) 1000 * 1000
  let parts := (maskIslands mask).filter (fun i => s.running i || s.islState i == 3)
  let c := { s.commitOf o mask with tc, waitAck := parts }
  let s := s.updCom (fun m => { m with
    cur := some c, redo := if o = .hierarchy then [] else m.redo, hierQ := if o = .hierarchy && m.redo.isEmpty then [] else m.hierQ })
  let s := (parts.filter (fun i => s.islState i == 3)).foldl (fun s i => s.setReg .SUP_ISL_STATUS_WAKE_PEND i 1) s
  let s := if o = .hierarchy then s.setReg .CMP_STATUS_INTERNAL 0 1 else s
  s.setReg .CMP_STATUS_BUSY 0 1

/-- Whether a hierarchy change waits for its commit (R387, R388). -/
def State.hierWaits (s : State) : Bool := !(s.com.redo.isEmpty && s.com.hierQ.isEmpty)

/-- A command's commit is asked for: it begins, or waits behind the commit in progress (R387, R388). -/
def State.askCommit (s : State) (o : Origin) (mask : Nat) : State :=
  match s.com.cur with
  | none => s.beginCommit o mask
  | some _ => s.updCom (fun m => { m with waiting := some (mask, o, s.hierWaits) })

/-- Whether the management core can run commands and commits: it is RUN, or STOPPED and wakes for them, and it is not rebuilding
(R52, R117, R118). -/
def State.mgmtUp (s : State) : Bool := (s.running 52 || s.islState 52 == 3) && s.isl.mgmt.isNone

/-- The next commit that waits begins, in the order in which they arose (R387). -/
def State.nextCommit (s : State) : State :=
  if s.com.cur.isSome || !s.mgmtUp then s
  else
    match s.com.waiting with
    | some (mask, o, behind) =>
      if behind && s.hierWaits then s.beginCommit .hierarchy 1
      else (s.updCom (fun m => { m with waiting := none })).beginCommit o mask
    | none => if s.hierWaits then s.beginCommit .hierarchy 1 else s

/-- The port is free of internal changes: INTERNAL 0, and BUSY 0 unless a command runs (R710). -/
def State.freePort (s : State) : State :=
  if s.com.cur.isSome || !s.mgmtUp then s
  else
    let s := s.setReg .CMP_STATUS_INTERNAL 0 0
    if s.port.running.isSome then s else s.setReg .CMP_STATUS_BUSY 0 0

/-- A configuration write of R235 asks for its hierarchy change. DEDUCED: log entry 127. -/
def State.askHierWrite (s : State) (w : HierWrite) : State :=
  (s.updCom (fun m => { m with hierQ := m.hierQ ++ [w] })).nextCommit

/-! ### Abandonment (R116, R388, R577) -/

/-- A lease that does not come about: its sheet key is destroyed, its sheets stay FREE (R117). -/
def State.dropLease (s : State) (h : Nat) : State :=
  match s.pool.leases.find? (fun l => l.handle == h && !l.live) with
  | some l =>
    let s := s.updPool (fun p => { p with leases := p.leases.filter (fun x => x.handle != h || x.live) })
    { s with keys := { s.keys with redeliver := s.keys.redeliver.filter (fun e => !decide (e.2 = l.key)) } }
  | none => s

/-- A release whose commit does not come about: its revocation never began. -/
def State.dropRelease (s : State) (h : Nat) : State :=
  { s with keys := { s.keys with revs := s.keys.revs.filter (fun r => !(r.handle == some h && r.tf.isNone)) } }

/-- The commit in progress is abandoned: nothing changes; a hierarchy change is committed again at once as it was, a revocation likewise,
another commit ends with REFUSED_RESYNC. DEDUCED: log entry 35. -/
def State.abandonCommit (s : State) : State :=
  match s.com.cur with
  | none => s
  | some c =>
    let s := (s.updCom (fun m => { m with cur := none })).work 52
    match c.origin with
    | .hierarchy =>
      let s := s.updCom (fun m => { m with redo := c.writes })
      if s.mgmtUp then s.beginCommit .hierarchy 1 else s
    | .revoke i => if s.mgmtUp then s.beginCommit (.revoke i) 1 else s.updCom (fun m => { m with waiting := some (1, .revoke i, false) })
    | .lease h => (((s.dropLease h).finish (.lease h) 0x0B).nextCommit).freePort
    | .release h => ((((s.dropRelease h).finish (.release h) 0x0B)).nextCommit).freePort
    | _ => ((s.finish .commit 0x0B).nextCommit).freePort

/-! ### The commit instant (R104 to R109) -/

/-- Entries of the table before T_c that a commit's kill marks cover: valid software entries that the commit does not write
(R109, R385, R576). -/
def coveredBy (v : Imp) (kills : List KillMark) (written : List ImpKey) : List ImpKey :=
  (v.filter (fun e => e.1.typ == 1 && decide (e.1.index < 0xEFC00) && eValid e.2 && !written.contains e.1 &&
    kills.any (fun k => match k with
      | .domain d => eDomain e.2 == d
      | .sealedOf i => eSealed e.2 && eImprint e.2 == i))).map (·.1)

/-- The shaper that an SH field belongs to. -/
def shaperOf (k : RegKey) : Option ShaperId :=
  match k.fld with
  | .SHP_SUB_RATE_RATE | .SHP_SUB_CFG_BURST | .SHP_SUB_CFG_ENABLE | .SHP_SUB_CFG_RESET_POLICY | .SHP_SUB_LINK_PARENT | .SHP_SUB_LINK_ATTACHED =>
    some (.sub k.idx)
  | .SHP_SVC_RATE_RATE | .SHP_SVC_CFG_BURST | .SHP_SVC_CFG_ENABLE | .SHP_SVC_CFG_RESET_POLICY | .SHP_SVC_LINK_PARENT | .SHP_SVC_LINK_ATTACHED =>
    some (.svc k.idx)
  | .SHP_PORT_RATE_RATE | .SHP_PORT_CFG_BURST | .SHP_PORT_CFG_ENABLE | .SHP_PORT_CFG_RESET_POLICY | .SHP_PORT_LINK_WEIGHT_TC0
  | .SHP_PORT_LINK_WEIGHT_TC1 | .SHP_PORT_LINK_WEIGHT_TC2 | .SHP_PORT_LINK_WEIGHT_TC3 | .SHP_PORT_LINK_WEIGHT_TC4 | .SHP_PORT_LINK_WEIGHT_TC5
  | .SHP_PORT_LINK_WEIGHT_TC6 => some (.port k.idx)
  | _ => none

/-- Whether an SH field is a weight of a port shaper. -/
def isWeight (f : Fld) : Bool :=
  match f with
  | .SHP_PORT_LINK_WEIGHT_TC0 | .SHP_PORT_LINK_WEIGHT_TC1 | .SHP_PORT_LINK_WEIGHT_TC2 | .SHP_PORT_LINK_WEIGHT_TC3 | .SHP_PORT_LINK_WEIGHT_TC4
  | .SHP_PORT_LINK_WEIGHT_TC5 | .SHP_PORT_LINK_WEIGHT_TC6 => true
  | _ => false

/-- The policer that an SH field belongs to. -/
def polOfCell (k : RegKey) : Option Nat :=
  match k.fld with
  | .SHP_POL_CIR_CIR | .SHP_POL_PIR_PIR | .SHP_POL_CBS_CBS | .SHP_POL_CBS_YELLOW_ACT | .SHP_POL_CBS_RED_ACT | .SHP_POL_PBS_PBS => some k.idx
  | _ => none

/-- The port whose gate list an SH field belongs to. -/
def gatePort (k : RegKey) : Option Nat :=
  match k.fld with
  | .GATE_CTL_ENTRY_COUNT | .GATE_CTL_LEADIN | .GATE_CYCLE_CYCLE | .GATE_BASE_BASE => some k.idx
  | .GATE_ENTRY_GATES | .GATE_ENTRY_INTERVAL => some (k.idx / 256)
  | _ => none

/-- Reset-policy field of a shaper. -/
def shPolicy : ShaperId → Fld × Nat
  | .sub i => (.SHP_SUB_CFG_RESET_POLICY, i)
  | .svc j => (.SHP_SVC_CFG_RESET_POLICY, j)
  | .port p => (.SHP_PORT_CFG_RESET_POLICY, p)

/-- A changed shaper's bucket at T_c: full, or zero by its new RESET_POLICY (R475). -/
def State.resetShaper (s : State) (sh : ShaperId) : State :=
  let s := { s with tr := { s.tr with frac := Sparse.erase s.tr.frac sh, stepAt := Sparse.set shCode s.tr.stepAt sh s.now } }
  if s.reg (shPolicy sh).1 (shPolicy sh).2 == 1 then s.setBucket sh 0 else { s with tr := { s.tr with tokens := Sparse.erase s.tr.tokens sh } }

/-- The old buckets of the changed policers, for packets with timestamps before T_c: each keeps its own, or is full under its old
values (R105, R484). -/
def State.oldPols (s : State) (old : List RegCell) (pol : List Nat) : List (Nat × PolBucket) :=
  pol.foldl (fun l n =>
    Sparse.set id l n ((Sparse.get? s.tr.pols n).getD
      { tc := rget old .SHP_POL_CBS_CBS n * 8000, tp := rget old .SHP_POL_PBS_PBS n * 8000, last := s.dev })) []

/-- The register cells of a commit take effect: shapers, deficits, policers, gate lists (R475, R477, R484, R494). -/
def State.applyCells (s : State) (cells : List RegCell) (tc : Nat) : State :=
  let old := s.regs
  let s := cells.foldl (fun s c => s.setReg c.1.fld c.1.idx c.2) s
  let s := ((cells.filterMap (fun c => shaperOf c.1)).eraseDups).foldl (fun s sh => s.resetShaper sh) s
  let ports := (cells.filter (fun c => isWeight c.1.fld)).map (fun c => c.1.idx)
  let pol := (cells.filterMap (fun c => polOfCell c.1)).eraseDups
  let s := { s with tr := { s.tr with
                              drr := s.tr.drr.map (fun e => if ports.contains e.1 then (e.1, e.2.1, List.replicate 7 0) else e),
                              policyOld := if cells.any (fun c => c.1.fld.scope == 2) then some (tc, old, s.oldPols old pol) else s.tr.policyOld,
                              pols := s.tr.pols.filter (fun e => !pol.contains e.1) } }
  ((cells.filterMap (fun c => gatePort c.1)).eraseDups).foldl (fun s p => s.installGate p tc) s

/-- Host address ranges that an assignment's hierarchy entries map. -/
def State.hostRanges (s : State) (hier : List HierRec) (h : HierRec) : List (Nat × Nat × Nat) :=
  (s.decoded hier h).map (fun (_, _, a, n, _) => (h.host, a, n))

/-- Functions of an assignment that count in FUNC_US (R601). -/
def State.spanWeight (s : State) (h : HierRec) : Nat :=
  match h.kind with
  | 1 => (s.assignRids h).length
  | 2 => h.vfCount
  | _ => 1

/-- The switch sets NumVFs and the VF BARs of the device on port `p` and enables the VFs (R244). -/
def State.setupVfs (s : State) (p : Nat) : State :=
  (s.com.hier.filter (fun h => h.kind == 4 && hierPort h == p)).foldl (fun s h => s.emit (.forward p (pfRid h.pf) "SR-IOV setup")) s

/-- The VFs of an enumerated device follow SRIOV_SETUP records that a commit has changed (R244). DESIGN CHOICE: log entry 162. -/
def State.resetVfs (s : State) (p : Nat) : State :=
  if s.link.devices.any (fun d => d.port == p) then
    (s.setupVfs p).updLink (fun l => { l with
      devices := l.devices.map (fun d => if d.port == p then { d with bars := placeBars (numVfs s.com.hier p) d.fns d.bars } else d) })
  else s

/-- The assignments of `gone` disappear: both changed bits are set at each one's port, whatever its states were (R270). -/
def State.dropAssigns (s : State) (gone : List HierRec) : State :=
  gone.foldl (fun s h => if s.phase < 5 then s else s.slotEvent h.host h.vdsp true true false) s

/-- A VHIER commit's new assignments take effect: the removed ones disappear, then the added ones appear at ports that were empty, with
hot-plug events, spans, lost ranges and VFs (R244, R269, R270, R601). -/
def State.applyHier (s : State) (new : List HierRec) (tc : Nat) : State :=
  let old := s.com.hier
  let gone := old.filter (fun h => isAssign h && !new.contains h)
  let come := new.filter (fun h => isAssign h && !old.contains h)
  let ranges := (gone.map (s.hostRanges old)).flatten
  let setups := ((old ++ new).filter (fun h => h.kind == 4 && old.contains h != new.contains h)).map hierPort
  let s := (s.updCom (fun m => { m with hier := old.filter (fun h => !gone.contains h) })).updLink (fun l => { l with
    vregs := l.vregs.filter (fun e => !gone.any (fun h => h.host == e.1.host && (match e.1.target with
      | .fn v _ => v == h.vdsp
      | _ => false))),
    removed := l.removed ++ ranges })
  let s := s.dropAssigns gone
  let s := s.hotplug (fun s => s.updCom (fun m => { m with hier := new }))
  let s := setups.eraseDups.foldl (fun s p => s.resetVfs p) s
  let s := gone.foldl (fun s h => s.endSpan false (spanKey h.host h.vdsp) tc) s
  come.foldl (fun s h => s.startSpan false h.imprint (s.spanWeight h) (spanKey h.host h.vdsp) tc) s

/-- Ranges of removed assignments that an assignment maps now are no longer lost. DEDUCED: log entry 17. -/
def State.pruneRemoved (s : State) : State :=
  let now_ := ((s.com.hier.filter isAssign).map (s.hostRanges s.com.hier)).flatten
  s.updLink (fun l => { l with
    removed := l.removed.filter (fun e => !now_.any (fun r => r.1 == e.1 && decide (r.2.1 < e.2.1 + e.2.2) && decide (e.2.1 < r.2.1 + r.2.2))) })

/-- The configuration digest as a number (R130). -/
def State.configDigest (s : State) : Nat := (List.range 16).foldl (fun n i => n + s.reg .CMP_CONFIG_DIGEST_DIGEST i * 2 ^ (32 * i)) 0

/-- CMP_CONFIG_DIGEST takes a digest. -/
def State.setDigest (s : State) (d : Nat) : State :=
  (List.range 16).foldl (fun s i => s.setReg .CMP_CONFIG_DIGEST_DIGEST i (d / 2 ^ (32 * i))) s

/-- Amendments in ascending AMEND_SEQ order. -/
def bySeq (l : List AmendParts) : List AmendParts :=
  l.foldl (fun out a => out.filter (fun x => decide (x.seq ≤ a.seq)) ++ [a] ++ out.filter (fun x => decide (a.seq < x.seq))) []

/-- What a commit includes of amendments: the digest steps of R122, the high-water of R120, and the scopes without
registers of their own (R107). -/
def State.applyParts (s : State) (parts : List AmendParts) (tc : Nat) : State :=
  (bySeq parts).foldl (fun s a =>
    let s := s.setDigest (Config.digest (bytesOf 64 s.configDigest ++ bytesOf 64 a.digest ++ [a.scopes]))
    let s := { s with flash := { s.flash with amendHigh := max s.flash.amendHigh a.seq } }
    let s := s.setReg .CMP_AMEND_SEQ_HIGH_WATER 0 s.flash.amendHigh
    let s := match bit a.scopes 4, a.hier with
      | true, some h => s.applyHier h tc
      | _, _ => s
    let s := match bit a.scopes 5, a.flts with
      | true, some f => s.updCom (fun m => { m with faults := f })
      | _, _ => s
    let s := match bit a.scopes 6, a.slots with
      | true, some l => s.setRegs (slotCells l)
      | _, _ => s
    match bit a.scopes 7, a.meter with
    | true, some m => s.updCom (fun c => { c with meterNext := some m })
    | _, _ => s) s

/-- Buckets of a group whose maps or members change keep the member port that they have while packets of theirs are queued
or have left within REBIND_IDLE (R412). DESIGN CHOICE: log entry 18. -/
def State.keepBuckets (s : State) (new : Imp) (g : Nat) : State :=
  let s0 := s
  (List.range 128).foldl (fun s i =>
    let c := i / 64
    let b := i % 64
    let k := bucketKey g c b
    let old := s0.boundMember g c b
    let port := if 256 ≤ old then old - 256 else groupMember s0.com.active g old
    let busy := s0.tr.pkts.any (fun p => s0.pktBucket p == some k) || (match Sparse.get? s0.tr.lastBucket k with
      | some t => decide (s0.now < t + 1000 * groupIdle new g)
      | none => false)
    let m := (List.range (groupCount new g)).find? (fun m => groupMember new g m == port)
    let rest := s.tr.buckets.filter (fun e => e.1 != k)
    let keep := match busy, m with
      | true, some m => if m == groupMap new g c b then [] else [(k, m, s0.now)]
      | true, none => [(k, 256 + port, s0.now)]
      | false, _ => []
    { s with tr := { s.tr with buckets := rest ++ keep } }) s

/-- A CXL host port's logical device raises an event record: Add Capacity, or Forced Capacity Release (R524). -/
def State.capacityEvent (s : State) (l : Lease) (add : Bool) : State :=
  match s.hostRec l.host with
  | some r => if r.cxl then s.updLink (fun k => { k with cxlEvents := k.cxlEvents ++ [(l.host, l.handle, add)] }) else s
  | none => s

/-- Leases end at `tc`: sheets RELEASING, sheet-seconds stop, capacity events (R519, R524, R576, R601). -/
def State.endLeases (s : State) (ls : List Lease) (tc : Nat) : State :=
  ls.foldl (fun s l =>
    let s := l.sheets.foldl (fun s n => s.setReg .MEM_SHEET_STATE n 2) s
    let s := s.updPool (fun p => { p with leases := p.leases.map (fun x => if x.handle == l.handle then { x with live := false } else x) })
    (s.endSpan true l.handle tc).capacityEvent l false) s

/-- The record of an imprint in the interval that holds the T_f of its KEY_REVOKE carries REVOKED (R609). -/
def State.markRevoked (s : State) (i t : Nat) : State :=
  let mark := fun l => updRec l (some i) (fun r => { r with revoked := true })
  s.updMet (fun m => if m.start ≤ t then { m with opened := mark m.opened }
    else { m with closing := m.closing.map (fun c => (mark c.1, c.2)) })

/-- BAL_REVOKE_LAST describes a revocation that runs (R595). -/
def State.revokeLast (s : State) (kind : Nat) (v : Revocation) (active : Bool) : State :=
  s.setRegs [(.BAL_REVOKE_LAST_KIND, 0, kind), (.BAL_REVOKE_LAST_ACTIVE, 0, flag active), (.BAL_REVOKE_LAST_IMPRINT, 0, v.imprint),
    (.BAL_REVOKE_LAST_HANDLE, 0, v.handle.getD 0), (.BAL_REVOKE_LAST_DISCARDED, 0, 0), (.BAL_REVOKE_LAST_DURATION, 0, 0)]

/-- A revocation's fence instant is `tc` (R576, R595, R609). -/
def State.fenceKeys (s : State) (f : Revocation → Bool) (tc : Nat) : State :=
  let s := (s.keys.revs.filter f).foldl (fun s r => match r.handle with
    | some _ => s.revokeLast 1 r true
    | none => (s.markRevoked r.imprint tc).revokeLast 2 r true) s
  { s with keys := { s.keys with revs := s.keys.revs.map (fun r => if f r then { r with tf := some tc } else r) } }

/-- What the origin of a commit gets at T_c: a lease is live with its epoch, a released or revoked one ends, configuration
writes complete, or while the management core is away wait for the end of its rebuild (R117, R235, R518, R519, R576). -/
def State.applyOrigin (s : State) (c : Commit) : State :=
  match c.origin with
  | .lease h =>
    let e := s.reg .CMP_EPOCH_EPOCH 0
    match s.pool.leases.find? (fun l => l.handle == h) with
    | some l =>
      let s := l.sheets.foldl (fun s n => s.setReg .MEM_SHEET_STATE n 1) s
      let s := s.updPool (fun p => { p with leases := p.leases.map (fun x => if x.handle == h then { x with live := true, epoch := e, tc := c.tc } else x) })
      ((s.startSpan true l.imprint l.count h c.tc).capacityEvent l true)
    | none => s
  | .release h => ((s.endLeases (s.pool.leases.filter (fun l => l.handle == h)) c.tc)).fenceKeys (fun r => r.handle == some h) c.tc
  | .revoke i => (s.endLeases ((s.leasesOf i).filter (·.live)) c.tc).fenceKeys (fun r => r.imprint == i && r.handle.isNone) c.tc
  | .hierarchy =>
    if s.isl.mgmt.isSome then s.updCom (fun m => { m with owed := m.owed ++ c.writes })
    else c.writes.foldl (fun s w => if w.answer then s.emit (.cfg w.host .sc 0) else s) s
  | _ => s

/-- Every participant makes the confirmed values active together (R104). -/
def State.applyCommit (s : State) (c : Commit) : State :=
  let absent := (maskIslands c.mask).filter (fun i => !(s.running i || s.islState i == 3))
  let s := { s with isl := { s.isl with stale := absent.foldl (fun l i => addTo i l) s.isl.stale } }
  let before := s.com.active
  let s := s.updCom (fun m => { m with old := some (c.tc, m.active, m.hier) })
  let s := s.setRegs [(.CMP_EPOCH_EPOCH, 0, s.reg .CMP_EPOCH_EPOCH 0 + 1), (.CMP_COMMIT_TIME_T_C, 0, c.tc)]
  let s := c.writes.foldl (fun s w => if w.reg = .other 0xFFFF then s else s.setVreg w.host w.target w.reg w.value) s
  let s := s.applyParts c.parts c.tc
  let s := s.applyCells c.cells c.tc
  let act := applyImp before c.imps
  let act := s.withHier act s.com.hier
  let groups := (c.imps.filterMap (fun x => if x.key.typ == 5 then some x.key.index else none)).eraseDups
  let s := groups.foldl (fun s g => s.keepBuckets act g) s
  let covered := coveredBy before c.kills (c.imps.map (·.key))
  let s := s.updCom (fun m => { m with
    active := act, staged := if bit c.mask 0 && c.origin = .command then [] else m.staged,
    parts := (m.parts.map (fun a => if c.origin = .command || c.origin = .arb then { a with scopes := a.scopes - (a.scopes &&& c.mask) } else a)).filter (fun a => a.scopes != 0),
    cur := some { c with phase := .window, covered } })
  let s := if c.origin = .command || c.origin = .arb then
      { s with staged := s.staged.filter (fun e => !(e.1.fld.scope != 0 && bit c.mask e.1.fld.scope)) } else s
  (s.applyOrigin c).pruneRemoved

/-! ### The steps of a commit -/

/-- `s` with the commit in progress changed. -/
def State.updCur (s : State) (f : Commit → Commit) : State := s.updCom (fun m => { m with cur := m.cur.map f })

/-- COMMIT_DELIVERY_ACK: a participant acknowledges the delivery of T_c and the changes; one that is not running takes no
part and is stale (R112, R116). -/
def execCommitDeliveryAck (i : Nat) (s : State) : Res :=
  run (fun s =>
    match s.com.cur with
    | some c =>
      if c.phase = .delivering && c.waitAck.contains i then
        if s.running i then s.updCur (fun c => { c with waitAck := dropFrom i c.waitAck })
        else if s.islState i == 3 then s
        else
          let s := s.updCur (fun c => { c with waitAck := dropFrom i c.waitAck })
          { s with isl := { s.isl with stale := addTo i s.isl.stale } }
      else s
    | none => s) s

/-- COMMIT_REGISTRATION: the registration reaches the Baldon core at device time `t`; later than T_c − 0.5 µs it is refused
and the commit abandoned (R116). -/
def execCommitRegistration (t : Nat) (s : State) : Res :=
  run (fun s =>
    match s.com.cur with
    | some c =>
      if c.phase = .delivering && c.waitAck.isEmpty && s.running 52 then
        let s := s.atDev t
        if s.dev + 500 ≤ c.tc then s.updCur (fun c => { c with phase := .confirmed }) else s.abandonCommit
      else s
    | none => s) s

/-- COMMIT_INSTANT: at T_c a confirmed commit takes effect; one that is not confirmed is abandoned (R104, R116). -/
def execCommitInstant (s : State) : Res :=
  run (fun s =>
    match s.com.cur with
    | some c =>
      match c.phase with
      | .confirmed => let s := s.atDev c.tc
                      s.applyCommit c
      | .delivering => (s.atDev c.tc).abandonCommit
      | _ => s
    | none => s) s

/-- OLD_VALUE_WINDOW_CLOSE: at T_c + 1 µs the old values go, and the quads begin to write the committed entries (R106,
R108). -/
def execOldValueWindowClose (s : State) : Res :=
  run (fun s =>
    match s.com.cur with
    | some c =>
      if c.phase = .window then
        let s := s.atDev (c.tc + 1000)
        let s := { s with tr := { s.tr with policyOld := none } }
        let ph : CommitPhase := if !c.imps.isEmpty || !c.writes.isEmpty || bit c.mask 4 then .writing else if c.kills.isEmpty then .finished else .sweeping
        (s.updCom (fun m => { m with old := none })).updCur (fun c => { c with phase := ph })
      else s
    | none => s) s

/-- Quad `q` writes an item of its replica: an injection armed for `source` at `target` inverts check bits of it (R657). DEDUCED: log entry
14. -/
def State.writeItem (s : State) (source target q : Nat) (k : ImpKey) : State :=
  let w := s.armedWrite [source] target
  if w.1 = 0 then w.2 else w.2.updCom (fun m => { m with flips := m.flips ++ [(q, k, w.1)] })

/-- REPLICA_WRITE_DONE (R108, R657): the items are written; the sweep of the kill marks begins, if there are any. -/
def execReplicaWriteDone (s : State) : Res :=
  run (fun s =>
    match s.com.cur with
    | some c =>
      if c.phase = .writing then
        let s := (c.imps.take 1).foldl (fun s x => (List.range 8).foldl (fun s q => s.writeItem 0x42 q q x.key) s) s
        let s := (c.imps.filter (fun x => x.key.typ == 1)).foldl (fun s x => s.writeItem 0x32 (eImprint (x.val.getD 0)) 0 x.key) s
        s.updCur (fun c => { c with phase := if c.kills.isEmpty then .finished else .sweeping })
      else s
    | none => s) s

/-- KILL_MARK_SWEEP_DONE: every covered entry has VALID 0, and the marks are gone (R109). -/
def execKillMarkSweepDone (s : State) : Res :=
  run (fun s =>
    match s.com.cur with
    | some c =>
      if c.phase = .sweeping then
        let s := s.updCom (fun m => { m with active := m.active.map (fun e => if c.covered.contains e.1 then (e.1, e.2 / 2 * 2) else e) })
        s.updCur (fun c => { c with phase := .finished, covered := [] })
      else s
    | none => s) s

/-- COMMIT_COMPLETE (R110): the command's result is known, and a commit that waits begins. -/
def execCommitComplete (s : State) : Res :=
  run (fun s =>
    match s.com.cur with
    | some c =>
      if c.phase = .finished then
        let s := (s.updCom (fun m => { m with cur := none })).work 52
        let e := s.reg .CMP_EPOCH_EPOCH 0
        let s := match c.origin with
          | .command | .arb => s.finish .commit 0 [c.tc % 2 ^ 32, c.tc / 2 ^ 32, e % 2 ^ 32, e / 2 ^ 32]
          | .lease h =>
            let ep := ((s.pool.leases.find? (fun (l : Lease) => l.handle == h)).map (fun (l : Lease) => l.epoch)).getD 0
            s.finish (.lease h) 0 [h, 0, ep % 2 ^ 32, ep / 2 ^ 32]
          | _ => s
        (s.nextCommit).freePort
      else s
    | none => s) s

end Sys2Proof.Machine
end

