-- ==== Sys2Proof/Machine/SlotPower.lean ====
section
/-! DEFINITION. Slot power: the 32 channels, their breaker and checks, the slot-power interface (15_slot_power.md). -/

namespace Sys2Proof.Machine

/-! ### Profiles (R664 to R670) -/

/-- The values of profile `p` in the order V_NOM, SHUNT, INRUSH_I, FT_I, T_RAMP, T_GATE, PG_PCT, AUTO_EN, T_SETTLE, CAP_WIN,
BRK_I[0..7], BRK_T[0..7]. -/
def State.profNums (s : State) (p : Nat) : List Nat :=
  [Fld.SLT_PROF_V_NOM, .SLT_PROF_SHUNT, .SLT_PROF_INRUSH_I, .SLT_PROF_FT_I, .SLT_PROF_T_RAMP, .SLT_PROF_T_GATE, .SLT_PROF_PG_PCT,
    .SLT_PROF_AUTO_EN, .SLT_PROF_T_SETTLE, .SLT_PROF_CAP_WIN, .SLT_PROF_BRK_I0, .SLT_PROF_BRK_I1, .SLT_PROF_BRK_I2, .SLT_PROF_BRK_I3,
    .SLT_PROF_BRK_I4, .SLT_PROF_BRK_I5, .SLT_PROF_BRK_I6, .SLT_PROF_BRK_I7, .SLT_PROF_BRK_T0, .SLT_PROF_BRK_T1, .SLT_PROF_BRK_T2,
    .SLT_PROF_BRK_T3, .SLT_PROF_BRK_T4, .SLT_PROF_BRK_T5, .SLT_PROF_BRK_T6, .SLT_PROF_BRK_T7].map (fun f => s.reg f p)

/-- V_NOM of the active profile in mV. -/
def Chan.vNom (c : Chan) : Nat := nth c.prof 0
/-- INRUSH_I of the active profile in mA. -/
def Chan.inrush (c : Chan) : Nat := nth c.prof 2
/-- FT_I of the active profile in mA. -/
def Chan.fastI (c : Chan) : Nat := nth c.prof 3
/-- T_RAMP of the active profile in ns. -/
def Chan.tRamp (c : Chan) : Nat := nth c.prof 4 * 1000000
/-- T_GATE of the active profile in ns; 0 stands for 20 units of 100 µs (R697). -/
def Chan.tGate (c : Chan) : Nat := (if nth c.prof 5 = 0 then 20 else nth c.prof 5) * 100000
/-- PG_PCT of the active profile. -/
def Chan.pgPct (c : Chan) : Nat := nth c.prof 6
/-- T_SETTLE of the active profile in ns; 0 stands for 1,000 ms (R697). -/
def Chan.tSettle (c : Chan) : Nat := (if nth c.prof 8 = 0 then 1000 else nth c.prof 8) * 1000000
/-- CAP_WIN of the active profile; one sample without a profile (DESIGN CHOICE, log entry 47). -/
def Chan.capWin (c : Chan) : Nat := max 1 (nth c.prof 9)
/-- BRK_I[j] of the active profile; 0 marks an unused point. -/
def Chan.brkI (c : Chan) (j : Nat) : Nat := nth c.prof (10 + j)
/-- BRK_T[j] of the active profile in samples of 2 µs. -/
def Chan.brkN (c : Chan) (j : Nat) : Nat := nth c.prof (18 + j) / 2

/-- Milliamperes of a current code, rounded down (R665); 0 while no profile is active (R699). -/
def Chan.milliamp (c : Chan) (code : Nat) : Nat :=
  if nth c.prof 1 = 0 then 0 else code % 4096 * 9765625 / (1000 * nth c.prof 1)

/-- Millivolts of a voltage code, rounded down (R664). -/
def millivolt (code : Nat) : Nat := code % 4096 * 125 / 8

/-! ### The interface (R667, R694) -/

/-- The slot-power interface is RUN and its link to the slot-power die works (R694). -/
def State.sltUp (s : State) : Bool := s.running 54 && s.on .SLT_SUMMARY_LINK_OK

/-- Whether a field belongs to the SLT block. -/
def isSlt (f : Fld) : Bool := decide (Fld.SLT_PROF_V_NOM.ctorIdx ≤ f.ctorIdx) && decide (f.ctorIdx ≤ Fld.SLT_CFG_PORT.ctorIdx)

/-- Milliseconds of T_settle that remain (R698). -/
def State.settleLeft (s : State) (k : Nat) : Nat := min 65535 (ceilDiv ((s.ch k).settleAt.getD s.now - s.now) 1000000)

/-- From now on the SLT registers read the last values received (R694). -/
def State.sltFreeze (s : State) : State :=
  match s.isl.sltCopy with
  | some _ => s
  | none =>
    let c := s.regs.filter (fun e => isSlt e.1.fld)
    let c := (List.range 32).foldl (fun c k =>
      rset (rset c .SLT_STATUS_SETTLING k (flag (s.ch k).settleAt.isSome)) .SLT_STATUS_SETTLE_REMAIN k (s.settleLeft k)) c
    { s with isl := { s.isl with sltCopy := some c } }

/-- The SLT registers read live values again. -/
def State.sltThaw (s : State) : State := { s with isl := { s.isl with sltCopy := none } }

/-- A channel's state (R671). -/
def State.chState (s : State) (k : Nat) : Nat := s.reg .SLT_STATUS_STATE k

/-- A gate-on state: RAMP, ENHANCE, ON or STOPPING. -/
def gateOn (st : Nat) : Bool := decide (2 ≤ st) && decide (st ≤ 5)

/-- A channel enters a state now. -/
def State.toCh (s : State) (k st : Nat) : State :=
  (s.setReg .SLT_STATUS_STATE k st).updCh k (fun c => { c with stateAt := s.now })

/-! ### Turn-on (R673, R674) -/

/-- PRESENT of a channel's device port. -/
def State.chPresent (s : State) (k : Nat) : Bool :=
  match s.chanPort k with
  | some p => s.on .TILE_PORT_STATUS_PRESENT p
  | none => false

/-- Every condition of R674. -/
def State.mayTurnOn (s : State) (k : Nat) : Bool :=
  s.chState k == 0 && s.chPresent k && s.on .SLT_CTL_EN k && s.on .SLT_STATUS_EN_PIN k && decide (s.reg .SLT_CFG_PROFILE k < 8) &&
  (s.ch k).settleAt.isNone && s.sltUp && decide (4 ≤ s.phase) && !s.halted

/-- A channel turns on where R674 holds: RAMP, the profile active, the breaker counters cleared (R670, R679). -/
def State.turnOn (s : State) (k : Nat) : State :=
  if s.mayTurnOn k then
    let p := s.reg .SLT_CFG_PROFILE k
    let nums := s.profNums p
    ((s.setReg .SLT_CFG_ACTIVE k p).toCh k 2).updCh k (fun (c : Chan) => { c with
      prof := nums, cnt := List.replicate 8 0, sub := List.replicate 8 0, inrushRef := none, gateSeen := false,
      rampV := none, vgsLow := none, fetAt := none })
  else s

/-- Every channel turns on where R674 holds. -/
def State.turnOnAll (s : State) : State := (List.range 32).foldl (fun s k => s.turnOn k) s

/-- EN of every channel whose profile has AUTO_EN; no latch clears (R692). -/
def State.autoEn (s : State) : State :=
  (List.range 32).foldl (fun s k =>
    let p := s.reg .SLT_CFG_PROFILE k
    if p < 8 && s.on .SLT_PROF_AUTO_EN p then s.setReg .SLT_CTL_EN k 1 else s) s

/-- Debounce starts: 100 ms from now (R673); a channel that is LATCHED stays so (R691). DEDUCED: log entry 166. -/
def State.debounce (s : State) (k : Nat) : State :=
  (if s.chState k = 7 then s else s.toCh k 1).updCh k (fun (c : Chan) => { c with debounceAt := some (s.now + 100000000) })

/-- What a channel does when T_settle has ended: DEBOUNCE while presence is recognised, otherwise OFF (R675). The reference
of R684 starts afresh. -/
def State.afterSettle (s : State) (k : Nat) : State :=
  let s := s.updCh k (fun c => { c with lowV := none, fetAt := none })
  if s.on .SLT_STATUS_PRSNT k then s.debounce k else s.toCh k 0

/-! ### Turning off (R680, R689) -/

/-- The gate is pulled down from a gate-on state: T_settle starts, SLOT_PERST_N goes low (R680, R689). -/
def State.pullDown (s : State) (k : Nat) : State :=
  (s.setReg .SLT_STATUS_PERST k 1).updCh k (fun (c : Chan) => { c with
    settleAt := some (s.now + c.tSettle), lowV := none, fetAt := none, vgsLow := none, inrushRef := none })

/-- A commanded turn-off: ON goes to STOPPING, RAMP and ENHANCE to SETTLE (R675, R693). -/
def State.turnOff (s : State) (k : Nat) : State :=
  match s.chState k with
  | 4 => (s.toCh k 5).setReg .SLT_STATUS_PERST k 1
  | 2 => (s.toCh k 6).pullDown k
  | 3 => (s.toCh k 6).pullDown k
  | _ => s

/-- Fault source of a cause: SLOT_TRIP, INRUSH_SHORT, GATE_STUCK or FET_SHORT (R687). -/
def slotSource (cause : Nat) : Nat :=
  match cause with
  | 3 => 0x1A
  | 4 => 0x19
  | 5 => 0x12
  | _ => 0x18

/-- Kind and scope of a channel's latch report: FET_SHORT names the channel, the others its device port (R687). -/
def State.slotScope (s : State) (k cause : Nat) : Nat × Nat :=
  if cause = 5 then (0, k)
  else match s.chanPort k with
    | some p => (1, p)
    | none => (0, k)

/-- The interface reports a channel's latch, or leaves it to be reported under R695. -/
def State.reportLatch (s : State) (k cause : Nat) : State :=
  let (kind, scope) := s.slotScope k cause
  if s.sltUp then s.causeOn (slotSource cause) kind scope
  else s.updCh k (fun c => { c with missed := c.missed ++ [cause] })

/-- The cause of a channel's latch ends (R687). -/
def State.latchOff (s : State) (k : Nat) : State :=
  let cause := s.reg .SLT_STATUS_CAUSE k
  s.causeOff (slotSource cause) (s.slotScope k cause).2

/-- A latching fault: the gate is pulled down from a gate-on state, the cause recorded, the latch counted and reported
(R680, R685, R687). -/
def State.latch (s : State) (k cause point : Nat) : State :=
  let st := s.chState k
  let s := if st = 7 then s.latchOff k else s
  let s := s.toCh k 7
  let s := if gateOn st then (s.tally 54 0x70).pullDown k else s
  let s := (s.setRegs [(.SLT_STATUS_CAUSE, k, cause), (.SLT_STATUS_BRK_POINT, k, point), (.SLT_STATUS_PERST, k, 1),
    (.SLT_STATUS_CLR_ARMED, k, 0)]).bump .SLT_GEN_LATCHES k
  let s := s.updCh k (fun c => { c with enLow := false, pinLow := false, fetAt := none })
  s.reportLatch k cause

/-- A latch clears: its cause ends, and the channel goes to SETTLE while T_settle runs, otherwise as SETTLE does at its end
(R675, R686, R687). -/
def State.clearLatch (s : State) (k : Nat) : State :=
  let s := (s.latchOff k).setReg .SLT_STATUS_CLR_ARMED k 0
  let s := s.updCh k (fun c => { c with enLow := false, pinLow := false, debounceAt := none })
  if (s.ch k).settleAt.isSome then s.toCh k 6 else (s.toCh k 0).afterSettle k

/-! ### Pins (R672, R673, R690, R691) -/

/-- INSERTION_RECOGNISED (R672, R673, R690). -/
def execInsertionRecognised (k : Nat) (s : State) : Res :=
  run (fun s =>
    if k < 32 && !s.on .SLT_STATUS_PRSNT k then
      let s := s.setRegs [(.SLT_STATUS_PRSNT, k, 1), (.SLT_GEN_GEN, k, s.reg .SLT_GEN_GEN k + 1)]
      if (s.ch k).settleAt.isSome then s.setReg .SLT_STATUS_EARLY_INS k 1 else s.debounce k
    else s) s

/-- REMOVAL_RECOGNISED (R672, R673, R675, R680, R691): PRESENT goes to 0, a powered channel to SETTLE, the device port down;
presence goes away at its virtual ports (R274). DEDUCED: log entry 32. -/
def execRemovalRecognised (k : Nat) (s : State) : Res :=
  run (fun s =>
    if k < 32 && s.on .SLT_STATUS_PRSNT k then
      let st := s.chState k
      let s := (s.setReg .SLT_STATUS_PRSNT k 0).updCh k (fun c => { c with debounceAt := none })
      let s := if gateOn st then (s.toCh k 6).pullDown k else if st = 1 then s.toCh k 0 else s
      match s.chanPort k with
      | some p =>
        let was := s.on .TILE_PORT_STATUS_PRESENT p
        let s := State.hotplug (fun s => ((s.setReg .TILE_PORT_STATUS_PRESENT p 0).deviceDown p).updLink (fun l =>
          { l with devices := l.devices.filter (fun d => d.port != p) })) s
        if was then s.report 0x54 0 p else s
      | none => s
    else s) s

/-- SLOT_EN_ASSERT (R672, R674, R686). -/
def execSlotEnAssert (k : Nat) (s : State) : Res :=
  run (fun s =>
    if k < 32 && !s.on .SLT_STATUS_EN_PIN k then
      let s := s.setReg .SLT_STATUS_EN_PIN k 1
      if s.chState k == 7 && (s.ch k).pinLow then s.clearLatch k else s.turnOn k
    else s) s

/-- SLOT_EN_DEASSERT (R672, R675, R686). -/
def execSlotEnDeassert (k : Nat) (s : State) : Res :=
  run (fun s =>
    if k < 32 && s.on .SLT_STATUS_EN_PIN k then
      let s := s.setReg .SLT_STATUS_EN_PIN k 0
      if s.chState k == 7 then (s.updCh k (fun c => { c with pinLow := true })).setReg .SLT_STATUS_CLR_ARMED k 1
      else s.turnOff k
    else s) s

/-- DEBOUNCE_END (R673 to R675): 100 ms after its start PRESENT becomes 1 and the channel may turn on. -/
def execDebounceEnd (k : Nat) (s : State) : Res :=
  run (fun s =>
    match (s.ch k).debounceAt with
    | some t =>
      if k < 32 && s.sltUp then
        let s := (s.atNow t).updCh k (fun c => { c with debounceAt := none })
        let s := if s.chState k = 1 then s.toCh k 0 else s
        let s := match s.chanPort k with
          | some p => s.setReg .TILE_PORT_STATUS_PRESENT p 1
          | none => s
        s.turnOn k
      else s
    | none => s) s

/-- SLOT_POWER_GOOD (R675): RAMP to ENHANCE. -/
def execSlotPowerGood (k : Nat) (s : State) : Res :=
  run (fun s =>
    if k < 32 && s.chState k == 2 then
      (s.toCh k 3).updCh k (fun c => { c with gateSeen := false, inrushRef := none })
    else s) s

/-- GATE_ENHANCED (R675): ENHANCE to ON. -/
def execGateEnhanced (k : Nat) (s : State) : Res :=
  run (fun s =>
    if k < 32 && s.chState k == 3 then (s.toCh k 4).updCh k (fun c => { c with gateSeen := true, vgsLow := none }) else s) s

/-- STOPPING_END (R675, R689): 500 µs after entry the gate is pulled down. -/
def execStoppingEnd (k : Nat) (s : State) : Res :=
  run (fun s =>
    if k < 32 && s.chState k == 5 then (((s.atNow ((s.ch k).stateAt + 500000)).toCh k 6).pullDown k) else s) s

/-- SETTLE_END (R675, R689): T_settle ends. -/
def execSettleEnd (k : Nat) (s : State) : Res :=
  run (fun s =>
    match (s.ch k).settleAt with
    | some t =>
      let s := (s.atNow t).updCh k (fun c => { c with settleAt := none })
      if s.chState k == 6 then s.afterSettle k else if s.on .SLT_STATUS_PRSNT k then s.debounce k else s
    | none => s) s

/-! ### Samples (R676 to R684, R699) -/

/-- Breaker counters after a sample at `i` mA: c[j] rises at or above its point, and falls by one at every fourth sample
below it (R679). -/
def Chan.breaker (c : Chan) (i : Nat) : Chan :=
  (List.range 8).foldl (fun c j =>
    if c.brkI j = 0 then c
    else if c.brkI j ≤ i then { c with cnt := c.cnt.set j (nth c.cnt j + 1) }
    else if nth c.sub j + 1 = 4 then { c with sub := c.sub.set j 0, cnt := c.cnt.set j (nth c.cnt j - 1) }
    else { c with sub := c.sub.set j (nth c.sub j + 1) }) c

/-- The highest breaker point that trips (R679). -/
def Chan.tripped (c : Chan) : Option Nat :=
  ((List.range 8).filter (fun j => c.brkI j != 0 && decide (c.brkN j ≤ nth c.cnt j))).getLast?

/-- The capture window after a sample, and the window's averages when it is complete (R699). -/
def Chan.window (c : Chan) (i v : Nat) : Chan × Option (Nat × Nat) :=
  let n := c.capN + 1
  if c.capWin ≤ n then ({ c with capI := 0, capV := 0, capN := 0 }, some ((c.capI + i) / n, (c.capV + v) / n))
  else ({ c with capI := c.capI + i, capV := c.capV + v, capN := n }, none)

/-- The inrush check's span after a sample at `t`: none while the current is below 90 % of INRUSH_I; whether the span of
T_RAMP / 16 ends without a rise of V_NOM / 64 (R676, DESIGN CHOICE, log entry 48). -/
def Chan.inrushCheck (c : Chan) (i v t : Nat) : Option (Nat × Nat) × Bool :=
  if 10 * i < 9 * c.inrush then (none, false)
  else match c.inrushRef with
    | none => (some (t, v), false)
    | some (t0, v0) =>
      if c.tRamp ≤ 16 * (t - t0) then (some (t, v), decide (64 * v < 64 * v0 + c.vNom)) else (some (t0, v0), false)

/-- FET_SHORT's level is passed (R684). -/
def Chan.fetHigh (c : Chan) (v : Nat) : Bool :=
  match c.lowV with
  | some l => decide (l + max 1000 (c.vNom / 10) < v)
  | none => false

/-- A sample of a channel whose gate is off: FET_SHORT's reference and its 1 ms (R684); the channel and whether it
latches. -/
def Chan.offSample (c : Chan) (v t : Nat) : Chan × Bool :=
  if c.fetHigh v then
    match c.fetAt with
    | none => ({ c with fetAt := some t }, false)
    | some t0 => (c, decide (t0 + 1000000 ≤ t))
  else
    let l := match c.lowV with
      | some l => min l v
      | none => v
    ({ c with lowV := some l, fetAt := none }, false)

/-- A sample of a channel in a gate-on state `st`: the channel's checks and counters, and the cause and point that latch, by
the order of R688. -/
def Chan.onSample (c : Chan) (st i v t : Nat) (vgs : Bool) : Chan × Option (Nat × Nat) :=
  let c := c.breaker i
  let rampV := c.rampV.getD v
  let seen := c.gateSeen || vgs || (st == 2 && (decide (c.inrush ≤ 2 * i) || decide (20 * rampV + c.vNom ≤ 20 * v)))
  let (ref, short) := if st == 2 then c.inrushCheck i v t else (none, false)
  let low := if vgs then none else some (c.vgsLow.getD t)
  let c := { c with rampV := some rampV, gateSeen := seen, inrushRef := ref, vgsLow := if st == 2 || st == 3 then none else low }
  let late := decide (c.stateAt + c.tGate ≤ t)
  let stuck := if st == 2 || st == 3 then late && !seen
    else match low with
      | some t0 => decide (t0 + c.tGate ≤ t)
      | none => false
  let slow := st == 2 && decide (c.stateAt + c.tRamp ≤ t) && decide (100 * v < c.pgPct * c.vNom)
  let fast := decide (c.fastI ≤ i)
  let out :=
    if stuck then some (4, 0)
    else if st == 2 && (fast || short || slow) then some (3, 0)
    else if fast then some (1, 0)
    else c.tripped.map (fun j => (2, j))
  (c, out)

/-- A window's current as a field of 16 bits shows it; beyond 65,535 mA its value is free (DESIGN CHOICE, log entry 165). -/
def shownMilliamp (i : Nat) : Nat := if i < 65536 then i else (Config.currentOver i).toNat

/-- A sample's readings kept by the interface (R699). -/
def State.capture (s : State) (k : Nat) (w : Option (Nat × Nat)) : State :=
  match w with
  | some (i, v) => s.setRegs [(.SLT_MEAS_I, k, shownMilliamp i), (.SLT_MEAS_V, k, v),
      (.SLT_CAPTURE_IPEAK, k, max (shownMilliamp i) (s.reg .SLT_CAPTURE_IPEAK k)),
      (.SLT_CAPTURE_VMIN, k, min v (s.reg .SLT_CAPTURE_VMIN k))]
  | none => s

/-- SLOT_SAMPLE: every 2 µs a channel's current and voltage are sampled (R664); its breaker counters and its checks follow,
and a latching fault goes before everything else (R688). -/
def execSlotSample (k iCode vCode : Nat) (vgs : Bool) (s : State) : Res :=
  run (fun s =>
    if k < 32 then
      let s := s.atNow ((s.ch k).sampleAt + 2000)
      let c := { s.ch k with sampleAt := s.now }
      let i := c.milliamp iCode
      let v := millivolt vCode
      let (c, w) := c.window i v
      let st := s.chState k
      let s := s.capture k w
      if gateOn st then
        let (c, out) := c.onSample st i v s.now vgs
        let s := s.updCh k (fun _ => c)
        match out with
        | some (cause, point) => s.latch k cause point
        | none => s
      else
        let (c, short) := c.offSample v s.now
        let s := s.updCh k (fun _ => c)
        if short && !(st == 7 && s.reg .SLT_STATUS_CAUSE k == 5) then s.latch k 5 0 else s
    else s) s

/-- FAST_TRIP: the shunt current crosses FT_I (R664, R676, R678). -/
def execFastTrip (k : Nat) (s : State) : Res :=
  run (fun s =>
    if k < 32 && gateOn (s.chState k) then s.latch k (if s.chState k == 2 then 3 else 1) 0 else s) s

/-! ### Commands and the link (R685, R686, R692 to R695) -/

/-- A write to a register of the slot-power interface that is dropped: one to an island that is OFF or LOST is counted (R49, R67, R73, R694). -/
def State.sltDrop (s : State) : State := if s.regOpen 54 then s else s.bump .SUP_XING_DROP_COUNT 0

/-- A write to SLT_CTL.EN, dropped while the interface is away (R675, R686, R694). -/
def State.sltEn (s : State) (k en : Nat) : State :=
  if s.sltUp then
    let s := s.setReg .SLT_CTL_EN k en
    if en % 2 = 0 then
      (if s.chState k == 7 then (s.updCh k (fun c => { c with enLow := true })).setReg .SLT_STATUS_CLR_ARMED k 1 else s.turnOff k)
    else if s.chState k == 7 then (if (s.ch k).enLow then s.clearLatch k else s)
    else s.turnOn k
  else s.sltDrop

/-- SLT_CTL_WRITE; from a host port that is not OPERATOR it is dropped (R696). -/
def execSltCtlWrite (h k en : Nat) (s : State) : Res := run (fun s => if k < 32 && s.operator h then s.sltEn k en else s) s

/-- SLOT_PERST_RELEASE: after 100 ms in ON, with the port uncontained and training, SLOT_PERST_N goes high (R693). The
release begins the port's training where it may train. -/
def execSlotPerstRelease (k : Nat) (s : State) : Res :=
  run (fun s =>
    match s.chanPort k with
    | some p =>
      if k < 32 && s.chState k == 4 then
        let s := s.atNow ((s.ch k).stateAt + 100000000)
        let s := if s.on .TILE_PORT_STATUS_LINK_UP p then s else s.startTrain p
        s.perstRule p
      else s
    | none => s) s

/-- SLOT_LINK_FAIL: the link to the slot-power die is lost; channels hold their state (R15, R694). -/
def execSlotLinkFail (s : State) : Res :=
  run (fun s =>
    if s.on .SLT_SUMMARY_LINK_OK then ((s.sltFreeze).setReg .SLT_SUMMARY_LINK_OK 0 0).causeOn 0x0F 0 0 else s) s

/-- Latches that occurred while the interface was away are reported; a latch that still holds is a cause again (R687,
R695). -/
def State.reportMissed (s : State) : State :=
  (List.range 32).foldl (fun s k =>
    let c := s.ch k
    let cause := s.reg .SLT_STATUS_CAUSE k
    let (kind, scope) := s.slotScope k cause
    let r : Report := { source := slotSource cause, kind, scope }
    let s := if s.chState k == 7 && !s.flt.causes.contains r then { s with flt := { s.flt with causes := s.flt.causes ++ [r] } } else s
    (c.missed.foldl (fun s m => s.report (slotSource m) (s.slotScope k m).1 (s.slotScope k m).2) s).updCh k (fun c => { c with missed := [] })) s

/-- Debounce restarts where presence is recognised, T_settle has ended and PRESENT is 0 (R695). -/
def State.restartDebounce (s : State) : State :=
  (List.range 32).foldl (fun s k =>
    if s.on .SLT_STATUS_PRSNT k && (s.ch k).settleAt.isNone && !s.chPresent k then s.debounce k else s) s

/-- SLOT_LINK_RESTORED: the cause ends, and turn-ons are allowed again (R694). -/
def execSlotLinkRestored (s : State) : Res :=
  run (fun s =>
    if s.on .SLT_SUMMARY_LINK_OK then s
    else
      let s := (s.setReg .SLT_SUMMARY_LINK_OK 0 1).causeOff 0x0F 0
      if s.running 54 then ((s.sltThaw).reportMissed).turnOnAll else s) s

/-- SLOT_INTERFACE_RESYNC: the interface is RUN again and reads every channel's state (R695). -/
def execSlotInterfaceResync (s : State) : Res :=
  run (fun s =>
    if s.running 54 then
      let s := s.setReg .SLT_SUMMARY_LINK_OK 0 (if s.flt.causes.any (fun c => c.source == 0x0F) then 0 else 1)
      if s.sltUp then (((s.sltThaw).reportMissed).restartDebounce).turnOnAll else s
    else s) s

/-- VBCD_RISE: the slot-power die starts: EN 0, the insertion count afresh, every channel OFF without presence (R692,
R699). DEDUCED: log entry 58. -/
def execVbcdRise (s : State) : Res :=
  run (fun s =>
    let s := (List.range 32).foldl (fun s k =>
      let s := if s.chState k == 7 then s.latchOff k else s
      let s := s.setRegs [(.SLT_CTL_EN, k, 0), (.SLT_STATUS_STATE, k, 0), (.SLT_STATUS_CAUSE, k, 0), (.SLT_STATUS_BRK_POINT, k, 0),
        (.SLT_STATUS_PRSNT, k, 0), (.SLT_STATUS_EN_PIN, k, 0), (.SLT_STATUS_EARLY_INS, k, 0), (.SLT_STATUS_CLR_ARMED, k, 0),
        (.SLT_STATUS_PERST, k, 1), (.SLT_CFG_ACTIVE, k, 15), (.SLT_GEN_GEN, k, 0), (.SLT_GEN_LATCHES, k, 0), (.SLT_MEAS_I, k, 0),
        (.SLT_MEAS_V, k, 0), (.SLT_CAPTURE_IPEAK, k, 0), (.SLT_CAPTURE_VMIN, k, 0xFFFF)]
      match s.chanPort k with
      | some p => if s.on .TILE_PORT_STATUS_PRESENT p then
          State.hotplug (fun s => ((s.setReg .TILE_PORT_STATUS_PRESENT p 0).deviceDown p).updLink (fun l =>
            { l with devices := l.devices.filter (fun d => d.port != p) })) s else s
      | none => s) s
    { s with chan := [] }) s

end Sys2Proof.Machine
end

