-- ==== Sys2Proof/Machine/Readout.lean ====
section
/-! DEFINITION. What a read of a register shows: the register file, the fields that the manual derives from other state,
and the bits that an agent sees of its own. -/

namespace Sys2Proof.Machine

/-- Milliseconds since the current attempt began, held at 0xFFFF (R147). -/
def State.elapsed (s : State) : Nat := min 65535 ((s.now - s.boot.attemptAt) / 1000000)

/-- Sheets of the pool in a state. -/
def State.sheetsIn (s : State) (st : Nat) : Nat := ((List.range 1024).filter (fun n => s.reg .MEM_SHEET_STATE n == st)).length

/-- Channels of the slot-power die in a state, as a mask. -/
def State.chanMask (s : State) (st : Nat) : Nat := (List.range 32).foldl (fun m k => if s.chState k == st then m + 2 ^ k else m) 0

/-- IMP_DRAIN_EPOCH (R391): the lowest epoch of a classified request that has neither left an egress tile nor entered a
memory cipher island, or the current epoch. -/
def State.drainEpoch (s : State) : Nat := (s.tr.pkts.filter (fun p => p.imprint.isSome && decide (p.cls ≠ .completion) && decide (p.place ≠ .cipher))).foldl (fun e p => min e p.epoch) (s.reg .CMP_EPOCH_EPOCH 0)

/-- A whole number as the two's complement of 32 bits. -/
def twos32 (v : Int) : Nat := (v % (2 ^ 32 : Int)).toNat

/-- What host `k` reads in field `f` at instance `i`: the value that the manual derives, or the register file's; the
SLT block's last values while its interface cannot give new ones (R694). What P3 loads reads 0 until P3 is over (R10). -/
def State.shown (s : State) (k : Nat) (f : Fld) (i : Nat) : Nat :=
  let lease := fun (g : Lease → Nat) => if [1, 2].contains (s.reg .MEM_SHEET_STATE i) then ((s.leaseOf i).map g).getD 0 else 0
  let copy := s.isl.sltCopy
  let s : State := match copy with
    | some c => if isSlt f && f != Fld.SLT_SUMMARY_LINK_OK && f != Fld.SLT_CFG_PORT then { s with regs := c } else s
    | none => s
  match f with
  | .SUP_COL_REV_GRADE => flag s.part.gradeIA
  | .SUP_COL_PROGRESS_ELAPSED => s.elapsed
  | .SUP_DOM_STATUS_ISLAND => domIsland i
  | .CMP_LOCK_MINE => flag (s.holdsLock k)
  | .CMP_STAGE_STATUS_STAGED => s.stagedMask
  | .CMP_STAGE_STATUS_STALE => s.staleMask
  | .CMP_STAGE_STATUS_IMP_COUNT => impCount s.com.staged
  | .CMP_STAGE_STATUS_COMMIT_PEND => flag s.com.cur.isSome
  | .CMP_DMA_STATUS_OUTSTANDING => (s.link.dma.filter (fun t => t.host == i && !t.quarantined)).length
  | .CMP_DMA_STATUS_QUARANTINED => (s.link.dma.filter (fun t => t.host == i && t.quarantined)).length
  | .FLT_STATUS_ALERT => flag s.alert
  | .FLT_STATUS_PEND => (List.range 5).foldl (fun m n => if s.pendSev n then m + 2 ^ n else m) 0
  | .FLT_STATUS_ESC_USED => ((List.range 256).filter s.escOn).length
  | .FLT_CAUSE_ACTIVE => flag (s.active i)
  | .FLT_CAUSE_SEVERITY => s.causeSev i
  | .FLT_CAUSE_ESC_RUN => flag ((List.range 256).any (fun e => s.escOn e && s.reg .FLT_ESC_SOURCE e == i))
  | .FLT_ESC_REMAIN => min (2 ^ 32 - 1) (((Sparse.get? s.flt.expiry i).getD s.now - s.now) / 1000)
  | .SLT_SUMMARY_RAMPING => popCount 32 (s.chanMask 2)
  | .SLT_ON_MASK_ON => s.chanMask 4
  | .SLT_LATCH_MASK_LATCHED => s.chanMask 7
  | .SLT_STATUS_SETTLING => if copy.isSome then s.reg .SLT_STATUS_SETTLING i else flag (s.ch i).settleAt.isSome
  | .SLT_STATUS_SETTLE_REMAIN => if copy.isSome then s.reg .SLT_STATUS_SETTLE_REMAIN i else s.settleLeft i
  | .SLT_CFG_PORT => (s.chanPort i).getD 0
  | .MET_STATUS_PENDING => s.met.batches.length
  | .IMP_DRAIN_EPOCH_EPOCH => s.drainEpoch
  | .IMP_USAGE_ENTRIES => (s.com.active.filter (fun e => e.1.typ == 1 && decide (e.1.index < 0xEFC00) && eValid e.2)).length
  | .IMP_Q_SEAL_LOCKS => s.rmws i
  | .BAL_STATUS_FACTORY_TEST => flag s.part.factoryTest
  | .BAL_STATUS_SIGNER_REVOKED => s.part.signerRevoked
  | .BAL_STATUS_REPORT_QUEUE => s.keys.reports.length
  | .BAL_KEY_SLOT_LEASES => ((s.leasesOf i).filter (fun l => l.tc != 0)).length
  | .MEM_POOL_STATUS_FREE => if s.phase < 4 then 0 else s.sheetsIn 0
  | .MEM_POOL_STATUS_LEASED => s.sheetsIn 1
  | .MEM_POOL_STATUS_GALLEY_SHEETS => s.galleySheets
  | .MEM_POOL_STATUS_INTERLEAVE => flag s.way1
  | .MEM_STK_STATUS_OUTSTANDING => s.stackBusy i
  | .MEM_STK_SPARE_TOTAL => if s.phase < 4 then 0 else s.part.spareTotal
  | .MEM_SHEET_IMPRINT => lease (·.imprint)
  | .MEM_SHEET_HOST_INDEX => lease (·.host)
  | .MEM_SHEET_SLOT => lease (fun l => l.slot + (l.sheets.idxOf i))
  | .MEM_SHEET_LEASE => lease (·.handle)
  | .MEM_SHEET_READ_ONLY => lease (fun l => flag l.readOnly)
  | .QD_BUF_STATUS_SHARED_FREE => if s.phase < 4 then 0 else s.sharedFree i
  | .QD_BUF_STATUS_SPILLING => min 0x3FFF (s.tr.queues.filter (fun e => e.1.quad == i && e.2.spill)).length
  | .QD_GALLEY_STATUS_PAGES_FREE => s.quadPages - (s.pagesUsed i).length
  | .SHP_SUB_TOKENS_TOKENS => twos32 ((s.bucket (.sub i)).fdiv 1024)
  | .SHP_SVC_TOKENS_TOKENS => twos32 ((s.bucket (.svc i)).fdiv 1024)
  | .SHP_PORT_TOKENS_TOKENS => twos32 ((s.bucket (.port i)).fdiv 1024)
  | .TILE_PORT_STATUS_CONTAINED => flag (s.role i == 2 && s.reg .FLT_PORT_STATE i == 1)
  | .TILE_DL_VC_AVAIL_HDR =>
    let d := s.dlink (4 * (i / 16))
    (nth d.limHdr (i % 16) + 4096 - nth d.consHdr (i % 16)) % 4096
  | .TILE_DL_VC_AVAIL_DATA =>
    let d := s.dlink (4 * (i / 16))
    (nth d.limData (i % 16) + 4096 - nth d.consData (i % 16)) % 4096
  | .TILE_LANE_EQ_LOCKED => flag (((s.lanePort i).bind s.slotRec).elim false (·.eqLock))
  | .PMC_SAMP_STATUS_COUNT => s.met.samples.length
  | f => match f.acc with
    | .wo => 0
    | .sh => s.stagedReg f i
    | _ => s.reg f i

/-- The value of a register at an instance, as host `k` reads it. -/
def State.readReg (s : State) (k : Nat) (r : RegAt) (i : Nat) : Nat :=
  r.fields.foldl (fun v e => v + s.shown k e.fld i % 2 ^ e.fld.width * 2 ^ e.lo) 0

/-- A 32-bit word of BAR0 from the register map; zero where it has no register (R701). -/
def State.readWord (s : State) (k a : Nat) : Nat :=
  match regAt (a / 4 * 4) with
  | some (r, i, b) =>
    let i := if r.perEndpoint then (if r.dims.isEmpty then k else k * (r.dims.foldl (fun n d => n * d.1) 1) + i) else i
    s.readReg k r i / 2 ^ (8 * b) % 2 ^ 32
  | none => 0

end Sys2Proof.Machine
end

