-- ==== Sys2Proof/Machine/Keys.lean ====
section
/-! DEFINITION. The Baldon core: key stores, revocation and key destruction, the random generator, attestation
(12_owner_encryption.md). -/

namespace Sys2Proof.Machine

/-- `s` with its key part changed. -/
def State.updKeys (s : State) (f : Keys → Keys) : State := { s with keys := f s.keys }

/-! ### Slots and stores (R554 to R575) -/

/-- The key check value of an owner key in slot `i`, its first 32 bytes as a number (R566). -/
def keyCheck (i key : Nat) : Nat := Config.digest (ascii "HLD-KCV" ++ bytesOf 2 i ++ bytesOf 32 key) % 2 ^ 256

/-- The generation after `g` (R555). -/
def nextGen (g : Nat) : Nat := if (g + 1) % 256 = 0 then 1 else (g + 1) % 256

/-- The imprint and generation that a reference of an owner key names. -/
def ownerRef : KeyRef → Option (Nat × Nat)
  | .seal i g => some (i, g)
  | .galley i g => some (i, g)
  | _ => none

/-- Slot `i` becomes ACTIVE with a key at the next generation (R555, R565, R566); its derived keys are new ones (R567). -/
def State.makeKey (s : State) (i source key : Nat) : State :=
  let g := nextGen (s.reg .BAL_KEY_SLOT_GEN i)
  let s := s.setRegs [(.BAL_KEY_SLOT_STATE, i, 1), (.BAL_KEY_SLOT_SOURCE, i, source), (.BAL_KEY_SLOT_GEN, i, g),
    (.BAL_KEY_SLOT_KCV, i, keyCheck i key % 2 ^ 32)]
  s.updKeys (fun k => { k with
    owner := Sparse.set id k.owner i key, since := Sparse.set id k.since i s.time, dead := k.dead.filter (fun r => ownerRef r != some (i, g)) })

/-- Slot `i` becomes EMPTY, its key overwritten (R559, R581). -/
def State.emptySlot (s : State) (i : Nat) : State :=
  let s := s.setRegs [(.BAL_KEY_SLOT_STATE, i, 0), (.BAL_KEY_SLOT_KCV, i, 0)]
  s.updKeys (fun k => { k with owner := Sparse.erase k.owner i, since := Sparse.erase k.since i })

/-- Whether the Baldon core can draw random values (R551). -/
def State.rngOk (s : State) : Bool := s.on .BAL_STATUS_RNG_OK

/-- Slot `i` is filled with a random key (R559). -/
def State.randomKey (s : State) (i : Nat) : State :=
  let v := (s.draw).1
  let s := (s.draw).2
  s.makeKey i 0 v

/-- A key reference that exists (R573, R580). -/
def State.liveKey (s : State) (r : KeyRef) : Bool :=
  !s.keys.dead.contains r &&
  (match r with
    | .sheet _ _ _ _ => s.pool.leases.any (fun l => decide (l.key = r))
    | .seal i g => s.reg .BAL_KEY_SLOT_STATE i != 0 && s.reg .BAL_KEY_SLOT_GEN i == g
    | .galley i g => s.reg .BAL_KEY_SLOT_STATE i != 0 && s.reg .BAL_KEY_SLOT_GEN i == g
    | .transit => true)

/-- Whether the key store of island `n` holds an entry: the Baldon core has delivered every key that the island needs while
it is RUN or STOPPED (R573, R575). DESIGN CHOICE: log entry 60. -/
def State.storeHas (s : State) (n : Nat) (r : KeyRef) : Bool :=
  (s.running n || s.islState n == 3) && s.liveKey r &&
  (match r with
    | .seal _ _ => decide (32 ≤ n) && decide (n ≤ 39)
    | _ => decide (46 ≤ n) && decide (n ≤ 49))

/-- KEYSTORE_ECC (R574): the island reports the error and asks for the entry again; what needs it waits. -/
def execKeystoreEcc (n : Nat) (r : KeyRef) (_correctable : Bool) (s : State) : Res :=
  run (fun s =>
    if s.storeHas n r then s.askKey n r else s) s

/-- The Baldon core has delivered an entry of a key store again (R574). -/
def State.redelivered (s : State) (n : Nat) (r : KeyRef) : State :=
  (s.writeKey n r).updKeys (fun k => { k with redeliver := k.redeliver.filter (fun e => e != (n, r)) })

/-! ### Revocation (R576 to R582, R781) -/

/-- Whether a packet was classified with a reference and has not passed its cipher stage. -/
def State.pktHolds (s : State) (r : KeyRef) (p : Pkt) : Bool :=
  !p.dead &&
  (match r with
    | .sheet h _ _ g => p.kind == 3 && decide (p.cls ≠ .completion) && p.gen == g && ((s.leaseOf p.destB).map (·.handle)) == some h
    | .seal i g => p.sealedReq && p.imprint == some i && p.gen == g
    | .galley _ _ => decide (p.place = .galley) && decide (p.key = r)
    | .transit => false)

/-- Whether a sealed read that was sent to its device still waits for its last decryption. -/
def outHolds (r : KeyRef) (o : OutReq) : Bool :=
  match r with
  | .seal i g => o.sealed && decide (o.kind = .read) && o.sent && o.imprint == some i && o.gen == g
  | _ => false

/-- Whether a packet stands in an island that is fenced or LOST, where no holder is counted (R578). -/
def State.outOfReach (s : State) (p : Pkt) : Bool :=
  [4, 5].contains (s.islState (match p.place with
    | .cipher => p.dest - 82
    | .spine => 40 + p.route / 4
    | _ => 32 + p.q.quad))

/-- The packets that hold a reference (R578). -/
def State.pktHolders (s : State) (r : KeyRef) : List Pkt := s.tr.pkts.filter (fun p => s.pktHolds r p && !s.outOfReach p)

/-- Holders of a reference (R578). -/
def State.holders (s : State) (r : KeyRef) : Nat :=
  (s.pktHolders r).length + (s.tr.outs.filter (outHolds r)).length

/-- A packet that holds one of `refs` is discarded (R579). -/
def State.discardHolder (s : State) (refs : List KeyRef) (p : Pkt) : State :=
  let s := s.bump .BAL_REVOKE_LAST_DISCARDED 0
  if p.place = .galley && refs.contains p.key then
    let s := ((s.updPkt p.id (fun x => { x with dead := true })).countDrop p).outcome p 3 0
    match p.outId.bind s.outReq with
    | some o => if p.cls = .nonposted then s.outFail o .ur else s
    | none => s
  else
    let s := s.updPool (fun m => { m with rmw := m.rmw.filter (fun e => e.1 != p.id) })
    let s := s.setSeals (s.tr.seals.filter (fun x => x.pkt != p.id))
    (s.discard p (fun s o => s.outFail o .ur)).settleQueue p.q

/-- A sealed read whose completion is still to come is answered and retired (R579). -/
def State.discardOut (s : State) (o : OutReq) : State :=
  ((s.bump .BAL_REVOKE_LAST_DISCARDED 0).outFail o .ur).count { imprint := o.imprint, kind := .dropped, tc := o.tc, ts := s.dev, src := 32 + quadOf o.inPort }

/-- Every holder of a list of references is discarded. -/
def State.discardHolders (s : State) (refs : List KeyRef) : State :=
  let pk := s.tr.pkts.filter (fun p => refs.any (fun r => s.pktHolds r p) && !s.outOfReach p)
  let os := s.tr.outs.filter (fun o => refs.any (fun r => outHolds r o))
  let s := pk.foldl (fun s p => s.discardHolder refs p) s
  os.foldl (fun s o => s.discardOut o) s

/-- Every copy of a reference's key is destroyed; from now on it is unusable (R580, R781). -/
def State.destroyKey (s : State) (r : KeyRef) : State :=
  s.updKeys (fun k => { k with
    dead := if k.dead.contains r then k.dead else k.dead ++ [r], redeliver := k.redeliver.filter (fun e => !decide (e.2 = r)),
    revs := k.revs.map (fun v => if v.refs.contains r && !v.destroyed.contains r then { v with destroyed := v.destroyed ++ [r] } else v) })

/-- HOLDER_DEADLINE: at T_f + 40 µs of the oldest revocation that still waits, the holders that remain are discarded, and
its references are destroyed (R579, R580). -/
def execHolderDeadline (s : State) : Res :=
  run (fun s =>
    match s.keys.revs.find? (fun v => v.tf.isSome && !v.swept) with
    | some v =>
      let left := v.refs.filter (fun r => !v.destroyed.contains r)
      let s := (s.atDev (v.tf.getD 0 + 40000)).discardHolders left
      let s := left.foldl (fun s r => s.destroyKey r) s
      s.updKeys (fun k => { k with revs := k.revs.map (fun x => if x.imprint == v.imprint && x.handle == v.handle then { x with swept := true } else x) })
    | none => s) s

/-- KEY_DESTRUCTION: a revoked reference without holders is destroyed, no earlier than T_f + 1 µs (R580). -/
def execKeyDestruction (r : KeyRef) (s : State) : Res :=
  run (fun s =>
    match s.keys.revs.find? (fun v => v.tf.isSome && v.refs.contains r && !v.destroyed.contains r) with
    | some v => if s.holders r = 0 then (s.atDev (v.tf.getD 0 + 1000)).destroyKey r else s
    | none => s) s

/-- A slot leaves REVOKING (R559, R581). DEDUCED: log entry 121. -/
def State.leaveRevoking (s : State) (i : Nat) : State :=
  if s.reg .BAL_KEY_SLOT_STATE i != 2 then s
  else if s.reg .BAL_KEY_SLOT_POLICY i == 1 && s.rngOk then s.randomKey i
  else s.emptySlot i

/-- DESTRUCTION_COMPLETE: a revocation whose references are all destroyed ends: sheets FREE, leases gone, the slot out of
REVOKING, the command's result known (R519, R520, R581, R595). -/
def execDestructionComplete (s : State) : Res :=
  run (fun s =>
    match s.keys.revs.find? (fun v => v.tf.isSome && v.refs.all v.destroyed.contains) with
    | some v =>
      let mine := fun (l : Lease) => match v.handle with
        | some h => l.handle == h
        | none => l.imprint == v.imprint && !l.live && v.refs.contains l.key
      let s := ((s.pool.leases.filter mine).map (·.sheets)).flatten.foldl (fun s n => s.setReg .MEM_SHEET_STATE n 0) s
      let s := s.updPool (fun p => { p with leases := p.leases.filter (fun l => !mine l) })
      let s := s.updKeys (fun k => { k with revs := k.revs.filter (fun x => !(x.imprint == v.imprint && x.handle == v.handle)) })
      let s := s.setRegs [(.BAL_REVOKE_LAST_ACTIVE, 0, 0), (.BAL_REVOKE_LAST_DURATION, 0, min 65535 ((s.dev - v.tf.getD 0) / 100))]
      match v.handle with
      | some h => s.finish (.release h) 0
      | none => (s.leaveRevoking v.imprint).finish (.revoke v.imprint) 0
    | none => s) s

/-! ### The random generator (R550, R551) -/

/-- RNG_HEALTH_FAIL (R551, R593). -/
def execRngHealthFail (s : State) : Res :=
  run (fun s =>
    let s := s.bump .BAL_STATUS_RNG_FAIL 0
    if s.flt.causes.any (fun c => c.source == 0x0D) then s else (s.setReg .BAL_STATUS_RNG_OK 0 0).causeOn 0x0D 0 0) s

/-- EMPTY slots with POLICY GENERATED are filled (R559, R581). -/
def State.fillSlots (s : State) : State :=
  (List.range 1024).foldl (fun s i => if s.reg .BAL_KEY_SLOT_POLICY i == 1 && s.reg .BAL_KEY_SLOT_STATE i == 0 then s.randomKey i else s) s

/-- ENTROPY_RECOVERY (R551, R581). -/
def execEntropyRecovery (s : State) : Res :=
  run (fun s =>
    if s.flt.causes.any (fun c => c.source == 0x0D) then
      let s := (s.setReg .BAL_STATUS_RNG_OK 0 1).causeOff 0x0D 0
      if 4 ≤ s.phase then s.fillSlots else s
    else s) s

/-! ### Attestation (R583 to R592) -/

/-- Number made of bytes. -/
def natOf (l : List Nat) : Nat := l.foldr (fun b n => b + 256 * n) 0

/-- Imprints of the assignments of host `k` (R713). -/
def State.ownImprints (s : State) (k : Nat) : List Nat := (s.com.hier.filter (fun h => isAssign h && h.host == k)).map (·.imprint)

/-- Image digest of the running forme; zero before P3 (R587). -/
def State.formeDigest (s : State) : Nat := if s.phase < 3 then 0 else (s.boot.running.map imageDigest).getD 0

/-- Bytes 0x000 to 0x16F of a report (R587). -/
def State.deviceReport (s : State) (typ nonce : Nat) : List Nat :=
  bytesOf 4 0x52444C48 ++ bytesOf 2 1 ++ bytesOf 2 typ ++ bytesOf 4 (if typ == 1 then 5008 else 5088) ++ bytesOf 4 0 ++ bytesOf 32 nonce ++
  bytesOf 8 s.time ++ bytesOf 8 (s.reg .CMP_EPOCH_EPOCH 0) ++ bytesOf 2 0x1F3E ++ bytesOf 2 0x9256 ++ [1, s.phase] ++
  [flag s.safeMode + 2 * flag s.part.factoryTest + 4 * s.reg .CMP_FORME_STATUS_FALLBACK 0 + 8 * s.reg .CMP_FORME_STATUS_TRIAL 0,
    s.part.signerRevoked] ++ bytesOf 16 s.part.serial ++ bytesOf 8 0 ++ bytesOf 64 s.boot.fwSup ++ bytesOf 64 s.boot.fwBal ++
  bytesOf 64 s.formeDigest ++ bytesOf 64 (if s.phase < 5 then 0 else s.configDigest) ++ bytesOf 4 (s.reg .CMP_FORME_VER_ROLLBACK_VER 0) ++
  bytesOf 4 (s.reg .CMP_ROLLBACK_COUNTER 0) ++ bytesOf 4 (s.reg .CMP_AMEND_SEQ_HIGH_WATER 0) ++ [flag s.boot.runB] ++
  [(s.boot.running.map (·.signer)).getD 0] ++ bytesOf 2 0

/-- Bytes 0x170 to 0x1BF of an OWNER report (R587). -/
def State.ownerReport (s : State) (i : Nat) : List Nat :=
  let st := s.reg .BAL_KEY_SLOT_STATE i
  let ls := s.leasesOf i
  bytesOf 2 i ++ [st, if st == 0 then 0 else s.reg .BAL_KEY_SLOT_SOURCE i + 1, s.reg .BAL_KEY_SLOT_GEN i, s.reg .BAL_KEY_SLOT_POLICY i] ++
  bytesOf 2 0 ++ bytesOf 8 ((Sparse.get? s.keys.since i).getD 0) ++
  bytesOf 32 (if st == 0 then 0 else keyCheck i ((Sparse.get? s.keys.owner i).getD 0)) ++
  bytesOf 16 ((Sparse.get? s.keys.nonces i).getD 0) ++ bytesOf 2 ls.length ++ bytesOf 2 (ls.foldl (fun n l => n + l.count) 0) ++
  bytesOf 4 (s.com.active.filter (fun e => e.1.typ == 1 && eValid e.2 && eSealed e.2 && eImprint e.2 == i)).length ++ bytesOf 8 0

/-- A whole signed report. -/
def State.signedReport (s : State) (q : ReportReq) : List Nat :=
  let b := s.deviceReport q.typ q.nonce ++ (if q.typ == 2 then s.ownerReport q.imprint else [])
  b ++ signatureBlock (s.sysKey 1) 1 (Config.digest b)

/-- A response message to CMD: STATUS, INDEX, COUNT, LENGTH and DATA (R589). -/
def message (cmd status index count : Nat) (data : List Nat) : List Nat :=
  [cmd, status] ++ bytesOf 2 index ++ bytesOf 2 count ++ bytesOf 2 data.length ++ data

/-- The response message with a chunk of a response (R589, R590). -/
def chunkOf (cmd : Nat) (body : List Nat) (index : Nat) : List Nat :=
  message cmd 0 index (ceilDiv body.length 1024) ((body.drop (1024 * index)).take 1024)

/-- A requester gets a response message without data: BUSY 1, DENIED 2, BAD_REQUEST 3, NOT_READY 4 (R589). -/
def State.turnDown (s : State) (who : Requester) (cmd status index : Nat) : State :=
  s.emit (.reply who status (message cmd status index 0 []))

/-- Whether a requester is on a tenant host port. -/
def State.tenant (s : State) : Requester → Bool
  | .i3c _ => false
  | .vdm k _ => !s.operator k
  | .doe k => !s.operator k

/-- Host port that a requester uses. -/
def whoHost : Requester → Option Nat
  | .i3c _ => none
  | .vdm k _ => some k
  | .doe k => some k

/-- A requester's held response is released (R590). -/
def State.dropHeld (s : State) (who : Requester) : State :=
  s.updKeys (fun k => { k with held := k.held.filter (fun h => !decide (h.who = who)) })

/-- A later chunk of the held response (R590). -/
def State.laterChunk (s : State) (who : Requester) (cmd index : Nat) : State :=
  match s.keys.held.find? (fun h => decide (h.who = who)) with
  | some h => if 1024 * index < h.body.length then s.emit (.reply who 0 (chunkOf cmd h.body index)) else s.turnDown who cmd 3 index
  | none => s.turnDown who cmd 3 index

/-- A new response is held and its first chunk sent (R590). -/
def State.holdResponse (s : State) (who : Requester) (cmd : Nat) (body : List Nat) : State :=
  let s := (s.dropHeld who).updKeys (fun k => { k with held := k.held ++ [{ who, body, since := s.now }] })
  s.emit (.reply who 0 (chunkOf cmd body 0))

/-- GET_COLOPHON: bytes 0x00 to 0x33 of the colophon page, from P1 (R146, R589, R592). DEDUCED: log entry 39. -/
def execGetColophon (who : Requester) (index : Nat) (s : State) : Res :=
  run (fun s =>
    if s.phase < 1 then s.turnDown who 1 4 index
    else if index != 0 then s.turnDown who 1 3 index
    else s.emit (.reply who 0 (chunkOf 1 ((List.range 13).map (fun w => bytesOf 4 (s.readWord ((whoHost who).getD 0) (4 * w)))).flatten 0))) s

/-- GET_REPORT: INDEX 0 queues a report, a later INDEX asks for a chunk of the held one (R587 to R592). -/
def execGetReport (who : Requester) (typ imprint nonce index : Nat) (s : State) : Res :=
  run (fun s =>
    if index != 0 then s.laterChunk who 2 index
    else if !(typ == 1 || typ == 2) || 1024 ≤ imprint then s.turnDown who 2 3 0
    else if typ == 2 && s.tenant who && !(match whoHost who with
        | some k => (s.ownImprints k).contains imprint
        | none => false) then s.turnDown who 2 2 0
    else if s.phase < 2 || (typ == 2 && s.phase < 5) then s.turnDown who 2 4 0
    else if 8 ≤ s.keys.reports.length then s.turnDown who 2 1 0
    else (s.dropHeld who).updKeys (fun k => { k with reports := k.reports ++ [{ who, typ, imprint, nonce }] })) s

/-- A certificate, by what it certifies: the serial number, the subject key, and in the alias certificate the firmware digests and the
factory test fuse (R583, R584). -/
def State.certBody (s : State) (i : Nat) : List Nat :=
  let key := fun slot => [s.part.serial, s.sysKey slot]
  Config.certificate i (match i with
    | 2 => key 0
    | 3 => key 1 ++ [s.boot.fwSup, s.boot.fwBal, flag s.part.factoryTest]
    | 4 => key 3
    | 5 => key 2
    | _ => [s.part.serial])

/-- GET_CERT (R583, R589, R590, R592). -/
def execGetCert (who : Requester) (cert index : Nat) (s : State) : Res :=
  run (fun s =>
    if index != 0 then s.laterChunk who 3 index
    else if cert == 0 || 6 ≤ cert then s.turnDown who 3 3 0
    else if s.phase < 2 then s.turnDown who 3 4 0
    else s.holdResponse who 3 (s.certBody cert)) s

/-- REPORT_SIGNED: the oldest queued report is taken at one instant, signed and answered; it waits behind a running key
command (R553, R588, R591). -/
def execReportSigned (s : State) : Res :=
  run (fun s =>
    match s.keys.reports with
    | q :: rest =>
      if s.keyCommand then s
      else (s.updKeys (fun k => { k with reports := rest })).holdResponse q.who 2 (s.signedReport q)
    | [] => s) s

/-- HELD_RESPONSE_EXPIRY (R590). -/
def execHeldResponseExpiry (who : Requester) (s : State) : Res :=
  run (fun s =>
    match s.keys.held.find? (fun h => decide (h.who = who)) with
    | some h => (s.atNow (h.since + 1000000000)).dropHeld who
    | none => s) s

/-- A measurement block (R585). -/
def State.measurement (s : State) (i : Nat) : Option (List Nat) :=
  match i with
  | 1 => some (bytesOf 64 s.boot.fwSup)
  | 2 => some (bytesOf 64 s.boot.fwBal)
  | 3 => some (bytesOf 64 s.formeDigest)
  | 4 => some (bytesOf 64 s.configDigest)
  | _ => none

/-- SPDM_REQUEST: an answer of the SPDM responder on a DOE mailbox, signed with the alias key where it is signed; status 1
stands for an SPDM ERROR response (R585). -/
def execSpdmRequest (who : Requester) (req : SpdmReq) (s : State) : Res :=
  run (fun s =>
    match who with
    | .doe _ =>
      if s.phase < 2 then s
      else
        match req with
        | .getDigests => s.emit (.reply who 0 ((span 1 5).map (fun i => bytesOf 64 (Config.digest (s.certBody i)))).flatten)
        | .getCertificate i => if 1 ≤ i && i ≤ 5 then s.emit (.reply who 0 (s.certBody i)) else s.emit (.reply who 1 [])
        | .challenge n => s.emit (.reply who 0 (bytesOf 4627 (Config.signature (s.sysKey 1) (Config.digest [n]))))
        | .getMeasurements i =>
          match s.measurement i with
          | some m => s.emit (.reply who 0 (m ++ bytesOf 4627 (Config.signature (s.sysKey 1) (Config.digest m))))
          | none => s.emit (.reply who 1 [])
    | _ => s) s

end Sys2Proof.Machine
end

