-- ==== Sys2Proof/Machine/Islands.lean ====
section
/-! DEFINITION. Clock islands: fencing, reset, loss of power or clock, stopping and waking, the management core's repair,
resynchronisation, replicas (02_islands_and_crossings.md, 03_forme.md, 09_quads_spine_arbitration.md, 18_electrical_and_package.md). -/

namespace Sys2Proof.Machine

/-- `s` with its island part changed. -/
def State.updIsl (s : State) (f : Islands → Islands) : State := { s with isl := f s.isl }

/-- Island `n` is in state `st`. -/
def State.setIsl (s : State) (n st : Nat) : State := (s.keepSnaps n).setReg .SUP_ISL_STATUS_STATE n st

/-! ### What stands in an island and in its crossings (R56, R57, R67, R68) -/

/-- Whether transfers of a packet have entered the spine. -/
def onSpine (p : Pkt) : Bool :=
  decide (p.place = .spine) || (decide (0 < p.granted) && decide (p.place = .shared) && destQuad p.dest != some p.q.quad)

/-- Whether a packet stands inside island `n`. -/
def inIsland (n : Nat) (p : Pkt) : Bool :=
  if decide (32 ≤ n) && decide (n ≤ 39) then
    (match p.place with
      | .arrived => destQuad p.dest == some (n - 32)
      | .spine => false
      | .cipher => false
      | _ => p.q.quad == n - 32)
  else if decide (42 ≤ n) && decide (n ≤ 49) then decide (p.place = .cipher) && p.dest == 128 + (n - 42) % 4
  else false

/-- Whether a packet stands in a path crossing of island `n` (R56): a transfer of it has entered the crossing toward `n`, or `n` holds
it for delivery to a partner; a completion of the pool on its way out of a cipher island. A packet that waits in the spine with no
transfer in the crossing is not in it. DEDUCED: log entry 133. -/
def inCross (n : Nat) (p : Pkt) : Bool :=
  if n == 40 || n == 41 then onSpine p && p.route / 4 == n - 40
  else if decide (32 ≤ n) && decide (n ≤ 39) then inIsland n p || (onSpine p && decide (0 < p.passed) && destQuad p.dest == some (n - 32))
  else if decide (46 ≤ n) && decide (n ≤ 49) then
    inIsland n p || (onSpine p && decide (0 < p.passed) && p.dest == n + 82) ||
    (onSpine p && p.kind == 3 && decide (p.cls = .completion) && p.destA == n - 46)
  else decide (42 ≤ n) && decide (n ≤ 45) && inIsland n p

/-- Counting records that stand in a crossing of island `n`: those that it has sent, and all of them at the metering island (R56). -/
def State.recsOf (s : State) (n : Nat) : List CountRec := s.met.recQ.filter (fun c => n == 53 || c.src == n)

/-- Whether an outstanding request was delivered into island `n`. -/
def outInto (n : Nat) (o : OutReq) : Bool :=
  if n < 32 then decide (o.port < 128) && o.port / 4 == n
  else if n < 40 then o.quad == some (n - 32) || (decide (o.port < 128) && quadOf o.port == n - 32)
  else if decide (42 ≤ n) && decide (n ≤ 49) then o.port == 128 + (n - 42) % 4
  else false

/-- Packets are discarded, with what waits on them; `xing` counts them in SUP_XING_DROP. DEDUCED: log entry 56. -/
def State.dropPkts (s : State) (l : List Pkt) (xing : Bool) : State :=
  let ids := l.map (·.id)
  let s := s.setSeals (s.tr.seals.filter (fun x => !ids.contains x.pkt))
  let s := s.updPool (fun p => { p with rmw := p.rmw.filter (fun e => !ids.contains e.1) })
  let s := (s.discardAll l (fun s o => s.outLost o)).settleAll l
  let s := (l.filter (fun p => decide (p.cls = .completion))).foldl (fun s p => s.cplGone p) s
  if xing then s.bump .SUP_XING_DROP_COUNT 0 l.length else s

/-- What stands in island `n`'s crossings is discarded and its outstanding requests are answered (R57, R67, R429). -/
def State.flushCross (s : State) (n : Nat) : State :=
  let s := s.dropPkts (s.tr.pkts.filter (inCross n)) true
  let s := (s.tr.outs.filter (outInto n)).foldl (fun s o => s.outLost o) s
  (s.bump .SUP_XING_DROP_COUNT 0 (s.recsOf n).length).updMet (fun m => { m with recQ := m.recQ.filter (fun c => !(n == 53 || c.src == n)) })

/-- Records that their senders hold for an isolated metering island are discarded and counted (R67). -/
def State.dropHeldRecs (s : State) (n : Nat) : State :=
  if n == 53 then (s.bump .SUP_XING_DROP_COUNT 0 s.met.recHeld.length).updMet (fun m => { m with recHeld := [] }) else s

/-- What stands inside island `n` is gone (R64, R68). -/
def State.flushInside (s : State) (n : Nat) : State :=
  let s := s.dropPkts (s.tr.pkts.filter (inIsland n)) false
  if decide (32 ≤ n) && decide (n ≤ 39) then
    { s with tr := { s.tr with queues := s.tr.queues.filter (fun e => e.1.quad != n - 32) } }
  else s

/-- The metering island has lost power or clock: its open banks are lost, and the next batch says so (R605). -/
def State.loseBanks (s : State) (n : Nat) : State :=
  if n == 53 then s.updMet (fun m => { m with opened := [], closing := none, gap := true, running := false }) else s

/-- An item that waited is delivered, or answered where the island is closed (R49, R53). -/
def State.resume (s : State) : Held → State
  | .req r => s.arrive r
  | .cpl c => s.cplIn c
  | .fab p f ts live => s.fabTake p f ts live

/-- An item that waited for an island to leave reset meets its fence: answered, or discarded and counted (R49, R58, R64). -/
def State.turnAway (s : State) : Held → State
  | .req r => (s.shutOut true r).lost r none none
  | .cpl c => s.cplLost c.inPort 0
  | .fab p f ts live =>
    let r := fabReq p f ts
    let s := if f.dstSw == ownSw s.com.active && f.ptype != 3 then (s.shutOut true r).lost r none none else s.fabShut p f
    if live then s.freeCredits p (chanOf f) f.len else s

/-- Items that wait for island `n`, taken from their senders. -/
def State.takeWaiting (s : State) (n : Nat) : List Held × State :=
  ((s.isl.waking.filter (fun e => e.1 == n)).map (·.2), s.updIsl (fun i => { i with waking := i.waking.filter (fun e => e.1 != n) }))

/-- Items that wait at senders are delivered in order. -/
def State.deliverWaiting (s : State) (n : Nat) : State := (s.takeWaiting n).1.foldl (fun s h => s.resume h) (s.takeWaiting n).2

/-- Items that waited for island `n` to leave reset are turned away at its fence; what waits to hand records to the metering island goes
on waiting (R45). -/
def State.answerWaiting (s : State) (n : Nat) : State :=
  if n == 53 then s else (s.takeWaiting n).1.foldl (fun s h => s.turnAway h) (s.takeWaiting n).2

/-! ### Commits and replicas when an island leaves (R112, R114) -/

/-- A quad whose replica others can copy: RUN and not stale, no fence of it begun (R113, R114). DEDUCED: log entry 50. -/
def State.quadGood (s : State) (n : Nat) : Bool := s.running n && !s.isl.stale.contains n && !s.isl.resync.contains n && !s.fencing n

/-- The quad that a resynchronisation copies from (R113). -/
def State.sourceQuad (s : State) : Option Nat := (span 32 39).find? s.quadGood

/-- IMP_NO_REPLICA is logged when the last good quad has gone (R114). DEDUCED: log entry 113. -/
def State.replicaCheck (before : Bool) (s : State) : State :=
  if before && s.sourceQuad.isNone then s.report 0x04 0 0 else s

/-- A participant leaves RUN before a decision on the commit reaches it: it is stale (R112, R116). -/
def State.leaveCommit (s : State) (n : Nat) : State :=
  match s.com.cur with
  | some c =>
    if c.phase = .delivering && (maskIslands c.mask).contains n then
      (s.updCur (fun c => { c with waitAck := dropFrom n c.waitAck })).updIsl (fun i => { i with stale := addTo n i.stale })
    else s
  | none => s

/-! ### The management core (R117, R118, R784) -/

/-- The supervisor switches domain 86 off and on again for attempt `n` at the management core (R117, R784). -/
def State.cycleMgmt (s : State) (n since : Nat) : State :=
  s.updIsl (fun i => { i with
    mgmt := some { attempts := n, since }, resets := i.resets.filter (fun e => e.1 != 52),
    switchQ := i.switchQ.filter (fun o => o.dom != 86) ++ [{ dom := 86, on := false }, { dom := 86, on := true }] })

/-- An attempt at the management core fails: the next one begins, or after the third it stays lost, with domain 86 off, and what
waited for it is answered (R784). -/
def State.repairFails (s : State) : State :=
  match s.isl.mgmt with
  | some m =>
    if m.rebuilding || 3 < m.attempts then s
    else
      let s := s.setIsl 52 5
      if m.attempts < 3 then s.cycleMgmt (m.attempts + 1) m.since
      else
        let s := s.updIsl (fun i => { i with
          mgmt := some { m with attempts := 4 }, resets := i.resets.filter (fun e => e.1 != 52),
          switchQ := i.switchQ.filter (fun o => o.dom != 86) ++ [{ dom := 86, on := false }] })
        let s := ((s.com.redo ++ s.com.hierQ ++ s.com.owed).filter (·.answer)).foldl (fun s w => s.emit (.cfg w.host .ca 0)) s
        (s.updCom (fun c => { c with redo := [], hierQ := [], owed := [] })).report 0x05 0 0
  | none => s

/-- The command that runs is lost with the management core; the bank that a FORME_WRITE was writing is BAD (R117). -/
def State.cutCommand (s : State) : State :=
  match s.port.running with
  | some r =>
    let s := { s.setReg .CMP_RESULT_STATE r.host 0 with port := { s.port with running := none } }
    if r.opcode == 0x13 && r.result.isNone then s.markBank (nth r.args 3 == 1) .bad else s
  | none => s

/-- The commit that waits, but for one of a revocation, and one that has not been delivered yet are lost with the management core (R117). -/
def State.cutCommits (s : State) : State :=
  let s := match s.com.waiting with
    | some (_, .lease h, _) => (s.dropLease h).updCom (fun m => { m with waiting := none })
    | some (_, .release h, _) => (s.dropRelease h).updCom (fun m => { m with waiting := none })
    | some (_, .revoke _, _) => s
    | _ => s.updCom (fun m => { m with waiting := none })
  match s.com.cur with
  | some c => if c.phase = CommitPhase.delivering then s.abandonCommit else s
  | none => s

/-- The management core is lost: its command ends without a result, an unconfirmed commit is abandoned, resynchronisations end, the port is
busy, and its domain is switched off and on (R113, R117). -/
def State.mgmtLoss (s : State) : State :=
  match s.isl.mgmt with
  | some m => if m.rebuilding then (s.cycleMgmt 1 s.now) else s.repairFails
  | none =>
    (((s.cycleMgmt 1 s.now).updIsl (fun i => { i with resync := [] })).cutCommand.cutCommits).setRegs
      [(.CMP_STATUS_BUSY, 0, 1), (.CMP_STATUS_INTERNAL, 0, 1)]

/-- MGMT_REPAIR_RETRY: an attempt to bring the management core back fails (R784). -/
def execMgmtRepairRetry (s : State) : Res := run (fun s => s.repairFails) s

/-- MGMT_REBUILD_DONE: the master copies stand again; lock and staged state are lost, and what waited goes on (R117,
R118). -/
def execMgmtRebuildDone (s : State) : Res :=
  run (fun s =>
    match s.isl.mgmt with
    | some m =>
      if m.rebuilding then
        let s := (s.updIsl (fun i => { i with mgmt := none, stale := dropFrom 52 i.stale })).releaseLock true
        let s := { s with port := { s.port with lockDrop := false } }
        let s := (s.com.owed.filter (·.answer)).foldl (fun s w => s.emit (.cfg w.host .sc 0)) s
        let s := s.updCom (fun c => { c with owed := [] })
        (((if s.sourceQuad.isNone then s.report 0x04 0 0 else s).nextCommit)).freePort
      else s
    | none => s) s

/-! ### Fencing (R54 to R59, R65) -/

/-- A fence of island `n` ends, complete: it reads FENCED, a wake that it waited for is over, a spine island's queues rebind (R54,
R427). -/
def State.fenceEnd (s : State) (n : Nat) : State :=
  let s := (s.updIsl (fun i => { i with fences := i.fences.filter (fun f => f.island != n) })).setIsl n 4
  let s := ((s.setReg .SUP_ISL_STATUS_WAKE_PEND n 0).rebind n)
  let s := if n == 54 then s.sltFreeze else s
  let s := s.leaveCommit n
  (if n == 53 then s else s.deliverWaiting n).finish (.fence n) 0

/-- The cause SPINE_SINGLE is present while a spine island is fenced (R23). -/
def State.spineSingle (s : State) (n : Nat) : State :=
  if (n == 40 || n == 41) && !s.flt.causes.any (fun c => c.source == 0x0A && c.scope == n) then s.causeOn 0x0A 0 n else s

/-- A fence of island `n` is over (R23, R54). -/
def State.fenceOver (s : State) (n : Nat) : State := (s.fenceEnd n).spineSingle n

/-- What stands in the crossings of island `n` is discarded as its fence completes by force, and that is logged (R57). DEDUCED: log
entry 124. -/
def State.forceDrain (s : State) (n : Nat) : State :=
  let s := (s.flushCross n).setReg .SUP_ISL_STATUS_FENCE_FORCED n 1
  s.report 0x0B 0 n (some (if n < 32 then 2 else 3))

/-- A fence completes by force (R57). -/
def State.forceFence (s : State) (n : Nat) : State := (s.forceDrain n).fenceOver n

/-- Whether every path crossing of island `n` is empty and it owes no completion (R56). -/
def State.drained (s : State) (n : Nat) : Bool :=
  !s.tr.pkts.any (inCross n) && !s.tr.outs.any (outInto n) && (s.recsOf n).isEmpty

/-- A fence that has drained is over (R56). -/
def State.fenceDone (s : State) (n : Nat) : State := if s.fencing n && s.drained n then s.fenceOver n else s

/-- A fence that has not drained 10 µs after it began completes by force (R56, R57). -/
def State.fenceForce (s : State) (n : Nat) : State :=
  match s.isl.fences.find? (fun f => f.island == n) with
  | some f => if s.drained n then s else (s.atNow (f.since + 10000)).forceFence n
  | none => s

/-- A fence of island `n` begins (R55, R58, R59). -/
def State.beginFence (s : State) (n : Nat) : State :=
  let before := s.sourceQuad.isSome
  let s := s.updIsl (fun i => { i with fences := i.fences ++ [{ island := n, since := s.now }] })
  let s := if n < 32 then s.tileDown n else s
  (State.replicaCheck before s).nextCommit

/-! ### Resets of islands (R60 to R64) -/

/-- Island `n` and the ends of its crossings enter reset: LOST ends, its contents and proofs are gone (R60, R64, R69, R205,
R729). -/
def State.resetIsl (s : State) (n : Nat) : State :=
  let s := ((s.flushInside n).abortProofs n).setIsl n 1
  let s := ((s.causeOff 0x08 n).causeOff 0x09 n)
  s.updIsl (fun i => { i with resets := i.resets.filter (fun e => e.1 != n) ++ [(n, s.now)], isolating := i.isolating.filter (fun e => e.1 != n) })

/-- Nanoseconds of 64 cycles of island `n` (R32, R64). -/
def resetTime (n : Nat) : Nat :=
  if n < 50 then 40 else if n == 52 then 54 else if n == 53 then 80 else if n == 54 then 640 else if n == 55 then 160 else 0

/-- Island `n` leaves reset and reads FENCED, with new arbiter seeds; the management core goes to RUN
and rebuilds its master copies (R64, R117, R118, R446, R575). DEDUCED: log entry 55. -/
def State.leaveReset (s : State) (n : Nat) : State :=
  match s.isl.resets.find? (fun e => e.1 == n) with
  | none => s
  | some e =>
    let s := s.atNow (e.2 + resetTime n)
    let s := s.updIsl (fun i => { i with resets := i.resets.filter (fun x => x.1 != n) })
    let s := s.setReg .SUP_ISL_STATUS_CLK_LOCK n 1
    if n == 52 then
      (s.setIsl 52 2).updIsl (fun i => { i with mgmt := i.mgmt.map (fun m => { m with rebuilding := true }) })
    else
      let s := ((((s.seedArbs n).setIsl n 4).answerWaiting n).rebind n).spineSingle n
      let s := s.updIsl (fun i => { i with stale := addTo n i.stale })
      let s := s.updCom (fun m => { m with
        unreadable := m.unreadable.filter (fun x => x.1 + 32 != n), flips := m.flips.filter (fun x => x.1 + 32 != n) })
      match s.port.running with
      | some r => match r.wait with
        | .power d => if domIsland d == n then s.finish (.power d) 0 else s
        | _ => s
      | none => s

/-! ### Loss of power or clock (R35, R66 to R70) -/

/-- Island `n` enters LOST for a fault source: fences of it complete by force, pending stops, wakes and resynchronisations
are abandoned (R35, R66, R70). An island that is off can still have a domain to lose. The supervisor and the Baldon core have no LOST state. -/
def State.lose (s : State) (n source : Nat) : State :=
  if s.islState n == 5 || n == 50 || n == 51 then s
  else
    let before := s.sourceQuad.isSome
    let s := if s.fencing n then (s.forceDrain n).fenceEnd n else s
    let s := s.causeOff 0x0A n
    let s := (s.setIsl n 5).setRegs [(.SUP_ISL_STATUS_LOSS, n, 1), (.SUP_ISL_STATUS_CLK_LOCK, n, 0), (.SUP_ISL_STATUS_WAKE_PEND, n, 0)]
    let s := s.updIsl (fun i => { i with
      resets := i.resets.filter (fun e => e.1 != n), resync := dropFrom n i.resync, isolating := i.isolating ++ [(n, s.now)] })
    let s := (s.finish (.unfence n) 0x06).leaveCommit n
    let s := (s.causeOn source 0 n).abortProofs n
    let s := if n == 54 then s.sltFreeze else s
    let s := s.loseBanks n
    let s := if decide (42 ≤ n) && decide (n ≤ 49) then s.galleyLose ((n - 42) % 4) else s
    let s := if n == 52 then s.mgmtLoss else s
    State.replicaCheck before s

/-- A domain loses power good without a command (R66). -/
def State.domainLoss (s : State) (d : Nat) : State :=
  if d < 90 && s.on .SUP_DOM_STATUS_PGOOD d then (s.setReg .SUP_DOM_STATUS_PGOOD d 0).lose (domIsland d) 0x08 else s

/-- PWR_LOSS. -/
def execPwrLoss (d : Nat) (s : State) : Res := run (fun s => s.domainLoss d) s

/-- SUPPLY_EXCURSION: every domain that a supply feeds loses power good (R758). DESIGN CHOICE: log entry 112. -/
def execSupplyExcursion (ds : List Nat) (s : State) : Res := run (fun s => ds.foldl (fun s d => s.domainLoss d) s) s

/-- An island's clock generator loses lock (R35). -/
def State.unlock (s : State) (n : Nat) : State := if n < 56 && s.on .SUP_ISL_STATUS_CLK_LOCK n then s.lose n 0x09 else s

/-- The islands whose reference is REFCLK[q]: a quad and its tiles, and with 0 the spine, memory, memory cipher and singleton islands
(R172). -/
def refIslands (q : Nat) : List Nat := ((32 + q) :: span (4 * q) (4 * q + 3)) ++ (if q == 0 then span 40 55 else [])

/-- The crossings of a lost island are isolated; its items are lost, its outstanding requests answered, its
queues rebind, its ports are down (R67, R68, R427, R429). -/
def State.isolate (s : State) (n : Nat) : State :=
  if s.isl.isolating.any (fun e => e.1 == n) && s.islState n == 5 then
    let s := s.updIsl (fun i => { i with isolating := i.isolating.filter (fun e => e.1 != n) })
    let s := if n < 32 then s.tileDown n else s
    (((((s.flushInside n).flushCross n).dropHeldRecs n).rebind n).deliverWaiting n).nextCommit
  else s

/-! ### Stopping and waking (R50 to R53) -/

/-- Whether island `n` has no work: a tile without links, lane tests or requests outstanding, a quad with its tiles off or stopped and
no traffic, the management core without a command or commit, the test island without proofs, a snapshot or sampling (R51, R53). -/
def State.idle (s : State) (n : Nat) : Bool :=
  if n < 32 then
    (s.tilePorts n).all (fun p => !s.on .TILE_PORT_STATUS_LINK_UP p && !s.link.training.contains p && !s.tr.outs.any (fun o => o.inPort == p)) &&
    !s.tr.outs.any (outInto n) && !s.port.proofs.any (fun p => p.typ == 1 && (s.portTiles p.target).contains n)
  else if n < 40 then
    let q := n - 32
    (span (4 * q) (4 * q + 3)).all (fun t => s.islState t == 0 || s.islState t == 3) && !s.tr.pkts.any (fun p => inIsland n p || inCross n p) &&
      !s.tr.outs.any (outInto n) && (s.recsOf n).isEmpty
  else if n == 52 then s.port.running.isNone && s.com.cur.isNone && !s.hierWaits && s.isl.mgmt.isNone
  else s.port.proofs.isEmpty && s.met.snapAt.isNone && !s.on .PMC_SAMP_CFG_ENABLE && s.met.sampPend.isEmpty

/-- ISLAND_IDLE_STOP: the idle time of the power plan has passed since the island's latest work; its clock stops, and CLK_LOCK stays 1
(R51). With the last good quad no replica that is RUN remains (R114). DESIGN CHOICE: log entry 134. DEDUCED: log entry 135. -/
def execIslandIdleStop (n : Nat) (s : State) : Res :=
  run (fun s =>
    let r := powerRec s.com.power n
    if mayStop n && r.stopOk && s.running n && !s.fencing n && s.idle n && !s.isl.waking.any (fun e => e.1 == n) then
      State.replicaCheck s.sourceQuad.isSome ((s.atNow ((Sparse.get? s.isl.workAt n).getD 0 + 1000 * r.idleUs)).setIsl n 3)
    else s) s

/-- WAKE_REQUEST: a request has reached a stopped island (R52). -/
def execWakeRequest (n : Nat) (s : State) : Res :=
  run (fun s => if s.islState n == 3 && !s.fencing n then s.setReg .SUP_ISL_STATUS_WAKE_PEND n 1 else s) s

/-- The island's clock runs and the items that wait are delivered in order (R53). -/
def State.wakeUp (s : State) (n : Nat) : State :=
  if s.islState n == 3 && s.on .SUP_ISL_STATUS_WAKE_PEND n then
    ((((s.work n).setIsl n 2).setReg .SUP_ISL_STATUS_WAKE_PEND n 0).bump .SUP_ISL_STATUS_WAKE_COUNT n).deliverWaiting n
  else s

/-! ### Resynchronisation and replicas (R113, R389, R390, R575) -/

/-- RESYNC_COMPLETE: the island holds the current epoch's values and every live key; its fence is lifted and its crossings
reopen, and queues that wait on the other spine island, where that one is out, bind to it (R22, R65, R113, R427, R575, R603). DEDUCED: log entry 57. -/
def execResyncComplete (n : Nat) (s : State) : Res :=
  run (fun s =>
    let src := decide (n < 32) || decide (40 ≤ n) || !s.isl.stale.contains n || s.sourceQuad.isSome
    if s.isl.resync.contains n && s.islState n == 4 && s.mgmtUp && src then
      let s := s.updIsl (fun i => { i with resync := dropFrom n i.resync, stale := dropFrom n i.stale, bootFenced := dropFrom n i.bootFenced })
      let s := (s.work n).setIsl n 2
      let s := s.updKeys (fun k => { k with redeliver := k.redeliver.filter (fun e => e.1 != n) })
      let s := if n == 40 || n == 41 then (s.causeOff 0x0A n).rebind (81 - n) else s
      let s := if n == 53 then (s.meterResume.updMet (fun m => { m with recQ := m.recQ ++ m.recHeld, recHeld := [] })).deliverWaiting 53 else s
      let s := if n < 32 then (s.tilePorts n).foldl (fun s p => if s.role p == 3 then s else s.startTrain p) s else s
      s.finish (.unfence n) 0
    else s) s

/-- The item of the table that a copy holds. -/
def itemKey : ItemKind → Nat → ImpKey
  | .entry, i => entryKey i
  | .target, i => targetKey i

/-- REPLICA_ECC_ERROR: a quad finds an error in its copy of an item, of which an empty one is protected too (R389, R416). -/
def execReplicaEccError (q : Nat) (kind : ItemKind) (i : Nat) (correctable : Bool) (s : State) : Res :=
  run (fun s =>
    let exists_ := match kind with
      | .entry => decide (i < 2 ^ 20)
      | .target => decide (i < 2 ^ 16)
    if q < 8 && s.running (32 + q) && exists_ then s.replicaError q (itemKey kind i) correctable else s) s

/-- REPLICA_COMPARE: a quad's pass over its replica; items that differ are rewritten and logged (R390). -/
def execReplicaCompare (q : Nat) (differ : Bool) (s : State) : Res :=
  run (fun s =>
    if q < 8 && s.running (32 + q) then
      let s := s.updCom (fun m => { m with
        unreadable := m.unreadable.filter (fun e => e.1 != q), flips := m.flips.filter (fun e => e.1 != q) })
      if differ then s.report 0x43 0 q else s
    else s) s

/-! ### Adaptive voltage (R751 to R755) -/

/-- A signed value of 8 bits as its two's complement. -/
def twos8 (v : Int) : Nat := (v % 256).toNat

/-- AVS_SAMPLE: margins of the 56 islands in 0.1 %; the setpoint rises by 5 mV below 2 %, falls when all are above 4 %, and
stays at its ends (R753, R754). DEDUCED: log entry 61. -/
def execAvsSample (margins : List Int) (s : State) : Res :=
  run (fun s =>
    if 4 ≤ s.phase && !s.isl.avsStopped then
      let on_ := (List.range 56).filter (fun n => s.islState n != 0)
      let m := fun n => (margins[n]?).getD 30
      let s := on_.foldl (fun s n => s.setReg .SUP_ISL_HEALTH_MARGIN n (twos8 (m n))) s
      let v := s.reg .SUP_AVS_STATUS_SETPOINT 0
      let low := on_.any (fun n => decide (m n < 20))
      let s := s.setReg .SUP_AVS_STATUS_AT_CEILING 0 (flag (low && v == 40))
      if low && v < 40 then (s.setReg .SUP_AVS_STATUS_SETPOINT 0 (v + 1)).bump .SUP_AVS_STATUS_CHANGES 0
      else if on_.all (fun n => decide (40 < m n)) && 0 < v then (s.setReg .SUP_AVS_STATUS_SETPOINT 0 (v - 1)).bump .SUP_AVS_STATUS_CHANGES 0
      else s
    else s) s

/-- AVS_BUS_ERR: three AVSBus transactions in a row without acknowledge (R755). -/
def execAvsBusErr (s : State) : Res :=
  run (fun s => (s.setReg .SUP_AVS_STATUS_BUS_ERR 0 1).updIsl (fun i => { i with avsStopped := true })) s

end Sys2Proof.Machine
end

