-- ==== Sys2Proof/Machine/Bringup.lean ====
section
/-! DEFINITION. Power-up, bring-up, recovery and the resets of the whole switch (03_forme.md Banks A and B,
04_bringup_and_reset.md, 18_electrical_and_package.md Cooling). -/

namespace Sys2Proof.Machine

/-! ### What survives (R15, R148, R164, R618, R633) -/

/-- `s` with its boot part changed. -/
def State.updBoot (s : State) (f : Boot → Boot) : State := { s with boot := f s.boot }

/-- Whether a field belongs to the FLT block. -/
def isFlt (f : Fld) : Bool := decide (Fld.FLT_STATUS_SAFE_MODE.ctorIdx ≤ f.ctorIdx) && decide (f.ctorIdx ≤ Fld.FLT_FUNC_PORT.ctorIdx)

/-- Fields that the slot-power die itself holds. -/
def inSlotDie (f : Fld) : Bool :=
  [Fld.SLT_CTL_EN, .SLT_STATUS_STATE, .SLT_STATUS_CAUSE, .SLT_STATUS_BRK_POINT, .SLT_STATUS_PRSNT, .SLT_STATUS_EN_PIN,
    .SLT_STATUS_EARLY_INS, .SLT_STATUS_CLR_ARMED, .SLT_CFG_ACTIVE, .SLT_GEN_GEN, .SLT_GEN_LATCHES].contains f

/-- Fields that keep their values over a warm reset. -/
def keptWarm (f : Fld) : Bool :=
  f.acc == .rws || isFlt f || inSlotDie f ||
  [Fld.SUP_COL_LAST_ERROR_CODE, .SUP_COL_LAST_ERROR_DETAIL, .SUP_COL_LAST_ERROR_PHASE, .SUP_COL_RESET_CAUSE_CAUSE, .MET_STATUS_ARMED,
    .MET_RING_HEAD_HEAD, .SUP_DOM_STATUS_ON, .SUP_DOM_STATUS_PGOOD, .SUP_DOM_STATUS_SWITCHING].contains f

/-- Fields that keep their values when a new attempt of one bring-up starts: the supervisor's own besides. -/
def keptAttempt (f : Fld) : Bool :=
  keptWarm f ||
  [Fld.SUP_COL_RECOV_ADDR_ADDR, .SUP_COL_RECOV_LEN_LEN, .SUP_COL_RECOV_CTL_TARGET, .SUP_COL_RECOV_STATUS_STATE, .SUP_COL_RECOV_STATUS_RESULT,
    .SUP_COL_PROGRESS_CODE, .SUP_COL_PHASE_PHASE, .SUP_COL_PHASE_ATTEMPT, .SUP_XING_DROP_COUNT, .SUP_AVS_STATUS_SETPOINT,
    .SUP_AVS_STATUS_AT_CEILING, .SUP_AVS_STATUS_BUS_ERR, .SUP_AVS_STATUS_CHANGES, .SUP_THERM_HOTTEST, .SUP_THERM_HOT_ISLAND,
    .SUP_THERM_HOT, .SUP_THERM_HBM_MAX, .SUP_ISL_STATUS_LOSS, .SUP_ISL_STATUS_FENCE_FORCED, .SUP_ISL_STATUS_WAKE_COUNT].contains f

/-- The switch die without anything that its islands held: registers but those kept, the table, links, queues, leases and
keys, open interval. Flash, fuses, pins, the slot-power die's channels, signed batches, remapped rows and the collector stay
(R15, R161, R164, R541, R611, R633). DEDUCED: log entry 72. Domains go on switching as they were, 250 ns apart (R38). With the islands the time base stops, after an essential failure as at a
reset, and times are bring-up times again (R34; DESIGN CHOICE, log entry 153). -/
def State.wipe (s : State) (keep : Fld → Bool) : State :=
  let stays := fun (c : Report) => [0x0D, 0x0F, 0x12, 0x18, 0x19, 0x1A].contains c.source
  let m := s.met
  { s with
      regs := s.regs.filter (fun c => keep c.1.fld), staged := [], isl := { lastSwitch := s.isl.lastSwitch }, com := {}, port := {}, link := { perstLow := s.link.perstLow },
      tr := {}, pool := { remaps := s.pool.remaps }, keys := {}, dl := [], flt := { s.flt with causes := s.flt.causes.filter stays, armed := none },
      boot := { s.boot with
        timeBase := none, running := none, hbmDone := false, serdesDone := false, degraded := [], recov := none, rebootAt := none }
      met := {
               batches := m.batches, prev := m.prev, nextSeq := m.nextSeq, gap := m.gap || m.opened.any MetRec.used || m.closing.isSome,
               chainStart := m.chainStart } }

/-- Switched islands (R36). -/
def switched : List Nat := span 0 49 ++ span 52 55

/-- An attempt begins at P1 (R138, R149, R775). -/
def State.beginP1 (s : State) (attempt : Nat) : State :=
  (s.setRegs [(.SUP_COL_PHASE_PHASE, 0, 1), (.SUP_COL_PHASE_STALLED, 0, 0), (.SUP_COL_PHASE_ATTEMPT, 0, attempt),
    (.SUP_COL_PROGRESS_CODE, 0, 0x0101), (.SUP_THERM_TRIPS, 0, min 255 s.flash.trips)]).updBoot (fun b =>
    { b with attemptAt := s.now, phaseAt := s.now })

/-- The progress code moves on, never back (R149). -/
def State.progress (s : State) (c : Nat) : State := s.setReg .SUP_COL_PROGRESS_CODE 0 (max c (s.reg .SUP_COL_PROGRESS_CODE 0))

/-- A phase begins. -/
def State.toPhase (s : State) (p : Nat) : State :=
  (s.setReg .SUP_COL_PHASE_PHASE 0 p).updBoot (fun b => { b with phaseAt := s.now })

/-- STALLED (R142). -/
def State.stalled (s : State) : Bool := s.on .SUP_COL_PHASE_STALLED

/-- Bring-up runs in phase `p`: nothing holds it, it has not stalled. -/
def State.booting (s : State) (p : Nat) : Bool := decide (s.boot.stage = .none) && s.boot.pwrok && s.phase == p && !s.stalled

/-! ### Failures (R138 to R142, R150) -/

/-- The logical port index under which the lanes of the recovery port record train (R150). DEDUCED: log entry 66. -/
def State.recovPort (s : State) : Nat := s.flash.recovLane / 8 * 4 + (if 8 ≤ s.flash.recovWidth then 0 else s.flash.recovLane % 8 / 2)

/-- SUP_COL_LAST_ERROR records a failure (R140). -/
def State.lastError (s : State) (code detail : Nat) : State :=
  s.setRegs [(.SUP_COL_LAST_ERROR_CODE, 0, code), (.SUP_COL_LAST_ERROR_DETAIL, 0, detail), (.SUP_COL_LAST_ERROR_PHASE, 0, s.phase)]

/-- Domains of an island, in the order in which they are switched on (R36, R37). -/
def islDomains (n : Nat) : List Nat :=
  if n < 32 then [n, n + 32] else if n < 42 then [n + 32] else if n < 46 then [n + 32, n + 36] else if n < 50 then [n + 36]
  else if n == 50 || n == 51 then [] else if n < 56 then [n + 34] else []

/-- Switched domains that are on, each island's in the reverse of the order in which they were switched on (R37). -/
def State.domsOff (s : State) (isls : List Nat) : List SwitchOp :=
  (((isls.map (fun n => (islDomains n).reverse)).flatten).filter (fun d => s.on .SUP_DOM_STATUS_ON d)).map (fun d => { dom := d, on := false })

/-- Every switched island is powered down, a domain at a time; one whose domains are off already reads OFF at once (R37, R38, R141).
DEDUCED: log entry 136. -/
def State.powerDown (s : State) : State :=
  let q := s.domsOff switched
  let s := switched.foldl (fun s i => if (islDomains i).any (fun d => s.on .SUP_DOM_STATUS_ON d) then s else s.setIsl i 0) s
  s.updIsl (fun i => { i with switchQ := q })

/-- An essential failure ends the attempt: a TRIAL bank that ran is BAD, switched islands are powered down, and a new attempt starts,
or the switch stalls and trains the recovery port (R89, R141, R142). -/
def State.failBringup (s : State) (code detail : Nat) : State :=
  let n := s.reg .SUP_COL_PHASE_ATTEMPT 0
  let p := s.phase
  let s := s.lastError code detail
  let s := if s.boot.running.isSome && decide ((s.bank s.boot.runB).state = .trial) then s.markBank s.boot.runB .bad else s
  let s := (s.wipe keptAttempt).powerDown
  if p ≤ 2 || 3 ≤ n then
    let s := s.setReg .SUP_COL_PHASE_STALLED 0 1
    if s.link.perstLow.contains 0 then s else s.updLink (fun l => { l with training := [s.recovPort] })
  else s.beginP1 (n + 1)

/-- Whether the other spine island can still carry the switch (R139). -/
def State.otherSpineGood (s : State) (n : Nat) : Bool :=
  (n == 40 || n == 41) && !s.isl.bootFenced.contains (81 - n) && (powerRec s.com.power (81 - n)).state == 2

/-- Whether a failure of a domain or of an island's clock is essential (R139). DEDUCED: log entry 75. -/
def State.essentialAt (s : State) (n : Nat) : Bool := decide (32 ≤ n) && !s.otherSpineGood n && decide (n < 56) && n != 50 && n != 51

/-- Whether a failure code may end an attempt in the phase (R138). -/
def State.essential (s : State) (code detail : Nat) : Bool :=
  match code with
  | 0x1101 => s.booting 1 && detail == 0
  | 0x1102 => s.booting 1 && decide (detail ≤ 1)
  | 0x1201 => s.booting 2 && decide (detail < 64)
  | 0x1301 => s.booting 3 && decide (detail < 90) && s.essentialAt (domIsland detail)
  | 0x1302 => s.booting 3 && s.essentialAt detail
  | 0x1303 => s.booting 3 && decide (42 ≤ detail) && decide (detail ≤ 45)
  | 0x1F01 => s.booting detail && decide (1 ≤ detail) && decide (detail ≤ 4)
  | _ => false

/-- ESSENTIAL_FAILURE. -/
def execEssentialFailure (code detail : Nat) (s : State) : Res :=
  run (fun s => if s.essential code detail then s.failBringup code detail else s) s

/-- PHASE_TIMEOUT (R132, R133). DEDUCED: log entry 126. -/
def execPhaseTimeout (s : State) : Res :=
  run (fun s =>
    let p := s.phase
    if s.booting p && 1 ≤ p && p ≤ 4 then
      let lim := nth [0, 100000000, 400000000, 1300000000, 1800000000] p
      (s.atNow (s.boot.attemptAt + lim)).failBringup 0x1F01 p
    else s) s

/-! ### P0 to P2 (R131, R154, R88) -/

/-- POWER_UP: PWROK and SYS_RESET_N rise and P0 begins; a thermal hold goes on (R131, R766). -/
def execPowerUp (s : State) : Res :=
  run (fun s =>
    if s.boot.pwrok then s
    else
    let s := s.updBoot (fun b => { b with pwrok := true, sysResetN := true })
    if s.boot.stage = .powerLow then s.updBoot (fun b => { b with stage := .none, origin := s.now, attemptAt := s.now, phaseAt := s.now })
    else s) s

/-- P0_CLOCKS_LOCKED. -/
def execP0ClocksLocked (s : State) : Res := run (fun s => if s.booting 0 && s.boot.sysResetN then s.beginP1 1 else s) s

/-- Both images of a firmware copy verify. -/
def fwGood (f : FwBundle) : Bool := fwMagicOk f && f.supOk && f.balOk

/-- Kind of a system key slot: ML_DSA_87 1, ML_KEM_1024 2, KMAC_SECRET 3 (R556, R593). -/
def sysKind (j : Nat) : Nat := if j < 3 then 1 else if j == 3 then 2 else if j < 6 then 3 else 0

/-- FIRMWARE_VERIFIED: the copy of the higher version runs if both of its images verify, else the other; the system keys are
derived, and P2 begins with the preferred bank (R131, R154, R556). DEDUCED: log entry 37. DEDUCED: log entry 64. -/
def execFirmwareVerified (s : State) : Res :=
  run (fun s =>
    if s.booting 1 then
      let one := decide (fwVersion s.flash.fw0 < fwVersion s.flash.fw1)
      let hi := if one then s.flash.fw1 else s.flash.fw0
      let lo := if one then s.flash.fw0 else s.flash.fw1
      let bad := if fwGood hi then none else if fwGood lo then some (if one then 1 else 0) else none
      let s := s.updBoot (fun b => { b with badFw := bad })
      if !fwGood hi && !fwGood lo then s.failBringup 0x1102 (if fwMagicOk hi && hi.supOk then 1 else 0)
      else
        let fw := if fwGood hi then hi else lo
        let s := s.updBoot (fun b => { b with fwSup := fw.supDigest, fwBal := fw.balDigest, prefAtP2B := s.flash.prefB })
        let s := (List.range 6).foldl (fun s j => s.setRegs [(.BAL_SYS_SLOT_KIND, j, sysKind j), (.BAL_SYS_SLOT_READY, j, 1)]) s
        let s := s.setReg .BAL_STATUS_RNG_OK 0 (flag !(s.flt.causes.any (fun c => c.source == 0x0D)))
        (s.toPhase 2).setRegs [(.SUP_COL_PROGRESS_CODE, 0, 0x0201), (.CMP_FORME_STATUS_PREF, 0, flag s.flash.prefB),
          (.CMP_ROLLBACK_COUNTER, 0, s.flash.rollback)]
    else s) s

/-- A bank is accepted: its forme runs, and P3 begins with the islands of its power plan (R37, R88, R128, R129, R776). -/
def State.runForme (s : State) (b : Bool) (im : Image) (fallback : Bool) : State :=
  let s := s.setRegs [(.CMP_FORME_STATUS_BANK, 0, flag b), (.CMP_FORME_STATUS_FALLBACK, 0, flag fallback),
    (.CMP_FORME_STATUS_TRIAL, 0, flag (decide ((s.bank b).state = .trial))), (.CMP_FORME_STATUS_SIGNER, 0, im.signer),
    (.CMP_FORME_VER_ROLLBACK_VER, 0, im.rollbackVer), (.CMP_AMEND_SEQ_HIGH_WATER, 0, s.flash.amendHigh), (.SUP_COL_PROGRESS_CODE, 0, 0x0301)]
  let s := (s.updBoot (fun x => { x with runB := b, running := some im })).toPhase 3
  let s := s.updCom (fun c => { c with
    hier := im.hier, faults := im.flts, meter := im.meter.headD {}, pool := im.pool, power := im.power, keys := im.keys })
  let plan := switched.filter (fun n => (powerRec im.power n).state == 2)
  let rest := switched.filter (fun n => !plan.contains n)
  let off := s.domsOff rest
  let s := rest.foldl (fun s n => if (islDomains n).any (fun d => s.on .SUP_DOM_STATUS_ON d) then s else s.setIsl n 0) s
  s.updIsl (fun i => { i with switchQ := i.switchQ ++ off ++ ((plan.map islDomains).flatten).map (fun d => { dom := d, on := true }) })

/-- BANK_VERIFY_DONE: the preferred bank, then the other; a bank that is EMPTY or BAD is not run, one that fails is BAD, and with
neither P2 fails (R88, R89, R91). DEDUCED: log entry 63. -/
def execBankVerifyDone (s : State) : Res :=
  run (fun s =>
    if s.booting 2 then
      let second := s.reg .SUP_COL_PROGRESS_CODE 0 == 0x0202
      let b := s.boot.prefAtP2B != second
      let res := match (s.bank b).state, (s.bank b).image with
        | .bad, _ => 0
        | .empty, _ => 6
        | _, none => 6
        | _, some im => s.formeResult im
      let s := s.setReg (if b then .CMP_FORME_STATUS_BANK_B else .CMP_FORME_STATUS_BANK_A) 0 res
      let s := if 2 ≤ res && res ≤ 5 then s.markBank b .bad else s
      match res, (s.bank b).image with
      | 1, some im => s.runForme b im second
      | _, _ =>
        if second then s.failBringup 0x1201 (s.reg .CMP_FORME_STATUS_BANK_A 0 + 8 * s.reg .CMP_FORME_STATUS_BANK_B 0)
        else s.setReg .SUP_COL_PROGRESS_CODE 0 0x0202
    else s) s

/-! ### P3: domains and islands (R37, R38, R138, R139, R724) -/

/-- Every domain of an island reports power good. -/
def State.powered (s : State) (n : Nat) : Bool := (islDomains n).all (fun d => s.on .SUP_DOM_STATUS_PGOOD d)

/-- Every island of the plan has its final state of P3. -/
def State.planDone (s : State) : Bool :=
  switched.all (fun n => (powerRec s.com.power n).state != 2 || s.islState n == 2 || s.isl.bootFenced.contains n)

/-- With the islands up, the device time base starts and every replica gets the seed (R33, R131, R149). -/
def State.seedReplicas (s : State) : State :=
  match s.boot.running with
  | some im =>
    if s.planDone && s.boot.timeBase.isNone then
      let s := s.updBoot (fun b => { b with timeBase := some s.now })
      (s.updCom (fun c => { c with active := s.withHier (seedTable im) im.hier })).progress 0x0303
    else s
  | none => s

/-- Domain `d` reports power good after it was switched on: in P3 an island with all of its domains runs; later it is reset, to end
FENCED (R37, R724). -/
def State.domainGood (s : State) (d : Nat) : State :=
  let n := domIsland d
  if !s.powered n then (if s.booting 3 then s else s.finish (.power d) 0)
  else if s.booting 3 then
    (if s.isl.bootFenced.contains n then s else (((s.work n).setIsl n 2).setReg .SUP_ISL_STATUS_CLK_LOCK n 1).seedReplicas)
  else if s.phase < 4 then s
  else s.resetIsl n

/-- A domain is switched off and begins to ramp down: its island is OFF, and what had not been isolated yet is flushed (R68); an island
of which a failed domain goes keeps its state, and the management core under repair stays LOST (R37, R49, R72, R117, R138, R724). -/
def State.domainOff (s : State) (d : Nat) (failed : Bool := false) : State :=
  let n := domIsland d
  let s := s.setRegs [(.SUP_DOM_STATUS_ON, d, 0), (.SUP_DOM_STATUS_PGOOD, d, 0), (.SUP_DOM_STATUS_SWITCHING, d, 1),
    (.SUP_ISL_STATUS_CLK_LOCK, n, 0), (.SUP_ISL_HEALTH_TEMP, n, 0)]
  if failed || (n == 52 && s.isl.mgmt.isSome) then s
  else
    let s := s.isolate n
    let s := if s.islState n == 5 then (s.causeOff 0x08 n).causeOff 0x09 n else s
    let s := ((s.flushInside n).loseBanks n).setIsl n 0
    let s := s.updIsl (fun i => { i with isolating := i.isolating.filter (fun e => e.1 != n), resets := i.resets.filter (fun e => e.1 != n) })
    s.finish (.power d) 0

/-- Domains that were switched off have ramped down (R72). DESIGN CHOICE: log entry 137. -/
def State.rampsOver (s : State) : State :=
  (List.range 90).foldl (fun s d =>
    if s.on .SUP_DOM_STATUS_SWITCHING d && !s.on .SUP_DOM_STATUS_ON d then s.setReg .SUP_DOM_STATUS_SWITCHING d 0 else s) s

/-- The supervisor switches the next domain of its sequence, 250 ns after the one before at the earliest (R38). A domain that is good
already counts as switched on. -/
def State.switchNext (s : State) : State :=
  let s := s.rampsOver
  match s.isl.switchQ with
  | [] => s
  | o :: rest =>
    let s := match s.isl.lastSwitch with
      | some t => s.atNow (t + 250)
      | none => s
    let s := s.updIsl (fun i => { i with switchQ := rest, lastSwitch := some s.now })
    if !o.on then s.domainOff o.dom o.failed
    else if s.on .SUP_DOM_STATUS_PGOOD o.dom then (s.setReg .SUP_DOM_STATUS_ON o.dom 1).domainGood o.dom
    else s.setRegs [(.SUP_DOM_STATUS_ON, o.dom, 1), (.SUP_DOM_STATUS_SWITCHING, o.dom, 1)]

/-- Whether a domain waits for its turn to be switched off. -/
def State.goesOff (s : State) (d : Nat) : Bool := s.isl.switchQ.any (fun o => o.dom == d && !o.on)

/-- DOMAIN_POWER_GOOD. Power that returns without a command does not change the island (R69), and power that comes too late does not
either (R138, R724). -/
def execDomainPowerGood (d : Nat) (s : State) : Res :=
  run (fun s =>
    if d < 90 && s.on .SUP_DOM_STATUS_ON d && !s.on .SUP_DOM_STATUS_PGOOD d then
      let sw := s.on .SUP_DOM_STATUS_SWITCHING d && !s.goesOff d
      let s := s.setRegs [(.SUP_DOM_STATUS_PGOOD, d, 1), (.SUP_DOM_STATUS_SWITCHING, d, 0)]
      if sw then s.domainGood d else s
    else s) s

/-- Failed domains of island `n`, of a list in the order of switching on, go off in the reverse order, in their turn; what was still to be
switched on stays off (R37, R38). -/
def State.failOff (s : State) (n : Nat) (ds : List Nat) : State :=
  s.updIsl (fun i => { i with switchQ := i.switchQ.filter (fun o => domIsland o.dom != n) ++
    ((ds.filter (fun d => s.on .SUP_DOM_STATUS_ON d)).reverse.map (fun d => { dom := d, on := false, failed := true })) })

/-- A non-essential failure of island `n`: it is fenced, its clock stopped, and domains without power good go off (R138). -/
def State.bootFence (s : State) (n code detail : Nat) : State :=
  let s := s.lastError code detail
  let s := s.failOff n ((islDomains n).filter (fun d => !s.on .SUP_DOM_STATUS_PGOOD d))
  let s := (s.setIsl n 4).setReg .SUP_ISL_STATUS_CLK_LOCK n 0
  let s := s.updIsl (fun i => { i with bootFenced := addTo n i.bootFenced, stale := addTo n i.stale })
  (s.updBoot (fun b => { b with degraded := b.degraded ++ [(code, detail)] })).seedReplicas

/-- The island that a non-essential failure names (R138, R139). -/
def State.nonEssentialIsl (s : State) (code detail : Nat) : Option Nat :=
  match code with
  | 0x1301 => if domIsland detail < 32 && detail < 64 then some (domIsland detail) else none
  | 0x1302 => if detail < 32 then some detail else none
  | 0x1304 => if detail < 32 then some detail else none
  | 0x1305 => if s.otherSpineGood detail then some detail else none
  | _ => none

/-- NON_ESSENTIAL_FAILURE. -/
def execNonEssentialFailure (code detail : Nat) (s : State) : Res :=
  run (fun s =>
    match s.nonEssentialIsl code detail with
    | some n => if s.booting 3 && (powerRec s.com.power n).state == 2 && !s.isl.bootFenced.contains n then s.bootFence n code detail else s
    | none => s) s

/-- A domain that ISL_POWER switched on gives no power good: it goes off again, after the one that the order puts behind it, and the
command ends with PGOOD_FAIL, also where it waited for the other domain of the island (R37, R724). -/
def State.powerFails (s : State) (d : Nat) : State :=
  let n := domIsland d
  let s := s.failOff n ((islDomains n).dropWhile (fun x => x != d))
  (islDomains n).foldl (fun s d => s.finish (.power d) 0x31) s

/-- DOMAIN_PGOOD: a domain that was switched on does not report power good within 1 ms: a failure of bring-up, an attempt at the
management core that fails, or the end of ISL_POWER with PGOOD_FAIL (R138, R139, R724, R784). -/
def execDomainPgood (d : Nat) (s : State) : Res :=
  run (fun s =>
    if d < 90 && s.on .SUP_DOM_STATUS_ON d && s.on .SUP_DOM_STATUS_SWITCHING d && !s.on .SUP_DOM_STATUS_PGOOD d && !s.goesOff d then
      let n := domIsland d
      if s.booting 3 then
        if n < 32 then s.bootFence n 0x1301 d
        else if s.otherSpineGood n then s.bootFence n 0x1305 n
        else s.failBringup 0x1301 d
      else if n == 52 then s.repairFails
      else s.powerFails d
    else s) s

/-- HBM_TRAINED. -/
def execHbmTrained (s : State) : Res :=
  run (fun s => if s.booting 3 then (s.updBoot (fun b => { b with hbmDone := true })).progress 0x0304 else s) s

/-- SERDES_CALIBRATED. -/
def execSerdesCalibrated (s : State) : Res :=
  run (fun s => if s.booting 3 then (s.updBoot (fun b => { b with serdesDone := true })).progress 0x0305 else s) s

/-! ### The end of P3 and of P4 (R131, R134, R136, R514, R555, R559, R692) -/

/-- Registers and state that the forme's sections give, loaded in P3. -/
def State.loadForme (s : State) (im : Image) : State :=
  let s := s.setRegs (shapeCells im.shape ++ arbCells im.arb ++ gateCells im.gates ++ slotCells im.slots)
  let w := im.pool.filter (fun r => r.typ == 2)
  let g := s.galleySheets
  let s := im.ports.foldl (fun s (r : PortRec) => s.setRegs [(.TILE_PORT_STATUS_ROLE, portIx r, r.role),
    (.TILE_PORT_STATUS_HOST_INDEX, portIx r, if r.role == 1 then r.hostIndex else 0)]) s
  let sheet := fun n => if 1024 ≤ n + g then 3 else if w.any (fun r => decide (r.first ≤ n) && decide (n ≤ r.last)) then 4 else 0
  let s := (List.range 1024).foldl (fun s n => s.setRegs [(.MEM_SHEET_STATE, n, sheet n), (.BAL_KEY_SLOT_POLICY, n, keyPolicy im.keys n)]) s
  (span 0 3).foldl (fun s m => s.setReg .MEM_STK_SPARE_USED m ((s.pool.remaps.filter (fun e => e.1 == m)).length)) s

/-- The random values of P3: boot nonce, BOOT_ID, import nonces, the keys of GENERATED slots at generation 1, arbiter seeds (R446,
R555, R559, R564, R567, R608). -/
def State.drawAll (s : State) : State :=
  let a := (s.draw).1
  let s := (s.draw).2
  let b := (s.draw).1
  let s := (s.draw).2
  let d := s.draws
  let s := (s.updBoot (fun x => { x with bootNonce := a })).updMet (fun m => { m with bootId := b })
  let s := { s.updKeys (fun k => { k with nonces := (List.range 1024).map (fun i => (i, Config.random (d + i))) }) with draws := d + 1024 }
  (span 32 41).foldl (fun s n => if s.running n then s.seedArbs n else s) s.fillSlots

/-- The slot-power interface reads the channels from the slot-power die; a powered channel's device is present (R137, R673,
R692, R695). DEDUCED: log entry 69. -/
def State.slotSync (s : State) : State :=
  if s.running 54 then
    let s := s.setReg .SLT_SUMMARY_LINK_OK 0 (flag !(s.flt.causes.any (fun c => c.source == 0x0F)))
    if s.sltUp then
      let s := (List.range 32).foldl (fun s k => match s.chanPort k with
        | some p => if gateOn (s.chState k) && s.on .SLT_STATUS_PRSNT k then s.setReg .TILE_PORT_STATUS_PRESENT p 1 else s
        | none => s) s.sltThaw
      ((s.reportMissed).restartDebounce).autoEn
    else s
  else s

/-- A port begins training in P4; a fabric port enters DETECT, or is DISABLED while it is contained (R136, R633). -/
def State.firstTrain (s : State) (p : Nat) : State :=
  if s.role p == 3 then
    (if s.reg .FLT_PORT_STATE p != 0 then s.setReg .TILE_DL_STATUS_STATE (p / 4) 6
     else if s.running (p / 4) then s.setReg .TILE_DL_STATUS_STATE (p / 4) 1 else s)
  else s.startTrain p

/-- P3 can end: islands as planned, HBM trained, SerDes calibrated, and random values to draw (R131, R551).
DEDUCED: log entry 68. -/
def State.p3Over (s : State) : Bool :=
  s.booting 3 && s.boot.timeBase.isSome && s.isl.switchQ.isEmpty && s.rngOk && (s.boot.hbmDone || !(span 42 45).any s.running) &&
  (s.boot.serdesDone || !(span 0 31).any s.running)

/-- ISLANDS_POWERED. DEDUCED: log entry 67. -/
def execIslandsPowered (s : State) : Res :=
  run (fun s =>
    match s.boot.running with
    | some im =>
      if s.p3Over then
        let s := ((s.loadForme im).drawAll).slotSync
        let s := ((s.updCom (fun c => { c with active := s.withHier (seedTable im) im.hier })).toPhase 4).progress 0x0401
        (im.ports.map portIx).foldl (fun s p => s.firstTrain p) s.turnOnAll
      else s
    | none => s) s

/-- P4 waits for no port any more: each has trained, is held by PERST_N, or cannot train (R134, R135). -/
def State.allTrained (s : State) : Bool :=
  (s.portRecs.map portIx).all (fun p => s.on .TILE_PORT_STATUS_LINK_UP p || s.perstHeld p)

/-- At P5 the running bank is confirmed: preference, anti-rollback counter, high-water, recovery port record, revocation fuses
(R90, R120, R129, R150, R560). -/
def State.confirmBank (s : State) (im : Image) : State :=
  let s := s.markBank s.boot.runB .confirmed
  let fl := s.flash
  let rec0 := (s.hostPort 0).map s.lanes
  let s := { s with
    flash := { fl with
      prefB := s.boot.runB, rollback := max fl.rollback im.rollbackVer, amendHigh := if fl.amendBase == imageDigest im then fl.amendHigh else 0,
      amendBase := imageDigest im, recovLane := (rec0.map (fun (l : List Nat) => l.headD 0)).getD fl.recovLane, recovWidth := (rec0.map List.length).getD fl.recovWidth }
    part := { s.part with
      signerRevoked := (im.keys.filter (fun (r : KeyRec) => r.typ == 2)).foldl (fun v (r : KeyRec) => putBit v r.slot true) s.part.signerRevoked } }
  s.setRegs [(.CMP_FORME_STATUS_TRIAL, 0, 0), (.CMP_FORME_STATUS_PREF, 0, flag s.boot.runB), (.CMP_ROLLBACK_COUNTER, 0, s.flash.rollback),
    (.CMP_AMEND_SEQ_HIGH_WATER, 0, s.flash.amendHigh)]

/-- P4_END: every port has trained, or 500 ms have passed; the switch is operational (R90, R122, R134, R140, R145, R494, R603). -/
def execP4End (s : State) : Res :=
  run (fun s =>
    match s.boot.running with
    | some im =>
      if s.booting 4 then
        let s := if s.allTrained then s else s.atNow (s.boot.phaseAt + 500000000)
        let s := ((((s.confirmBank im).toPhase 5).progress 0x0501).setDigest (imageDigest im)).meterStart
        let s := (((im.gates.filter (fun r => r.typ == 1 && r.entryCount != 0)).map (fun r => r.port)).eraseDups).foldl (fun s p => s.installGate p s.dev) s
        let s := (im.hier.filter isAssign).foldl (fun s h => s.startSpan false h.imprint (s.spanWeight h) (spanKey h.host h.vdsp) s.dev) s
        let s := s.boot.degraded.foldl (fun s e => if e.1 == 0x1305 then s.causeOn 0x0A 0 e.2 else s.report 0x0C 0 (e.1 * 256 + e.2)) s
        s.vdspView.foldl (fun s e => s.slotEvent e.1 e.2.1 e.2.2.1 e.2.2.2 e.2.2.2) s
      else s
    | none => s) s

/-! ### Cold and warm reset (R157 to R161, R164 to R166) -/

/-- A cold reset: everything but flash, fuses, pins and the slot-power die's channels (R15, R164). -/
def State.coldReset (s : State) : State :=
  let s := (s.wipe inSlotDie).updBoot (fun b => { b with stage := if b.stage = .thermalHold then .thermalHold else .powerLow, pwrok := false, origin := s.now })
  { s with flt := {}, met := {} }

/-- COLD_RESET: PWROK falls or an always-on supply is lost. -/
def execColdReset (s : State) : Res := run (fun s => s.coldReset) s

/-- A clock generator loses lock. For the supervisor and the Baldon core, which have no LOST state, that is a loss of the switch die's
supply: a cold reset (R35, 02 Loss of power or clock). DEDUCED: log entry 138. -/
def State.clkLoss (s : State) (n : Nat) : State :=
  if (n == 50 || n == 51) && s.on .SUP_ISL_STATUS_CLK_LOCK n then s.coldReset else s.unlock n

/-- CLK_UNLOCK. -/
def execClkUnlock (n : Nat) (s : State) : Res := run (fun s => s.clkLoss n) s

/-- REFCLK_Q_LOSS: the clock generators of a quad and its tiles unlock (R177). -/
def execRefclkQLoss (q : Nat) (s : State) : Res :=
  run (fun s => if 1 ≤ q && q ≤ 7 then (refIslands q).foldl (fun s n => s.unlock n) s else s) s

/-- REFCLK_LOSS: an S4 fault after P0, and the clock generators that REFCLK[0] feeds unlock but those of the three cores that keep
running (R172, R178, R655). DEDUCED: log entry 114. -/
def execRefclkLoss (s : State) : Res :=
  run (fun s =>
    if 1 ≤ s.phase then
      ((refIslands 0).filter (fun n => !(n == 50 || n == 51 || n == 52))).foldl (fun s n => s.unlock n) (s.report 0x01 0 0)
    else s) s

/-- Batches that are not written by the end of the flush are signed with DEFERRED, each in its place in the chain (R159, R619).
DEDUCED: log entry 71. -/
def State.deferBatches (s : State) : State :=
  match s.met.batches with
  | [] => s
  | b :: _ =>
    let m := s.met
    let m := match b.digest with
      | some _ => { m with prev := b.prev, nextSeq := b.seq, chainStart := bit b.flags 3 }
      | none => m
    let l := m.batches.map (fun x => { x with flags := putBit (putBit x.flags 3 false) 2 true, digest := none })
    (List.range l.length).foldl (fun s _ => s.signBatch) { s with met := { m with batches := l } }

/-- The reset of a warm reset takes place, and bring-up begins at P1, or is held there by SYS_RESET_N (R157, R160, R633). -/
def State.warmProceed (s : State) : State :=
  let s := (s.deferBatches.wipe keptWarm).setReg .FLT_STATUS_HALTED 0 0
  (s.beginP1 1).updBoot (fun b => { b with stage := if b.sysResetN then .none else .heldWarm })

/-- A warm reset begins: its cause is written, and the open interval closes (R34, R148, R158, R166). DEDUCED: log entry 73. -/
def State.warmReset (s : State) (cause : Nat) : State :=
  let s := (List.range 32).foldl (fun s k => s.setReg .SLT_STATUS_PERST k 1) (s.setReg .SUP_COL_RESET_CAUSE_CAUSE 0 cause)
  if s.phase == 5 && s.metRuns then
    (s.closePartial).updBoot (fun b => { b with stage := .flush s.now, origin := s.now })
  else ((s.updBoot (fun b => { b with origin := s.now }))).warmProceed

/-- WARM_RESET: SYS_RESET_N goes low with PWROK high (R157, R160). In P0 it only delays P1. -/
def execWarmReset (s : State) : Res :=
  run (fun s =>
    if s.boot.pwrok && s.boot.sysResetN then
      let s := s.updBoot (fun b => { b with sysResetN := false })
      if s.boot.stage = .none then
        (if s.phase == 0 then s.setReg .SUP_COL_RESET_CAUSE_CAUSE 0 1 else s.warmReset 1)
      else s
    else s) s

/-- SYS_RESET_N_RISE (R132, R160). -/
def execSysResetNRise (s : State) : Res :=
  run (fun s =>
    if s.boot.sysResetN then s
    else
      let s := s.updBoot (fun b => { b with sysResetN := true })
      if s.boot.stage = .heldWarm then (s.updBoot (fun b => { b with stage := .none })).beginP1 1
      else if s.phase == 0 then s.updBoot (fun b => { b with origin := s.now })
      else s) s

/-- METERING_FLUSH_DONE: every batch is signed and written, and the reset proceeds (R158, R612, R616). -/
def execMeteringFlushDone (s : State) : Res :=
  run (fun s =>
    match s.boot.stage with
    | .flush _ =>
      let n := List.range s.met.batches.length
      let t := n.foldl (fun s _ => s.writeBatch) (n.foldl (fun s _ => s.signBatch) s)
      if t.met.batches.isEmpty then t.warmProceed else s
    | _ => s) s

/-- FLUSH_TIMEOUT: 2 ms after the reset began (R158, R159). -/
def execFlushTimeout (s : State) : Res :=
  run (fun s =>
    match s.boot.stage with
    | .flush t0 => (s.atNow (t0 + 2000000)).warmProceed
    | _ => s) s

/-- DEV_RESET_START: the warm reset of an accepted DEV_RESET begins (R709). -/
def execDevResetStart (s : State) : Res :=
  run (fun s =>
    match s.port.resetAt with
    | some t =>
      if s.port.running.isNone && s.boot.stage = .none then ((s.atNow t).setReg .CMP_STATUS_RESET_PEND 0 0).warmReset 2 else s
    | none => s) s

/-! ### Recovery (R150 to R156) -/

/-- The check of an image for FORME_WRITE, in the encoding of BANK_A (R83, R85, R92). -/
def State.writeResult (s : State) (im : Image) (len : Nat) : Nat :=
  if !isForme im || im.imageLen != len then 4
  else match s.verifyImage im with
  | 1 => if im.rollbackVer < s.flash.rollback then 3 else 1
  | n => n

/-- Whether writes to the recovery registers are accepted: STALLED is set and no load runs (R151). -/
def State.recovOpen (s : State) : Bool := s.stalled && s.reg .SUP_COL_RECOV_STATUS_STATE 0 != 1

/-- Longest image of a recovery load's target (R153). -/
def State.recovLimit (s : State) : Nat := (if s.reg .SUP_COL_RECOV_CTL_TARGET 0 == 2 then 8 else 40) * 2 ^ 20

/-- A write of 1 to GO by host `k`: the image is read through the engine, which must be able to master (R151, R152, R281). -/
def State.recovGo (s : State) (k : Nat) (img : RecoveryImage) : State :=
  if s.recovOpen then
    let len := s.reg .SUP_COL_RECOV_LEN_LEN 0
    let n := if s.recovLimit < len || !s.mayMaster k then 0
      else readCount (s.reg .SUP_COL_RECOV_ADDR_ADDR 0) len (ctlSize (bits (s.vreg k .mep .devCtl) 14 12))
    let s := (s.setRegs [(.SUP_COL_RECOV_STATUS_STATE, 0, 1), (.SUP_COL_RECOV_STATUS_RESULT, 0, 0)]).updBoot (fun b =>
      { b with recov := some img, recovHost := k, recovReads := n, rebootAt := none })
    if n = 0 then s else s.startReads k n
  else s

/-- The result of a recovery load: OK 0, BAD_SIGNATURE 1, ROLLBACK 2, BAD_FORMAT 3, DMA_ERROR 4, TOO_LONG 5 (R152, R153). -/
def State.recovResult (s : State) (img : RecoveryImage) : Nat :=
  let len := s.reg .SUP_COL_RECOV_LEN_LEN 0
  let fw := s.reg .SUP_COL_RECOV_CTL_TARGET 0 == 2
  if s.recovLimit < len then 5
  else if !s.mayMaster s.boot.recovHost then 4
  else match img with
    | .forme im =>
      if fw || !isForme im || len != im.imageLen then 3
      else match s.verifyImage im with
        | 1 => if im.rollbackVer < s.flash.rollback then 2 else 0
        | 2 => 1
        | _ => 3
    | .firmware f => if !fw || !fwMagicOk f || len < f.length then 3 else if f.supOk && f.balOk then 0 else 1

/-- RECOVERY_LOAD. -/
def execRecoveryLoad (k : Nat) (img : RecoveryImage) (s : State) : Res :=
  run (fun s => if k == 0 && s.on .TILE_PORT_STATUS_LINK_UP s.recovPort then s.recovGo k img else s) s

/-- The firmware copy that a recovery load writes over: copy 1 if true (R154). Where both copies failed at the last P1, the rule for
equal and unequal versions chooses (DESIGN CHOICE, log entry 152). -/
def State.recovCopy (s : State) : Bool :=
  match s.boot.badFw with
  | some n => n == 1
  | none => decide (fwVersion s.flash.fw1 ≤ fwVersion s.flash.fw0)

/-- RECOVERY_LOAD_DONE: the last completion has come, and a good image is in flash, a forme's bank in TRIAL; a failed check leaves flash as it was (R153 to R156).
DEDUCED: log entry 65. -/
def execRecoveryLoadDone (s : State) : Res :=
  run (fun s =>
    match s.boot.recov with
    | some img =>
      let r := s.recovResult img
      let k := s.boot.recovHost
      let s := s.updBoot (fun b => { b with recov := none, recovReads := 0 })
      let s := { s with link := { s.link with dma := s.link.dma.filter (fun t => t.host != k || t.quarantined) } }
      let s := if s.reg .CMP_DMA_STATUS_STATE k == 1 then s.setReg .CMP_DMA_STATUS_STATE k 0 else s
      if r != 0 then s.setRegs [(.SUP_COL_RECOV_STATUS_STATE, 0, 3), (.SUP_COL_RECOV_STATUS_RESULT, 0, r)]
      else
        let s := match img with
          | .forme im => s.setBank (s.reg .SUP_COL_RECOV_CTL_TARGET 0 == 1) { state := .trial, image := some im }
          | .firmware f => { s with flash := if s.recovCopy then { s.flash with fw1 := f } else { s.flash with fw0 := f } }
        (s.setRegs [(.SUP_COL_RECOV_STATUS_STATE, 0, 2), (.SUP_COL_RECOV_STATUS_RESULT, 0, 0)]).updBoot (fun b => { b with rebootAt := some (s.now + 10000000) })
    | none => s) s

/-- RECOVERY_REBOOT: within 10 ms of DONE a new bring-up starts at P1 (R155). -/
def execRecoveryReboot (s : State) : Res :=
  run (fun s =>
    if s.stalled && s.boot.rebootAt.isSome then
      ((s.wipe keptAttempt).setReg .SUP_COL_RESET_CAUSE_CAUSE 0 3).beginP1 1
    else s) s

/-! ### Temperature (R765, R766) -/

/-- The highest value of a list and its place. -/
def hottest (l : List Nat) : Nat × Nat := (List.zip l (List.range l.length)).foldl (fun b e => if b.1 < e.1 then e else b) (0, 0)

/-- THERMAL_SAMPLE: temperatures of the 56 islands and of the stacks in °C + 64; HOT at 110 °C, and at 120 °C a trip, which acts
as if PWROK had fallen and holds the die in P0 (R765, R766). DEDUCED: log entry 74. DESIGN CHOICE: log entry 110. -/
def execThermalSample (temps hbm : List Nat) (s : State) : Res :=
  run (fun s =>
    if s.boot.pwrok then
      let s := (List.range 56).foldl (fun s n =>
        if s.islState n == 0 then s.setReg .SUP_ISL_HEALTH_TEMP n 0
        else if s.islState n == 3 then s else s.setReg .SUP_ISL_HEALTH_TEMP n (min 255 (nth temps n))) s
      let (t, n) := hottest ((List.range 56).map (fun n => s.reg .SUP_ISL_HEALTH_TEMP n))
      let h := min 255 (hottest (hbm.take 4)).1
      let s := s.setRegs [(.SUP_THERM_HOTTEST, 0, t), (.SUP_THERM_HOT_ISLAND, 0, n), (.SUP_THERM_HBM_MAX, 0, h)]
      let top := max t h
      let s := if 174 ≤ top then s.setReg .SUP_THERM_HOT 0 1 else s
      if 184 ≤ top && s.boot.stage ≠ .thermalHold then
        let s := { s with flash := { s.flash with trips := s.flash.trips + 1 } }
        s.coldReset.updBoot (fun b => { b with stage := .thermalHold, pwrok := true })
      else s
    else s) s

/-- THERMAL_HOLD_RELEASE: every powered sensor reads below 100 °C and PWROK is high (R766). Bring-up times count from here (R34; DESIGN
CHOICE, log entry 154). -/
def execThermalHoldRelease (s : State) : Res :=
  run (fun s =>
    if s.boot.stage = .thermalHold && s.boot.pwrok && (List.range 56).all (fun n => s.reg .SUP_ISL_HEALTH_TEMP n < 164) then
      s.updBoot (fun b => { b with stage := .none, origin := s.now, attemptAt := s.now, phaseAt := s.now })
    else s) s

end Sys2Proof.Machine
end

