-- ==== Sys2Proof/Machine/Hosts.lean ====
section
/-! DEFINITION. Host and device ports: resets of a host's hierarchy, DMA engines, training, enumeration, links, messages,
completions (05_lanes.md, 06_host_and_device_ports.md, R29, R652, R744). -/

namespace Sys2Proof.Machine

/-! ### The recovery port (R150 to R152) -/

/-- Lanes of the recovery port record. -/
def State.recovLanes (s : State) : List Nat := span s.flash.recovLane (s.flash.recovLane + s.flash.recovWidth - 1)

/-- A recovery load that its DMA can no longer feed ends with DMA_ERROR (R152, R284). -/
def State.recovStop (s : State) (k : Nat) : State :=
  match s.boot.recov with
  | some _ =>
    if k == s.boot.recovHost then
      (s.setRegs [(.SUP_COL_RECOV_STATUS_STATE, 0, 3), (.SUP_COL_RECOV_STATUS_RESULT, 0, 4)]).updBoot (fun b => { b with recov := none })
    else s
  | none => s

/-- The recovery port's link goes, and its hierarchy is reset (R150, R277). -/
def State.recovDown (s : State) : State :=
  let s := s.linkGone s.recovPort
  let s := s.recovLanes.foldl (fun s l => s.laneOff l) s
  ((s.dmaStop 0 false).recovStop 0).clearVregs 0

/-- The recovery port trains unless PERST_N[0] is low (R135, R150). -/
def State.recovTrain (s : State) : State :=
  if s.link.perstLow.contains 0 then s else s.updLink (fun l => { l with training := addTo s.recovPort l.training })

/-! ### Host-port resets (R157, R162, R277) -/

/-- PERST_N_RISE (R135, R769): the host port trains, from P4 on. -/
def execPerstNRise (k : Nat) (s : State) : Res :=
  run (fun s =>
    if s.link.perstLow.contains k then
      let s := s.updLink (fun l => { l with perstLow := dropFrom k l.perstLow })
      if s.stalled then (if k == 0 then s.recovTrain else s)
      else match s.hostPort k with
        | some p => s.startTrain p
        | none => s
    else s) s

/-- A host-port reset of host `k` on port `p` by its cause; only PERST_N resets the hierarchy of a link that is already down (R277).
DEDUCED: log entry 82. -/
def State.hostPortReset (s : State) (k p : Nat) (c : HostReset) : State :=
  let up := s.on .TILE_PORT_STATUS_LINK_UP p
  match c with
  | .perst => ((s.hostLinkDown p).updLink (fun l => { l with perstLow := addTo k l.perstLow })).hostReset k
  | .hot => if up then ((s.hostLinkDown p).hostReset k).startTrain p else s
  | .linkDown => (s.hostDown p).startTrain p
  | .removed => s.hostDown p

/-- HOST_PORT_RESET; while STALLED the recovery port is host 0's. -/
def execHostPortReset (k : Nat) (c : HostReset) (s : State) : Res :=
  run (fun s =>
    if s.stalled then
      (if k == 0 then
        let s := s.recovDown
        if c = .perst then s.updLink (fun l => { l with perstLow := addTo 0 l.perstLow }) else if c = .removed then s else s.recovTrain
      else if c = .perst && k < 32 then s.updLink (fun l => { l with perstLow := addTo k l.perstLow }) else s)
    else match s.hostPort k with
      | some p => (s.hostPortReset k p c).nextCommit
      | none => if c = .perst && k < 32 then s.updLink (fun l => { l with perstLow := addTo k l.perstLow }) else s) s

/-! ### Function resets (R246, R247, R287) -/

/-- The assignment at virtual downstream port `v` of host `k`. -/
def State.assignAt (s : State) (k v : Nat) : Option HierRec := s.com.hier.find? (fun h => isAssign h && h.host == k && h.vdsp == v)

/-- Device-side requester ID of function `f` of an assignment: by function number, or by position in a VF_SET. -/
def State.fnRid (s : State) (h : HierRec) (f : Nat) : Option Nat :=
  match h.kind with
  | 1 => (s.assignRids h).find? (fun r => r % 256 == f)
  | _ => (s.assignRids h)[f]?

/-- Position of function `f` in the list of an assignment's functions: the index under which its virtual registers are kept. -/
def State.fnIx (s : State) (h : HierRec) (f : Nat) : Option Nat :=
  match s.fnRid h f with
  | some r => some (ridIndex r (s.assignRids h))
  | none => none

/-- FUNCTION_LEVEL_RESET of function `f` at virtual downstream port `v`: forwarded, or completed by the switch for a PF_ONLY
assignment; its virtual registers return to their reset values, and its hierarchy entries go (R246, R247). -/
def execFunctionLevelReset (k v f : Nat) (s : State) : Res :=
  run (fun s =>
    match s.assignAt k v with
    | some h =>
      match s.fnRid h f, s.fnIx h f with
      | some rid, some i =>
        let s := if h.kind == 3 then s else s.sendFlr (hierPort h) rid
        let s := s.updLink (fun l => { l with vregs := l.vregs.filter (fun e => !(e.1.host == k && decide (e.1.target = .fn v i))) })
        (s.askHier k).nextCommit
      | _, _ => s
    | none => s) s

/-- Whether host `k` has a management endpoint now. -/
def State.hasMep (s : State) (k : Nat) : Bool := if s.stalled then k == 0 else (s.hostPort k).isSome

/-- MGMT_ENDPOINT_FLR (R163, R287, R715). -/
def execMgmtEndpointFlr (k : Nat) (s : State) : Res :=
  run (fun s => if s.hasMep k then ((((s.dmaStop k false).recovStop k).clearMep k).ownerReset k) else s) s

/-! ### The DMA engine (R281 to R287) -/

/-- A command of host `k` begins to read `n` requests through its engine. -/
def State.beginReads (s : State) (k n : Nat) : State := (s.updRun (fun r => { r with reads := n })).startReads k n

/-- The last completion of an image that goes to flash has come: its checks pass before anything is written, and its bank is BAD from
the first write on (R14, R92, R152, R156). -/
def State.imageRead (s : State) (k : Nat) : State :=
  if s.link.dma.any (fun e => e.host == k && !e.quarantined) then s
  else match s.boot.recov, s.port.running with
  | some (.forme im), _ =>
    if k == s.boot.recovHost && s.boot.recovReads == 0 && s.recovResult (.forme im) == 0 then s.markBank (s.reg .SUP_COL_RECOV_CTL_TARGET 0 == 1) .bad
    else s
  | none, some r =>
    if r.host == k && r.opcode == 0x13 && r.reads == 0 && r.result.isNone && (r.image.map (fun im => s.writeResult im (nth r.args 2))) == some 1 then
      s.markBank (nth r.args 3 == 1) .bad
    else s
  | _, _ => s

/-- The tag of host `k`, if it is in use. -/
def State.dmaTag (s : State) (k t : Nat) : Option DmaTag := s.link.dma.find? (fun e => e.host == k && e.tag == t)

/-- Host `k`'s tag leaves. -/
def State.dropTag (s : State) (k t : Nat) : State := s.updLink (fun l => { l with dma := l.dma.filter (fun e => !(e.host == k && e.tag == t)) })

/-- A completion for tag `t` of host `k`'s engine (R283, R285). -/
def State.dmaCpl (s : State) (k t : Nat) (last : Bool) : State :=
  match s.dmaTag k t with
  | none => s
  | some e =>
    if e.quarantined then
      let s := s.bump .CMP_DMA_LATE_COUNT k
      if last then s.dropTag k t else s
    else if last then ((s.dropTag k t).issueRead k).imageRead k else s

/-- Bus Master Enable of host `k`'s management endpoint clears, or D3hot is entered (R243, R282, R284). -/
def State.bmeClear (s : State) (k : Nat) : State := (s.dmaStop k true).recovStop k

/-- The engine leaves STOPPED for IDLE once its endpoint may master (R286). -/
def State.bmeSet (s : State) (k : Nat) : State :=
  if s.mayMaster k && s.reg .CMP_DMA_STATUS_STATE k == 2 then s.setReg .CMP_DMA_STATUS_STATE k 0 else s

/-- A write of Command of host `k`'s management endpoint. -/
def State.mepCommand (s : State) (k v : Nat) : State :=
  let was := s.mayMaster k
  let s := s.setVreg k .mep .command (v % 2048)
  if was && !s.mayMaster k then s.bmeClear k else s.bmeSet k

/-- A write of the power state of host `k`'s management endpoint: D0 or D3hot (R239, R243). -/
def State.mepPower (s : State) (k v : Nat) : State :=
  let was := s.mayMaster k
  let s := if v % 4 == 0 || v % 4 == 3 then s.setVreg k .mep .pmcsr (v % 4) else s
  if was && !s.mayMaster k then s.bmeClear k else s.bmeSet k

/-- BUS_MASTER_ENABLE_CLEAR. -/
def execBusMasterEnableClear (k : Nat) (s : State) : Res :=
  run (fun s => if s.hasMep k then s.mepCommand k (putBit (s.vreg k .mep .command) 2 false) else s) s

/-- BUS_MASTER_ENABLE_SET. -/
def execBusMasterEnableSet (k : Nat) (s : State) : Res :=
  run (fun s => if s.hasMep k then s.mepCommand k (putBit (s.vreg k .mep .command) 2 true) else s) s

/-- DMA_READ_TIMEOUT: the read's tag is retired, a Completion Timeout stands in the endpoint's AER status, the other tags go into
quarantine, the command ends with DMA_ERROR and the engine is free (R281). -/
def execDmaReadTimeout (k t : Nat) (s : State) : Res :=
  run (fun s =>
    match s.dmaTag k t with
    | some e =>
      if e.quarantined then s
      else
        let s := (s.atNow e.due).setVreg k .mep .aerStatus (putBit (s.vreg k .mep .aerStatus) 14 true)
        let s := ((((s.dropTag k t).quarantineTags k).dmaFail k).recovStop k).emit (.ctl ((s.hostPort k).getD 0) "completion timeout" k t)
        if s.reg .CMP_DMA_STATUS_STATE k == 1 then s.setReg .CMP_DMA_STATUS_STATE k 0 else s
    | none => s) s

/-- QUARANTINE_LATE_COMPLETION (R283, R285). -/
def execQuarantineLateCompletion (k t : Nat) (last : Bool) (s : State) : Res :=
  run (fun s =>
    match s.dmaTag k t with
    | some e => if e.quarantined then s.dmaCpl k t last else s
    | none => s) s

/-- QUARANTINE_TIMEOUT (R285). -/
def execQuarantineTimeout (k t : Nat) (s : State) : Res :=
  run (fun s =>
    match s.dmaTag k t with
    | some e => if e.quarantined then (s.atNow e.due).dropTag k t else s
    | none => s) s

/-! ### Training of host and device ports (R170, R185 to R191, R223) -/

/-- The rate that a port trains to (R170): the lowest of its partner's, its forme's and, on a CXL port, 64 GT/s. -/
def trainRate (own partner : Nat) (cxl : Bool) : Nat := min (min own partner) (if cxl then 6 else 7)

/-- The lanes of a port train at a width: port lanes 0 to `w` − 1 run, the others go OFF (R188). -/
def State.trainLanes (s : State) (ls : List Nat) (w rate : Nat) (t : LaneTune) (sl : LanePort) : State :=
  ((List.range ls.length).zip ls).foldl (fun s e => if e.1 < w then (s.tuneLane e.2 e.1 rate t sl).equalise e.2 e.1 rate t sl else s.laneOff e.2) s

/-- A link comes up with `w` of its lanes at a rate. -/
def State.linkUp (s : State) (p rate w : Nat) (flit cxl : Bool) : State :=
  let s := s.setRegs [(.TILE_PORT_STATUS_LINK_UP, p, 1), (.TILE_PORT_STATUS_RATE, p, rate), (.TILE_PORT_STATUS_WIDTH, p, w),
    (.TILE_PORT_STATUS_FLIT, p, flag flit), (.TILE_PORT_STATUS_CXL, p, flag cxl)]
  (s.updLink (fun l => { l with
    training := dropFrom p l.training, follow := dropFrom p l.follow, quiet := dropFrom p l.quiet,
    wide := if 1 < w then addTo p l.wide else l.wide })).guardChange p rate w

/-- The widths that a port of `n` lanes can train at: x1 only after it has trained wider (R25). -/
def State.trainWidth (s : State) (p n w : Nat) : Bool :=
  [1, 2, 4, 8, 16].contains w && decide (w ≤ n) && (w != 1 || s.link.wide.contains p)

/-- Training of port `p` ends: a device port takes its device's limits (R226), and its SLOT_PERST_N follows R693. -/
def State.trained (s : State) (p : Nat) (t : Training) : State :=
  match s.slotRec p, s.portRec p with
  | some sl, some r =>
    let cxl := r.cxl && t.cxl
    let rate := trainRate sl.maxRate t.partnerRate cxl
    let ls := s.lanes p
    if s.trainWidth p ls.length t.width && decide (1 ≤ rate) then
      let s := s.trainLanes ls t.width rate t.toLaneTune sl
      let s := s.linkUp p rate t.width (t.flit || decide (6 ≤ rate)) cxl
      if r.role == 2 then
        (s.updLink (fun l => { l with
          limits := Sparse.set id l.limits p (min 4096 t.devMps), readLimits := Sparse.set id l.readLimits p (min 4096 t.devMrrs) })).perstRule p
      else s
    else s
  | _, _ => s

/-- The recovery port trains at up to 32 GT/s (R150). -/
def State.recovTrained (s : State) (t : Training) : State :=
  let rate := min 5 t.partnerRate
  let ls := s.recovLanes
  if s.trainWidth s.recovPort ls.length t.width && decide (1 ≤ rate) then
    let s := s.trainLanes ls t.width rate t.toLaneTune { maxRate := 5 }
    s.linkUp s.recovPort rate t.width t.flit false
  else s

/-- PORT_TRAINED. -/
def execPortTrained (p : Nat) (t : Training) (s : State) : Res :=
  run (fun s =>
    if s.stalled then (if p == s.recovPort && s.link.training.contains p then s.recovTrained t else s)
    else if (s.role p == 1 || s.role p == 2) && (s.link.training.contains p || s.link.follow.contains p) && s.mayTrain p then
      State.hotplug (fun s => s.trained p t) s
    else s) s

/-! ### Enumeration (R226, R233, R234, R244, R782, R783) -/

/-- Hierarchy entries that no longer match the device or the host's registers are replaced in a change of their own (R234). -/
def State.syncHier (s : State) (k : Nat) : State :=
  if s.phase == 5 && decide (s.withHier s.com.active s.com.hier ≠ s.com.active) then (s.askHier k).nextCommit else s

/-- The function-seconds of a WHOLE_DEVICE assignment follow its device's functions (R601). -/
def State.reweigh (s : State) (h : HierRec) : State :=
  let key := spanKey h.host h.vdsp
  let w := s.spanWeight h
  if s.met.spans.any (fun x => !x.sheet && x.key == key && x.stop.isNone && x.weight != w) then
    (s.endSpan false key s.dev).startSpan false h.imprint w key s.dev
  else s

/-- Device-side bus numbers: functions on bus 0x01, VFs on buses 0x02 to 0x0F (R233). -/
def busesOk (f : DevFn) : Bool :=
  f.rid / 256 == 1 && (f.totalVfs == 0 || (decide (0x200 ≤ f.vfRid0) && decide (f.vfRid0 + f.totalVfs ≤ 0x1000)))

/-- DEVICE_ENUMERATED. -/
def execDeviceEnumerated (p : Nat) (fns : List DevFn) (s : State) : Res :=
  run (fun s =>
    if s.role p == 2 && s.on .TILE_PORT_STATUS_LINK_UP p && s.reg .FLT_PORT_STATE p == 0 && fns.all busesOk then
      let d : Device := { port := p, fns, bars := placeBars (numVfs s.com.hier p) fns }
      let s := State.hotplug (fun s =>
        (s.setupVfs p).updLink (fun l => { l with devices := l.devices.filter (fun x => x.port != p) ++ [d] })) s
      let hs := s.com.hier.filter (fun h => isAssign h && hierPort h == p)
      let s := (hs.filter (fun h => h.kind == 1)).foldl (fun s h => s.reweigh h) s
      s.syncHier ((hs.map (·.host)).headD 0)
    else s) s

/-! ### Links (R228, R257 to R262, R209, R276, R744) -/

/-- Whether the presence of a device port's device is still asserted. -/
def State.stillPresent (s : State) (p : Nat) : Bool :=
  match s.portChan p with
  | some k => s.on .SLT_STATUS_PRSNT k
  | none => true

/-- DEVICE_PORT_LINK_DOWN (R276); with presence still asserted it is a surprise down, whose report contains the port (R634, R646). -/
def execDevicePortLinkDown (p : Nat) (s : State) : Res :=
  run (fun s =>
    if s.role p == 2 && s.on .TILE_PORT_STATUS_LINK_UP p then
      let s := s.deviceDown p
      if s.stillPresent p then s.report 0x22 1 p else s
    else s) s

/-- Whether a port is a host or device port with its link up. -/
def State.pcieUp (s : State) (p : Nat) : Bool := (s.role p == 1 || s.role p == 2) && s.on .TILE_PORT_STATUS_LINK_UP p

/-- L1_ENTRY (R197, R228). -/
def execL1Entry (p : Nat) (s : State) : Res :=
  run (fun s => if s.pcieUp p && !s.link.quiet.contains p then (s.updLink (fun l => { l with quiet := addTo p l.quiet })).lanesSleep p else s) s

/-- Whether a lane direction sleeps. -/
def State.sleeps (s : State) (l : Nat) (d : Dir) : Bool := s.reg (laneField d) l == 2 || s.reg (laneField d) l == 3

/-- The sleeping directions of a port's lanes are ready again (R200). -/
def State.lanesWake (s : State) (p : Nat) : State :=
  (s.lanes p).foldl (fun s l => [Dir.tx, Dir.rx].foldl (fun s d => if s.sleeps l d then s.wakeDir l d else s) s) s

/-- L1_EXIT (R200, R228). -/
def execL1Exit (p : Nat) (s : State) : Res :=
  run (fun s => if s.link.quiet.contains p then (s.updLink (fun l => { l with quiet := dropFrom p l.quiet })).lanesWake p else s) s

/-- PTM_REQUEST of a device (R257). -/
def execPtmRequest (p : Nat) (s : State) : Res :=
  run (fun s => if s.role p == 2 && s.on .TILE_PORT_STATUS_LINK_UP p then s.emit (.time p s.dev) else s) s

/-- PTM_HOST_REQUEST (R258). -/
def execPtmHostRequest (k : Nat) (s : State) : Res :=
  run (fun s =>
    match s.hostPort k with
    | some p => if s.on .TILE_PORT_STATUS_LINK_UP p then s.emit (.time p s.dev) else s
    | none => s) s

/-- The Link IDE stream of a port is secure under a key (R259). -/
def State.ideOn (s : State) (p key : Nat) : State :=
  (s.updLink (fun l => { l with ideKeys := l.ideKeys.filter (fun e => e.1 != p) ++ [(p, key)] })).setReg .TILE_PORT_STATUS_IDE p 1

/-- IDE_KM (R260): the keys of the port's Link IDE stream, or, on a port trained as CXL, of its CXL.mem stream. Skid mode is not
supported: the streams run in containment mode, where nothing of a packet goes on before its integrity check (R266). -/
def execIdeKm (k : Nat) (key : IdeKey) (s : State) : Res :=
  run (fun s =>
    match s.hostPort k with
    | some p =>
      if !s.on .TILE_PORT_STATUS_LINK_UP p then s
      else if key.skid then s.emit (.message k "IDE mode not supported")
      else if !key.mem then s.ideOn p key.value
      else if s.on .TILE_PORT_STATUS_CXL p then s.updLink (fun l => { l with ideMem := Sparse.set id l.ideMem p key.value })
      else s
    | none => s) s

/-- IDE_REQUIRED of a port. -/
def State.ideRequired (s : State) (p : Nat) : Bool :=
  match s.portRec p with
  | some r => r.ideRequired
  | none => false

/-- DEVICE_IDE_SETUP: the session's secret gives the link's keys; a port that requires IDE and does not get it is contained by
its fault (R261, R634). -/
def execDeviceIdeSetup (p : Nat) (good : Bool) (secret : Nat) (s : State) : Res :=
  run (fun s =>
    if s.role p == 2 && s.on .TILE_PORT_STATUS_LINK_UP p then
      (if good then s.ideOn p (Config.linkKey (s.sysKey 4) secret)
       else if s.ideRequired p then (s.report 0x21 1 p).containPort p else s)
    else s) s

/-- IDE_FAIL: an integrity failure takes the port's streams insecure, Link IDE or CXL.mem (R262, R266). -/
def execIdeFail (p : Nat) (s : State) : Res :=
  run (fun s =>
    if s.on .TILE_PORT_STATUS_IDE p || (Sparse.get? s.link.ideMem p).isSome then
      ((s.setReg .TILE_PORT_STATUS_IDE p 0).updLink (fun l => { l with ideKeys := l.ideKeys.filter (fun e => e.1 != p), ideMem := Sparse.erase l.ideMem p })).report 0x21 1 p
    else s) s

/-- A port becomes Loopback follower: its lanes run on and send what they receive, retimed (R207, R211). DEDUCED: log entry 143. -/
def State.becomeFollower (s : State) (p rate : Nat) : State :=
  let s := s.updLink (fun l => { l with follow := addTo p l.follow, training := dropFrom p l.training })
  (s.lanes p).foldl (fun s l => (s.laneTo l 1).setRegs [(.TILE_LANE_STATUS_RATE, l, rate), (.TILE_LANE_STATUS_SIG_DET, l, 1),
    (.TILE_LANE_STATUS_CDR_LOCK, l, 1)]) s

/-- The loopback that a lane uses: far-end on a follower, else what its test register selects (R207). -/
def State.loopOf (s : State) (l : Nat) : Nat :=
  if (s.lanePort l).any (fun p => s.link.follow.contains p) then 3 else s.reg .TILE_LANE_TEST_LPBK l

/-- LOOPBACK_REQUEST (R209, R211). The link goes down at its partner's request, which is no SURPRISE_DOWN: DESIGN CHOICE, log
entry 144. -/
def execLoopbackRequest (p : Nat) (s : State) : Res :=
  run (fun s =>
    match s.slotRec p with
    | some sl =>
      if (s.role p == 1 || s.role p == 2) && (s.on .TILE_PORT_STATUS_LINK_UP p || s.link.training.contains p) then
        let rate := max 1 (s.reg .TILE_PORT_STATUS_RATE p)
        let t := (s.portDown p none).nextCommit
        if sl.feAllow then t.becomeFollower p rate
        else (t.startTrain p).report 0x58 0 p
      else s
    | none => s) s

/-- Flits of a port are sent again from the oldest unacknowledged one (R744). -/
def State.flitReplay (s : State) (p : Nat) : State :=
  match s.link.flits.find? (fun f => f.port == p) with
  | some f =>
    if f.unacked.isEmpty then s
    else (((s.tally (p / 4) 0x04).updLink (fun l => { l with flits := l.flits.map (fun (x : FlitTx) => if x.port == p then { x with lastAdv := s.now } else x) })).emit
      (.ctl p "replay" (f.unacked.headD 0) 0))
  | none => s

/-- PCIE_REPLAY_TIMER: 600 ns after the last advance (R744). -/
def execPcieReplayTimer (p : Nat) (s : State) : Res :=
  run (fun s =>
    match s.link.flits.find? (fun f => f.port == p) with
    | some f =>
      if s.on .TILE_PORT_STATUS_FLIT p && !f.unacked.isEmpty then (s.atNow (f.lastAdv + 600)).flitReplay p else s
    | none => s) s

/-- An acknowledgement of flits up to number `n`. -/
def State.flitAck (s : State) (p n : Nat) : State :=
  s.updLink (fun l => { l with flits := l.flits.map (fun (x : FlitTx) =>
    if x.port == p && x.unacked.contains n then { x with unacked := (x.unacked.dropWhile (fun m => m != n)).drop 1, lastAdv := s.now } else x) })

/-- FLIT_RECEIVED on a port in flit mode: an ACK or a NAK of the flits sent (a NAK acknowledges those before its number, and
starts a replay at once); a bad flit is answered with a NAK (R622, R744). -/
def execFlitReceived (p : Nat) (ack nak : Option Nat) (bad : Bool) (s : State) : Res :=
  run (fun s =>
    if s.on .TILE_PORT_STATUS_FLIT p && (s.role p == 1 || s.role p == 2) then
      if bad then (s.tally (p / 4) 0x03).emit (.ctl p "nak" 0 0)
      else
        let s := match ack with
          | some n => s.flitAck p n
          | none => s
        match nak with
        | some n => (s.flitAck p ((n + 1023) % 1024)).flitReplay p
        | none => s
    else s) s

/-! ### Messages (R254, R273, R359) -/

/-- The assignment of a device function. -/
def State.ownerOf (s : State) (p rid : Nat) : Option HierRec := s.com.hier.find? (fun h => s.assigned h p rid)

/-- A message goes out on port `p` where that takes it (`ok` too); crossing ends that discard it count it (R58, R67, R73). -/
def State.postOn (s : State) (p : Nat) (ok : Bool) (o : Output) : State :=
  if s.portUp p then (if ok then s.emit o else s)
  else if s.shutPort p then s.bump .SUP_XING_DROP_COUNT 0
  else s

/-- ATS_REQUEST: a function's request goes to the host of its assignment; that host's invalidations and responses to the function
with its prefixes unchanged (R254). -/
def execAtsRequest (fromDev : Bool) (k p rid : Nat) (msg : AtsMsg) (s : State) : Res :=
  run (fun s =>
    match s.ownerOf p rid with
    | some h =>
      if fromDev && (msg.kind = .translation || msg.kind = .pageRequest) then
        (match s.hostPort h.host with
          | some q => s.postOn q true (.ats true h.host p (s.srcRid (.device p rid) q) msg.kind msg.pre)
          | none => s)
      else if !fromDev && h.host == k && (msg.kind = .invalidation || msg.kind = .pageResponse) then
        s.postOn p (!s.funcClosed p rid) (.ats false k p rid msg.kind msg.pre)
      else s
    | none => s) s

/-- The function of host `k` that its enumeration knows under ID `id`: the port of its device and its own ID there (R250). -/
def State.fnOfId (s : State) (k id : Nat) : Option (Nat × Nat) :=
  (s.com.hier.filter (fun h => isAssign h && h.host == k)).findSome? (fun h =>
    ((s.assignRids h).zipIdx.find? (fun e => s.hostFnRid k h.vdsp (if h.kind == 1 then e.1 % 256 else e.2) == id)).map (fun e => (hierPort h, e.1)))

/-- MESSAGE_RECEIVED: routed within its source's virtual hierarchy, by ID or implicitly, with its prefixes unchanged; `toHost` says which way
an implicit one goes (R254, R359). A host's message reaches no function but its own; a device's goes to the host of its function. -/
def execMessageReceived (src : Source) (msg : MsgRoute) (toHost : Bool) (s : State) : Res :=
  run (fun s =>
    match src, msg.byId with
    | .host k, some id =>
      match s.fnOfId k id with
      | some (p, rid) => s.postOn p (!s.funcClosed p rid) (.msg false k p rid msg.pre)
      | none => s
    | .host k, none =>
      if toHost then s
      else (s.com.hier.filter (fun h => isAssign h && h.host == k)).foldl (fun s h => s.postOn (hierPort h) true (.msg false k (hierPort h) 0 msg.pre)) s
    | .device p rid, _ =>
      match s.ownerOf p rid with
      | some h => (match s.hostPort h.host with
          | some q => if s.reg .FLT_PORT_STATE p == 0 then s.postOn q true (.msg true h.host p rid msg.pre) else s
          | none => s)
      | none => s
    | .fabric _ _, _ => s) s

/-- DPC Trigger Status clears in one host's view (R273). -/
def State.dpcClear (s : State) (k v : Nat) : State :=
  s.setVreg k (.vdsp v) .dpcStatus (putBit (s.vreg k (.vdsp v) .dpcStatus) 0 false)

/-- DPC_TRIGGER_STATUS_CLEAR. -/
def execDpcTriggerStatusClear (k v : Nat) (s : State) : Res := run (fun s => if s.phase == 5 && (s.hostPort k).isSome then s.dpcClear k v else s) s

/-! ### Completions (R29, R30, R652) -/

/-- COMPLETION_TIMEOUT of request `i`, or of the read that packet `i` waits for (R405): a host is answered as for a lost destination,
a device with Unsupported Request; CPL_TIMEOUT is logged and counted (R652). DEDUCED: log entry 84. -/
def execCompletionTimeout (i : Nat) (s : State) : Res :=
  run (fun s =>
    match s.outReq i with
    | some o =>
      match o.due with
      | some d =>
        let s := s.atNow d
        let dev := s.role o.port == 2
        let s := match o.src with
          | .host _ => s.outLost o
          | _ => s.outFail o .ur
        let s := s.bump .FLT_PORT_CTO o.port
        if dev then s.report 0x23 3 (o.port * 4096 + o.rid) else s.report 0x23 1 o.port
      | none => s
    | none =>
      match s.tr.seals.find? (fun x => x.pkt == i && !x.ready), s.pkt i with
      | some x, some k => ((s.sealFail x).bump .FLT_PORT_CTO x.port).report 0x23 3 (x.port * 4096 + k.destB)
      | _, _ => s) s

/-- COMPLETION_RECEIVED on a host or device port, whose link credits cover it (R419). One of the switch's own reads is counted in the device record (R599); a completion for a sealed read whose key entry awaits redelivery waits (R579). -/
def execCompletionReceived (c : Cpl) (s : State) : Res :=
  run (fun s =>
    if s.pcieUp c.inPort && s.hasCredit c.inPort c.data.length then
      let s := (s.atDev c.ts).tally (c.inPort / 4) 0x01
      let s := if c.poison then s.report 0x52 0 c.inPort else s
      let mep := match s.portRec c.inPort with
        | some r => if r.role == 1 && c.tag < 256 && (s.dmaTag r.hostIndex c.tag).isSome && s.mepRid r.hostIndex == c.rid then some r.hostIndex else none
        | none => none
      match mep with
      | some k => (s.countCpl (32 + quadOf c.inPort) none 0 c.data.length c.ts).dmaCpl k c.tag c.last
      | none => s.cplIn c
    else s) s

end Sys2Proof.Machine
end

