-- ==== Sys2Proof/Machine/Hierarchy.lean ====
section
/-! DEFINITION. Configuration requests to a host's virtual hierarchy (06_host_and_device_ports.md, The virtual hierarchy of a host,
The management endpoint, ATS PASID and ACS, Hot-plug). -/

namespace Sys2Proof.Machine

/-! ### What exists (R143, R230) -/

/-- What a configuration request of host `k` finds at a target: a function that the switch presents; a function of an assignment,
with its record, its position and its device-side requester ID; a device that is lost; or nothing. -/
inductive Found where
  | own
  | fn (h : HierRec) (ix rid : Nat)
  | lost
  | nothing
  deriving DecidableEq, Repr

/-- Whether a device port cannot answer for a function (R275, R649). -/
def State.fnLost (s : State) (p rid : Nat) : Bool := !s.portUp p || s.funcClosed p rid

/-- Whether the port at `v` of host `k` holds a logical device of the pool: port 31 of a CXL host, from P5 on (R264). -/
def State.ldAt (s : State) (k v : Nat) : Bool :=
  v == 31 && s.phase == 5 && (match s.hostRec k with
    | some r => r.cxl
    | none => false)

/-- The target of a configuration request. DEDUCED: log entry 78. -/
def State.findTarget (s : State) (k : Nat) (t : CfgTarget) : Found :=
  match t with
  | .usp => .own
  | .mep => .own
  | .vdsp v => if v == 0 || (s.phase == 5 && decide (v < 32)) then .own else .nothing
  | .fn v f =>
    if s.phase != 5 || v == 0 || 32 ≤ v then .nothing
    else if s.ldAt k v then (if f == 0 then .own else .nothing)
    else match s.assignAt k v with
      | none => .lost
      | some h =>
        match s.fnRid h f with
        | none => if s.portUp (hierPort h) then .nothing else .lost
        | some rid => if s.fnLost (hierPort h) rid then .lost else .fn h (ridIndex rid (s.assignRids h)) rid

/-! ### Virtual BARs (R234, R238, R240) -/

/-- The BAR of a function of an assignment that register `n` belongs to, with its size, and whether it is its upper half. -/
def State.virtBar (s : State) (h : HierRec) (rid n : Nat) : Option (DevBar × Nat × Bool) :=
  let bars := s.fnBars s.com.hier (hierPort h) rid
  match bars.find? (fun (b : DevBar × Nat × Nat) => b.1.index == n) with
  | some (b, z, _) => some (b, max 4096 z, false)
  | none =>
    match bars.find? (fun (b : DevBar × Nat × Nat) => b.1.index + 1 == n && b.1.is64 && b.1.index != 6) with
    | some (b, z, _) => some (b, max 4096 z, true)
    | none => none

/-- The bits of a BAR's half that can be written: those of the address at and above its size. -/
def barMask (size : Nat) (upper : Bool) : Nat :=
  if upper then (2 ^ 64 - size) / 2 ^ 32 else (2 ^ 64 - size) % 2 ^ 32

/-- The type bits of a BAR: 64-bit, prefetchable. -/
def barType (is64 pref : Bool) : Nat := 4 * flag is64 + 8 * flag pref

/-- What a write to a BAR register of a function keeps: its address bits, and the enable bit of an Expansion ROM. -/
def State.barKeep (s : State) (h : HierRec) (rid n v : Nat) : Option Nat :=
  (s.virtBar h rid n).map (fun (_, z, up) => (v &&& barMask z up) + (if n == 6 then v % 2 else 0))

/-- Size and type of a BAR of a management endpoint (R239 to R241). -/
def State.mepBar (s : State) (k n : Nat) : Option (Nat × Bool × Nat) :=
  let b2 := match s.hostRec k with
    | some r => r.bar2Log2
    | none => 0
  match n with
  | 0 => some (2 ^ 26, false, 4)
  | 1 => some (2 ^ 26, true, 0)
  | 2 => if b2 == 0 then none else some (2 ^ b2, false, 12)
  | 3 => if b2 == 0 then none else some (2 ^ b2, true, 0)
  | _ => none

/-! ### Reads (R232, R238, R239, R256, R268, R783) -/

/-- A number for a register in the free values. -/
def cfgCode (r : CfgReg) : Nat :=
  match r with
  | .bar n => 100 + n
  | .vfBar n => 200 + n
  | .mailbox c => 300 + c.ctorIdx
  | .hdm n => 400 + n
  | .capHeader ext i => 2 ^ 20 + 2 * i + flag ext
  | .other o => 2 ^ 16 + o
  | r => r.ctorIdx

/-- The current rate and width of the device port of an assignment, as Link Status and Link Capabilities give them (R232); in front of a
logical device those of the host port. DESIGN CHOICE: log entry 157. -/
def State.vdspLink (s : State) (k v : Nat) : Nat :=
  let of := fun p => s.reg .TILE_PORT_STATUS_RATE p + s.reg .TILE_PORT_STATUS_WIDTH p * 16
  if s.ldAt k v then of ((s.hostPort k).getD 0)
  else match s.assignAt k v with
  | some h => of (hierPort h)
  | none => 0

/-- Presence Detect State and Data Link Layer Link Active of a virtual downstream port (R783); a logical device is there (R264).
DEDUCED: log entries 83 and 157. -/
def State.vdspState (s : State) (k v : Nat) : Bool × Bool :=
  if s.ldAt k v then (true, true)
  else match s.assignAt k v with
  | some h => (s.presence h, s.linkActive h)
  | none => (false, false)

/-- Capabilities that a function of the switch presents, by ID (R223, R239, R256, R272): of the first 256 bytes, and extended ones. -/
def ownCaps (t : CfgTarget) (ext : Bool) : List Nat :=
  match t, ext with
  | .mep, false => [0x01, 0x10, 0x11]
  | .mep, true => [0x01, 0x1F, 0x2E]
  | .usp, true => [0x01, 0x1F, 0x2E, 0x30]
  | .vdsp _, true => [0x01, 0x0D, 0x1D]
  | .fn _ _, true => [0x01]
  | _, false => [0x10]

/-- A capability's header: its ID; 0 where the function presents none, as of L1 PM substates everywhere (R225) and of whatever R239 does
not list at the management endpoint. The rest of a header is open. -/
def capBits (t : CfgTarget) (ext : Bool) (id : Nat) : Nat × Nat :=
  if (ownCaps t ext).contains id then (if ext then 2 ^ 16 - 1 else 255, id)
  else if decide (t = .mep) || (ext && id == 0x1E) then (2 ^ 32 - 1, 0)
  else (0, 0)

/-- What an AER register holds at reset: the PCI Express Base Specification's defaults of masks and severities. PRESUMED: log entry 20. -/
def aerReset (r : CfgReg) : Nat :=
  match r with
  | .aerMask => 0x00400000
  | .aerSev => 0x00462030
  | .aerCorrMask => 0xE000
  | _ => 0

/-- A register of a virtual port, of the management endpoint or of a logical device that the manual gives a value; none where it gives
none, or only some of its bits. PRESUMED: log entry 20. -/
def State.ownReg (s : State) (k : Nat) (t : CfgTarget) (r : CfgReg) : Option Nat :=
  let kept := s.vreg k t r
  match t, r with
  | _, .vendorDevice => some 0x92561F3E
  | _, .aerStatus | _, .aerCorr => some kept
  | _, .aerMask | _, .aerSev | _, .aerCorrMask => some (kept ^^^ aerReset r)
  | _, .command | _, .devCtl | _, .devCtl2 => some kept
  | .mep, .revClass => some 0x08800001
  | .mep, .headerType => some 0
  | .mep, .subsystem => some (k * 65536 + 0x1F3E)
  | .mep, .bar n => some (match s.mepBar k n with
    | some (_, _, ty) => kept + ty
    | none => 0)
  | .mep, .msixCtl => some (kept + 63)
  | .mep, .msixTable => some 0x2000
  | .mep, .msixPba => some 0x3000
  | .mep, .ptmCtl | .usp, .ptmCtl | .mep, .doeCtl | .usp, .doeCtl => some kept
  | .mep, .doeStatus | .usp, .doeStatus => some 0
  | .mep, .pmcsr => some kept
  | .fn _ _, .ldId => some (k / 16 * 65536 + k % 16)
  | .fn _ _, .hdmCtl => some (kept + 0x1000 + 0x400 * flag (bit kept 9))
  | .fn _ _, .hdm _ => some kept
  | .usp, .revClass => some 0x06040001
  | .vdsp _, .revClass => some 0x06040001
  | .usp, .headerType => some 1
  | .vdsp _, .headerType => some 1
  | .usp, .busNumbers | .usp, .memWindow | .usp, .prefBaseUpper | .usp, .prefLimitUpper => some kept
  | .vdsp _, .busNumbers | .vdsp _, .memWindow | .vdsp _, .prefBaseUpper | .vdsp _, .prefLimitUpper => some kept
  | .usp, .prefWindow => some (kept + 0x10001)
  | .vdsp _, .prefWindow => some (kept + 0x10001)
  | .vdsp _, .acsCap => some 0x1D
  | .vdsp _, .acsCtl => some 0x1D
  | .vdsp _, .dpcStatus => some kept
  | .vdsp _, .dpcCtl => some kept
  | .vdsp 0, _ => none
  | .vdsp _, .slotCap => some 0x60
  | .vdsp _, .slotCtl => some kept
  | .vdsp v, .slotStatus => some (kept + 64 * flag (s.vdspState k v).1)
  | .vdsp v, .linkStatus => some (s.vdspLink k v + 8192 * flag (s.vdspState k v).2)
  | _, _ => none

/-- The bits that the manual gives of a register that it gives only in part: which bits, and their values. Bits of the features of R224
are among them, and read zero (R225). PRESUMED: log entry 20. -/
def State.ownBits (s : State) (k : Nat) (t : CfgTarget) (r : CfgReg) : Nat × Nat :=
  match t, r with
  | .fn _ _, .revClass => (0xFF, 1)
  | t, .capHeader ext i => capBits t ext i
  | .vdsp 0, .linkCap => (0x38C00, 0x30800)
  | .vdsp v, .linkCap => (0x138FFF, s.vdspLink k v + 0x130800)
  | .usp, .linkCap => (0x38C00, 0x30800)
  | _, .linkCap => (0x400, 0)
  | t, .linkCtl => (3, s.vreg k t .linkCtl)
  | _, .linkCap2 => (0x7FFE00, 0)
  | .mep, .pcieCap => (0xF0, 0)
  | .usp, .pcieCap => (0xF0, 0x50)
  | .vdsp v, .pcieCap => (0x1F0, 0x60 + 0x100 * flag (v != 0))
  | .mep, .devCap2 => (0x39F, 0xF)
  | _, .devCap3 => (0xE, 0x6)
  | .mep, .pmCap => (0x6000000, 0)
  | .mep, .ptmCap => (7, 1)
  | .usp, .ptmCap => (2, 2)
  | .usp, .ideCap => (3, 1)
  | _, .ideCap => (2, 0)
  | .fn _ _, .cxlCap => (0x37, 0x16)
  | .fn _ _, .hdmCap => (0x6000FF, 0x400010)
  | _, .cxlCap | _, .cxlCtl => (1, 0)
  | _, _ => (0, 0)

/-- A register of an assigned function that the switch emulates (R234, R238, R244); none where the device answers, as for the VF BARs of a PF in
a WHOLE_DEVICE assignment (DESIGN CHOICE, log entry 178). DEDUCED: log entry 79. -/
def State.fnReg (s : State) (h : HierRec) (ix rid : Nat) (r : CfgReg) : Option Nat :=
  let kept := s.vreg h.host (.fn h.vdsp ix) r
  let pf : Option DevFn := match s.link.devices.find? (fun d => d.port == hierPort h) with
    | some d => d.fns.find? (fun (f : DevFn) => f.rid == pfRid h.pf)
    | none => none
  match r with
  | .bar n => some (match s.virtBar h rid n with
    | some (b, _, up) => kept + (if up || n == 6 then 0 else barType b.is64 b.pref)
    | none => 0)
  | .command => some kept
  | .vendorDevice => if h.kind == 2 then pf.map (fun f => f.vendor + f.vfDevice * 65536) else none
  | .headerType => if h.kind == 2 then some 0 else none
  | .intPin => if h.kind == 2 then some 0 else none
  | .sriovCtl => if h.kind == 3 then some 0x19 else none
  | .numVfs => if h.kind == 3 then some (numVfs s.com.hier (hierPort h) h.pf) else none
  | .vfBar n =>
    if h.kind != 3 then none
    else match s.link.devices.find? (fun d => d.port == hierPort h) with
      | none => none
      | some d =>
        let ty := ((pf.map (fun (f : DevFn) => f.bars)).getD []).find? (fun (b : DevBar) => b.vf && (b.index == n || (b.is64 && b.index + 1 == n)))
        (match ty, ty.bind (fun b => d.bars.find? (fun q => q.rid == rid && q.vf && q.index == b.index)) with
          | some b, some q =>
            let a := q.base.getD 0
            some (if b.index == n then a % 2 ^ 32 + barType b.is64 b.pref else a / 2 ^ 32)
          | _, _ => some 0)
  | _ => none

/-- An answer of which the manual fixes the bits `m`, as `v`, and no others: those are free values. -/
def State.freeCfg (s : State) (k who : Nat) (r : CfgReg) (m v : Nat) : State :=
  (s.emit (.cfg k .sc (v + (Config.deviceConfig who (cfgCode r) s.draws &&& (2 ^ 32 - 1 - m))))).draw.2

/-- A configuration read of host `k`. -/
def State.cfgRead (s : State) (k : Nat) (t : CfgTarget) (r : CfgReg) : State :=
  match s.findTarget k t with
  | .nothing => s.emit (.cfg k .ur 0)
  | .lost => s.emit (.cfg k .sc (2 ^ 32 - 1))
  | .own =>
    match s.ownReg k t r with
    | some v => s.emit (.cfg k .sc v)
    | none => s.freeCfg k (2 ^ 24 + k) r (s.ownBits k t r).1 (s.ownBits k t r).2
  | .fn h ix rid =>
    match s.fnReg h ix rid r with
    | some v => s.emit (.cfg k .sc v)
    | none => (s.emit (.forward (hierPort h) rid "configuration read")).freeCfg k (hierPort h * 2 ^ 16 + rid) r 0 0

/-! ### Writes that change a decode range (R235, R236) -/

/-- What a write keeps of a register that takes part in address decoding, where it is one. -/
def State.decodeKeep (s : State) (k : Nat) (t : CfgTarget) (r : CfgReg) (v : Nat) : Option Nat :=
  match s.findTarget k t, t, r with
  | .fn h _ rid, _, .bar n => s.barKeep h rid n v
  | .fn _ _ _, _, .command => some (v % 2 ^ 16)
  | .own, .vdsp 0, _ => none
  | .own, .mep, _ => none
  | .own, .fn _ _, _ => none
  | .own, _, .memWindow => some (v &&& 0xFFF0FFF0)
  | .own, _, .prefWindow => some (v &&& 0xFFF0FFF0)
  | .own, _, .prefBaseUpper => some (v % 2 ^ 32)
  | .own, _, .prefLimitUpper => some (v % 2 ^ 32)
  | _, _, _ => none

/-- The target under which the switch keeps a function's virtual registers. -/
def State.keepTarget (s : State) (k : Nat) (t : CfgTarget) : CfgTarget :=
  match s.findTarget k t, t with
  | .fn _ ix _, .fn v _ => .fn v ix
  | _, t => t

/-- The ranges that host `k` decodes now. -/
def State.decodedBy (s : State) (k : Nat) : List (Nat × Nat × Nat × Nat × Nat) :=
  ((s.com.hier.filter (fun h => isAssign h && h.host == k)).map (s.decoded s.com.hier)).flatten

/-- Whether a write changes what the switch decodes: a virtual BAR, Memory Space Enable, or a window (R235). -/
def State.movesDecode (s : State) (k : Nat) (t : CfgTarget) (r : CfgReg) (v : Nat) : Bool :=
  match s.decodeKeep k t r v with
  | some w =>
    let old := s.vreg k (s.keepTarget k t) r
    if r = .command then bit old 1 != bit w 1 else old != w
  | none => false

/-- A write of R235 at P5: committed by a hierarchy change and answered then; in safe mode only one that takes ranges away is
applied, and with the management core gone for good none is (R235, R236, R784). `fwd` is what the write also does at the device. -/
def State.decodeWrite (s : State) (k : Nat) (t : CfgTarget) (r : CfgReg) (w : Nat) (fwd : State → State) : State :=
  let t := s.keepTarget k t
  let after := (s.setVreg k t r w).decodedBy k
  let shrinks := after.all (fun e => (s.decodedBy k).contains e)
  let gone := match s.isl.mgmt with
    | some m => decide (3 < m.attempts)
    | none => false
  if gone || (s.safeMode && !shrinks) then s.emit (.cfg k .ca 0)
  else (fwd s).askHierWrite { host := k, target := t, reg := r, value := w }

/-- A write of an assigned function's Command register also goes to the device (R238). -/
def State.fwdCommand (s0 : State) (k : Nat) (t : CfgTarget) (r : CfgReg) (s : State) : State :=
  match s0.findTarget k t, r with
  | .fn h _ rid, .command => s.emit (.forward (hierPort h) rid "configuration write")
  | _, _ => s

/-- HIERARCHY_CHANGE. -/
def execHierarchyChange (k : Nat) (t : CfgTarget) (r : CfgReg) (v : Nat) (s : State) : Res :=
  run (fun s =>
    match s.hostPort k, s.decodeKeep k t r v with
    | some p, some w =>
      if s.phase == 5 && s.on .TILE_PORT_STATUS_LINK_UP p && s.movesDecode k t r v then s.decodeWrite k t r w (s.fwdCommand k t r) else s
    | _, _ => s) s

/-! ### Other writes -/

/-- Vectors that are pending and no longer masked are sent (PRESUMED, log entry 49). -/
def State.msixFlush (s : State) (k : Nat) : State :=
  (setBits 64 ((Sparse.get? s.link.pba k).getD 0)).foldl (fun s n =>
    let s := s.updLink (fun l => { l with pba := Sparse.set id l.pba k (putBit ((Sparse.get? l.pba k).getD 0) n false) })
    s.vector k n) s

/-- The extent of a lease (R523): device physical address, length, tag bytes 0 to 3. -/
def extentOf (l : Lease) : List Nat := [l.slot * 2 ^ 28, l.count * 2 ^ 28, l.handle % 256, l.handle / 256 % 256, l.imprint % 256, l.imprint / 256 % 256]

/-- A command to the mailbox of host `k`'s logical device: its one dynamic-capacity region, its extents, or an Add Capacity response,
which changes nothing here (R523 to R525); a release, and any Fabric Manager command, is Unsupported and changes nothing (R265, R525). -/
def State.ldMailbox (s : State) (k : Nat) (c : MailboxCmd) : State :=
  match c with
  | .getDcConfig => s.emit (.mailbox k true [1, 0, 2 ^ ((s.hostRec k).map (·.bar2Log2)).getD 0, 2 ^ 28])
  | .getExtentList => s.emit (.mailbox k true ((s.pool.leases.filter (fun l => l.host == k && l.live)).map extentOf).flatten)
  | .addResponse => s.emit (.mailbox k true [])
  | .releaseDc | .fabricManager => s.emit (.mailbox k false [])

/-- A write to a register of a virtual port, of the management endpoint or of a logical device; what is not named here is read-only or
has no effect (R225, R239 to R243, R256, R268, R273); the ranges of a committed HDM decoder stay, and a locked one altogether (R264; PRESUMED,
log entry 20). DEDUCED: log entry 81. -/
def State.ownWrite (s : State) (k : Nat) (t : CfgTarget) (r : CfgReg) (v : Nat) : State :=
  match t, r with
  | t, .aerStatus => s.setVreg k t r (s.vreg k t r &&& (2 ^ 32 - 1 - v % 2 ^ 32))
  | t, .aerCorr => s.setVreg k t r (s.vreg k t r &&& (2 ^ 32 - 1 - v % 2 ^ 32))
  | t, .aerMask | t, .aerSev | t, .aerCorrMask => s.setVreg k t r (v % 2 ^ 32 ^^^ aerReset r)
  | t, .linkCtl => s.setVreg k t r (v &&& 2)
  | .fn _ _, .hdmCtl =>
    let old := s.vreg k t r
    if bit old 9 && bit old 8 then s
    else s.setVreg k t r (if bit old 9 then putBit old 9 (bit v 9) else v &&& 0x30F)
  | .fn _ _, .hdm n =>
    if 1 ≤ n && n ≤ 4 && !bit (s.vreg k t .hdmCtl) 9 then s.setVreg k t r (v &&& (if n % 2 = 1 then 0xF0000000 else 2 ^ 32 - 1)) else s
  | .mep, .ptmCtl | .usp, .ptmCtl => s.setVreg k t r (v &&& 0xFF03)
  | .mep, .doeCtl | .usp, .doeCtl => s.setVreg k t r (v &&& 2)
  | .fn _ _, .mailbox c => s.ldMailbox k c
  | .fn _ _, .command | .fn _ _, .devCtl | .fn _ _, .devCtl2 => s.setVreg k t r (v % 2 ^ 32)
  | .mep, .command => s.mepCommand k v
  | .mep, .pmcsr => s.mepPower k v
  | .mep, .devCtl =>
    if bit v 15 then (((s.dmaStop k false).recovStop k).clearMep k).ownerReset k else s.setVreg k t r (v % 2 ^ 15)
  | .mep, .devCtl2 => s.setVreg k t r (v % 16)
  | .mep, .msixCtl =>
    let s := s.setVreg k t r (v &&& 0xC000)
    if bit v 15 && !bit v 14 then s.msixFlush k else s
  | .mep, .bar n =>
    match s.mepBar k n with
    | some (z, up, _) => s.setVreg k t r (v &&& barMask z up)
    | none => s
  | .usp, .command | .usp, .busNumbers | .usp, .devCtl | .usp, .devCtl2 => s.setVreg k t r (v % 2 ^ 32)
  | .vdsp _, .command | .vdsp _, .busNumbers | .vdsp _, .devCtl | .vdsp _, .devCtl2 => s.setVreg k t r (v % 2 ^ 32)
  | .usp, .memWindow | .usp, .prefWindow => s.setVreg k t r (v &&& 0xFFF0FFF0)
  | .vdsp _, .memWindow | .vdsp _, .prefWindow => s.setVreg k t r (v &&& 0xFFF0FFF0)
  | .usp, .prefBaseUpper | .usp, .prefLimitUpper => s.setVreg k t r (v % 2 ^ 32)
  | .vdsp _, .prefBaseUpper | .vdsp _, .prefLimitUpper => s.setVreg k t r (v % 2 ^ 32)
  | .vdsp _, .dpcCtl => s.setVreg k t r (v &&& 0xBF)
  | .vdsp n, .dpcStatus =>
    let s := if bit v 0 then s.dpcClear k n else s
    if bit v 3 then s.setVreg k t r (putBit (s.vreg k t r) 3 false) else s
  | .vdsp 0, _ => s
  | .vdsp _, .slotCtl => s.setVreg k t r (v &&& 0x1028)
  | .vdsp _, .slotStatus => s.setVreg k t r (putBit (putBit (s.vreg k t r) 3 (bit (s.vreg k t r) 3 && !bit v 3)) 8 (bit (s.vreg k t r) 8 && !bit v 8))
  | _, _ => s

/-- A write to an assigned function that decodes nothing: emulated registers keep what they keep or drop it, the others go to the
device (R238, R246, R247). -/
def State.fnWrite (s : State) (h : HierRec) (ix rid : Nat) (r : CfgReg) (v : Nat) : State :=
  let k := h.host
  let t := CfgTarget.fn h.vdsp ix
  let fwd := fun (s : State) => s.emit (.forward (hierPort h) rid "configuration write")
  match r with
  | .bar _ => s
  | .command => fwd (s.setVreg k t .command (v % 2 ^ 16))
  | .devCtl =>
    if bit v 15 then
      let s := if h.kind == 3 then s else s.sendFlr (hierPort h) rid
      let s := s.updLink (fun l => { l with vregs := l.vregs.filter (fun e => !(e.1.host == k && decide (e.1.target = t))) })
      (s.askHier k).nextCommit
    else fwd s
  | r => if (s.fnReg h ix rid r).isSome then s else fwd s

/-- A configuration write of host `k`. -/
def State.cfgWrite (s : State) (k : Nat) (t : CfgTarget) (r : CfgReg) (v : Nat) : State :=
  match s.findTarget k t with
  | .nothing => s.emit (.cfg k .ur 0)
  | .lost => s.emit (.cfg k .ur 0)
  | f =>
    match s.decodeKeep k t r v with
    | some w =>
      if s.phase == 5 && s.movesDecode k t r v then
        s.decodeWrite k t r w (s.fwdCommand k t r)
      else (match f with
        | .fn h ix rid => s.fnWrite h ix rid r v
        | _ => s.ownWrite k t r v).emit (.cfg k .sc 0)
    | none => (match f with
        | .fn h ix rid => s.fnWrite h ix rid r v
        | _ => s.ownWrite k t r v).emit (.cfg k .sc 0)

/-- Whether host `k` can send configuration requests: its link is up, or it is host 0 at the recovery port (R143, R150).
DEDUCED: log entry 80. -/
def State.cfgHost (s : State) (k : Nat) : Bool :=
  if s.stalled then k == 0 && s.on .TILE_PORT_STATUS_LINK_UP s.recovPort
  else match s.hostPort k with
    | some p => s.on .TILE_PORT_STATUS_LINK_UP p
    | none => false

/-- CONFIG_REQUEST. -/
def execConfigRequest (k : Nat) (t : CfgTarget) (r : CfgReg) (write : Bool) (v : Nat) (s : State) : Res :=
  run (fun s => if s.cfgHost k then (if write then s.cfgWrite k t r v else s.cfgRead k t r) else s) s

end Sys2Proof.Machine
end

