-- ==== Sys2Proof/Machine/Issue.lean ====
section
/-! DEFINITION. Issuing composing-port commands: acceptance, privileges, refusals, arguments and results (R702 to R713, R719
to R722). The checks are made and the effects begin at acceptance; the result is shown at COMMAND_DONE (DESIGN CHOICE, log entry 21). -/

namespace Sys2Proof.Machine

/-- Argument masks of a command's words, from ARG0 (R720); a word beyond the list must be zero. None for an opcode that is not
listed (R719). -/
def argMasks (op : Nat) : Option (List Nat) :=
  let f := 0xFFFFFFFF
  match op with
  | 0x01 | 0x02 | 0x03 | 0x15 => some []
  | 0x10 | 0x11 => some [0xFF]
  | 0x12 => some [f, f, f]
  | 0x13 => some [f, f, f, 1]
  | 0x14 => some [1]
  | 0x20 => some [0xFFFFF, 3, 0, 0, f, f, f, f]
  | 0x21 => some [0xFFFF, 3, 0, 0, f, f, f, f]
  | 0x22 => some [0xFFF, 3, 0, 0, f, f]
  | 0x23 => some [0x3F, 3, 0, 0, 0xFF]
  | 0x24 => some [0x3F, 0x703, 0xFFFF00FF, 0, f, f, f, f]
  | 0x25 => some [0xFFF, 0x3F, f, f]
  | 0x26 => some [0x701FF, f]
  | 0x27 => some [0xFF, f, f, 0, f, f, f, f]
  | 0x30 => some [0x1F03FF, 0x17F03FF, 0x3FFF]
  | 0x31 => some [0x3FF]
  | 0x32 => some [0x103FF]
  | 0x38 => some [0x3FF, 0, f, f]
  | 0x39 | 0x3A => some [0x3FF]
  | 0x40 | 0x41 => some [0x3F]
  | 0x42 => some [f, 0xFFFFFF]
  | 0x43 => some [0x17F]
  | 0x48 => some [0x17F, 0xFFFF]
  | 0x50 | 0x51 => some [3, 0xFFFFF]
  | 0x58 => some [0xFF, f, f]
  | 0x59 => some [7]
  | _ => none

/-- Commands that need the composing lock (R719). -/
def needsLock (op : Nat) : Bool := [0x02, 0x10, 0x11, 0x12, 0x20, 0x21, 0x22, 0x23, 0x24, 0x25, 0x27].contains op

/-- Commands with privilege T; every other one has privilege O (R712, R719). -/
def tenantMay (op : Nat) : Bool := [0x30, 0x31, 0x32, 0x38, 0x39, 0x3A].contains op

/-- The live lease that POOL_RELEASE or POOL_QUERY names: by handle, or by a sheet of it (R522, R720). -/
def State.namedLease (s : State) (bySheet : Bool) (n : Nat) : Option Lease :=
  s.pool.leases.find? (fun l => l.live && (if bySheet then l.sheets.contains n else l.handle == n))

/-- Whether host `k` may issue a command with these arguments (R712, R713). A lease that does not exist belongs to nobody: the
command's own check refuses it. DEDUCED: log entry 90. -/
def State.privileged (s : State) (k op : Nat) (a : List Nat) : Bool :=
  let own := s.ownImprints k
  let i := bits (nth a 0) 9 0
  s.operator k ||
  (tenantMay op &&
    (match op with
      | 0x30 => own.contains i && bits (nth a 0) 20 16 == k
      | 0x31 | 0x32 =>
        match s.namedLease (op == 0x32 && bit (nth a 0) 16) i with
        | some l => own.contains l.imprint && l.host == k
        | none => true
      | _ => own.contains i))

/-- Every argument bit that a command does not list is zero (R720). -/
def argsListed (m a : List Nat) : Bool := ((List.range 32).zip a).all (fun e => nth m e.1 &&& e.2 == e.2)

/-- The refusal that comes before a command's own checks: BAD_OPCODE, REFUSED_PRIVILEGE, REFUSED_SAFE_MODE while halted,
REFUSED_NO_LOCK (R711), then BAD_ARG for unlisted argument bits (R720). -/
def State.refusal (s : State) (k op : Nat) (a : List Nat) : Option Nat :=
  match argMasks op with
  | none => some 0x01
  | some m =>
    if !s.privileged k op a then some 0x03
    else if s.halted && op != 0x15 then some 0x0C
    else if needsLock op && !s.holdsLock k then some 0x04
    else if !argsListed m a then some 0x02
    else none

/-- Argument words of host `k` (R704). -/
def State.argWords (s : State) (k : Nat) : List Nat := (List.range 32).map (fun n => s.reg .CMP_ARG_VALUE (32 * k + n))

/-- Whether host `k`'s writes reach its management endpoint in operation. -/
def State.canIssue (s : State) (k : Nat) : Bool :=
  s.phase == 5 && (match s.hostPort k with
    | some p => s.on .TILE_PORT_STATUS_LINK_UP p
    | none => false)

/-- A write is dropped because the port is busy (R705, R117). -/
def State.dropBusy (s : State) : State := (s.bump .CMP_BUSY_REJECT_COUNT 0).tally 52 0x62

/-- Whether the port takes a command: not BUSY, no internal change waits, the management core runs (R117, R704, R710). -/
def State.portFree (s : State) : Bool := !s.busy && !s.hierWaits && s.mgmtUp

/-- The running command has its result. -/
def State.ended (s : State) (code : Nat) (ret : List Nat := []) : State :=
  s.updRun (fun r => { r with wait := .ready, result := some (code, ret) })

/-- The running command waits for `w`. -/
def State.waitFor (s : State) (w : Wait) : State := s.updRun (fun r => { r with wait := w })

/-- A stopped island runs again before it takes what has reached it (R52, R53). -/
def State.wakeNow (s : State) (n : Nat) : State :=
  if s.islState n == 3 then
    ((s.keepSnaps n).setRegs [(.SUP_ISL_STATUS_STATE, n, 2), (.SUP_ISL_STATUS_WAKE_PEND, n, 0)]).bump .SUP_ISL_STATUS_WAKE_COUNT n
  else s

/-- A command is accepted: BUSY, its issuer's CMP_RESULT and CMP_RET, the copy of its arguments (R704, R707). -/
def State.begin_ (s : State) (k token op : Nat) (a : List Nat) : State :=
  let s := s.setRegs [(.CMP_STATUS_BUSY, 0, 1), (.CMP_STATUS_OPCODE, 0, op), (.CMP_STATUS_HOST_INDEX, 0, k), (.CMP_RESULT_STATE, k, 1),
    (.CMP_RESULT_RESULT, k, 0), (.CMP_RESULT_OPCODE, k, op), (.CMP_RESULT_TOKEN, k, token)]
  let s := (List.range 16).foldl (fun s n => s.setReg .CMP_RET_VALUE (16 * k + n) 0) (s.wakeNow 52)
  ({ s with port := { s.port with running := some { host := k, opcode := op, token, args := a, since := s.now } } }).tally 52 0x60

/-- A CMP_CMD write of host `k` (R704 to R711): dropped, refused, or carried out by `body`, which gets the arguments. -/
def State.command (s : State) (k token op : Nat) (a : List Nat) (body : List Nat → State → State) : State :=
  if !s.canIssue k then s
  else if !s.portFree then s.dropBusy
  else
    let c := s.refusal k op a
    let s := s.begin_ k token op a
    match c with
    | some e => s.ended e
    | none => body a s

end Sys2Proof.Machine
end

