-- ==== Sys2Proof/Machine/Staging.lean ====
section
/-! DEFINITION. Composing-port commands of the lock, of staging and commits, of amendments and formes, of the imposition
table (R92 to R100, R119, R714 to R718, R720, R721, R780). -/

namespace Sys2Proof.Machine

/-! ### The composing lock (R714 to R718) -/

/-- LOCK_ACQUIRE for host `k`. DEDUCED: log entry 123. -/
def State.lockAcquire (s : State) (k : Nat) : State :=
  let ret := fun (s : State) (broken : Nat) => broken + 65536 * s.reg .CMP_LOCK_SEQ 0
  if s.holdsLock k then s.ended 0 [ret s (s.reg .CMP_LOCK_BROKEN 0)]
  else if s.on .CMP_LOCK_HELD then s.ended 0x05 [s.reg .CMP_LOCK_HOST_INDEX 0]
  else
    let b := s.reg .CMP_LOCK_BROKEN 0
    let s := s.setRegs [(.CMP_LOCK_HELD, 0, 1), (.CMP_LOCK_HOST_INDEX, 0, k), (.CMP_LOCK_FUNCTION, 0, 0), (.CMP_LOCK_BROKEN, 0, 0),
      (.CMP_LOCK_SEQ, 0, s.reg .CMP_LOCK_SEQ 0 + 1)]
    s.ended 0 [ret s b]

/-- LOCK_ACQUIRE. -/
def execLockAcquire (k token : Nat) (s : State) : Res := run (fun s => s.command k token 0x01 (s.argWords k) (fun _ s => s.lockAcquire k)) s

/-- LOCK_RELEASE. -/
def State.lockRelease (s : State) : State := (s.releaseLock false).ended 0

/-- LOCK_RELEASE. -/
def execLockRelease (k token : Nat) (s : State) : Res := run (fun s => s.command k token 0x02 (s.argWords k) (fun _ s => s.lockRelease)) s

/-- LOCK_BREAK by host `k`. -/
def State.lockBreak (s : State) (k : Nat) : State :=
  if !s.on .CMP_LOCK_HELD || s.holdsLock k then s.ended 0x02 else (s.releaseLock true).ended 0

/-- LOCK_BREAK. -/
def execLockBreak (k token : Nat) (s : State) : Res := run (fun s => s.command k token 0x03 (s.argWords k) (fun _ s => s.lockBreak k)) s

/-! ### COMMIT, STAGE_DISCARD (R98 to R102) -/

/-- COMMIT of the scopes of a mask. DEDUCED: log entry 108. -/
def State.commitMask (s : State) (o : Origin) (mask : Nat) : State :=
  match s.commitRefusal mask with
  | some c => s.ended c
  | none => (s.waitFor .commit).askCommit o mask

/-- COMMIT. -/
def execCommit (k token : Nat) (s : State) : Res :=
  run (fun s => s.command k token 0x10 (s.argWords k) (fun a s => s.commitMask .command (nth a 0))) s

/-- ARB_COMMIT: a write of ARB_COMMIT by host `k` is a COMMIT with mask 0x02 and TOKEN 0; a tenant host port's is dropped, and counted
while the port is busy (R99, R702, R705). DEDUCED: log entry 91. -/
def execArbCommit (k : Nat) (s : State) : Res :=
  run (fun s =>
    if s.operator k then s.command k 0 0x10 (0x02 :: List.replicate 31 0) (fun a s => s.commitMask .arb (nth a 0))
    else if s.canIssue k && (s.busy || !s.mgmtUp) then s.dropBusy
    else s) s

/-- STAGE_DISCARD. -/
def State.stageDiscard (s : State) (a : List Nat) : State := (s.discardScopes (nth a 0)).ended 0

/-- STAGE_DISCARD. -/
def execStageDiscard (k token : Nat) (s : State) : Res :=
  run (fun s => s.command k token 0x11 (s.argWords k) (fun a s => s.stageDiscard a)) s

/-! ### Reading an image through the DMA engine (R281, R282, R719) -/

/-- A 64-bit value of two argument words. -/
def arg64 (a : List Nat) (n : Nat) : Nat := nth a n + 2 ^ 32 * nth a (n + 1)

/-- The running command of host `k` reads `len` bytes through the engine of `k`, or ends with DMA_ERROR where the engine is
STOPPED. -/
def State.dmaRead (s : State) (k addr len : Nat) : State :=
  if s.reg .CMP_DMA_STATUS_STATE k == 2 then s.ended 0x17
  else (s.waitFor .dma).beginReads k (readCount addr len (ctlSize (bits (s.vreg k .mep .devCtl) 14 12)))

/-! ### Amendments (R119 to R123) -/

/-- Whether an image has a section. -/
def hasSec (im : Image) (id : Nat) : Bool := im.dir.any (fun e => e.id == id)

/-- Scopes that an amendment changes: those of its sections that hold records. DEDUCED: log entry 95. -/
def amendMask (im : Image) : Nat :=
  let b := fun (id : Nat) (empty : Bool) (n : Nat) => if hasSec im id && !empty then 2 ^ n else 0
  b 6 im.imp.isEmpty 0 + b 7 im.arb.isEmpty 1 + b 8 im.shape.isEmpty 2 + b 9 im.gates.isEmpty 3 + b 3 im.hier.isEmpty 4 + b 11 im.flts.isEmpty 5 +
    b 12 im.slots.isEmpty 6 + b 13 im.meter.isEmpty 7

/-- Staged changes that an IMPOSITION DELTA record gives: SET or CLEAR of its item (R377, R779). -/
def deltaChanges (seq : Nat) (r : ImpRec) : List ImpChange :=
  (impItems r).map (fun e => { key := e.1, val := if r.op == 2 && e.1.typ != 7 then none else some e.2, amend := some seq })

/-- A DELTA record of the table meets the rules of R377, R383 and R408. -/
def deltaRecOk (r : ImpRec) : Bool :=
  decide (1 ≤ r.typ) && decide (r.typ ≤ 5) && (r.op == 1 || r.op == 2) && impPolicyOk r.typ r.index (if r.op == 1 then r.payload else 0) &&
  (r.typ == 5 || r.part == 0) && decide (r.part ≤ 4) && (r.op == 2 || r.typ != 4 || decide (r.payload ≤ 63) || r.payload == 255) && auxOk r

/-- The assignments after a HIERARCHY DELTA; none where a REMOVE matches nothing (R290, R291). -/
def hierDelta (cur l : List HierRec) : Option (List HierRec) :=
  l.foldl (fun o r => o.bind (fun c =>
    match r.op with
    | 1 => some (c ++ [{ r with op := 0 }])
    | 2 => if c.contains { r with op := 0 } then some (c.filter (fun x => !decide (x = { r with op := 0 }))) else none
    | _ => none)) (some cur)

/-- The HIERARCHY DELTA is valid: after it every rule of R291 holds, and no SRIOV_SETUP entry of a PF with live VF_SET
assignments comes or goes. -/
def State.hierDeltaOk (s : State) (l : List HierRec) : Bool :=
  (match hierDelta s.com.hier l with
  | some h => hierOk s.portRecs h
  | none => false) &&
  l.all (fun r => r.kind != 4 || !s.com.hier.any (fun h => h.kind == 2 && hierPort h == hierPort r && h.pf == r.pf))

/-- The fault policy after a FAULTS DELTA (R659). DEDUCED: log entry 96. -/
def faultDelta (cur l : List FaultRec) : List FaultRec :=
  let l := l.map (fun r => { r with op := 0 })
  cur.filter (fun r => !l.any (fun n => n.typ == r.typ && (r.typ == 1 || n.source == r.source))) ++ l

/-- The staged view of the table with an amendment's changes. -/
def State.amendImp (s : State) (im : Image) : List ImpChange :=
  if hasSec im 6 then addChanges s.com.staged (im.imp.map (deltaChanges im.amendSeq)).flatten else s.com.staged

/-- Every changed value of an amendment meets its owning chapter's limits. -/
def State.amendLimits (s : State) (im : Image) : Bool :=
  let v := applyImp s.com.active (s.amendImp im)
  (!hasSec im 6 || (im.imp.all deltaRecOk && viewOk s.portView v && s.sealBarsOk v && s.sealKeysOk v)) &&
  (!hasSec im 7 || arbRecsOk 1 im.arb) && (!hasSec im 8 || shapeRecsOk 1 im.shape) &&
  (!hasSec im 9 || gateRecsOk 1 (fun p => (s.portRec p).isSome) (fun p => s.stagedReg .GATE_CTL_ENTRY_COUNT p) im.gates) &&
  (!hasSec im 3 || s.hierDeltaOk im.hier) && (!hasSec im 11 || faultRecsOk 1 im.flts) &&
  (!hasSec im 12 || slotRecsOk 1 (fun k => (s.chanPort k).isSome) im.slots) &&
  (!hasSec im 13 || (match im.meter with
    | [] => true
    | [m] => meterOk s.operator m
    | _ => false))

/-- The first check of R119 that an amendment fails, with the length that brought it. -/
def State.amendRefusal (s : State) (im : Image) (len : Nat) : Option Nat :=
  if !isAmend im || im.imageLen != len then some 0x11
  else match s.verifyImage im with
  | 1 =>
    if im.baseDigest != s.formeDigest then some 0x12
    else if im.rollbackVer < s.flash.rollback then some 0x13
    else if im.amendSeq ≤ s.flash.amendHigh then some 0x14
    else if !(im.dir.all (fun e => sectionAmendable e.id)) then some 0x15
    else if s.stagedMask &&& amendMask im != 0 then some 0x0A
    else if 16384 < impCount (s.amendImp im) then some 0x09
    else if !s.amendLimits im then some 0x11
    else none
  | 2 => some 0x10
  | _ => some 0x11

/-- An amendment's changes are staged (R119). -/
def State.stageAmend (s : State) (im : Image) : State :=
  let cells := (if hasSec im 7 then arbCells im.arb else []) ++ (if hasSec im 8 then shapeCells im.shape else []) ++
    (if hasSec im 9 then gateCells im.gates else [])
  let s := cells.foldl (fun s (c : Fld × Nat × Nat) => s.stage c.1 c.2.1 c.2.2) s
  let part : AmendParts := {
    seq := im.amendSeq, digest := imageDigest im, scopes := amendMask im, hier := if hasSec im 3 then hierDelta s.com.hier im.hier else none,
    flts := if hasSec im 11 then some (faultDelta s.com.faults im.flts) else none, slots := if hasSec im 12 then some im.slots else none,
    meter := if hasSec im 13 then im.meter.head? else none }
  let staged := s.amendImp im
  s.updCom (fun m => { m with staged, parts := if part.scopes = 0 then m.parts else m.parts ++ [part] })

/-- AMEND_LOAD of host `k`: the length and the engine are checked, and the read begins (R119, R281). DEDUCED: log entry 88. -/
def State.amendLoad (s : State) (k : Nat) (im : Image) (a : List Nat) : State :=
  if arg64 a 0 % 16 != 0 then s.ended 0x02
  else if 20 * 2 ^ 20 < nth a 2 then s.ended 0x16
  else (s.updRun (fun r => { r with image := some im })).dmaRead k (arg64 a 0) (nth a 2)

/-- AMEND_LOAD. -/
def execAmendLoad (k token : Nat) (im : Image) (s : State) : Res :=
  run (fun s => s.command k token 0x12 (s.argWords k) (fun a s => s.amendLoad k im a)) s

/-- What AMEND_LOAD does with the image that it has read. -/
def State.amendEnd (s : State) (im : Image) (len : Nat) : State :=
  match s.amendRefusal im len with
  | some c => s.ended c
  | none => (s.stageAmend im).ended 0

/-! ### Formes (R92, R93, R156) -/

/-- FORME_WRITE of host `k`: nothing is written to flash before the image has been read and checked (R14). DEDUCED: log entry 87. -/
def State.formeWrite (s : State) (k : Nat) (im : Image) (a : List Nat) : State :=
  let b := nth a 3 == 1
  if b == s.boot.runB then s.ended 0x06
  else if 40 * 2 ^ 20 < nth a 2 then s.ended 0x16
  else if s.reg .CMP_DMA_STATUS_STATE k == 2 then s.ended 0x17
  else (s.updRun (fun r => { r with image := some im })).dmaRead k (arg64 a 0) (nth a 2)

/-- FORME_WRITE. -/
def execFormeWrite (k token : Nat) (im : Image) (s : State) : Res :=
  run (fun s => s.command k token 0x13 (s.argWords k) (fun a s => s.formeWrite k im a)) s

/-- FORME_WRITE ends: the bank holds the image and is TRIAL, or it is BAD with nothing written (R14, R92). -/
def State.formeEnd (s : State) (im : Image) (a : List Nat) : State :=
  let b := nth a 3 == 1
  let v := s.writeResult im (nth a 2)
  let s := if v == 1 then s.setBank b { state := .trial, image := some im } else s.markBank b .bad
  s.ended (match v with
    | 1 => 0
    | 2 => 0x10
    | 3 => 0x13
    | _ => 0x11) [flag b + 2 * v]

/-- FORME_SELECT. -/
def State.formeSelect (s : State) (a : List Nat) : State :=
  let b := nth a 0 == 1
  match (s.bank b).state with
  | .trial | .confirmed => (({ s with flash := { s.flash with prefB := b } }).setReg .CMP_FORME_STATUS_PREF 0 (flag b)).ended 0
  | _ => s.ended 0x02

/-- FORME_SELECT. -/
def execFormeSelect (k token : Nat) (s : State) : Res :=
  run (fun s => s.command k token 0x14 (s.argWords k) (fun a s => s.formeSelect a)) s

/-! ### DEV_RESET (R168, R709) -/

/-- A warm reset is to begin at `t`; one that is asked for already stays. -/
def State.askReset (s : State) (t : Nat) : State :=
  { s.setReg .CMP_STATUS_RESET_PEND 0 1 with port := { s.port with resetAt := some (s.port.resetAt.getD t) } }

/-- DEV_RESET while the port is busy: its outcome stands at once. DEDUCED: log entry 93. -/
def State.resetBusy (s : State) (k token : Nat) : State :=
  let a := s.argWords k
  let c := match s.refusal k 0x15 a, s.port.running with
    | some c, _ => c
    | none, some r => if r.opcode == 0x13 || r.opcode == 0x12 then 0x06 else 0
    | none, none => 0
  let s := s.setRegs [(.CMP_RESULT_STATE, k, 2), (.CMP_RESULT_RESULT, k, c), (.CMP_RESULT_OPCODE, k, 0x15), (.CMP_RESULT_TOKEN, k, token)]
  let s := (List.range 16).foldl (fun s n => s.setReg .CMP_RET_VALUE (16 * k + n) 0) s
  (if c = 0 then s.askReset (s.now + 10000) else s).vector k 0

/-- A CMP_CMD write of DEV_RESET. -/
def State.devReset (s : State) (k token : Nat) : State :=
  if s.canIssue k && s.operator k && s.mgmtUp && !s.portFree then s.resetBusy k token
  else s.command k token 0x15 (s.argWords k) (fun _ s => (s.askReset (s.now + 10000)).ended 0)

/-- DEV_RESET. -/
def execDevReset (k token : Nat) (s : State) : Res := run (fun s => s.devReset k token) s

/-! ### The imposition table (R377 to R383, R407 to R409, R780) -/

/-- Staging commands' checks after their arguments, in the order of R780, and the staging of `cs`. `policy` tells whether step 2
holds; `keys` whether step 5 applies. A scope that an amendment staged stays the amendment's when a change of its own is staged over (R120, R122;
DESIGN CHOICE, log entry 176). -/
def State.stageImp (s : State) (policy keys : Bool) (cs : List ImpChange) : State :=
  let staged := addChanges s.com.staged cs
  let v := applyImp s.com.active staged
  if s.signedOnly || !policy then s.ended 0x08
  else if 16384 < impCount staged then s.ended 0x09
  else if !(viewOk s.portView v && s.sealBarsOk v) then s.ended 0x02
  else if keys && !s.sealKeysOk v then s.ended 0x22
  else (s.updCom (fun m => { m with staged })).ended 0 [impCount staged]

/-- The 128-bit payload of ARG4 to ARG7. -/
def payloadOf (a : List Nat) : Nat := nth a 4 + 2 ^ 32 * nth a 5 + 2 ^ 64 * nth a 6 + 2 ^ 96 * nth a 7

/-- A staging command of one item: SET with its payload, or CLEAR. DEDUCED: log entry 94. -/
def State.stageItem (s : State) (typ part : Nat) (a : List Nat) (more : List ImpChange) : State :=
  let op := bits (nth a 1) 1 0
  let i := nth a 0
  let p := payloadOf a
  if !(op == 1 || op == 2) || (op == 1 && !payloadRanges typ p) then s.ended 0x02
  else s.stageImp (impPolicyOk typ i (if op == 1 then p else 0)) true ({ key := ⟨typ, i, part⟩, val := if op == 1 then some p else none } :: more)

/-- IMP_STAGE_ENTRY. -/
def execImpStageEntry (k token : Nat) (s : State) : Res :=
  run (fun s => s.command k token 0x20 (s.argWords k) (fun a s => s.stageItem 1 0 a [])) s

/-- IMP_STAGE_TARGET. -/
def execImpStageTarget (k token : Nat) (s : State) : Res :=
  run (fun s => s.command k token 0x21 (s.argWords k) (fun a s => s.stageItem 2 0 a [])) s

/-- IMP_STAGE_SOURCE. -/
def execImpStageSource (k token : Nat) (s : State) : Res :=
  run (fun s => s.command k token 0x22 (s.argWords k) (fun a s => s.stageItem 3 0 a [])) s

/-- IMP_STAGE_ROUTE: a route group, or 0xFF for none. -/
def State.stageRoute (s : State) (a : List Nat) : State :=
  if bits (nth a 1) 1 0 == 1 && 63 < nth a 4 && nth a 4 != 255 then s.ended 0x02 else s.stageItem 4 0 a []

/-- IMP_STAGE_ROUTE. -/
def execImpStageRoute (k token : Nat) (s : State) : Res :=
  run (fun s => s.command k token 0x23 (s.argWords k) (fun a s => s.stageRoute a)) s

/-- IMP_STAGE_GROUP: one part, with MEMBER_COUNT and REBIND_IDLE of the whole group (R779). -/
def State.stageGroup (s : State) (a : List Nat) : State :=
  let part := bits (nth a 1) 10 8
  if 4 < part then s.ended 0x02 else s.stageItem 5 part a [{ key := ⟨7, nth a 0, 0⟩, val := some (nth a 2) }]

/-- IMP_STAGE_GROUP. -/
def execImpStageGroup (k token : Nat) (s : State) : Res :=
  run (fun s => s.command k token 0x24 (s.argWords k) (fun a s => s.stageGroup a)) s

/-- IMP_INVALIDATE: VALID goes in every software entry of the domain whose range lies within the given one. -/
def State.impInvalidate (s : State) (a : List Nat) : State :=
  let d := nth a 0
  let size := nth a 1
  let base := arg64 a 2
  let n := 2 ^ (size + 12)
  let hit := fun w => eValid w && eDomain w == d && decide (base ≤ eBase w * 4096) && decide (eBase w * 4096 + 2 ^ (eSize w + 12) ≤ base + n)
  if 52 < size || d == 4095 || base % n != 0 then s.ended 0x02
  else
    let l := s.stagedImp.filter (fun e => e.1.typ == 1 && softIndex 1 e.1.index && hit e.2)
    s.stageImp (!(decide (32 ≤ d) && decide (d ≤ 63))) false (l.map (fun e => { key := e.1, val := some (e.2 / 2 * 2) }))

/-- IMP_INVALIDATE. -/
def execImpInvalidate (k token : Nat) (s : State) : Res :=
  run (fun s => s.command k token 0x25 (s.argWords k) (fun a s => s.impInvalidate a)) s

/-- Indices of an item type (R378). -/
def impSpace (typ : Nat) : Nat :=
  match typ with
  | 1 => 0x100000
  | 2 => 0x10000
  | 3 => 0x1000
  | 4 => 64
  | 5 => 64
  | 6 => 1
  | _ => 0

/-- IMP_READ: the payload and the AUX of one item, from the active or the staged copy; zero for a cleared one. -/
def State.impRead (s : State) (a : List Nat) : State :=
  let typ := bits (nth a 0) 7 0
  let part := bits (nth a 0) 18 16
  let i := nth a 1
  if impSpace typ ≤ i || (typ != 5 && part != 0) || 4 < part then s.ended 0x02
  else
    let v := if bit (nth a 0) 8 then s.stagedImp else s.com.active
    let p := (Sparse.get? v ⟨typ, i, part⟩).getD 0
    let aux := match typ with
      | 5 => (Sparse.get? v ⟨7, i, 0⟩).getD 0
      | 6 => (Sparse.get? v ⟨8, 0, 0⟩).getD 0
      | _ => 0
    s.ended 0 [payWord p 0, payWord p 1, payWord p 2, payWord p 3, payWord aux 0, payWord aux 1]

/-- IMP_READ. -/
def execImpRead (k token : Nat) (s : State) : Res := run (fun s => s.command k token 0x26 (s.argWords k) (fun a s => s.impRead a)) s

/-! ### SH_FILL (R720) -/

/-- Number of instances of a KIND of SH_FILL. -/
def fillCountOf (kind : Nat) : Nat :=
  match kind with
  | 1 => 8192
  | 2 => 8
  | 3 => 16384
  | 4 => 2048
  | 5 => 128
  | 6 => 2048
  | 7 => 4095
  | 8 => 32768
  | 9 => 128
  | 0xA => 256
  | _ => 0

/-- The registers of instance `n` of a KIND, with the values that the words of ARG4 to ARG7 give them. -/
def fillRegs (kind n p : Nat) : List (Nat × Nat) :=
  match kind with
  | 1 => [(0x20000 + 0x1000 * (n / 1024) + 4 * (n % 1024), payWord p 0)]
  | 2 => [(0x28000 + 4 * n, payWord p 0)]
  | 3 => [(0x100000 + 16 * n, payWord p 0), (0x100004 + 16 * n, payWord p 1), (0x100008 + 16 * n, payWord p 2)]
  | 4 => [(0x140000 + 16 * n, payWord p 0), (0x140004 + 16 * n, payWord p 1), (0x140008 + 16 * n, payWord p 2)]
  | 5 => [(0x148000 + 16 * n, payWord p 0), (0x148004 + 16 * n, payWord p 1), (0x148008 + 16 * n, payWord p 2)]
  | 6 => (span 0 3).map (fun w => (0x150000 + 16 * n + 4 * w, payWord p w))
  | 7 => [(0x158000 + 4 * n, payWord p 0)]
  | 8 => [(0x180800 + 0x1000 * (n / 256) + 8 * (n % 256), p % 2 ^ 64)]
  | 9 => [(0x80200 + 0x10000 * (n / 16) + 8 * (n % 16), p % 2 ^ 64)]
  | _ => [(0x80100 + 0x10000 * (n / 32) + 4 * (n % 32), payWord p 0)]

/-- SH_FILL. -/
def State.shFill (s : State) (a : List Nat) : State :=
  let kind := nth a 0
  let first := nth a 1
  let n := nth a 2
  if s.signedOnly then s.ended 0x08
  else if n = 0 || 16384 < n || fillCountOf kind < first + n then s.ended 0x02
  else
    let cells := ((List.range n).map (fun j => shCells (fillRegs kind (first + j) (payloadOf a)))).flatten
    (cells.foldl (fun s (c : Fld × Nat × Nat) => s.stage c.1 c.2.1 c.2.2) s).ended 0

/-- SH_FILL. -/
def execShFill (k token : Nat) (s : State) : Res := run (fun s => s.command k token 0x27 (s.argWords k) (fun a s => s.shFill a)) s

end Sys2Proof.Machine
end

