-- ==== Sys2Proof/Machine/Control.lean ====
section
/-! DEFINITION. Composing-port commands of the pool, the keys, the islands, the links, containment and proofs, and the end of a
command (R515 to R522, R544 to R546, R559 to R565, R576, R577, R649 to R651, R708, R716, R723 to R729). -/

namespace Sys2Proof.Machine

/-! ### Leases (R515 to R522) -/

/-- Sheets that an imprint may hold (R512, R513). -/
def State.maxSheets (s : State) (i : Nat) : Nat :=
  ((s.com.pool.find? (fun r => r.typ == 3 && r.imprint == i)).map (·.maxSheets)).getD 1024

/-- Whether a commit of a mask waits on a resynchronisation (R102). -/
def State.resyncing (s : State) (mask : Nat) : Bool := (maskIslands mask).any (fun i => s.isl.resync.contains i)

/-- The first check of R516 that a lease fails. -/
def State.leaseRefusal (s : State) (imprint k slot count : Nat) : Option Nat :=
  let log2 := ((s.hostRec k).map (·.bar2Log2)).getD 0
  let held := s.leasesOf imprint
  if s.safeMode then some 0x0C
  else if log2 = 0 then some 0x20
  else if 2 ^ (log2 - 28) < slot + count then some 0x02
  else if s.pool.leases.any (fun l => l.host == k && decide (l.slot < slot + count) && decide (slot < l.slot + l.count)) then some 0x21
  else if s.reg .BAL_KEY_SLOT_STATE imprint != 1 then some 0x22
  else if s.maxSheets imprint < held.foldl (fun n l => n + l.count) 0 + count then some 0x23
  else if s.sheetsIn 0 < count then some 0x24
  else if s.resyncing 1 then some 0x0B
  else none

/-- The lowest-numbered FREE sheets. -/
def State.freeSheets (s : State) (n : Nat) : List Nat := ((List.range 1024).filter (fun i => s.reg .MEM_SHEET_STATE i == 0)).take n

/-- Written-line bits of every granule with a line of one of the sheets are cleared (R517, R531). -/
def State.clearGranules (s : State) (sheets : List Nat) : State :=
  s.updPool (fun p => { p with granules := p.granules.filter (fun g => !(s.granLines g).any (fun ln => sheets.contains (ln / 2 ^ 22))) })

/-- POOL_LEASE: its sheets, its key, cleared granules and its commit; it comes about at T_c (R517, R518). -/
def State.poolLease (s : State) (a : List Nat) : State :=
  let i := bits (nth a 0) 9 0
  let k := bits (nth a 0) 20 16
  let slot := bits (nth a 1) 9 0
  let n := bits (nth a 1) 22 16
  if n = 0 || 64 < n then s.ended 0x02
  else match s.leaseRefusal i k slot n with
  | some c => s.ended c
  | none =>
    let sheets := s.freeSheets n
    let h := nth sheets 0
    let l : Lease := {
      handle := h, imprint := i, host := k, slot, count := n, epoch := s.reg .CMP_EPOCH_EPOCH 0 + 1, readOnly := bit (nth a 1) 24,
      sub := bits (nth a 2) 13 0, gen := s.reg .BAL_KEY_SLOT_GEN i, sheets }
    let s := (span 46 49).foldl (fun s n => s.writeKey n l.key) s
    let s := (s.clearGranules sheets).updPool (fun p => { p with leases := p.leases ++ [l] })
    (s.waitFor (.lease h)).askCommit (.lease h) 1

/-- POOL_LEASE. -/
def execPoolLease (k token : Nat) (s : State) : Res := run (fun s => s.command k token 0x30 (s.argWords k) (fun a s => s.poolLease a)) s

/-- A revocation begins to wait for its fence instant; that of an owner key runs from now on (R576, R595). -/
def State.addRevocation (s : State) (v : Revocation) : State :=
  (if v.handle.isNone then s.revokeLast 2 v false else s).updKeys (fun k => { k with revs := k.revs ++ [v] })

/-- POOL_RELEASE: its commit, then the revocation of its sheet key (R519). -/
def State.poolRelease (s : State) (a : List Nat) : State :=
  match s.namedLease false (nth a 0) with
  | none => s.ended 0x25
  | some l =>
    if s.resyncing 1 then s.ended 0x0B
    else ((s.addRevocation { imprint := l.imprint, handle := some l.handle, refs := [l.key] }).waitFor (.release l.handle)).askCommit (.release l.handle) 1

/-- POOL_RELEASE. -/
def execPoolRelease (k token : Nat) (s : State) : Res :=
  run (fun s => s.command k token 0x31 (s.argWords k) (fun a s => s.poolRelease a)) s

/-- POOL_QUERY (R522, R721). -/
def State.poolQuery (s : State) (a : List Nat) : State :=
  match s.namedLease (bit (nth a 0) 16) (bits (nth a 0) 9 0) with
  | none => s.ended 0x25
  | some l => s.ended 0 [l.imprint + 2 ^ 10 * l.host + 2 ^ 15 * flag l.readOnly + 2 ^ 16 * l.slot, l.count + 2 ^ 16 * l.sub,
      l.epoch % 2 ^ 32, l.epoch / 2 ^ 32, l.handle]

/-- POOL_QUERY. -/
def execPoolQuery (k token : Nat) (s : State) : Res := run (fun s => s.command k token 0x32 (s.argWords k) (fun a s => s.poolQuery a)) s

/-! ### Owner keys (R559 to R565, R576, R577) -/

/-- KEY_IMPORT of host `k`: the read of the blob (R561, R719). DEDUCED: log entry 89. -/
def State.keyImport (s : State) (k : Nat) (b : KeyBlob) (a : List Nat) : State :=
  (s.updRun (fun r => { r with blob := some b })).dmaRead k (arg64 a 2) 1664

/-- KEY_IMPORT. -/
def execKeyImport (k token : Nat) (b : KeyBlob) (s : State) : Res :=
  run (fun s => s.command k token 0x38 (s.argWords k) (fun a s => s.keyImport k b a)) s

/-- What KEY_IMPORT does with the blob that it has read (R561 to R565). -/
def State.importEnd (s : State) (b : KeyBlob) (i : Nat) : State :=
  if s.reg .BAL_KEY_SLOT_POLICY i != 2 then s.ended 0x08
  else if s.reg .BAL_KEY_SLOT_STATE i != 0 then s.ended 0x06
  else if s.part.factoryTest then s.ended 0x08
  else if !s.rngOk then s.ended 0x28
  else if b.magic != 0x4B444C48 || b.version != 1 || !b.reservedZero || b.imprint != i then s.ended 0x11
  else if b.kexId != s.kexId then s.ended 0x29
  else
    let old := (Sparse.get? s.keys.nonces i).getD 0
    let v := (s.draw).1
    let s := (s.draw).2
    let s := s.updKeys (fun x => { x with nonces := Sparse.set id x.nonces i v })
    if b.nonce != old then s.ended 0x2A
    else match Config.unwrap (s.kek b) b.wrapped with
    | none => s.ended 0x2B
    | some key => (s.makeKey i 1 key).ended 0

/-- Amendments without the scope IMP where no staged change of theirs to the table is left (R120, R122, R126). -/
def keepImpScope (staged : List ImpChange) (l : List AmendParts) : List AmendParts :=
  (l.map (fun a => if bit a.scopes 0 && !staged.any (fun c => c.amend == some a.seq) then { a with scopes := a.scopes - 1 } else a)).filter
    (fun a => a.scopes != 0)

/-- Staged changes that a revocation of imprint `i` removes: those of the items that it invalidates, and sealed entries of the
imprint (R577). -/
def State.dropStaged (s : State) (i : Nat) : State :=
  let gone := ((s.leasesOf i).map (fun l => (leaseChanges l false).map (·.key))).flatten
  let ours := fun w => eSealed w && eImprint w == i
  s.updCom (fun m =>
    let staged := m.staged.filter (fun c =>
      !(gone.contains c.key || (c.key.typ == 1 && ((c.val.map ours).getD false ||
        ((Sparse.get? m.active c.key).map (fun w => eValid w && ours w)).getD false))))
    { m with staged, parts := keepImpScope staged m.parts })

/-- KEY_REVOKE: the slot is REVOKING and the invalidating change is committed; one of a REVOKING slot joins (R576, R577). -/
def State.keyRevoke (s : State) (i : Nat) : State :=
  match s.reg .BAL_KEY_SLOT_STATE i with
  | 1 =>
    let g := s.reg .BAL_KEY_SLOT_GEN i
    let refs := ((s.leasesOf i).filter (·.live)).map Lease.key ++ [.seal i g, .galley i g]
    let s := ((s.setReg .BAL_KEY_SLOT_STATE i 2).dropStaged i).addRevocation { imprint := i, handle := none, refs }
    (s.waitFor (.revoke i)).askCommit (.revoke i) 1
  | 2 => s.waitFor (.revoke i)
  | _ => s.ended 0x02

/-- KEY_REVOKE. -/
def execKeyRevoke (k token : Nat) (s : State) : Res :=
  run (fun s => s.command k token 0x39 (s.argWords k) (fun a s => s.keyRevoke (nth a 0))) s

/-- KEY_QUERY (R564, R721). -/
def State.keyQuery (s : State) (k i : Nat) : State :=
  let n := (Sparse.get? s.keys.nonces i).getD 0
  s.ended 0 [s.readWord k (0x31000 + 8 * i), s.readWord k (0x31004 + 8 * i), payWord n 0, payWord n 1, payWord n 2, payWord n 3]

/-- KEY_QUERY. -/
def execKeyQuery (k token : Nat) (s : State) : Res :=
  run (fun s => s.command k token 0x3A (s.argWords k) (fun a s => s.keyQuery k (nth a 0))) s

/-! ### Islands (R54 to R65, R115, R202, R723, R724) -/

/-- ISL_FENCE: a fence begins and the command waits for it; an island that is fenced, off, in reset or lost already has its
crossings closed. DEDUCED: log entry 97. -/
def State.islFence (s : State) (n : Nat) : State :=
  if 55 < n || n == 50 || n == 51 || n == 52 then s.ended 0x02
  else if s.fencing n then s.waitFor (.fence n)
  else if s.running n || s.islState n == 3 then (s.waitFor (.fence n)).beginFence n
  else s.ended 0

/-- ISL_FENCE. -/
def execIslFence (k token : Nat) (s : State) : Res :=
  run (fun s => s.command k token 0x40 (s.argWords k) (fun a s => s.islFence (nth a 0))) s

/-- ISL_UNFENCE: a FENCED island resynchronises; its fence is lifted when that is done (R65, R113, R551, R723, R729).
DEDUCED: log entry 38. -/
def State.islUnfence (s : State) (n : Nat) : State :=
  if 55 < n then s.ended 0x02
  else match s.islState n with
  | 2 => s.ended 0
  | 3 => s.ended 0
  | 4 =>
    if s.port.proofs.any (fun p => p.typ == 5 && 32 + p.target == n) then s.ended 0x06
    else if 32 ≤ n && n ≤ 41 && !s.rngOk then s.ended 0x28
    else (s.waitFor (.unfence n)).updIsl (fun i => { i with resync := addTo n i.resync })
  | _ => s.ended 0x06

/-- ISL_UNFENCE. -/
def execIslUnfence (k token : Nat) (s : State) : Res :=
  run (fun s => s.command k token 0x41 (s.argWords k) (fun a s => s.islUnfence (nth a 0))) s

/-- Whether the end of partner `p` toward island `n` of a set is in reset with it or closed: `p` in the set, lost or off, or a
fence of `n` complete, behind which it may be in reset, or `n` isolated (R61, R63, R67, R117). -/
def State.closedToward (s : State) (set : List Nat) (n p : Nat) : Bool :=
  set.contains p || s.islState p == 5 || s.islState p == 0 || s.islState n == 4 || s.islState n == 1 || s.isolated n

/-- The crossings of an island are emptied by its reset; requests that it owes a completion are answered (R64, R68). -/
def State.emptyCross (s : State) (n : Nat) : State :=
  let s := s.dropPkts (s.tr.pkts.filter (inCross n)) false
  let s := (s.tr.outs.filter (outInto n)).foldl (fun s o => s.outLost o) s
  s.updMet (fun m => { m with recQ := m.recQ.filter (fun c => !(n == 53 || c.src == n)) })

/-- ISL_RESET of a set of islands (R60 to R64). An island that is off has nothing to reset. -/
def State.islReset (s : State) (mask : Nat) : State :=
  let set := setBits 56 mask
  if set.isEmpty || set.any (fun n => n == 50 || n == 51 || n == 52) then s.ended 0x02
  else if !set.all (fun n => s.islState n == 0 || (partners n).all (fun p => s.closedToward set n p)) then s.ended 0x07
  else
    let live := set.filter (fun n => s.islState n != 0)
    let s := s.updIsl (fun i => { i with fences := i.fences.filter (fun f => !live.contains f.island) })
    (live.foldl (fun s n => (s.emptyCross n).resetIsl n) s).ended 0

/-- ISL_RESET. -/
def execIslReset (k token : Nat) (s : State) : Res :=
  run (fun s => s.command k token 0x42 (s.argWords k) (fun a s => s.islReset (arg64 a 0))) s

/-- Whether R202 lets the analog domain of a tile go off: the tile is fenced, or each of its lane directions is OFF or in TEST
with NEP. -/
def State.analogFree (s : State) (t : Nat) : Bool :=
  s.islState t == 4 || (span (8 * t) (8 * t + 7)).all (fun l =>
    let ok := fun (f : Fld) => s.reg f l == 0 || (s.reg f l == 4 && s.reg .TILE_LANE_TEST_LPBK l == 2)
    ok .TILE_LANE_STATUS_TX_STATE && ok .TILE_LANE_STATUS_RX_STATE)

/-- Domain `d` is to be switched by the supervisor, after others of its island that go first (R37, R38). -/
def State.askSwitch (s : State) (first : List Nat) (d : Nat) (on : Bool) : State :=
  (s.waitFor (.power d)).updIsl (fun i => { i with switchQ := i.switchQ ++ (first ++ [d]).map (fun d => { dom := d, on }) })

/-- ISL_POWER of one domain (R37, R115, R202, R724): a domain that its island's order puts before it is switched on first, one that
the reverse order puts before it is switched off first. An island that is FENCED with its clock stopped and every domain good is
reset by ON (R138). DEDUCED: log entry 76. -/
def State.islPower (s : State) (a : List Nat) : State :=
  let d := bits (nth a 0) 6 0
  let n := domIsland d
  let after := ((islDomains n).dropWhile (fun x => x != d)).filter (fun x => x != d && s.on .SUP_DOM_STATUS_ON x)
  if 89 < d || d == 86 then s.ended 0x02
  else if bit (nth a 0) 8 then
    (if !s.on .SUP_DOM_STATUS_PGOOD d then
      s.askSwitch (((islDomains n).takeWhile (fun x => x != d)).filter (fun x => !s.on .SUP_DOM_STATUS_PGOOD x)) d true
     else if s.islState n == 4 && !s.on .SUP_ISL_STATUS_CLK_LOCK n && s.powered n then (s.waitFor (.power d)).resetIsl n
     else s.ended 0)
  else if (d :: after).any (fun x => decide (32 ≤ x) && decide (x ≤ 63)) && !s.analogFree n then s.ended 0x06
  else if !(s.islState n == 4 || s.islState n == 0 || s.islState n == 5) then s.ended 0x07
  else if s.on .SUP_DOM_STATUS_ON d || s.on .SUP_DOM_STATUS_PGOOD d then s.askSwitch after d false
  else s.ended 0

/-- ISL_POWER. -/
def execIslPower (k token : Nat) (s : State) : Res :=
  run (fun s => s.command k token 0x43 (s.argWords k) (fun a s => s.islPower a)) s

/-! ### LINK_WIDTH (R333 to R341, R725) -/

/-- LINK_WIDTH: the own transmitter changes, or the partner is asked to change its own, and lanes that this adds to the receive
direction wake. DEDUCED: log entry 98. -/
def State.linkWidth (s : State) (a : List Nat) : State :=
  let p := bits (nth a 0) 6 0
  let m := nth a 1
  let w := widthCode (popCount 16 m)
  let d := s.dlink p
  if s.role p != 3 || w = 0 || 2 ^ (s.lanes p).length ≤ m then s.ended 0x02
  else if !s.fabActive p then s.ended 0x30 [0]
  else if bit (nth a 0) 8 then
    (if d.chRx.isSome then s.ended 0x30 [0]
     else
      let wide := m &&& s.reg .TILE_DL_MASK_RX_MASK (p / 4) != m
      let s := (s.waitFor (.width p)).updDlink p (fun d => { d with chRx := some { mask := m, widening := wide, since := s.now, byCommand := true } })
      let s := (s.setReg .TILE_DL_STATUS_RX_PEND (p / 4) 1).linkCmd p 1 0 w 0 m
      if wide then s.maskLanes p (s.reg .TILE_DL_MASK_RX_MASK (p / 4) ||| m) false else s)
  else if d.chTx.isSome then s.ended 0x30 [0]
  else (s.waitFor (.width p)).txChange p m true

/-- LINK_WIDTH. -/
def execLinkWidth (k token : Nat) (s : State) : Res :=
  run (fun s => s.command k token 0x48 (s.argWords k) (fun a s => s.linkWidth a)) s

/-! ### CONTAIN, CONTAIN_RELEASE (R645 to R651) -/

/-- Whether a scope exists: a port of the forme, an imprint, a function of a device port (R720). DEDUCED: log entry 102. -/
def State.scopeOk (s : State) (kind scope : Nat) : Bool :=
  match kind with
  | 1 => decide (scope < 128) && (s.portRec scope).isSome
  | 2 => decide (scope < 1024)
  | 3 => decide (scope < 2 ^ 19) && s.role (scope / 4096) == 2
  | _ => false

/-- CONTAIN. -/
def State.containCmd (s : State) (a : List Nat) : State :=
  if !s.scopeOk (nth a 0) (nth a 1) then s.ended 0x02 else (s.contain (nth a 0) (nth a 1)).ended 0

/-- CONTAIN. -/
def execContain (k token : Nat) (s : State) : Res := run (fun s => s.command k token 0x50 (s.argWords k) (fun a s => s.containCmd a)) s

/-- CONTAIN_RELEASE: refused while a source of kind C has a cause present for the scope (R650); a FUNCTION scope of a PF of an SRIOV_SETUP
entry stands for its port (R649). -/
def State.releaseCmd (s : State) (a : List Nat) : State :=
  let wide := nth a 0 == 3 && s.widened (nth a 1 / 4096 % 128) (nth a 1 % 4096)
  let kind := if wide then 1 else nth a 0
  let scope := if wide then nth a 1 / 4096 % 128 else nth a 1
  if !s.scopeOk (nth a 0) (nth a 1) then s.ended 0x02
  else if s.flt.causes.any (fun c => (c.kind == nth a 0 && c.scope == nth a 1) || (c.kind == kind && c.scope == scope)) then s.ended 0x0D
  else (s.releaseScope kind scope).ended 0

/-- CONTAIN_RELEASE. -/
def execContainRelease (k token : Nat) (s : State) : Res :=
  run (fun s => s.command k token 0x51 (s.argWords k) (fun a s => s.releaseCmd a)) s

/-! ### Proofs (R203, R544 to R546, R726 to R729) -/

/-- Whether the arguments of PROOF_START lie in their ranges (R726). -/
def State.proofArgs (s : State) (typ target param : Nat) : Bool :=
  match typ with
  | 1 => (s.portRec target).isSome && decide (1 ≤ param) && decide (param ≤ ((s.slotRec target).map (·.maxRate)).getD 0)
  | 2 => decide (1 ≤ param) && decide (target + param ≤ 1024)
  | 3 => decide (target < 4) && param == 0
  | 4 => decide (target < 4) && param == 0
  | 5 => decide (target < 8) && param == 0
  | 6 => decide (target < 8) && param == 0
  | _ => false

/-- Whether sheet `n` has a line on stack `m`. -/
def State.sheetOn (s : State) (n m : Nat) : Bool := [0, 256, 512, 768].any (fun o => (s.place n o).1 == m)

/-- Whether a disruptive proof finds its target in use (R203, R211, R544, R546, R726). A port whose lanes are in a lane test already is
in use (DESIGN CHOICE, log entry 155). -/
def State.proofBlocked (s : State) (typ target param : Nat) : Bool :=
  match typ with
  | 1 => s.on .TILE_PORT_STATUS_LINK_UP target || s.link.training.contains target || s.link.follow.contains target ||
      (s.role target == 3 && !(s.dlState target == 0 || s.dlState target == 6)) || (s.lanes target).any s.inTest
  | 2 => (span target (target + param - 1)).any (fun n => s.reg .MEM_SHEET_STATE n != 0)
  | 3 => decide (0 < s.galleySheets) || (List.range 1024).any (fun n =>
      s.sheetOn n target && [1, 2, 3].contains (s.reg .MEM_SHEET_STATE n))
  | 5 => s.islState (32 + target) != 4
  | _ => false

/-- Lanes of a port enter lane test at a rate, their polarity as forced or last detected; SLOT_PERST_N of its slot is low (R185, R204, R218,
R693). -/
def State.testLanes (s : State) (p rate : Nat) : State :=
  ((s.lanes p).foldl (fun s l =>
    ((s.laneTo l 4).setPolarity l (s.on .TILE_LANE_STATUS_RX_INV l)).setReg .TILE_LANE_STATUS_RATE l rate) s).perstRule p

/-- PROOF_START of host `k`: the lowest free handle (R727). DEDUCED: log entry 99. -/
def State.proofStart (s : State) (k : Nat) (a : List Nat) : State :=
  let typ := nth a 0
  let target := nth a 1
  let param := nth a 2
  if !s.proofArgs typ target param then s.ended 0x02
  else match (List.range 8).find? (fun h => s.reg .CMP_PROOF_STATE h == 0) with
  | none => s.ended 0x09
  | some h =>
    if s.proofBlocked typ target param then s.ended 0x06
    else
      let s := s.setRegs [(.CMP_PROOF_STATE, h, 1), (.CMP_PROOF_OUTCOME, h, 0), (.CMP_PROOF_TYPE, h, typ), (.CMP_PROOF_PROGRESS, h, 0),
        (.CMP_PROOF_HOST_INDEX, h, k)]
      let pr : Proof := { handle := h, typ, target, param }
      let s := { s with port := { s.port with proofs := s.port.proofs ++ [pr] } }
      let s := match typ with
        | 1 => s.testLanes target param
        | 2 => (span target (target + param - 1)).foldl (fun s n => s.setReg .MEM_SHEET_STATE n 5) s
        | _ => s
      s.ended 0 [h]

/-- PROOF_START. -/
def execProofStart (k token : Nat) (s : State) : Res :=
  run (fun s => s.command k token 0x58 (s.argWords k) (fun a s => s.proofStart k a)) s

/-- PROOF_STOP: a RUNNING proof ends with STOPPED, an ENDED handle is freed (R205, R727). -/
def State.proofStop (s : State) (h : Nat) : State :=
  match s.reg .CMP_PROOF_STATE h with
  | 1 => (s.endProof h 2).ended 0
  | 2 => (s.setRegs [(.CMP_PROOF_STATE, h, 0), (.CMP_PROOF_OUTCOME, h, 0), (.CMP_PROOF_TYPE, h, 0), (.CMP_PROOF_PROGRESS, h, 0),
      (.CMP_PROOF_HOST_INDEX, h, 0)]).ended 0
  | _ => s.ended 0x02

/-- PROOF_STOP. -/
def execProofStop (k token : Nat) (s : State) : Res :=
  run (fun s => s.command k token 0x59 (s.argWords k) (fun a s => s.proofStop (nth a 0))) s

/-- PROOF_END: a proof that ends by itself has passed or failed; a lane test runs until it is stopped; the failing rows
(stack, row, bank) that a march found are remapped (R541, R726 to R729). DEDUCED: log entry 100. -/
def execProofEnd (h : Nat) (fail : Bool) (rows : List (Nat × Nat × Nat)) (s : State) : Res :=
  run (fun s =>
    match s.port.proofs.find? (fun p => p.handle == h) with
    | some p =>
      if p.typ == 1 then s
      else
        let s := (s.endProof h (flag fail)).setReg .CMP_PROOF_PROGRESS h 100
        if p.typ == 2 && fail then rows.foldl (fun s r => s.remap r.1 r.2.1 r.2.2) s else s
    | none => s) s

/-! ### The end of a command (R708, R709, R710, R716, R721) -/

/-- The reads of the running command are complete: its engine is free, and what it brought is checked and used. -/
def State.dmaEnd (s : State) (r : Running) : State :=
  let s := s.updLink (fun l => { l with dma := l.dma.filter (fun t => t.host != r.host || t.quarantined) })
  let s := if s.reg .CMP_DMA_STATUS_STATE r.host == 1 then s.setReg .CMP_DMA_STATUS_STATE r.host 0 else s
  match r.opcode, r.image, r.blob with
  | 0x12, some im, _ => s.amendEnd im (nth r.args 2)
  | 0x13, some im, _ => s.formeEnd im r.args
  | 0x38, _, some b => s.importEnd b (nth r.args 0)
  | _, _, _ => s

/-- A command with its result ends. DESIGN CHOICE: log entry 92. -/
def State.done (s : State) (r : Running) (code : Nat) (ret : List Nat) : State :=
  let s := ({ s with port := { s.port with running := none } }).work 52
  let s := if r.discard then s.setReg .CMP_RESULT_STATE r.host 0
    else
      let s := s.setRegs [(.CMP_RESULT_STATE, r.host, 2), (.CMP_RESULT_RESULT, r.host, code), (.CMP_RESULT_OPCODE, r.host, r.opcode),
        (.CMP_RESULT_TOKEN, r.host, r.token)]
      ((List.range 16).foldl (fun s n => s.setReg .CMP_RET_VALUE (16 * r.host + n) (nth ret n)) s).vector r.host 0
  let s := if s.port.lockDrop then { s.releaseLock true with port := { s.port with lockDrop := false } } else s
  let s := if s.on .CMP_STATUS_RESET_PEND then { s with port := { s.port with resetAt := some (s.now + 10000) } } else s
  (s.nextCommit).freePort

/-- COMMAND_DONE: the running command ends, if its result is known; for one that reads through a DMA engine the last completion
has come. -/
def execCommandDone (s : State) : Res :=
  run (fun s =>
    let s := match s.port.running with
      | some r => if decide (r.wait = Wait.dma) && r.result.isNone then s.dmaEnd r else s
      | none => s
    match s.port.running with
    | some r =>
      match r.result with
      | some (code, ret) => s.done r code ret
      | none => s
    | none => s) s

end Sys2Proof.Machine
end

