-- ==== Sys2Proof/Machine/Lanes.lean ====
section
/-! DEFINITION. Serial lanes: sleep, adaptation, lane test (05_lanes.md). -/

namespace Sys2Proof.Machine

/-! ### Sleep (R197 to R201) -/

/-- LANE_SLEEP_DEEP: a direction has slept for 10 ms (R199). DESIGN CHOICE: log entry 28. -/
def execLaneSleepDeep (l : Nat) (d : Dir) (s : State) : Res :=
  run (fun s =>
    if l < 256 && s.reg (laneField d) l == 2 then
      (s.atNow ((Sparse.get? s.link.asleep (dirKey l d)).getD s.now + 10000000)).setReg (laneField d) l 3
    else s) s

/-- Whether a port wants a sleeping direction of lane `l` back: it is neither in L1 nor disabled, and on a fabric port a
mask in force or on its way holds the lane (R197, R337). -/
def State.wakes (s : State) (l : Nat) (d : Dir) : Bool :=
  match s.lanePort l with
  | none => false
  | some p =>
    if s.role p == 3 then
      let i := ((List.range 16).find? (fun i => s.portLane p i == some l)).getD 16
      let (m, c) := match d with
        | .tx => (s.reg .TILE_DL_MASK_TX_MASK (p / 4), (s.dlink p).chTx)
        | .rx => (s.reg .TILE_DL_MASK_RX_MASK (p / 4), (s.dlink p).chRx)
      s.dlState p != 6 && (bit m i || (c.map (fun c => bit c.mask i)).getD false)
    else !s.link.quiet.contains p && s.reg .FLT_PORT_STATE p != 1

/-- LANE_WAKE: a sleeping direction is ready for data (R200). -/
def execLaneWake (l : Nat) (d : Dir) (s : State) : Res :=
  run (fun s =>
    let st := s.reg (laneField d) l
    if l < 256 && (st == 2 || st == 3) && s.wakes l d then s.wakeDir l d else s) s

/-! ### Adaptation (R193 to R196) -/

/-- Whether a receiver adapts: ACTIVE, or in TEST with a loopback other than NEP (R193). -/
def State.adapts (s : State) (l : Nat) : Bool :=
  s.reg .TILE_LANE_STATUS_RX_STATE l == 1 || (s.reg .TILE_LANE_STATUS_RX_STATE l == 4 && s.reg .TILE_LANE_TEST_LPBK l != 2)

/-- ADAPTATION_STEP: the receiver's new eye and peaking code; an eye below a quarter of its trained height is marked and
logged (R193, R195). -/
def execAdaptationStep (l h w c : Nat) (s : State) : Res :=
  run (fun s =>
    if l < 256 && s.adapts l then s.adaptTo l h w c
    else s) s

/-- OFFSET_CALIBRATION (R194). -/
def execOffsetCalibration (l : Nat) (s : State) : Res :=
  run (fun s => if l < 256 && s.adapts l then s.bump .TILE_LANE_ADAPT_CAL_COUNT l else s) s

/-- LANE_MARGINING (R196): the error samplers of a lane at 16 GT/s and above move within their range; traffic and every
register stay. -/
def execLaneMargining (l timing voltage : Nat) (s : State) : Res :=
  run (fun s =>
    match s.lanePort l with
    | some p =>
      if s.role p != 3 && s.reg .TILE_LANE_STATUS_RX_STATE l == 1 && 4 ≤ s.reg .TILE_LANE_STATUS_RATE l && timing ≤ 32 && voltage ≤ 64 then
        s.emit (.ctl p "margin" timing voltage)
      else s
    | none => s) s

/-! ### Lane test (R206 to R217) -/

/-- Whether a pattern encoding is listed for a lane at its test rate (R212, R213). -/
def patOk (rate pat : Nat) : Bool := pat == 0 || (if 6 ≤ rate then pat == 7 || pat == 8 else decide (1 ≤ pat) && decide (pat ≤ 6))

/-- A synchronised checker at a pattern meets received bits: how many differ from those that it expects, where it stands after them, and
whether it met 32 errors within 1,024 bits, at the last of which it stops. Its pattern runs on from its own bits, whatever is received
(R214, R215). -/
def checkRun (pat : Nat) : Checker → List Nat → Nat × Checker × Bool
  | c, [] => (0, c, false)
  | c, b :: bs =>
    let x := Folio.prbsBit pat c.reg
    let d := { c with reg := Folio.shiftIn pat c.reg x, met := c.met + 1 }
    if x = b then checkRun pat d bs
    else
      let errs := c.errs.filter (fun e => decide (c.met < e + 1024)) ++ [c.met]
      if 32 ≤ errs.length then (1, { d with errs }, true)
      else
        let r := checkRun pat { d with errs } bs
        (r.1 + 1, r.2)

/-- Received symbols of a lane as bits: one bit a symbol at NRZ rates, two of a Gray-coded symbol at PAM4 rates (R215). -/
def symBits (rate : Nat) (rx : List Nat) : List Nat := rx.flatMap (fun v => if 6 ≤ rate then Folio.pamBits v else [v % 2])

/-- The checker of a lane, as it stands. -/
def State.checker (s : State) (l : Nat) : Checker := (s.link.checkers.find? (fun c => c.lane == l)).getD { lane := l, reg := 0 }

/-- `s` with the checker of a lane as given. -/
def State.setChecker (s : State) (c : Checker) : State :=
  s.updLink (fun k => { k with checkers := k.checkers.filter (fun x => x.lane != c.lane) ++ [c] })

/-- A lane's synchronised checker takes bits: it counts the errors among them, and with 32 of them within 1,024 bits it loses its lock, to
seed itself again (R214, R215). -/
def State.checkIn (s : State) (l : Nat) (bs : List Nat) : State :=
  let c := checkRun (s.reg .TILE_LANE_TEST_CHK_PAT l) (s.checker l) bs
  let s := (s.bump .TILE_PRBS_ERR_COUNT l c.1).setChecker c.2.1
  if c.2.2 then (s.checkerOff l).bump .TILE_PRBS_SYNC_LOCK_LOSS l else s

/-- Whether a lane's receiver takes what its own generator sends: near-end parallel loopback, or near-end serial loopback with its driver
not held in electrical idle (R207, R220). -/
def State.nearEnd (s : State) (l : Nat) : Bool :=
  s.reg .TILE_LANE_TEST_LPBK l == 2 || (s.reg .TILE_LANE_TEST_LPBK l == 1 && !s.on .TILE_LANE_TEST_TX_IDLE l)

/-- The next `n` bits of a lane's generator, and the state after them (R212); with GEN_PAT OFF it sends none. -/
def State.generate (s : State) (l n : Nat) : List Nat × State :=
  match Sparse.get? s.link.gens l with
  | some reg =>
    let r := Folio.prbsBits (s.reg .TILE_LANE_TEST_GEN_PAT l) n reg
    (r.1, s.updLink (fun k => { k with gens := Sparse.set id k.gens l r.2 }))
  | none => ([], s)

/-- The bits that a lane's receiver brings its checker: the partner's, or with a near-end loopback the generator's, of which the analog path
inverts some (R207, R208, R212, R220). -/
def State.received (s : State) (r : LaneRx) : List Nat × State :=
  let bs := symBits (s.reg .TILE_LANE_STATUS_RATE r.lane) r.rx
  if s.nearEnd r.lane then
    let g := s.generate r.lane bs.length
    (if s.reg .TILE_LANE_TEST_LPBK r.lane == 2 then g.1 else (g.1.zip bs).map (fun e => (e.1 + e.2) % 2), g.2)
  else if s.reg .TILE_LANE_TEST_LPBK r.lane == 1 then ([], s)
  else (bs, s)

/-- One generated bit is inverted, at PAM4 rates the less significant of a symbol (R217): a synchronised checker that sees the generator
through a near-end loopback meets it, else it goes to the partner unless the driver is idle (R207, R208, R220). DESIGN CHOICE: log entry
27. -/
def State.injectBit (s : State) (l : Nat) : State :=
  let g := s.generate l (if 6 ≤ s.reg .TILE_LANE_STATUS_RATE l then 2 else 1)
  match s.reg .TILE_LANE_TEST_LPBK l == 3, g.1 with
  | false, b :: bs =>
    let out := (b + 1) % 2 :: bs
    if s.nearEnd l then (if s.on .TILE_LANE_TEST_CHK_SYNC l then g.2.checkIn l out else g.2)
    else if s.reg .TILE_LANE_TEST_LPBK l == 0 && !s.on .TILE_LANE_TEST_TX_IDLE l then g.2.emit (.ctl (l / 8 * 4) "inverted bit" l (out.headD 0))
    else g.2
  | _, _ => s

/-- Rate injection inverts its next bit 2^INJ_EXP generated bits after instant `t` and a rest `r` of a nanosecond, in parts of twice the
test rate (R217). -/
def State.injNext (s : State) (l t r : Nat) : State :=
  let d := max 1 (rate2 (s.reg .TILE_LANE_STATUS_RATE l))
  let n := 2 ^ (s.reg .TILE_LANE_TEST_INJ_EXP l + 1) + r
  s.updLink (fun k => { k with injecting := Sparse.set id k.injecting l (t + n / d, n % d) })

/-- A write of 1 to INJ_GO: one bit, or the start of rate injection (R217). -/
def State.injGo (s : State) (l : Nat) : State :=
  if !s.inTest l then s
  else
    match s.reg .TILE_LANE_TEST_INJ_MODE l with
    | 1 => s.injectBit l
    | 2 => s.injNext l s.now 0
    | _ => s

/-- The generator of a lane starts with a pattern written over another, and stops with OFF (R212). Its seed is a free value, not all
zeros (DESIGN CHOICE, log entry 168). -/
def State.setGen (s : State) (l old : Nat) : State :=
  let g := s.reg .TILE_LANE_TEST_GEN_PAT l
  if g == old then s
  else
    let n := 2 ^ Folio.patDegree g
    { s with draws := s.draws + 1 }.updLink (fun k => { k with
      gens := if g == 0 then Sparse.erase k.gens l else Sparse.set id k.gens l (max 1 (Config.genSeed l s.draws % n)) })

/-- A write to TILE_LANE_TEST (R206, R213, R217, R220): dropped outside TEST; an encoding that is not listed leaves its
field. A new CHK_PAT stops the checker, which seeds itself again under it, and what it has checked stays; an INJ_MODE other than RATE
stops rate injection: DESIGN CHOICE, log entry 140. -/
def State.laneTest (s : State) (l v : Nat) : State :=
  if !s.inTest l then s
  else
    let rate := s.reg .TILE_LANE_STATUS_RATE l
    let keep := fun (s : State) (f : Fld) (x : Nat) (ok : Bool) => if ok then s.setReg f l x else s
    let chk := bits v 10 7
    let s := keep s .TILE_LANE_TEST_LPBK (bits v 2 0) (decide (bits v 2 0 ≤ 3))
    let gen := s.reg .TILE_LANE_TEST_GEN_PAT l
    let old := s.reg .TILE_LANE_TEST_CHK_PAT l
    let s := (keep s .TILE_LANE_TEST_GEN_PAT (bits v 6 3) (patOk rate (bits v 6 3))).setGen l gen
    let s := keep s .TILE_LANE_TEST_CHK_PAT chk (patOk rate chk)
    let s := keep s .TILE_LANE_TEST_INJ_MODE (bits v 12 11) (decide (bits v 12 11 ≤ 2))
    let s := keep s .TILE_LANE_TEST_INJ_EXP (bits v 18 13) (decide (8 ≤ bits v 18 13) && decide (bits v 18 13 ≤ 40))
    let s := s.setReg .TILE_LANE_TEST_TX_IDLE l (bits v 21 21)
    let s := if s.reg .TILE_LANE_TEST_INJ_MODE l == 2 then s else s.updLink (fun k => { k with injecting := Sparse.erase k.injecting l })
    let s := if s.reg .TILE_LANE_TEST_CHK_PAT l == old then s else s.checkerOff l
    if bit v 19 then s.injGo l else s

/-- Offset in BAR0 of TILE_LANE_TEST of lane `l` (R220). -/
def laneReg (l : Nat) : Nat := 0x202010 + 0x10000 * (l / 8) + 0x40 * (l % 8)

/-- What TILE_LANE_TEST of lane `l` holds in its RW fields. -/
def State.laneTestWord (s : State) (l : Nat) : Nat :=
  s.reg .TILE_LANE_TEST_LPBK l + 2 ^ 3 * s.reg .TILE_LANE_TEST_GEN_PAT l + 2 ^ 7 * s.reg .TILE_LANE_TEST_CHK_PAT l +
  2 ^ 11 * s.reg .TILE_LANE_TEST_INJ_MODE l + 2 ^ 13 * s.reg .TILE_LANE_TEST_INJ_EXP l + 2 ^ 21 * s.reg .TILE_LANE_TEST_TX_IDLE l

/-- TILE_LANE_TEST_WRITE. -/
def execTileLaneTestWrite (k l v : Nat) (s : State) : Res :=
  run (fun s =>
    if l < 256 && s.operator k then s.meetReg (l / 8) { host := k, tag := 0, offset := laneReg l, size := 4, kind := .write, value := v } (fun s => s.laneTest l v)
    else s) s

/-- INJ_GO. -/
def execInjGo (k l : Nat) (s : State) : Res :=
  run (fun s =>
    if l < 256 && s.operator k then
      s.meetReg (l / 8) { host := k, tag := 0, offset := laneReg l, size := 4, kind := .write, value := s.laneTestWord l + 2 ^ 19 } (fun s => s.injGo l)
    else s) s

/-- RATE_INJECTION: every 2^INJ_EXP generated bits (R217). -/
def execRateInjection (l : Nat) (s : State) : Res :=
  run (fun s =>
    match Sparse.get? s.link.injecting l with
    | some (t, r) =>
      if s.inTest l && s.reg .TILE_LANE_TEST_INJ_MODE l == 2 then ((s.atNow t).injectBit l).injNext l t r
      else s
    | none => s) s

/-- CHK_SYNC: the checker seeds itself from the first bits of what it receives; 256 error-free bits after them set CHK_SYNC, with a
signal that it locks on (R214). DEDUCED: log entry 146. -/
def execChkSync (r : LaneRx) (s : State) : Res :=
  run (fun s =>
    let l := r.lane
    let pat := s.reg .TILE_LANE_TEST_CHK_PAT l
    let b := s.received r
    let d := Folio.patDegree pat
    let c := checkRun pat { lane := l, reg := (b.1.take d).foldl (Folio.shiftIn pat) 0 } (b.1.drop d)
    if s.inTest l && pat != 0 && !s.on .TILE_LANE_TEST_CHK_SYNC l && d + 256 ≤ b.1.length && c.1 == 0 then
      let s := (b.2.countFrom l (s.checkedBits l)).setReg .TILE_LANE_TEST_CHK_SYNC l 1
      let s := s.setChecker { lane := l, reg := c.2.1.reg }
      if s.reg .TILE_LANE_TEST_LPBK l == 2 then s else s.setRegs [(.TILE_LANE_STATUS_SIG_DET, l, 1), (.TILE_LANE_STATUS_CDR_LOCK, l, 1)]
    else s) s

/-- LOCK_LOSS: a synchronised checker meets up to 1,024 received bits more (R214, R215). DEDUCED: log entry 146. -/
def execLockLoss (r : LaneRx) (s : State) : Res :=
  run (fun s =>
    let b := s.received r
    if s.inTest r.lane && s.on .TILE_LANE_TEST_CHK_SYNC r.lane && b.1.length ≤ 1024 then b.2.checkIn r.lane b.1 else s) s

/-- A read of TILE_PRBS_ERR (R216): the count read, and the state with the interval's bits in TILE_PRBS_BITS. -/
def State.prbsRead (s : State) (l : Nat) : Nat × State :=
  let n := s.reg .TILE_PRBS_ERR_COUNT l
  let b := s.checkedBits l
  (n, (s.setRegs [(.TILE_PRBS_ERR_COUNT, l, 0), (.TILE_PRBS_BITS_COUNT, l, b)]).countFrom l 0)

/-- TILE_PRBS_ERR_READ: zero at a tile that is OFF, an error at a LOST one (R49). -/
def execTilePrbsErrRead (k l : Nat) (s : State) : Res :=
  run (fun s =>
    let n := l / 8
    if 256 ≤ l || !s.operator k then s
    else if s.islState n == 0 then s.emit (.read 0)
    else if s.islState n == 5 then s.emit (.cpl (.host k) 0 .ur [] false)
    else if s.regWaits n then s.holdReg n { host := k, tag := 0, offset := laneReg l + 8, size := 8, kind := .read, value := 0 }
    else (s.prbsRead l).2.emit (.read (s.prbsRead l).1)) s

end Sys2Proof.Machine
end

