-- ==== Sys2Proof/Machine/Access.lean ====
section
/-! DEFINITION. A host's accesses to BAR0 of its management endpoint: which blocks it reaches, what a read shows and clears,
what a write does to each kind of field (R5 to R12, R49, R82, R94, R144, R147, R151, R242, R694, R701 to R705). -/

namespace Sys2Proof.Machine

/-! ### Which registers answer -/

/-- Whether the block at offset `a` answers host `k`: before P5 only the colophon page (R144); a tenant host port reaches the
colophon page, its MSI-X table and pending bits and the CMP block (R702). -/
def State.reaches (s : State) (k a : Nat) : Bool :=
  if s.phase < 5 then decide (a < 0x1000)
  else s.operator k || decide (a < 0x1000) || (decide (0x2000 ≤ a) && decide (a < 0x5000))

/-- The switched island whose own registers lie at offset `a`: ARB_STAT by arbiter island, a port's shaper balance, queue samples and
gates by its quad; fields that the management core or the supervisor keeps have none. -/
def regIsland (a : Nat) : Option Nat :=
  if 0x11000 ≤ a && a < 0x11800 then some (32 + (a - 0x11000) / 0x100)
  else if 0xE000 ≤ a && a < 0xF000 then some 53
  else if 0x40100 ≤ a && a < 0x40200 then some (42 + (a - 0x40100) / 0x40)
  else if 0x80000 ≤ a && a < 0x100000 then some (32 + (a - 0x80000) / 0x10000)
  else if 0x28080 ≤ a && a < 0x280A8 then some (32 + (a - 0x28080) / 4)
  else if 0x148000 ≤ a && a < 0x148800 then some (32 + (a - 0x148000) / 0x100)
  else if 0x161000 ≤ a && a < 0x165000 then some (32 + (a - 0x161000) / 0x800)
  else if 0x180000 ≤ a && a < 0x200000 then some (32 + (a - 0x180000) / 0x10000)
  else if 0x200000 ≤ a && a < 0x400000 then some ((a - 0x200000) / 0x10000)
  else if 0x400000 ≤ a && a < 0x600000 then some 55
  else if 0x4000 ≤ a && a < 0x5000 then some 52
  else none

/-- Whether a register holds SH fields: their staged copies are the management core's. -/
def hasSh (r : RegAt) : Bool := r.fields.any (fun e => decide (e.fld.acc = .sh))

/-- The island that an access to offset `a` meets. The CMP block answers even while the management core is lost (R117). -/
def State.metIsland (s : State) (a : Nat) : Option Nat :=
  match regAt a, regIsland a with
  | some (r, _, _), some n => if hasSh r || (n == 52 && s.islState 52 != 3) then none else some n
  | none, n => if 0x500000 ≤ a && a < 0x540000 then n else none
  | _, none => none

/-- The instance of a register that host `k`'s access reaches (R703). -/
def ownInst (k : Nat) (r : RegAt) (i : Nat) : Nat :=
  if r.perEndpoint then (if r.dims.isEmpty then k else k * (r.dims.foldl (fun n d => n * d.1) 1) + i) else i

/-- CMP registers that can be read while BUSY is 1 (R705). -/
def busyReadable (a : Nat) : Bool :=
  a == 0x4000 || a == 0x4008 || a == 0x400C || a == 0x4010 || (decide (0x4020 ≤ a) && decide (a < 0x4040)) ||
  (decide (0x4100 ≤ a) && decide (a < 0x4114)) || a == 0x4180 || a == 0x4184

/-! ### Reads -/

/-- The 64 bytes of a sample entry (R627). -/
def sampleBytes (e : Sample) : List Byte :=
  leBytes 16 e.hdr ++ leBytes 8 e.addr ++ leBytes 8 e.ingress ++ leBytes 8 e.egress ++
  leBytes 4 (if e.egress = 0 then 0 else min (2 ^ 32 - 1) (e.egress - e.ingress)) ++ leBytes 2 e.imprint ++ leBytes 2 e.domain ++
  leBytes 1 e.inPort ++ leBytes 1 e.dest ++ leBytes 1 e.outcome ++ leBytes 1 0 ++ leBytes 4 e.seq ++ leBytes 8 e.epoch

/-- What a 32-bit word of BAR0 shows host `k`. -/
def State.barWord (s : State) (k a : Nat) : Nat :=
  if !s.reaches k a then 0
  else if 0x2000 ≤ a && a < 0x2400 then s.msixWord k ((a - 0x2000) / 4)
  else if a == 0x3000 || a == 0x3004 then (Sparse.get? s.link.pba k).getD 0 / 2 ^ (8 * (a - 0x3000)) % 2 ^ 32
  else if 0x4000 ≤ a && a < 0x5000 && s.busy && !busyReadable a then 0
  else if (match s.metIsland a with
    | some n => s.islState n == 0
    | none => false) then 0
  else if 0x500000 ≤ a && a < 0x540000 then
    match s.met.samples[(a - 0x500000) / 64]? with
    | some e => leNat (((sampleBytes e).drop ((a - 0x500000) % 64)).take 4)
    | none => 0
  else s.readWord k a

/-- A read of `n` bits clears the RC fields that it shows (R11); TILE_PRBS_ERR also closes its interval (R216). A 32-bit read of either
half of TILE_PRBS_ERR clears the whole count and closes the interval: DESIGN CHOICE, log entry 139. -/
def State.readClears (s : State) (k a n : Nat) : State :=
  if !s.reaches k a || (0x4000 ≤ a && a < 0x5000 && s.busy && !busyReadable a) then s
  else match regAt a with
  | some (r, i, b) =>
    let i := ownInst k r i
    let seen := fun (e : FieldAt) => decide (e.lo < 8 * b + n) && decide (8 * b < e.lo + e.fld.width)
    (match s.metIsland a with
    | some n => if s.regOpen n then some s else none
    | none => some s).elim s (fun s =>
      r.fields.foldl (fun s e =>
        if !seen e then s
        else match e.fld with
        | .TILE_PRBS_ERR_COUNT => (s.prbsRead i).2
        | f => if decide (f.acc = Access.rc) && !(isSlt f && s.isl.sltCopy.isSome) then s.setReg f i (rstVal f i) else s) s)
  | none => s

/-- Whether an access of `size` bytes is a naturally aligned 32-bit or 64-bit one (R5). -/
def aligned (offset size : Nat) : Bool := (size == 4 || size == 8) && offset % size == 0

/-- Whether offset `a` lies in registers of a lost island, whose crossings are isolated (R49, R66). DEDUCED: log entry 103. -/
def State.lostAt (s : State) (a : Nat) : Bool :=
  match s.metIsland a with
  | some n => s.islState n == 5
  | none => false

/-- Host `k` reads `size` bytes at an offset of BAR0: the value, or none for an error completion (R5, R7, R49). -/
def State.barRead (s : State) (k a size : Nat) : Option Nat × State :=
  if !aligned a size || (s.reaches k a && s.lostAt a) then (none, s)
  else
    let v := s.barWord k a + (if size == 8 then 2 ^ 32 * s.barWord k (a + 4) else 0)
    let wide := match regAt a with
      | some (r, _, _) => r.wide
      | none => false
    (some v, if size == 8 then (if wide then s.readClears k a 64 else (s.readClears k a 32).readClears k (a + 4) 32) else s.readClears k a 32)

/-! ### Writes -/

/-- A CMP_CMD write of host `k` (R704, R719): the command that its opcode names; what host memory brings is a free value (DESIGN CHOICE, log entry 52). -/
def State.cmdWrite (s : State) (k token op : Nat) : State :=
  let a := s.argWords k
  let go := fun (body : List Nat → State → State) => s.command k token op a body
  match op with
  | 0x01 => go (fun _ s => s.lockAcquire k)
  | 0x02 => go (fun _ s => s.lockRelease)
  | 0x03 => go (fun _ s => s.lockBreak k)
  | 0x10 => go (fun a s => s.commitMask .command (nth a 0))
  | 0x11 => go (fun a s => s.stageDiscard a)
  | 0x12 => go (fun a s => s.draw.2.amendLoad k (Config.hostImage s.draws) a)
  | 0x13 => go (fun a s => s.draw.2.formeWrite k (Config.hostImage s.draws) a)
  | 0x14 => go (fun a s => s.formeSelect a)
  | 0x15 => s.devReset k token
  | 0x20 => go (fun a s => s.stageItem 1 0 a [])
  | 0x21 => go (fun a s => s.stageItem 2 0 a [])
  | 0x22 => go (fun a s => s.stageItem 3 0 a [])
  | 0x23 => go (fun a s => s.stageRoute a)
  | 0x24 => go (fun a s => s.stageGroup a)
  | 0x25 => go (fun a s => s.impInvalidate a)
  | 0x26 => go (fun a s => s.impRead a)
  | 0x27 => go (fun a s => s.shFill a)
  | 0x30 => go (fun a s => s.poolLease a)
  | 0x31 => go (fun a s => s.poolRelease a)
  | 0x32 => go (fun a s => s.poolQuery a)
  | 0x38 => go (fun a s => s.draw.2.keyImport k (Config.hostBlob s.draws) a)
  | 0x39 => go (fun a s => s.keyRevoke (nth a 0))
  | 0x3A => go (fun a s => s.keyQuery k (nth a 0))
  | 0x40 => go (fun a s => s.islFence (nth a 0))
  | 0x41 => go (fun a s => s.islUnfence (nth a 0))
  | 0x42 => go (fun a s => s.islReset (arg64 a 0))
  | 0x43 => go (fun a s => s.islPower a)
  | 0x48 => go (fun a s => s.linkWidth a)
  | 0x50 => go (fun a s => s.containCmd a)
  | 0x51 => go (fun a s => s.releaseCmd a)
  | 0x58 => go (fun a s => s.proofStart k a)
  | 0x59 => go (fun a s => s.proofStop (nth a 0))
  | _ => go (fun _ s => s)

/-- A write gives field `f` of instance `i` the value `w` (R9, R11), with the conditions that the field's chapter adds. -/
def State.writeField (s : State) (k : Nat) (f : Fld) (i w : Nat) : State :=
  let one := w == 1
  match f with
  | .SUP_COL_RECOV_ADDR_ADDR => if s.recovOpen then s.setReg f i (w / 16 * 16) else s
  | .SUP_COL_RECOV_LEN_LEN => if s.recovOpen then s.setReg f i w else s
  | .SUP_COL_RECOV_CTL_TARGET => if s.recovOpen && f.listed w then s.setReg f i w else s
  | .SUP_COL_RECOV_CTL_GO => if one then s.draw.2.recovGo k (Config.hostRecovery s.draws) else s
  | .SUP_ISL_STATUS_LOSS => if one && s.islState i != 5 then s.setReg f i 0 else s
  | .FLT_STATUS_SAFE_MODE => if one then s.safeClear else s
  | .FLT_FIRST_VALID => if one then s.firstClear else s
  | .FLT_CAUSE_PENDING => if one then s.pendingClear i else s
  | .FLT_CAUSE_ACK_ALL => if one then s.ackSource i else s
  | .FLT_ESC_ACK => if one then s.escAck i else s
  | .SLT_CTL_EN => s.sltEn i w
  | .SLT_STATUS_EARLY_INS => if !s.sltUp then s.sltDrop else if one then s.setReg f i 0 else s
  | .MET_RING_TAIL_TAIL => s.ringTail k w
  | .PMC_CTL_SNAP => if one then s.snap else s
  | .ARB_COMMIT_COMMIT => s.command k 0 0x10 (0x02 :: List.replicate 31 0) (fun a s => s.commitMask .arb (nth a 0))
  | .TILE_DL_CTL_REPLAY_WINDOW => if f.listed w then (s.setReg f i w).setWindow (4 * i) else s
  | f =>
    match f.acc with
    | .rw => if f.listed w then s.setReg f i w else s
    | .rws => if f.listed w then s.setReg f i w else s
    | .rw1c => if one then s.setReg f i 0 else s
    | .sh => s.stage f i w
    | _ => s

/-- Whether a write to SH fields of host `k` is dropped, and where it is counted: busy (R117, R705), else without the lock or
under SIGNED_ONLY (R82, R94). -/
def State.shRefused (s : State) (k : Nat) : Option State :=
  if s.busy || !s.mgmtUp then some s.dropBusy
  else if !s.holdsLock k || s.signedOnly then some (s.bump .CMP_STAGE_REJECT_COUNT 0)
  else none

/-- What a field holds that a partly written one keeps: an SH field's staged copy, a plain field's value, nothing of a field that
acts on ones. -/
def State.keptOf (s : State) (f : Fld) (i : Nat) : Nat :=
  match f.acc with
  | .sh => s.stagedReg f i
  | .rw => s.reg f i
  | .rws => s.reg f i
  | _ => 0

/-- Bits `[lo, lo + n)` of a register take the bits of `v`; every field that they meet is written. -/
def State.writeReg (s : State) (k : Nat) (r : RegAt) (i lo n v : Nat) : State :=
  let meets := fun (e : FieldAt) => decide (e.lo < lo + n) && decide (lo < e.lo + e.fld.width)
  let old := r.fields.foldl (fun m e => m + s.keptOf e.fld i % 2 ^ e.fld.width * 2 ^ e.lo) 0
  let new := old % 2 ^ lo + v % 2 ^ n * 2 ^ lo + old / 2 ^ (lo + n) * 2 ^ (lo + n)
  let val := fun (e : FieldAt) => new / 2 ^ e.lo % 2 ^ e.fld.width
  match r.fields.head?.map (fun (e : FieldAt) => e.fld) with
  | some Fld.CMP_CMD_OPCODE => s.cmdWrite k (bits new 31 24) (bits new 7 0)
  | some Fld.FLT_INJECT_SOURCE => s.inject k new
  | some Fld.MET_RING_CTL_START => s.ringCtl k new
  | some Fld.TILE_LANE_TEST_LPBK => s.laneTest i new
  | some Fld.PMC_CFG_EVENT => s.pmcCfg i new
  | some Fld.PMC_SAMP_CFG_N_MINUS_1 =>
    if lo = 0 then s.sampCfg new
    else r.fields.foldl (fun s e => if meets e && e.fld != .PMC_SAMP_CFG_ENABLE then s.setReg e.fld i (val e) else s) s
  | _ =>
    let plain := fun (s : State) => r.fields.foldl (fun s e =>
      if meets e && e.fld.acc ≠ .sh then s.writeField k e.fld i (val e) else s) s
    if r.fields.any (fun e => meets e && decide (e.fld.acc = .sh)) then
      match s.shRefused k with
      | some t => plain t
      | none => r.fields.foldl (fun s e => if meets e && decide (e.fld.acc = .sh) then s.stage e.fld i (val e) else s) (plain s)
    else plain s

/-- A word of host `k`'s MSI-X table is written; vectors that it unmasks are sent (R703, PRESUMED, log entry 49). -/
def State.msixWrite (s : State) (k w v : Nat) : State :=
  let v := if w % 4 == 3 then v % 2 else v % 2 ^ 32
  let rest := Sparse.erase s.link.msix (256 * k + w)
  let s := s.updLink (fun l => { l with msix := if v = (if w % 4 == 3 then 1 else 0) then rest else Sparse.set id rest (256 * k + w) v })
  if w % 4 == 3 && v == 0 && bit (s.vreg k .mep .msixCtl) 15 && !bit (s.vreg k .mep .msixCtl) 14 then s.msixFlush k else s

/-- A write of a tenant host port outside the blocks that it reaches is dropped; one to an SH field, or to ARB_COMMIT while the port is
busy, is counted as one (R94, R111, R702, R705). Before P5 nothing is counted (R144). -/
def State.tenantWrite (s : State) (k a n : Nat) : State :=
  if s.phase < 5 then s
  else match regAt a with
  | none => s
  | some (r, _, b) =>
    if r.fields.any (fun e => decide (e.lo < 8 * b + n) && decide (8 * b < e.lo + e.fld.width) && decide (e.fld.acc = .sh)) then (s.shRefused k).getD s
    else if r.fields.any (fun e => e.fld == .ARB_COMMIT_COMMIT) && (s.busy || !s.mgmtUp) then s.dropBusy
    else s

/-- Host `k` writes `n` bits at an offset of BAR0 that holds one register, or part of one. -/
def State.writeAt (s : State) (k a n v : Nat) : State :=
  if !s.reaches k a then s.tenantWrite k a n
  else if 0x2000 ≤ a && a < 0x2400 then s.msixWrite k ((a - 0x2000) / 4) v
  else match regAt a with
  | none => s
  | some (r, i, b) =>
    let i := ownInst k r i
    match s.metIsland a with
    | some m => if s.regOpen m then s.writeReg k r i (8 * b) n v else s.bump .SUP_XING_DROP_COUNT 0
    | none => s.writeReg k r i (8 * b) n v

/-- Host `k` writes `size` bytes at an offset of BAR0. A write to the CMP block is dropped and counted while BUSY is 1 or the
management core is away, but for a DEV_RESET (R117, R705, R709). -/
def State.barWrite (s : State) (k a size v : Nat) : State :=
  if !aligned a size then s
  else
    let cmd := if a == 0x4004 then some v else if a == 0x4000 && size == 8 then some (v / 2 ^ 32) else none
    let reset := match cmd with
      | some c => bits c 7 0 == 0x15
      | none => false
    if s.reaches k a && 0x4000 ≤ a && a < 0x5000 && (s.busy || !s.mgmtUp) && !reset then s.dropBusy
    else
      let wide := match regAt a with
        | some (r, _, b) => r.wide && b == 0
        | none => false
      if size == 4 then s.writeAt k a 32 v
      else if wide then s.writeAt k a 64 v
      else (s.writeAt k a 32 v).writeAt k (a + 4) 32 (v / 2 ^ 32)

/-! ### The commands -/

/-- The answer to a register read of host `k`. -/
def State.barAnswer (s : State) (k tag size : Nat) (v : Option Nat) : State :=
  match v with
  | some v => s.emit (.cpl (.host k) tag .sc (leBytes size v) false)
  | none => s.emit (.cpl (.host k) tag .ur [] false)

/-- Host `k`'s access to BAR0: an AtomicOp, and an access that is not aligned, get Unsupported Request and change nothing (R5,
R242). DESIGN CHOICE: log entry 105. DEDUCED: log entry 106. -/
def State.barAccess (s : State) (k tag a size : Nat) (kind : ReqKind) (v : Nat) : State :=
  match kind with
  | .atomic => s.barAnswer k tag size none
  | .read =>
    let x := (s.barRead k a size).1
    let s := (s.barRead k a size).2
    s.barAnswer k tag size x
  | .write => s.barWrite k a size v
  | .dmWrite =>
    if aligned a size then (s.barWrite k a size v).emit (.cpl (.host k) tag .sc [] false) else s.barAnswer k tag size none

/-- An access of host `k` to BAR0 meets the island that holds its register: it waits while that one is stopped or in reset (R41, R49,
R53). -/
def State.barMeet (s : State) (k tag a size : Nat) (kind : ReqKind) (v : Nat) : State :=
  match s.metIsland a with
  | some n =>
    if s.reaches k a && s.regWaits n && aligned a size && kind != .atomic then s.holdReg n { host := k, tag, offset := a, size, kind, value := v }
    else s.barAccess k tag a size kind v
  | none => s.barAccess k tag a size kind v

/-- Accesses that waited for island `n` are served, in order. -/
def State.serveRegs (s : State) (n : Nat) : State :=
  if s.regWaits n then s
  else
    let l := (s.isl.heldRegs.filter (fun e => e.1 == n)).map (·.2)
    let s := s.updIsl (fun i => { i with heldRegs := i.heldRegs.filter (fun e => e.1 != n) })
    l.foldl (fun s a => s.barAccess a.host a.tag a.offset a.size a.kind a.value) s

/-- BAR0_ACCESS. -/
def execBar0Access (k offset size : Nat) (write : Bool) (v : Nat) (atomic : Bool) (s : State) : Res :=
  run (fun s =>
    if s.cfgHost k && offset < 2 ^ 26 then
      s.barMeet k 0 offset size (if atomic then .atomic else if write then .write else .read) v
    else s) s

/-- REGISTER_WRITE: a write acts by the access code of each field. DESIGN CHOICE: log entry 107. -/
def execRegisterWrite (k offset size v : Nat) (s : State) : Res :=
  run (fun s => if s.cfgHost k then s.barMeet k 0 offset size .write v else s) s

/-- SH_FIELD_WRITE: a write to a register that holds SH fields. -/
def execShFieldWrite (k offset size v : Nat) (s : State) : Res :=
  run (fun s =>
    let sh := match regAt offset with
      | some (r, _, _) => hasSh r
      | none => false
    if s.cfgHost k && sh then s.barMeet k 0 offset size .write v else s) s

/-- CLEAR_ON_READ: a read shows an RC field and clears it in the same access. -/
def execClearOnRead (k offset size : Nat) (s : State) : Res :=
  run (fun s => if s.cfgHost k then s.barMeet k 0 offset size .read 0 else s) s

/-- REQUEST_ARRIVAL: a host's request in its own BAR0 is a register access; every other one is classified (R358, R359). -/
def execRequestArrival (r : Req) (s : State) : Res :=
  run (fun s =>
    let s := s.atDev r.ts
    if !s.canArrive r then s
    else
      let s := s.tally (r.inPort / 4) 0x01
      match r.src with
      | .host k =>
        (match s.bar0 k with
        | some b =>
          if !r.cxlMem && s.inBar k r.addr == some 0 then s.barMeet k r.tag (r.addr - b) r.len r.kind (leNat r.data) else s.arrive r
        | none => s.arrive r)
      | _ => s.arrive r) s

end Sys2Proof.Machine
end

