-- ==== Sys2Proof/Machine/Service.lean ====
section
/-! DEFINITION. The commands after which accesses that waited at an island's service crossing are served: it wakes, leaves reset, is
fenced, isolated or switched off (R41, R49, R53, R56, R57, R64, R67). -/

namespace Sys2Proof.Machine

/-- WAKE_COMPLETE (R53). -/
def execWakeComplete (n : Nat) (s : State) : Res := run (fun s => (s.wakeUp n).serveRegs n) s

/-- FENCE_COMPLETE (R56). -/
def execFenceComplete (n : Nat) (s : State) : Res := run (fun s => (s.fenceDone n).serveRegs n) s

/-- FENCE_FORCED (R57). -/
def execFenceForced (n : Nat) (s : State) : Res := run (fun s => (s.fenceForce n).serveRegs n) s

/-- ISLAND_RESET_RELEASE (R64, R117). -/
def execIslandResetRelease (n : Nat) (s : State) : Res := run (fun s => (s.leaveReset n).serveRegs n) s

/-- ISLAND_ISOLATED (R67, R68). -/
def execIslandIsolated (n : Nat) (s : State) : Res := run (fun s => (s.isolate n).serveRegs n) s

/-- DOMAIN_SWITCH_SLOT (R38): an island whose domain goes off takes no access any more. -/
def execDomainSwitchSlot (s : State) : Res :=
  run (fun s => ((s.isl.heldRegs.map (·.1)).eraseDups).foldl (fun s n => s.serveRegs n) s.switchNext) s

/-- KEY_REDELIVERY (R574): what waited for the entry goes on. -/
def execKeyRedelivery (n : Nat) (r : KeyRef) (s : State) : Res := run (fun s => (s.redelivered n r).deliverWaiting n) s

end Sys2Proof.Machine
end

