-- ==== Sys2Proof/Machine/Dispatch.lean ====
section
/-! DEFINITION. The one match from a command to its meaning. -/

namespace Sys2Proof.Machine

/-- The effect of a command on everything but the queue. -/
def exec (i : Instr) (s : State) : Host.Outcome State Fault Refusal :=
  match i with
  | .powerUp => Sys2Proof.Machine.execPowerUp s
  | .p0ClocksLocked => Sys2Proof.Machine.execP0ClocksLocked s
  | .firmwareVerified => Sys2Proof.Machine.execFirmwareVerified s
  | .bankVerifyDone => Sys2Proof.Machine.execBankVerifyDone s
  | .domainPowerGood d => Sys2Proof.Machine.execDomainPowerGood d s
  | .domainSwitchSlot => Sys2Proof.Machine.execDomainSwitchSlot s
  | .domainPgood d => Sys2Proof.Machine.execDomainPgood d s
  | .islandsPowered => Sys2Proof.Machine.execIslandsPowered s
  | .p4End => Sys2Proof.Machine.execP4End s
  | .phaseTimeout => Sys2Proof.Machine.execPhaseTimeout s
  | .essentialFailure code detail => Sys2Proof.Machine.execEssentialFailure code detail s
  | .nonEssentialFailure code detail => Sys2Proof.Machine.execNonEssentialFailure code detail s
  | .coldReset => Sys2Proof.Machine.execColdReset s
  | .warmReset => Sys2Proof.Machine.execWarmReset s
  | .sysResetNRise => Sys2Proof.Machine.execSysResetNRise s
  | .meteringFlushDone => Sys2Proof.Machine.execMeteringFlushDone s
  | .flushTimeout => Sys2Proof.Machine.execFlushTimeout s
  | .recoveryLoad host img => Sys2Proof.Machine.execRecoveryLoad host img s
  | .recoveryLoadDone => Sys2Proof.Machine.execRecoveryLoadDone s
  | .recoveryReboot => Sys2Proof.Machine.execRecoveryReboot s
  | .thermalSample temps hbm => Sys2Proof.Machine.execThermalSample temps hbm s
  | .thermalHoldRelease => Sys2Proof.Machine.execThermalHoldRelease s
  | .avsSample margins => Sys2Proof.Machine.execAvsSample margins s
  | .avsBusErr => Sys2Proof.Machine.execAvsBusErr s
  | .supplyExcursion domains => Sys2Proof.Machine.execSupplyExcursion domains s
  | .refclkLoss => Sys2Proof.Machine.execRefclkLoss s
  | .refclkQLoss q => Sys2Proof.Machine.execRefclkQLoss q s
  | .pwrLoss d => Sys2Proof.Machine.execPwrLoss d s
  | .clkUnlock isl => Sys2Proof.Machine.execClkUnlock isl s
  | .islandIsolated isl => Sys2Proof.Machine.execIslandIsolated isl s
  | .islandIdleStop isl => Sys2Proof.Machine.execIslandIdleStop isl s
  | .wakeRequest isl => Sys2Proof.Machine.execWakeRequest isl s
  | .wakeComplete isl => Sys2Proof.Machine.execWakeComplete isl s
  | .fenceComplete isl => Sys2Proof.Machine.execFenceComplete isl s
  | .fenceForced isl => Sys2Proof.Machine.execFenceForced isl s
  | .islandResetRelease isl => Sys2Proof.Machine.execIslandResetRelease isl s
  | .mgmtRepairRetry => Sys2Proof.Machine.execMgmtRepairRetry s
  | .mgmtRebuildDone => Sys2Proof.Machine.execMgmtRebuildDone s
  | .resyncComplete isl => Sys2Proof.Machine.execResyncComplete isl s
  | .replicaEccError quad kind idx correctable => Sys2Proof.Machine.execReplicaEccError quad kind idx correctable s
  | .replicaCompare quad differ => Sys2Proof.Machine.execReplicaCompare quad differ s
  | .arbCommit host => Sys2Proof.Machine.execArbCommit host s
  | .shFieldWrite host offset size value => Sys2Proof.Machine.execShFieldWrite host offset size value s
  | .registerWrite host offset size value => Sys2Proof.Machine.execRegisterWrite host offset size value s
  | .commitDeliveryAck isl => Sys2Proof.Machine.execCommitDeliveryAck isl s
  | .commitRegistration t => Sys2Proof.Machine.execCommitRegistration t s
  | .commitInstant => Sys2Proof.Machine.execCommitInstant s
  | .oldValueWindowClose => Sys2Proof.Machine.execOldValueWindowClose s
  | .replicaWriteDone => Sys2Proof.Machine.execReplicaWriteDone s
  | .killMarkSweepDone => Sys2Proof.Machine.execKillMarkSweepDone s
  | .commitComplete => Sys2Proof.Machine.execCommitComplete s
  | .hierarchyChange host target reg value => Sys2Proof.Machine.execHierarchyChange host target reg value s
  | .configRequest host target reg write value => Sys2Proof.Machine.execConfigRequest host target reg write value s
  | .lockAcquire host token => Sys2Proof.Machine.execLockAcquire host token s
  | .lockRelease host token => Sys2Proof.Machine.execLockRelease host token s
  | .lockBreak host token => Sys2Proof.Machine.execLockBreak host token s
  | .commit host token => Sys2Proof.Machine.execCommit host token s
  | .stageDiscard host token => Sys2Proof.Machine.execStageDiscard host token s
  | .amendLoad host token img => Sys2Proof.Machine.execAmendLoad host token img s
  | .formeWrite host token img => Sys2Proof.Machine.execFormeWrite host token img s
  | .formeSelect host token => Sys2Proof.Machine.execFormeSelect host token s
  | .devReset host token => Sys2Proof.Machine.execDevReset host token s
  | .devResetStart => Sys2Proof.Machine.execDevResetStart s
  | .impStageEntry host token => Sys2Proof.Machine.execImpStageEntry host token s
  | .impStageTarget host token => Sys2Proof.Machine.execImpStageTarget host token s
  | .impStageSource host token => Sys2Proof.Machine.execImpStageSource host token s
  | .impStageRoute host token => Sys2Proof.Machine.execImpStageRoute host token s
  | .impStageGroup host token => Sys2Proof.Machine.execImpStageGroup host token s
  | .impInvalidate host token => Sys2Proof.Machine.execImpInvalidate host token s
  | .impRead host token => Sys2Proof.Machine.execImpRead host token s
  | .shFill host token => Sys2Proof.Machine.execShFill host token s
  | .poolLease host token => Sys2Proof.Machine.execPoolLease host token s
  | .poolRelease host token => Sys2Proof.Machine.execPoolRelease host token s
  | .poolQuery host token => Sys2Proof.Machine.execPoolQuery host token s
  | .keyImport host token blob => Sys2Proof.Machine.execKeyImport host token blob s
  | .keyRevoke host token => Sys2Proof.Machine.execKeyRevoke host token s
  | .keyQuery host token => Sys2Proof.Machine.execKeyQuery host token s
  | .islFence host token => Sys2Proof.Machine.execIslFence host token s
  | .islUnfence host token => Sys2Proof.Machine.execIslUnfence host token s
  | .islReset host token => Sys2Proof.Machine.execIslReset host token s
  | .islPower host token => Sys2Proof.Machine.execIslPower host token s
  | .linkWidth host token => Sys2Proof.Machine.execLinkWidth host token s
  | .contain host token => Sys2Proof.Machine.execContain host token s
  | .containRelease host token => Sys2Proof.Machine.execContainRelease host token s
  | .proofStart host token => Sys2Proof.Machine.execProofStart host token s
  | .proofStop host token => Sys2Proof.Machine.execProofStop host token s
  | .proofEnd handle fail rows => Sys2Proof.Machine.execProofEnd handle fail rows s
  | .commandDone => Sys2Proof.Machine.execCommandDone s
  | .perstNRise k => Sys2Proof.Machine.execPerstNRise k s
  | .hostPortReset k cause => Sys2Proof.Machine.execHostPortReset k cause s
  | .functionLevelReset host vdsp fn => Sys2Proof.Machine.execFunctionLevelReset host vdsp fn s
  | .mgmtEndpointFlr k => Sys2Proof.Machine.execMgmtEndpointFlr k s
  | .busMasterEnableClear k => Sys2Proof.Machine.execBusMasterEnableClear k s
  | .busMasterEnableSet k => Sys2Proof.Machine.execBusMasterEnableSet k s
  | .dmaReadTimeout k tag => Sys2Proof.Machine.execDmaReadTimeout k tag s
  | .quarantineLateCompletion k tag last => Sys2Proof.Machine.execQuarantineLateCompletion k tag last s
  | .quarantineTimeout k tag => Sys2Proof.Machine.execQuarantineTimeout k tag s
  | .portTrained port t => Sys2Proof.Machine.execPortTrained port t s
  | .deviceEnumerated port fns => Sys2Proof.Machine.execDeviceEnumerated port fns s
  | .devicePortLinkDown port => Sys2Proof.Machine.execDevicePortLinkDown port s
  | .l1Entry port => Sys2Proof.Machine.execL1Entry port s
  | .l1Exit port => Sys2Proof.Machine.execL1Exit port s
  | .ptmRequest port => Sys2Proof.Machine.execPtmRequest port s
  | .ptmHostRequest k => Sys2Proof.Machine.execPtmHostRequest k s
  | .ideKm host key => Sys2Proof.Machine.execIdeKm host key s
  | .deviceIdeSetup port ok secret => Sys2Proof.Machine.execDeviceIdeSetup port ok secret s
  | .ideFail port => Sys2Proof.Machine.execIdeFail port s
  | .spdmRequest who req => Sys2Proof.Machine.execSpdmRequest who req s
  | .atsRequest fromDevice host port rid msg => Sys2Proof.Machine.execAtsRequest fromDevice host port rid msg s
  | .loopbackRequest port => Sys2Proof.Machine.execLoopbackRequest port s
  | .dpcTriggerStatusClear host vdsp => Sys2Proof.Machine.execDpcTriggerStatusClear host vdsp s
  | .pcieReplayTimer port => Sys2Proof.Machine.execPcieReplayTimer port s
  | .completionTimeout id => Sys2Proof.Machine.execCompletionTimeout id s
  | .completionReceived c => Sys2Proof.Machine.execCompletionReceived c s
  | .ioRequest src tag => Sys2Proof.Machine.execIoRequest src tag s
  | .bar0Access host offset size write value atomic => Sys2Proof.Machine.execBar0Access host offset size write value atomic s
  | .requestArrival r => Sys2Proof.Machine.execRequestArrival r s
  | .galleyUnblock queue => Sys2Proof.Machine.execGalleyUnblock queue s
  | .galleyReadBack queue bad => Sys2Proof.Machine.execGalleyReadBack queue bad s
  | .egressQueueArrival pkt => Sys2Proof.Machine.execEgressQueueArrival pkt s
  | .admissionRestore queue => Sys2Proof.Machine.execAdmissionRestore queue s
  | .arbiterDraw arb => Sys2Proof.Machine.execArbiterDraw arb s
  | .egressStart port => Sys2Proof.Machine.execEgressStart port s
  | .shaperRefill sh dt => Sys2Proof.Machine.execShaperRefill sh dt s
  | .gateEntryChange port => Sys2Proof.Machine.execGateEntryChange port s
  | .leadinEnd port => Sys2Proof.Machine.execLeadinEnd port s
  | .guardBandUpdate port => Sys2Proof.Machine.execGuardBandUpdate port s
  | .queueSample => Sys2Proof.Machine.execQueueSample s
  | .sealedRmwReadDone pkt ok poison => Sys2Proof.Machine.execSealedRmwReadDone pkt ok poison s
  | .poolRequest pkt ecc => Sys2Proof.Machine.execPoolRequest pkt ecc s
  | .granuleFillDone stack granule => Sys2Proof.Machine.execGranuleFillDone stack granule s
  | .poolRmwReadDone pkt ecc => Sys2Proof.Machine.execPoolRmwReadDone pkt ecc s
  | .poolReadHoldRelease pkt => Sys2Proof.Machine.execPoolReadHoldRelease pkt s
  | .scrubStep stack line row bank found => Sys2Proof.Machine.execScrubStep stack line row bank found s
  | .rowCopyDone stack row => Sys2Proof.Machine.execRowCopyDone stack row s
  | .keystoreEcc isl key correctable => Sys2Proof.Machine.execKeystoreEcc isl key correctable s
  | .keyRedelivery isl key => Sys2Proof.Machine.execKeyRedelivery isl key s
  | .holderDeadline => Sys2Proof.Machine.execHolderDeadline s
  | .keyDestruction key => Sys2Proof.Machine.execKeyDestruction key s
  | .destructionComplete => Sys2Proof.Machine.execDestructionComplete s
  | .rngHealthFail => Sys2Proof.Machine.execRngHealthFail s
  | .entropyRecovery => Sys2Proof.Machine.execEntropyRecovery s
  | .getColophon who index => Sys2Proof.Machine.execGetColophon who index s
  | .getReport who typ imprint nonce index => Sys2Proof.Machine.execGetReport who typ imprint nonce index s
  | .getCert who cert index => Sys2Proof.Machine.execGetCert who cert index s
  | .reportSigned => Sys2Proof.Machine.execReportSigned s
  | .heldResponseExpiry who => Sys2Proof.Machine.execHeldResponseExpiry who s
  | .folioReceived port rx => Sys2Proof.Machine.execFolioReceived port rx s
  | .fabricPacket port p ts => Sys2Proof.Machine.execFabricPacket port p ts s
  | .replayWindowExpiry port => Sys2Proof.Machine.execReplayWindowExpiry port s
  | .creditReturnSend port vc => Sys2Proof.Machine.execCreditReturnSend port vc s
  | .alignMarkSend port => Sys2Proof.Machine.execAlignMarkSend port s
  | .realign rx => Sys2Proof.Machine.execRealign rx s
  | .dlAlignLost port => Sys2Proof.Machine.execDlAlignLost port s
  | .dlSilent port => Sys2Proof.Machine.execDlSilent port s
  | .detectExit port signal => Sys2Proof.Machine.execDetectExit port signal s
  | .eqExit port usable found => Sys2Proof.Machine.execEqExit port usable found s
  | .alignExit port => Sys2Proof.Machine.execAlignExit port s
  | .configExit port peer => Sys2Proof.Machine.execConfigExit port peer s
  | .retrainTimer port => Sys2Proof.Machine.execRetrainTimer port s
  | .fabricLinkDown port => Sys2Proof.Machine.execFabricLinkDown port s
  | .transitRecordExpiry port id => Sys2Proof.Machine.execTransitRecordExpiry port id s
  | .widthReq port partnerTx width mask => Sys2Proof.Machine.execWidthReq port partnerTx width mask s
  | .widthReady port mask => Sys2Proof.Machine.execWidthReady port mask s
  | .widthRefuse port partnerTx reason => Sys2Proof.Machine.execWidthRefuse port partnerTx reason s
  | .switchMark port low high => Sys2Proof.Machine.execSwitchMark port low high s
  | .widthChangeTimeout port => Sys2Proof.Machine.execWidthChangeTimeout port s
  | .autoDrop port lane => Sys2Proof.Machine.execAutoDrop port lane s
  | .bucketRebind group map bucket => Sys2Proof.Machine.execBucketRebind group map bucket s
  | .laneSleepDeep lane dir => Sys2Proof.Machine.execLaneSleepDeep lane dir s
  | .laneWake lane dir => Sys2Proof.Machine.execLaneWake lane dir s
  | .adaptationStep lane eyeH eyeW ctle => Sys2Proof.Machine.execAdaptationStep lane eyeH eyeW ctle s
  | .offsetCalibration lane => Sys2Proof.Machine.execOffsetCalibration lane s
  | .tileLaneTestWrite host lane value => Sys2Proof.Machine.execTileLaneTestWrite host lane value s
  | .injGo host lane => Sys2Proof.Machine.execInjGo host lane s
  | .rateInjection lane => Sys2Proof.Machine.execRateInjection lane s
  | .chkSync r => Sys2Proof.Machine.execChkSync r s
  | .lockLoss r => Sys2Proof.Machine.execLockLoss r s
  | .tilePrbsErrRead host lane => Sys2Proof.Machine.execTilePrbsErrRead host lane s
  | .faultReport queued direct => Sys2Proof.Machine.execFaultReport queued direct s
  | .escalationExpiry e => Sys2Proof.Machine.execEscalationExpiry e s
  | .functionReleaseDone n => Sys2Proof.Machine.execFunctionReleaseDone n s
  | .fltFirstClear host => Sys2Proof.Machine.execFltFirstClear host s
  | .fltCausePendingClear host source => Sys2Proof.Machine.execFltCausePendingClear host source s
  | .ackAll host source => Sys2Proof.Machine.execAckAll host source s
  | .fltEscAck host e => Sys2Proof.Machine.execFltEscAck host e s
  | .safeModeClear host => Sys2Proof.Machine.execSafeModeClear host s
  | .fltInjectGo host value => Sys2Proof.Machine.execFltInjectGo host value s
  | .insertionRecognised k => Sys2Proof.Machine.execInsertionRecognised k s
  | .removalRecognised k => Sys2Proof.Machine.execRemovalRecognised k s
  | .slotEnAssert k => Sys2Proof.Machine.execSlotEnAssert k s
  | .slotEnDeassert k => Sys2Proof.Machine.execSlotEnDeassert k s
  | .debounceEnd k => Sys2Proof.Machine.execDebounceEnd k s
  | .slotPowerGood k => Sys2Proof.Machine.execSlotPowerGood k s
  | .gateEnhanced k => Sys2Proof.Machine.execGateEnhanced k s
  | .stoppingEnd k => Sys2Proof.Machine.execStoppingEnd k s
  | .settleEnd k => Sys2Proof.Machine.execSettleEnd k s
  | .slotSample k iCode vCode vgsHigh => Sys2Proof.Machine.execSlotSample k iCode vCode vgsHigh s
  | .fastTrip k => Sys2Proof.Machine.execFastTrip k s
  | .sltCtlWrite host k en => Sys2Proof.Machine.execSltCtlWrite host k en s
  | .slotPerstRelease k => Sys2Proof.Machine.execSlotPerstRelease k s
  | .slotLinkFail => Sys2Proof.Machine.execSlotLinkFail s
  | .slotInterfaceResync => Sys2Proof.Machine.execSlotInterfaceResync s
  | .countingRecord c => Sys2Proof.Machine.execCountingRecord c s
  | .tickBoundary => Sys2Proof.Machine.execTickBoundary s
  | .peakWindowEnd => Sys2Proof.Machine.execPeakWindowEnd s
  | .bankClose => Sys2Proof.Machine.execBankClose s
  | .batchSigned => Sys2Proof.Machine.execBatchSigned s
  | .batchWriteDone => Sys2Proof.Machine.execBatchWriteDone s
  | .metRingArm host start => Sys2Proof.Machine.execMetRingArm host start s
  | .metRingTailWrite host tail => Sys2Proof.Machine.execMetRingTailWrite host tail s
  | .pmcSnap host => Sys2Proof.Machine.execPmcSnap host s
  | .snapshotDone => Sys2Proof.Machine.execSnapshotDone s
  | .pmcCfgWrite host n value => Sys2Proof.Machine.execPmcCfgWrite host n value s
  | .pmcSampCfgWrite host value => Sys2Proof.Machine.execPmcSampCfgWrite host value s
  | .transactionSample pkt => Sys2Proof.Machine.execTransactionSample pkt s
  | .clearOnRead host offset size => Sys2Proof.Machine.execClearOnRead host offset size s
  | .vbcdRise => Sys2Proof.Machine.execVbcdRise s
  | .hbmTrained => Sys2Proof.Machine.execHbmTrained s
  | .serdesCalibrated => Sys2Proof.Machine.execSerdesCalibrated s
  | .messageReceived src msg toHost => Sys2Proof.Machine.execMessageReceived src msg toHost s
  | .flitReceived port ack nak bad => Sys2Proof.Machine.execFlitReceived port ack nak bad s
  | .slotLinkRestored => Sys2Proof.Machine.execSlotLinkRestored s
  | .laneMargining lane timing voltage => Sys2Proof.Machine.execLaneMargining lane timing voltage s

end Sys2Proof.Machine
end

