-- ==== Sys2Proof/Machine/Step.lean ====
section
/-! DEFINITION. One step: the command at the front of the queue, or one nanosecond of idle time (DESIGN CHOICE, log entry 3). -/

namespace Sys2Proof.Machine

/-- An idle tick: one nanosecond passes. -/
def State.tick (s : State) : State := { s with now := s.now + 1, out := [] }

/-- One step of the block: the command at the front of the queue takes its effect on the state with the queue's rest; on
an empty queue a nanosecond passes. DESIGN CHOICE: log entry 101. -/
def step (s : State) : Host.Outcome State Fault Refusal :=
  match s.pending with
  | [] => .next s.tick
  | c :: rest => exec c { s with pending := rest }

/-- `s` with the command that a table word spells at the front of its queue; unchanged where the word spells none. -/
def State.withFetchWord (s : State) (nbits w : Nat) : State :=
  match decodeTableWord nbits w with
  | some c => { s with pending := c :: s.pending }
  | none => s

end Sys2Proof.Machine
end

