-- ==== Sys2Proof/Safety.lean ====
section
/-! DEFINITION. What the claims speak of: the parts of the state that only few commands may change, and the canonical
form that every step keeps. -/

namespace Sys2Proof.Machine

/-- The parts of the block that only named commands may change: the queue of waiting commands, the fuses and the identity of the
part (R147, R560, R583), the flash die (R164), the bytes of the memory pool, the clock. -/
structure Frame where
  pending : List Instr
  part : Part
  flash : Flash
  mem : List Host.Cell
  now : Nat
  deriving DecidableEq, Repr

/-- The frame of a state. -/
def State.frame (s : State) : Frame := { pending := s.pending, part := s.part, flash := s.flash, mem := s.pool.mem, now := s.now }

/-- What every command keeps on the way from `s` to `t`: the queue; the clock does not go back; the anti-rollback counter never
decreases (R84, R90); a revoked signer slot stays revoked (R560) and every other fuse stays as it is (R147, R583); pool memory
stays in canonical form. -/
structure Onward (s t : State) : Prop where
  queue : t.pending = s.pending
  clock : s.now ≤ t.now
  counter : s.flash.rollback ≤ t.flash.rollback
  revoked : ∀ n, bit s.part.signerRevoked n = true → bit t.part.signerRevoked n = true
  fuses : t.part = { s.part with signerRevoked := t.part.signerRevoked }
  mem : Memory.wf s.pool.mem = true → Memory.wf t.pool.mem = true

/-- The one-way facts of a part as an invariant: the pool's bytes are in canonical form, the clock has reached `t`, the
anti-rollback counter has reached `r` (R84, R90), every signer slot of the mask `m` is revoked (R560), and the rest of the fuses
is `p`'s. -/
structure Kept (t r m : Nat) (p : Part) (s : State) : Prop where
  mem : Memory.wf s.pool.mem = true
  clock : t ≤ s.now
  counter : r ≤ s.flash.rollback
  revoked : ∀ n, bit m n = true → bit s.part.signerRevoked n = true
  fuses : s.part = { p with signerRevoked := s.part.signerRevoked }

/-- The register file is canonical: the codes of its keys strictly rise, no value is its reset value, each fits its field's
width. -/
def regsOk (l : List RegCell) : Bool :=
  Sparse.sorted RegKey.code l && l.all (fun e => decide (e.2 ≠ rstVal e.1.fld e.1.idx) && decide (e.2 < 2 ^ e.1.fld.width))

/-- Every register field of `t` outside the list `l` of fields and instances holds what it holds in `s`. -/
def KeepsRegs (s t : State) (l : List (Fld × Nat)) : Prop := ∀ (f : Fld) (i : Nat), (f, i) ∉ l → t.reg f i = s.reg f i

/-- Whether the composing port accepts command `op` of host `k` with the arguments in its words and no check of R711 or R720
refuses it. -/
def State.accepts (s : State) (k op : Nat) : Bool := s.canIssue k && s.portFree && (s.refusal k op (s.argWords k)).isNone

/-- The state in which an accepted command begins (R704, R707). -/
def State.accepted (s : State) (k token op : Nat) : State := { s with out := [] }.begin_ k token op (s.argWords k)

/-- The result code of the running command, once it is known. -/
def State.resultCode (s : State) : Option Nat :=
  match s.port.running with
  | some r => r.result.map (·.1)
  | none => none

/-- What the running command waits for. -/
def State.waitsFor (s : State) : Option Wait := s.port.running.map (·.wait)

/-- The state in which a request that has reached its ingress tile is classified (R358, R621). -/
def State.atTile (s : State) (r : Req) : State := ({ s with out := [] }.atDev r.ts).tally (r.inPort / 4) 0x01

/-- Whether changes to the imposition table pass the checks that follow their policy check (R82, R377, R780). -/
def stageable (s : State) (cs : List ImpChange) : Bool :=
  let staged := addChanges s.com.staged cs
  let v := applyImp s.com.active staged
  !s.signedOnly && decide (impCount staged ≤ 16384) && viewOk s.portView v && s.sealBarsOk v && s.sealKeysOk v

/-- Commands that may change the flash die or a fuse (R84, R88 to R93, R142, R153, R560, R765, R766): those of bring-up, recovery
and thermal trips, a commit, the end of an image's reads, forme selection, the loss of the management core, whose FORME_WRITE leaves a BAD bank
(R117), and register accesses that issue it, at once or after they
waited for their island. -/
def changesFlash : Instr → Bool
  | .bankVerifyDone | .phaseTimeout | .essentialFailure _ _ | .firmwareVerified | .domainPgood _ | .p4End | .recoveryLoadDone => true
  | .thermalSample _ _ | .commitInstant | .formeSelect _ _ | .commandDone | .completionReceived _ | .quarantineLateCompletion _ _ _ => true
  | .wakeComplete _ | .fenceComplete _ | .fenceForced _ | .islandResetRelease _ | .islandIsolated _ | .domainSwitchSlot => true
  | .shFieldWrite _ _ _ _ | .registerWrite _ _ _ _ | .bar0Access _ _ _ _ _ _ | .requestArrival _ => true
  | .pwrLoss d => domIsland d == 52
  | .clkUnlock n => n == 52
  | .supplyExcursion ds => ds.any (fun d => domIsland d == 52)
  | _ => false

/-- Commands that may change a byte of the memory pool: pool requests, and what resets the switch die (R161) or ends a bring-up
attempt. -/
def changesPool : Instr → Bool
  | .coldReset | .clkUnlock _ | .warmReset | .meteringFlushDone | .flushTimeout | .devResetStart | .recoveryReboot => true
  | .phaseTimeout | .essentialFailure _ _ | .firmwareVerified | .bankVerifyDone | .domainPgood _ | .thermalSample _ _ => true
  | .poolRequest _ _ | .poolRmwReadDone _ _ => true
  | _ => false

/-- Register fields that issuing a composing-port command may change, whichever it is: the port's own, and the management core's
island status where it wakes for the command (R52, R704, R705, R707). -/
def issueFields : List Fld :=
  [.CMP_BUSY_REJECT_COUNT, .CMP_STATUS_BUSY, .CMP_STATUS_OPCODE, .CMP_STATUS_HOST_INDEX, .CMP_RESULT_STATE, .CMP_RESULT_RESULT,
   .CMP_RESULT_OPCODE, .CMP_RESULT_TOKEN, .CMP_RET_VALUE, .SUP_ISL_STATUS_STATE, .SUP_ISL_STATUS_WAKE_PEND, .SUP_ISL_STATUS_WAKE_COUNT]

/-- The fields of the composing lock (R715 to R718). -/
def lockFields : List Fld := [.CMP_LOCK_HELD, .CMP_LOCK_HOST_INDEX, .CMP_LOCK_FUNCTION, .CMP_LOCK_BROKEN, .CMP_LOCK_SEQ]

/-- Register fields that a command may change, for the commands that this table names: staging, locking, image and key commands of
the composing port, proofs, L1, and a few events. -/
def changedFields : Instr → Option (List Fld)
  | .stageDiscard _ _ | .impStageEntry _ _ | .impStageTarget _ _ | .impStageSource _ _ | .impStageRoute _ _ => some issueFields
  | .impStageGroup _ _ | .impInvalidate _ _ | .impRead _ _ | .shFill _ _ | .poolQuery _ _ | .keyQuery _ _ => some issueFields
  | .lockAcquire _ _ | .lockRelease _ _ | .lockBreak _ _ => some (issueFields ++ lockFields)
  | .amendLoad _ _ _ | .formeWrite _ _ _ | .keyImport _ _ _ => some (issueFields ++ [.CMP_DMA_STATUS_STATE])
  | .formeSelect _ _ => some (issueFields ++ [.CMP_FORME_STATUS_PREF])
  | .devReset _ _ => some (issueFields ++ [.CMP_STATUS_RESET_PEND])
  | .proofStart _ _ => some (issueFields ++ [.CMP_PROOF_STATE, .CMP_PROOF_OUTCOME, .CMP_PROOF_TYPE, .CMP_PROOF_PROGRESS, .CMP_PROOF_HOST_INDEX,
      .MEM_SHEET_STATE, .SLT_STATUS_PERST, .TILE_LANE_STATUS_RATE, .TILE_LANE_STATUS_TX_STATE, .TILE_LANE_STATUS_RX_STATE])
  | .proofEnd _ _ _ => some [.CMP_PROOF_STATE, .CMP_PROOF_OUTCOME, .CMP_PROOF_PROGRESS, .MEM_SHEET_STATE, .MEM_STK_SPARE_USED, .MEM_STK_SPARE_LOW]
  | .l1Entry _ => some [.TILE_LANE_STATUS_TX_STATE, .TILE_LANE_STATUS_RX_STATE, .TILE_LANE_STATUS_CDR_LOCK]
  | .l1Exit _ => some [.TILE_LANE_STATUS_TX_STATE, .TILE_LANE_STATUS_RX_STATE, .TILE_LANE_STATUS_SIG_DET, .TILE_LANE_STATUS_CDR_LOCK,
      .TILE_LANE_ADAPT_CAL_COUNT]
  | .ideFail _ => some [.TILE_PORT_STATUS_IDE]
  | .keyRedelivery _ _ => some [.FLT_INJECT_DONE, .FLT_PORT_DISCARD, .IMP_Q_COUNT_MISS, .IMP_Q_COUNT_PERM, .IMP_Q_ECC_CORR, .IMP_Q_ECC_UE,
      .IMP_Q_LOG_ADDR_ADDR, .IMP_Q_LOG_INFO_DOMAIN, .IMP_Q_LOG_INFO_KIND, .IMP_Q_LOG_INFO_REQ, .IMP_Q_LOG_INFO_TILE, .IMP_Q_LOG_INFO_VALID,
      .QD_SPILL_COUNT_BLOCKED, .QD_SPILL_COUNT_SPILLED, .QD_SPILL_COUNT_XOFF, .SHP_POL_PBS_DROP_COUNT, .SUP_ISL_STATUS_WAKE_PEND,
      .SUP_XING_DROP_COUNT]
  | .avsSample _ => some [.SUP_AVS_STATUS_SETPOINT, .SUP_AVS_STATUS_CHANGES, .SUP_AVS_STATUS_AT_CEILING, .SUP_ISL_HEALTH_MARGIN]
  | .recoveryLoadDone => some [.SUP_COL_RECOV_STATUS_STATE, .SUP_COL_RECOV_STATUS_RESULT, .CMP_DMA_STATUS_STATE]
  | .islandResetRelease _ => some [.SUP_ISL_STATUS_STATE, .SUP_ISL_STATUS_CLK_LOCK, .SUP_XING_DROP_COUNT, .FLT_INJECT_DONE,
      .FLT_PORT_DISCARD, .QD_SPILL_COUNT_BLOCKED, .QD_SPILL_COUNT_SPILLED, .QD_SPILL_COUNT_XOFF]
  | _ => none

/-- Packet `i` is `k`, a pool request that stands at the cipher island of a running stack, and none of its partial lines is being
read (R530 to R533). -/
abbrev State.atStack (s : State) (i : Nat) (k : Pkt) : Prop :=
  s.pkt i = some k ∧ k.place = .cipher ∧ 128 ≤ k.dest ∧ k.dest < 132 ∧ s.running (42 + (k.dest - 128)) = true ∧
  s.running (46 + (k.dest - 128)) = true ∧ s.halted = false ∧ s.pool.rmw.any (fun e => e.1 == i) = false

/-- Pool request `k` falls under lease `l` with its key in place, waits for nothing, and its granule was never written (R530). -/
abbrev State.neverWritten (s : State) (k : Pkt) (l : Lease) : Prop :=
  s.leaseOf k.destB = some l ∧ l.gen = k.gen ∧ s.keys.dead.contains l.key = false ∧
  s.keys.redeliver.contains (46 + (k.dest - 128), l.key) = false ∧ s.keys.flips.contains (46 + (k.dest - 128), l.key) = false ∧ s.poolWaits k (k.dest - 128) (k.destB * 2 ^ 28 + k.addr) = false ∧
  s.pool.granules.contains (s.granule (k.destB * 2 ^ 28 + k.addr)) = false

end Sys2Proof.Machine
end

