-- ==== Sys2Proof/Certificates/Slice0/Obligations.lean ====
section
/-! DEFINITION. The statements for the provers, one proposition each. A title gives what a statement says; `State.frame`,
`KeepsRegs`, `State.accepts` and the rest of their vocabulary stand in Safety.lean. A clause on a command says what exec answers
under conditions on the state and the operands alone. -/

open Sys2Proof Sys2Proof.Machine

/-- For every command c and state s whose queue is c followed by rest, a step of s is exec of c on s with the queue rest. -/
def Obligations.StepRunsTheCommandInFront : Prop :=
  ∀ (c : Instr) (rest : List Instr) (s : State), s.pending = c :: rest → step s = exec c { s with pending := rest }

/-- On an empty queue a step advances the clock by one nanosecond, empties the outputs and changes nothing else: the choice of log entry 3. -/
def Obligations.IdleStepIsOneNanosecond : Prop :=
  ∀ s : State, s.pending = [] → step s = .next { s with now := s.now + 1, out := [] }

/-- The reset state has canonical pool memory, the clock at 0 or later, the counter at 0 or more, no signer slot demanded revoked, and the fuses of the reset state. -/
def Obligations.OneWayFactsHoldAtReset : Prop :=
  Kept 0 0 0 State.reset.part State.reset

/-- For every instant t, counter value r, mask m of revoked signer slots and fuses p: if in s pool memory is canonical, the clock has reached t, the anti-rollback counter r, the signers of m are revoked and the other fuses are p, then the same holds after any step, whatever command it runs. -/
def Obligations.EveryStepKeepsTheOneWayFacts : Prop :=
  ∀ (t r m : Nat) (p : Part) (s s' : State), Kept t r m p s → step s = .next s' → Kept t r m p s'

/-- Whatever command runs in whatever state, it answers a next state, leaves the queue alone, does not turn the clock back, does not lower the anti-rollback counter, keeps every revoked signer slot revoked and every other fuse as it is, and keeps pool memory canonical. -/
def Obligations.EveryCommandGoesOnward : Prop :=
  ∀ (c : Instr) (s : State), ∃ t : State, exec c s = .next t ∧ Onward s t

/-- A command outside the list changesFlash (bring-up verification and failure, P4_END, recovery, a thermal trip, the end of an image's reads, forme selection, a commit instant, a command's end, the loss of the management core, and register accesses that may issue such a command, at once or after they waited) leaves the flash die and the fuses as they are. A command outside the list changesPool (POOL_REQUEST, POOL_RMW_READ_DONE, and what resets the switch die or fails a bring-up attempt) leaves every byte of pool memory as it reads. -/
def Obligations.FlashFusesAndPoolBytesChangeByFewCommands : Prop :=
  (∀ (c : Instr) (s t : State), changesFlash c = false → exec c s = .next t → t.flash = s.flash ∧ t.part = s.part) ∧
  (∀ (c : Instr) (s t : State), changesPool c = false → exec c s = .next t → ∀ a : Nat, memGet t.pool.mem a = memGet s.pool.mem a)

/-- Staging, locking, image and key commands of the composing port, DEV_RESET, PROOF_START, PROOF_END, L1_ENTRY, L1_EXIT, IDE_FAIL, KEY_REDELIVERY, AVS_SAMPLE, RECOVERY_LOAD_DONE and ISLAND_RESET_RELEASE (where no register access waits for the island) answer a next state and leave every register field outside their row of the table changedFields as it is, in every instance. -/
def Obligations.CommandsChangeOnlyTheirRegisters : Prop :=
  ∀ (c : Instr) (l : List Fld) (s : State), changedFields c = some l →
    (∀ n, c = .islandResetRelease n → s.isl.heldRegs.any (fun e => e.1 == n) = false) → ∃ t, exec c s = .next t ∧ ∀ (f : Fld) (i : Nat), f ∉ l → t.reg f i = s.reg f i

/-- A BAR0 access of a host whose link is up that is not a naturally aligned 4-byte or 8-byte one: a read is answered with Unsupported Request, a write (which is posted and has no completion) and a read change no state but the outputs. -/
def Obligations.UnalignedRegisterAccessesChangeNothing : Prop :=
  ∀ (k off size v : Nat) (s : State), s.cfgHost k = true → off < 2 ^ 26 → ¬((size = 4 ∨ size = 8) ∧ off % size = 0) →
    exec (.bar0Access k off size false v false) s = .next { s with out := [.cpl (.host k) 0 .ur [] false] } ∧
    exec (.bar0Access k off size true v false) s = .next { s with out := [] }

/-- In P5, an aligned access of a host that is no operator to any offset of BAR0 outside 0x0000-0x0FFF and 0x2000-0x4FFF: a read answers with zero bytes and changes nothing; a write is dropped and changes nothing but the counts of dropped writes (R94, R705), and not even these where the register holds no SH field and is not ARB_COMMIT. -/
def Obligations.TenantsReachOnlyTheirBlocks : Prop :=
  ∀ (k a size v : Nat) (s : State), s.cfgHost k = true → s.phase = 5 → s.operator k = false → a < 2 ^ 26 →
    (size = 4 ∨ size = 8) → a % size = 0 → 0x1000 ≤ a → ¬(0x2000 ≤ a ∧ a < 0x5000) →
    exec (.bar0Access k a size false v false) s = .next { s with out := [.cpl (.host k) 0 .sc (List.replicate size 0) false] } ∧
    (∃ t, exec (.bar0Access k a size true v false) s = .next t ∧ exec (.registerWrite k a size v) s = .next t ∧
      KeepsRegs s t [(.CMP_STAGE_REJECT_COUNT, 0), (.CMP_BUSY_REJECT_COUNT, 0)] ∧ t.staged = s.staged ∧ t.frame = s.frame ∧ t.out = []) ∧
    ((∀ b, (b = a ∨ b = a + 4) → ∀ r i n, regAt b = some (r, i, n) → r.fields.all (fun e => decide (e.fld.acc ≠ .sh) && e.fld != .ARB_COMMIT_COMMIT) = true) →
      exec (.bar0Access k a size true v false) s = .next { s with out := [] } ∧ exec (.registerWrite k a size v) s = .next { s with out := [] })

/-- Before P5, an aligned access of a host whose link is up beyond the colophon page: a read answers with zero bytes, a write is dropped, and neither changes any state. In every phase an AtomicOp to BAR0 is answered with Unsupported Request and changes no state but the outputs. -/
def Obligations.BeforeP5OnlyTheColophonPageAnswersAndNoAtomicOpDoes : Prop :=
  (∀ (k a size v : Nat) (s : State), s.cfgHost k = true → s.phase < 5 → a < 2 ^ 26 → (size = 4 ∨ size = 8) → a % size = 0 → 0x1000 ≤ a →
    exec (.bar0Access k a size false v false) s = .next { s with out := [.cpl (.host k) 0 .sc (List.replicate size 0) false] } ∧
    exec (.bar0Access k a size true v false) s = .next { s with out := [] }) ∧
  (∀ (k a size v : Nat) (write : Bool) (s : State), s.cfgHost k = true → a < 2 ^ 26 →
    exec (.bar0Access k a size write v true) s = .next { s with out := [.cpl (.host k) 0 .ur [] false] })

/-- In P5 with CMP_STATUS.BUSY 1 and the management core not STOPPED, an aligned write to the CMP block other than one of CMP_CMD changes no register but CMP_BUSY_REJECT, which counts one up to its maximum. On a port that is not busy, with the management core in RUN, a 32-bit write of host k to word n of CMP_ARG gives that word of its own copy the value and changes no other register; a read answers with the word and changes nothing. Neither changes a staged copy, flash, a fuse, a pool byte, the queue or the clock. -/
def Obligations.ComposingPortWritesAreTakenOrDropped : Prop :=
  (∀ (k a size v : Nat) (s : State), s.cfgHost k = true → s.phase = 5 → s.busy = true → s.islState 52 ≠ 3 → (size = 4 ∨ size = 8) → a % size = 0 →
    0x4000 ≤ a → a < 0x5000 → a ≠ 0x4000 → a ≠ 0x4004 →
    ∃ t, exec (.registerWrite k a size v) s = .next t ∧
      t.reg .CMP_BUSY_REJECT_COUNT 0 = min (2 ^ Fld.CMP_BUSY_REJECT_COUNT.width - 1) (s.reg .CMP_BUSY_REJECT_COUNT 0 + 1) ∧
      KeepsRegs s t [(.CMP_BUSY_REJECT_COUNT, 0)] ∧ t.frame = s.frame ∧ t.staged = s.staged ∧ t.out = []) ∧
  (∀ (k n v : Nat) (s : State), s.cfgHost k = true → s.phase = 5 → s.busy = false → s.isl.mgmt = none → s.running 52 = true → n < 32 → v < 2 ^ 32 →
    ∃ t, exec (.registerWrite k (0x4200 + 4 * n) 4 v) s = .next t ∧ exec (.bar0Access k (0x4200 + 4 * n) 4 true v false) s = .next t ∧ t.reg .CMP_ARG_VALUE (32 * k + n) = v ∧
      KeepsRegs s t [(.CMP_ARG_VALUE, 32 * k + n)] ∧ t.frame = s.frame ∧ t.staged = s.staged) ∧
  (∀ (k n v : Nat) (s : State), s.cfgHost k = true → s.phase = 5 → s.running 52 = true → n < 32 → s.reg .CMP_ARG_VALUE (32 * k + n) < 2 ^ 32 →
    exec (.bar0Access k (0x4200 + 4 * n) 4 false v false) s = .next { s with out := [.cpl (.host k) 0 .sc (leBytes 4 (s.reg .CMP_ARG_VALUE (32 * k + n))) false] })

/-- For every field, instance and host: writing an encoding that its table does not list leaves a read-write or sticky field unchanged; for a shadowed field it leaves the staged copy unchanged and the field does not count as written. -/
def Obligations.UnlistedEncodingsLeaveAFieldUnchanged : Prop :=
  (∀ (k i v : Nat) (f : Fld) (s : State), f.listed v = false → (f.acc = .rw ∨ f.acc = .rws) → s.writeField k f i v = s) ∧
  (∀ (i v : Nat) (f : Fld) (s : State), f.listed (v % 2 ^ f.width) = false → s.stage f i v = s) ∧
  (∀ (i v : Nat) (f : Fld) (s : State), f.listed (v % 2 ^ f.width) = true → (s.stage f i v).stagedReg f i = v % 2 ^ f.width ∧
    ∀ g j, (g ≠ f ∨ j ≠ i) → (s.stage f i v).stagedReg g j = s.stagedReg g j)

/-- In P5 with the port free, for the ticket register of a quad spine arbiter slot (its two SH fields at bits 15:0 and 16): the holder of the composing lock, with SIGNED_ONLY clear, changes the two staged copies and no active register; any other host changes nothing but CMP_STAGE_REJECT, which counts one. -/
def Obligations.ShFieldWritesGoToTheStagedCopy : Prop :=
  (∀ (k n v : Nat) (s : State), s.cfgHost k = true → s.phase = 5 → s.operator k = true → s.busy = false → s.mgmtUp = true → n < 8192 → v < 2 ^ 17 →
    v % 2 ^ 16 ≠ 0 → s.holdsLock k = true → s.signedOnly = false → ∃ t, exec (.shFieldWrite k (0x20000 + 4 * n) 4 v) s = .next t ∧
      t.stagedReg .ARB_TICKET_TICKETS n = v % 2 ^ 16 ∧ t.stagedReg .ARB_TICKET_URGENT_OK n = v / 2 ^ 16 ∧
      (∀ g j, ((g ≠ Fld.ARB_TICKET_TICKETS ∧ g ≠ Fld.ARB_TICKET_URGENT_OK) ∨ j ≠ n) → t.stagedReg g j = s.stagedReg g j) ∧
      (∀ f i, t.reg f i = s.reg f i) ∧ t.frame = s.frame) ∧
  (∀ (k n v : Nat) (s : State), s.cfgHost k = true → s.phase = 5 → s.operator k = true → s.busy = false → s.mgmtUp = true → n < 8192 →
    (s.holdsLock k = false ∨ s.signedOnly = true) → ∃ t, exec (.shFieldWrite k (0x20000 + 4 * n) 4 v) s = .next t ∧ t.staged = s.staged ∧
      t.reg .CMP_STAGE_REJECT_COUNT 0 = min (2 ^ Fld.CMP_STAGE_REJECT_COUNT.width - 1) (s.reg .CMP_STAGE_REJECT_COUNT 0 + 1) ∧
      KeepsRegs s t [(.CMP_STAGE_REJECT_COUNT, 0)] ∧ t.frame = s.frame)

/-- An increment takes a counter field from its value to the next, or leaves it at its maximum, so that a read meets the value before or the value after. A 32-bit read of a register whose island runs (or that has none), other than the PRBS error register and the slot-power registers: the answer carries the word as it stood, every RC field in the word is back at its reset value, every register outside the register read stays, and flash, fuses, pool bytes and the queue stay. -/
def Obligations.ClearOnReadClearsWhatItShows : Prop :=
  (∀ (f : Fld) (i : Nat) (s : State), s.reg f i < 2 ^ f.width → ((s.bump f i).reg f i = s.reg f i ∨ (s.bump f i).reg f i = s.reg f i + 1) ∧
    (s.reg f i + 1 < 2 ^ f.width → (s.bump f i).reg f i = s.reg f i + 1) ∧ KeepsRegs s (s.bump f i) [(f, i)]) ∧
  (∀ (k a i b : Nat) (r : RegAt) (s : State), s.cfgHost k = true → s.reaches k a = true → s.busy = false → a % 4 = 0 →
    regAt a = some (r, i, b) → (∀ n, s.metIsland a = some n → s.running n = true) →
    (∀ e ∈ r.fields, e.fld ≠ .TILE_PRBS_ERR_COUNT ∧ isSlt e.fld = false) →
    ∃ t, exec (.clearOnRead k a 4) s = .next t ∧ t.out = [.cpl (.host k) 0 .sc (leBytes 4 (s.barWord k a)) false] ∧
      (∀ e ∈ r.fields, e.fld.acc = .rc → e.lo < 8 * b + 32 → 8 * b < e.lo + e.fld.width →
        t.reg e.fld (ownInst k r i) = rstVal e.fld (ownInst k r i) % 2 ^ e.fld.width) ∧
      (∀ f j, (∀ e ∈ r.fields, e.fld ≠ f) → t.reg f j = s.reg f j) ∧ t.frame = s.frame)

/-- POWER_UP raises PWROK and SYS_RESET_N, and from PWROK low starts P0 now; a thermal hold goes on; with PWROK high it has no effect. P0_CLOCKS_LOCKED in P0 with SYS_RESET_N high starts attempt 1 at P1; SYS_RESET_N_RISE leaves the hold of a warm reset at P1 and in P0 starts the wait again. Flash, fuses, pool bytes, the queue and the clock stay. -/
def Obligations.PowerUpAndReleaseStartP1 : Prop :=
  (∀ s : State, s.boot.pwrok = false → s.boot.stage = .powerLow → exec .powerUp s = .next { s with
    out := [], boot := { s.boot with pwrok := true, sysResetN := true, stage := .none, origin := s.now, attemptAt := s.now, phaseAt := s.now } }) ∧
  (∀ s : State, s.boot.pwrok = false → s.boot.stage ≠ .powerLow → exec .powerUp s = .next { s with out := [], boot := { s.boot with pwrok := true, sysResetN := true } }) ∧
  (∀ s : State, s.boot.pwrok = true → exec .powerUp s = .next { s with out := [] }) ∧
  (∀ s : State, s.booting 0 = true → s.boot.sysResetN = true → ∃ t, exec .p0ClocksLocked s = .next t ∧ t.phase = 1 ∧
    t.reg .SUP_COL_PHASE_ATTEMPT 0 = 1 ∧ t.reg .SUP_COL_PHASE_STALLED 0 = 0 ∧ t.reg .SUP_COL_PROGRESS_CODE 0 = 0x0101 ∧
    t.boot = { s.boot with attemptAt := s.now, phaseAt := s.now } ∧ t.frame = s.frame ∧
    KeepsRegs s t [(.SUP_COL_PHASE_PHASE, 0), (.SUP_COL_PHASE_ATTEMPT, 0), (.SUP_COL_PHASE_STALLED, 0), (.SUP_COL_PROGRESS_CODE, 0), (.SUP_THERM_TRIPS, 0)]) ∧
  (∀ s : State, (s.booting 0 = false ∨ s.boot.sysResetN = false) → exec .p0ClocksLocked s = .next { s with out := [] }) ∧
  (∀ s : State, s.boot.sysResetN = false → s.boot.stage = .heldWarm → ∃ t, exec .sysResetNRise s = .next t ∧ t.phase = 1 ∧
    t.reg .SUP_COL_PHASE_ATTEMPT 0 = 1 ∧ t.boot = { s.boot with sysResetN := true, stage := .none, attemptAt := s.now, phaseAt := s.now } ∧ t.frame = s.frame) ∧
  (∀ s : State, s.boot.sysResetN = false → s.boot.stage ≠ .heldWarm → s.phase = 0 →
    exec .sysResetNRise s = .next { s with out := [], boot := { s.boot with sysResetN := true, origin := s.now } }) ∧
  (∀ s : State, s.boot.sysResetN = true → exec .sysResetNRise s = .next { s with out := [] })

/-- FIRMWARE_VERIFIED in P1 runs the copy of the higher version (copy 0 on equal versions) when its images verify, else the other when that one verifies, naming the bad copy, and P2 begins. BANK_VERIFY_DONE in P2 runs the bank under test when its image passes: P3 begins, and the domains of islands that the power plan leaves off are queued to go off before those of the planned islands are queued to be switched on. A first bank that is EMPTY, BAD or fails leaves P2 with the other bank under test, and a failing one becomes BAD; when the second is EMPTY or BAD too, bring-up stalls. -/
def Obligations.FirmwareCopiesAndBanksAreChosen : Prop :=
  (∀ s : State, s.booting 1 = true → fwVersion s.flash.fw1 ≤ fwVersion s.flash.fw0 → fwGood s.flash.fw0 = true →
    ∃ t, exec .firmwareVerified s = .next t ∧ t.phase = 2 ∧ t.reg .SUP_COL_PROGRESS_CODE 0 = 0x0201 ∧
      t.boot.fwSup = s.flash.fw0.supDigest ∧ t.boot.fwBal = s.flash.fw0.balDigest ∧ t.boot.badFw = none ∧
      t.reg .CMP_ROLLBACK_COUNTER 0 = s.flash.rollback % 2 ^ 32 ∧ t.frame = s.frame) ∧
  (∀ s : State, s.booting 1 = true → fwVersion s.flash.fw0 < fwVersion s.flash.fw1 → fwGood s.flash.fw1 = true →
    ∃ t, exec .firmwareVerified s = .next t ∧ t.phase = 2 ∧ t.boot.fwSup = s.flash.fw1.supDigest ∧ t.boot.fwBal = s.flash.fw1.balDigest ∧ t.boot.badFw = none ∧ t.frame = s.frame) ∧
  (∀ s : State, s.booting 1 = true → fwVersion s.flash.fw0 < fwVersion s.flash.fw1 → fwGood s.flash.fw1 = false → fwGood s.flash.fw0 = true →
    ∃ t, exec .firmwareVerified s = .next t ∧ t.phase = 2 ∧ t.boot.fwSup = s.flash.fw0.supDigest ∧ t.boot.badFw = some 1 ∧ t.frame = s.frame) ∧
  (∀ s : State, s.booting 1 = true → fwVersion s.flash.fw1 ≤ fwVersion s.flash.fw0 → fwGood s.flash.fw0 = false → fwGood s.flash.fw1 = true →
    ∃ t, exec .firmwareVerified s = .next t ∧ t.phase = 2 ∧ t.boot.fwSup = s.flash.fw1.supDigest ∧ t.boot.badFw = some 0 ∧ t.frame = s.frame) ∧
  (∀ (s : State) (b : Bool) (im : Image), s.booting 2 = true → b = (s.boot.prefAtP2B != (s.reg .SUP_COL_PROGRESS_CODE 0 == 0x0202)) →
    ((s.bank b).state = .trial ∨ (s.bank b).state = .confirmed) → (s.bank b).image = some im →
    s.formeResult im = 1 → ∃ t, exec .bankVerifyDone s = .next t ∧ t.phase = 3 ∧ t.boot.running = some im ∧ t.boot.runB = b ∧
      t.com.hier = im.hier ∧ t.com.faults = im.flts ∧
      t.isl.switchQ = s.isl.switchQ ++ s.domsOff (switched.filter (fun n => (powerRec im.power n).state != 2)) ++
        (((switched.filter (fun n => (powerRec im.power n).state == 2)).map islDomains).flatten).map (fun d => { dom := d, on := true }) ∧ t.frame = s.frame) ∧
  (∀ s : State, s.booting 2 = true → s.reg .SUP_COL_PROGRESS_CODE 0 = 0x0201 → ((s.bank s.boot.prefAtP2B).state = .empty ∨ (s.bank s.boot.prefAtP2B).state = .bad) →
    ∃ t, exec .bankVerifyDone s = .next t ∧ t.reg .SUP_COL_PROGRESS_CODE 0 = 0x0202 ∧ t.phase = 2 ∧
      t.reg (if s.boot.prefAtP2B then .CMP_FORME_STATUS_BANK_B else .CMP_FORME_STATUS_BANK_A) 0 = (if (s.bank s.boot.prefAtP2B).state = .bad then 0 else 6) ∧ t.frame = s.frame) ∧
  (∀ (s : State) (im : Image), s.booting 2 = true → s.reg .SUP_COL_PROGRESS_CODE 0 = 0x0201 →
    ((s.bank s.boot.prefAtP2B).state = .trial ∨ (s.bank s.boot.prefAtP2B).state = .confirmed) → (s.bank s.boot.prefAtP2B).image = some im → s.formeResult im ≠ 1 →
    ∃ t, exec .bankVerifyDone s = .next t ∧ t.reg .SUP_COL_PROGRESS_CODE 0 = 0x0202 ∧ t.phase = 2 ∧
      t.reg (if s.boot.prefAtP2B then .CMP_FORME_STATUS_BANK_B else .CMP_FORME_STATUS_BANK_A) 0 = s.formeResult im ∧
      t.flash = (s.markBank s.boot.prefAtP2B .bad).flash ∧ t.part = s.part) ∧
  (∀ s : State, s.booting 2 = true → s.reg .SUP_COL_PROGRESS_CODE 0 = 0x0202 → ((s.bank (!s.boot.prefAtP2B)).state = .empty ∨ (s.bank (!s.boot.prefAtP2B)).state = .bad) →
    ∃ t, exec .bankVerifyDone s = .next t ∧ t.stalled = true ∧ t.reg .SUP_COL_LAST_ERROR_CODE 0 = 0x1201 ∧ t.part = s.part)

/-- With no register access waiting for an island, the domain in front of the sequence is switched, at the earliest 250 ns after the one before: on, SWITCHING, or off, with its island OFF and its clock unlocked; a domain that was off and ramping down no longer shows SWITCHING. A domain that was switched on and reports power good shows it; with the last domain of its island the island is in RUN with its clock locked in P3, and in RESET from P4 on. A domain whose power good returns without having been switched shows it and its island keeps its state. A domain that fails to report power good outside P3, other than that of the management core, is to go off again in its turn, after those that the order puts behind it, and the command that asked for it ends with 0x31; as it goes off its island keeps its state. -/
def Obligations.DomainsAreSwitchedAndIslandsRun : Prop :=
  (∀ (s : State) (d : Nat) (rest : List SwitchOp), s.isl.switchQ = { dom := d, on := true } :: rest → s.on .SUP_DOM_STATUS_PGOOD d = false → s.isl.heldRegs = [] →
    ∃ t, exec .domainSwitchSlot s = .next t ∧ t.reg .SUP_DOM_STATUS_ON d = 1 ∧ t.reg .SUP_DOM_STATUS_SWITCHING d = 1 ∧
      t.isl.switchQ = rest ∧ t.isl.lastSwitch = some t.now ∧ t.now = max s.now ((s.isl.lastSwitch.map (· + 250)).getD 0) ∧
      (∀ e, e < 90 → e ≠ d → s.on .SUP_DOM_STATUS_ON e = false → t.on .SUP_DOM_STATUS_SWITCHING e = false) ∧
      KeepsRegs s t ((.SUP_DOM_STATUS_ON, d) :: (List.range 90).map (fun e => (Fld.SUP_DOM_STATUS_SWITCHING, e)) ++ [(.SUP_DOM_STATUS_SWITCHING, d)]) ∧
      t.flash = s.flash ∧ t.part = s.part ∧ t.pool = s.pool) ∧
  (∀ (s : State) (d : Nat) (rest : List SwitchOp), s.isl.switchQ = { dom := d, on := false } :: rest → domIsland d ≠ 52 → s.isl.heldRegs = [] →
    ∃ t, exec .domainSwitchSlot s = .next t ∧ t.reg .SUP_DOM_STATUS_ON d = 0 ∧ t.reg .SUP_DOM_STATUS_PGOOD d = 0 ∧ t.reg .SUP_DOM_STATUS_SWITCHING d = 1 ∧
      t.islState (domIsland d) = 0 ∧ t.reg .SUP_ISL_STATUS_CLK_LOCK (domIsland d) = 0 ∧ t.isl.switchQ = rest ∧
      t.now = max s.now ((s.isl.lastSwitch.map (· + 250)).getD 0) ∧ t.flash = s.flash ∧ t.part = s.part) ∧
  (∀ s : State, s.isl.switchQ = [] → s.isl.heldRegs = [] → (∀ e, e < 90 → (s.on .SUP_DOM_STATUS_SWITCHING e && !s.on .SUP_DOM_STATUS_ON e) = false) →
    exec .domainSwitchSlot s = .next { s with out := [] }) ∧
  (∀ (s : State) (d : Nat), d < 90 → s.booting 3 = true → s.on .SUP_DOM_STATUS_ON d = true → s.on .SUP_DOM_STATUS_PGOOD d = false →
    s.on .SUP_DOM_STATUS_SWITCHING d = true → s.goesOff d = false →
    s.isl.bootFenced.contains (domIsland d) = false → (∀ e ∈ islDomains (domIsland d), e ≠ d → s.on .SUP_DOM_STATUS_PGOOD e = true) →
    ∃ t, exec (.domainPowerGood d) s = .next t ∧ t.reg .SUP_DOM_STATUS_PGOOD d = 1 ∧ t.reg .SUP_DOM_STATUS_SWITCHING d = 0 ∧
      t.islState (domIsland d) = 2 ∧ t.reg .SUP_ISL_STATUS_CLK_LOCK (domIsland d) = 1 ∧ t.frame = s.frame) ∧
  (∀ (s : State) (d : Nat), d < 90 → 4 ≤ s.phase → s.on .SUP_DOM_STATUS_ON d = true → s.on .SUP_DOM_STATUS_PGOOD d = false →
    s.on .SUP_DOM_STATUS_SWITCHING d = true → s.goesOff d = false → (∀ e ∈ islDomains (domIsland d), e ≠ d → s.on .SUP_DOM_STATUS_PGOOD e = true) →
    ∃ t, exec (.domainPowerGood d) s = .next t ∧ t.reg .SUP_DOM_STATUS_PGOOD d = 1 ∧ t.reg .SUP_DOM_STATUS_SWITCHING d = 0 ∧
      t.islState (domIsland d) = 1 ∧ t.frame = s.frame) ∧
  (∀ (s : State) (d : Nat), d < 90 → s.on .SUP_DOM_STATUS_ON d = true → s.on .SUP_DOM_STATUS_PGOOD d = false → s.on .SUP_DOM_STATUS_SWITCHING d = false →
    ∃ t, exec (.domainPowerGood d) s = .next t ∧ t.reg .SUP_DOM_STATUS_PGOOD d = 1 ∧ KeepsRegs s t [(.SUP_DOM_STATUS_PGOOD, d), (.SUP_DOM_STATUS_SWITCHING, d)] ∧
      t.isl = s.isl ∧ t.frame = s.frame) ∧
  (∀ (s : State) (d : Nat), d < 90 → s.booting 3 = false → domIsland d ≠ 52 → s.on .SUP_DOM_STATUS_ON d = true → s.on .SUP_DOM_STATUS_PGOOD d = false →
    s.on .SUP_DOM_STATUS_SWITCHING d = true →
    s.goesOff d = false → ∃ t, exec (.domainPgood d) s = .next t ∧ t.isl.switchQ = s.isl.switchQ.filter (fun o => domIsland o.dom != domIsland d) ++
        ((((islDomains (domIsland d)).dropWhile (fun x => x != d)).filter (fun x => s.on .SUP_DOM_STATUS_ON x)).reverse.map (fun x => { dom := x, on := false, failed := true })) ∧
      (s.waitsFor = some (.power d) → s.resultCode = none → t.resultCode = some 0x31) ∧ t.regs = s.regs ∧ t.frame = s.frame) ∧
  (∀ (s : State) (d : Nat) (rest : List SwitchOp), s.isl.switchQ = { dom := d, on := false, failed := true } :: rest → s.isl.heldRegs = [] →
    ∃ t, exec .domainSwitchSlot s = .next t ∧ t.reg .SUP_DOM_STATUS_ON d = 0 ∧ t.reg .SUP_DOM_STATUS_PGOOD d = 0 ∧ t.reg .SUP_DOM_STATUS_SWITCHING d = 1 ∧
      t.islState (domIsland d) = s.islState (domIsland d) ∧ t.isl.switchQ = rest ∧ t.flash = s.flash ∧ t.part = s.part) ∧
  (∀ (s : State) (d : Nat), s.on .SUP_DOM_STATUS_ON d = false → exec (.domainPowerGood d) s = .next { s with out := [] } ∧
    exec (.domainPgood d) s = .next { s with out := [] })

/-- In P3 HBM training and SerDes calibration move the progress code on to 0x0304 and 0x0305, never back. With P3 over, ISLANDS_POWERED begins P4 with progress code 0x0401, every key slot with the policy that the forme gives it and flash, fuses, pool bytes, the queue and the clock as they were. In P4, P4_END begins P5 with progress code 0x0501, at once where every port has trained or is held, else at the latest 500 ms after P4 began: the running bank is CONFIRMED and preferred, the anti-rollback counter is raised to the running forme's version if that is greater, and the signer slots that the forme revokes are revoked. -/
def Obligations.P3AndP4End : Prop :=
  (∀ s : State, s.booting 3 = true → ∃ t, exec .hbmTrained s = .next t ∧ t.boot.hbmDone = true ∧
    t.reg .SUP_COL_PROGRESS_CODE 0 = max 0x0304 (s.reg .SUP_COL_PROGRESS_CODE 0) % 2 ^ 16 ∧ KeepsRegs s t [(.SUP_COL_PROGRESS_CODE, 0)] ∧ t.frame = s.frame) ∧
  (∀ s : State, s.booting 3 = true → ∃ t, exec .serdesCalibrated s = .next t ∧ t.boot.serdesDone = true ∧
    t.reg .SUP_COL_PROGRESS_CODE 0 = max 0x0305 (s.reg .SUP_COL_PROGRESS_CODE 0) % 2 ^ 16 ∧ KeepsRegs s t [(.SUP_COL_PROGRESS_CODE, 0)] ∧ t.frame = s.frame) ∧
  (∀ (s : State) (im : Image), s.boot.running = some im → s.p3Over = true → ∃ t, exec .islandsPowered s = .next t ∧ t.phase = 4 ∧
    t.reg .SUP_COL_PROGRESS_CODE 0 = max 0x0401 (s.reg .SUP_COL_PROGRESS_CODE 0) % 2 ^ 16 ∧ t.boot.phaseAt = s.now ∧ t.boot.running = some im ∧
    (∀ i, i < 1024 → t.reg .BAL_KEY_SLOT_POLICY i = keyPolicy im.keys i % 2 ^ Fld.BAL_KEY_SLOT_POLICY.width) ∧ t.frame = s.frame) ∧
  (∀ (s : State) (im : Image), s.boot.running = some im → s.booting 4 = true → ∃ t, exec .p4End s = .next t ∧ t.phase = 5 ∧
    t.reg .SUP_COL_PROGRESS_CODE 0 = max 0x0501 (s.reg .SUP_COL_PROGRESS_CODE 0) % 2 ^ 16 ∧
    t.now = (if s.allTrained then s.now else max s.now (s.boot.phaseAt + 500000000)) ∧
    t.flash.rollback = max s.flash.rollback im.rollbackVer ∧ t.flash.prefB = s.boot.runB ∧
    ((if s.boot.runB then t.flash.bankB else t.flash.bankA).state = .confirmed) ∧
    (∀ r ∈ im.keys, r.typ = 2 → bit t.part.signerRevoked r.slot = true) ∧ t.pool.mem = s.pool.mem ∧ t.pending = s.pending) ∧
  (∀ s : State, s.booting 3 = false → exec .hbmTrained s = .next { s with out := [] } ∧ exec .serdesCalibrated s = .next { s with out := [] })

/-- An essential failure, and a phase timeout at the time limit of phases P1 to P4, record their code, detail and phase; in P3 or P4 before the third attempt the next attempt starts at P1, in P1 or P2 or at the third attempt bring-up stalls; pool memory is gone, the domains that are on are queued to be switched off, the fuses stay, and flash stays where no forme ran. A non-essential failure of an island of the plan leaves it FENCED with its clock stopped, is recorded, and bring-up goes on in P3. A code that names no essential failure in the phase changes nothing. -/
def Obligations.BringupFailuresEndTheAttempt : Prop :=
  (∀ (s : State) (code detail : Nat), s.essential code detail = true → ∃ t, exec (.essentialFailure code detail) s = .next t ∧
    t.reg .SUP_COL_LAST_ERROR_CODE 0 = code % 2 ^ 16 ∧ t.reg .SUP_COL_LAST_ERROR_DETAIL 0 = detail % 2 ^ 8 ∧ t.reg .SUP_COL_LAST_ERROR_PHASE 0 = s.phase % 8 ∧
    (3 ≤ s.phase → s.reg .SUP_COL_PHASE_ATTEMPT 0 < 3 → t.phase = 1 ∧ t.reg .SUP_COL_PHASE_ATTEMPT 0 = s.reg .SUP_COL_PHASE_ATTEMPT 0 + 1 ∧ t.stalled = false) ∧
    (s.phase ≤ 2 ∨ 3 ≤ s.reg .SUP_COL_PHASE_ATTEMPT 0 → t.stalled = true) ∧ t.isl.switchQ = s.domsOff switched ∧ t.pool.mem = [] ∧
    (s.boot.running = none → t.flash = s.flash) ∧ t.part = s.part ∧ t.now = s.now ∧ t.pending = s.pending) ∧
  (∀ (s : State) (p : Nat), 1 ≤ p → p ≤ 4 → s.booting p = true → ∃ t, exec .phaseTimeout s = .next t ∧
    t.reg .SUP_COL_LAST_ERROR_CODE 0 = 0x1F01 ∧ t.reg .SUP_COL_LAST_ERROR_DETAIL 0 = p ∧ t.reg .SUP_COL_LAST_ERROR_PHASE 0 = p ∧
    (3 ≤ p → s.reg .SUP_COL_PHASE_ATTEMPT 0 < 3 → t.phase = 1 ∧ t.reg .SUP_COL_PHASE_ATTEMPT 0 = s.reg .SUP_COL_PHASE_ATTEMPT 0 + 1 ∧ t.stalled = false) ∧
    (p ≤ 2 ∨ 3 ≤ s.reg .SUP_COL_PHASE_ATTEMPT 0 → t.stalled = true) ∧ t.isl.switchQ = s.domsOff switched ∧ t.pool.mem = [] ∧
    (s.boot.running = none → t.flash = s.flash) ∧
    t.now = max s.now (s.boot.attemptAt + nth [0, 100000000, 400000000, 1300000000, 1800000000] p) ∧ t.part = s.part ∧ t.pending = s.pending) ∧
  (∀ (s : State) (code detail n : Nat), n < 56 → s.nonEssentialIsl code detail = some n → s.booting 3 = true → (powerRec s.com.power n).state = 2 →
    s.isl.bootFenced.contains n = false → ∃ t, exec (.nonEssentialFailure code detail) s = .next t ∧ t.islState n = 4 ∧ t.phase = 3 ∧ t.stalled = false ∧
      t.reg .SUP_ISL_STATUS_CLK_LOCK n = 0 ∧ t.isl.bootFenced.contains n = true ∧ t.boot.degraded = s.boot.degraded ++ [(code, detail)] ∧
      t.reg .SUP_COL_LAST_ERROR_CODE 0 = code % 2 ^ 16 ∧ t.reg .SUP_COL_LAST_ERROR_DETAIL 0 = detail % 2 ^ 8 ∧ t.reg .SUP_COL_LAST_ERROR_PHASE 0 = 3 ∧ t.frame = s.frame) ∧
  (∀ (s : State) (code detail : Nat), s.essential code detail = false → exec (.essentialFailure code detail) s = .next { s with out := [] })

/-- A cold reset puts every register but the slot-power die's own at its reset value. A warm reset holds every SLOT_PERST_N low and records its cause; from P5 with the metering island running it begins with a flush, from P1 to P4 bring-up is held at P1 until SYS_RESET_N rises. When the flush ends, by time or with no batch left, bring-up begins at P1 or is held there by SYS_RESET_N; an accepted DEV_RESET whose command has ended begins a warm reset of cause 2. None of them changes flash or fuses, and all that reset the die empty pool memory. -/
def Obligations.ResetsOfTheWholeSwitch : Prop :=
  (∀ s : State, ∃ t, exec .coldReset s = .next t ∧ (∀ f i, inSlotDie f = false → t.reg f i = rstVal f i) ∧ (∀ f i, inSlotDie f = true → t.reg f i = s.reg f i) ∧
    t.pool.mem = [] ∧ t.chan = s.chan ∧ t.boot.pwrok = false ∧ t.flash = s.flash ∧ t.part = s.part ∧ t.pending = s.pending) ∧
  (∀ s : State, s.boot.pwrok = true → s.boot.sysResetN = true → s.boot.stage = .none → s.phase = 5 → s.metRuns = true →
    ∃ t, exec .warmReset s = .next t ∧ t.boot.stage = .flush s.now ∧ t.boot.origin = s.now ∧ t.boot.sysResetN = false ∧
      t.reg .SUP_COL_RESET_CAUSE_CAUSE 0 = 1 ∧ (∀ k, k < 32 → t.reg .SLT_STATUS_PERST k = 1) ∧ t.frame = s.frame) ∧
  (∀ s : State, s.boot.pwrok = true → s.boot.sysResetN = true → s.boot.stage = .none → 1 ≤ s.phase → s.phase < 5 →
    ∃ t, exec .warmReset s = .next t ∧ t.boot.stage = .heldWarm ∧ t.phase = 1 ∧ t.reg .SUP_COL_RESET_CAUSE_CAUSE 0 = 1 ∧ (∀ k, k < 32 → t.reg .SLT_STATUS_PERST k = 1) ∧
      t.pool.mem = [] ∧ t.flash = s.flash ∧ t.part = s.part) ∧
  (∀ (s : State) (t0 : Nat), s.boot.stage = .flush t0 → ∃ t, exec .flushTimeout s = .next t ∧
    t.boot.stage = (if s.boot.sysResetN then .none else .heldWarm) ∧ t.phase = 1 ∧
    t.pool.mem = [] ∧ t.now = max s.now (t0 + 2000000) ∧ t.flash = s.flash ∧ t.part = s.part) ∧
  (∀ (s : State) (t0 : Nat), s.boot.stage = .flush t0 → s.met.batches = [] → ∃ t, exec .meteringFlushDone s = .next t ∧
    t.boot.stage = (if s.boot.sysResetN then .none else .heldWarm) ∧ t.phase = 1 ∧ t.pool.mem = [] ∧
    t.now = s.now ∧ t.flash = s.flash ∧ t.part = s.part) ∧
  (∀ (s : State) (t0 : Nat), s.port.resetAt = some t0 → s.port.running = none → s.boot.stage = .none → s.phase = 5 → s.metRuns = true →
    ∃ t, exec .devResetStart s = .next t ∧ (∃ i, t.boot.stage = .flush i) ∧ t.reg .SUP_COL_RESET_CAUSE_CAUSE 0 = 2 ∧ t.reg .CMP_STATUS_RESET_PEND 0 = 0 ∧
      (∀ k, k < 32 → t.reg .SLT_STATUS_PERST k = 1) ∧ t.now = max s.now t0 ∧ t.flash = s.flash ∧ t.part = s.part)

/-- With bring-up stalled and no load running, a write of GO over the recovery link starts a load: BUSY, with the engine of host 0 reading when it may master and LEN is not 0 and within the limit. A forme image that passes is written to the target bank, TRIAL, and a firmware bundle that passes over the copy that R154 names, with DONE and OK and a new bring-up due 10 ms later; one that fails changes no flash and shows FAILED with its result. The reboot leaves STALLED and starts P1 with cause RECOVERY. -/
def Obligations.RecoveryLoadsAnImage : Prop :=
  (∀ (s : State) (img : RecoveryImage), s.on .TILE_PORT_STATUS_LINK_UP s.recovPort = true → s.stalled = true → s.reg .SUP_COL_RECOV_STATUS_STATE 0 ≠ 1 →
    ∃ t, exec (.recoveryLoad 0 img) s = .next t ∧ t.reg .SUP_COL_RECOV_STATUS_STATE 0 = 1 ∧ t.reg .SUP_COL_RECOV_STATUS_RESULT 0 = 0 ∧
      t.boot.recov = some img ∧ t.boot.recovHost = 0 ∧ t.boot.rebootAt = none ∧
      (s.mayMaster 0 = true → 0 < s.reg .SUP_COL_RECOV_LEN_LEN 0 → s.reg .SUP_COL_RECOV_LEN_LEN 0 ≤ s.recovLimit → t.reg .CMP_DMA_STATUS_STATE 0 = 1) ∧
      KeepsRegs s t [(.SUP_COL_RECOV_STATUS_STATE, 0), (.SUP_COL_RECOV_STATUS_RESULT, 0), (.CMP_DMA_STATUS_STATE, 0)] ∧ t.frame = s.frame) ∧
  (∀ (s : State) (img : RecoveryImage) (k : Nat), k ≠ 0 → exec (.recoveryLoad k img) s = .next { s with out := [] }) ∧
  (∀ (s : State) (im : Image), s.boot.recov = some (.forme im) → s.recovResult (.forme im) = 0 → ∃ t, exec .recoveryLoadDone s = .next t ∧
    (if s.reg .SUP_COL_RECOV_CTL_TARGET 0 = 1 then t.flash = { s.flash with bankB := { state := .trial, image := some im } }
     else t.flash = { s.flash with bankA := { state := .trial, image := some im } }) ∧
    t.reg .SUP_COL_RECOV_STATUS_STATE 0 = 2 ∧ t.reg .SUP_COL_RECOV_STATUS_RESULT 0 = 0 ∧ t.boot.rebootAt = some (s.now + 10000000) ∧ t.part = s.part) ∧
  (∀ (s : State) (f : FwBundle), s.boot.recov = some (.firmware f) → s.recovResult (.firmware f) = 0 → ∃ t, exec .recoveryLoadDone s = .next t ∧
    t.flash = (if s.recovCopy then { s.flash with fw1 := f } else { s.flash with fw0 := f }) ∧ t.reg .SUP_COL_RECOV_STATUS_STATE 0 = 2 ∧
    t.reg .SUP_COL_RECOV_STATUS_RESULT 0 = 0 ∧ t.boot.rebootAt = some (s.now + 10000000) ∧ t.part = s.part) ∧
  (∀ (s : State) (img : RecoveryImage), s.boot.recov = some img → s.recovResult img ≠ 0 → ∃ t, exec .recoveryLoadDone s = .next t ∧
    t.reg .SUP_COL_RECOV_STATUS_STATE 0 = 3 ∧ t.reg .SUP_COL_RECOV_STATUS_RESULT 0 = s.recovResult img ∧ t.boot.recov = none ∧ t.frame = s.frame) ∧
  (∀ s : State, s.stalled = true → s.boot.rebootAt ≠ none → ∃ t, exec .recoveryReboot s = .next t ∧ t.phase = 1 ∧ t.stalled = false ∧
    t.reg .SUP_COL_RESET_CAUSE_CAUSE 0 = 3 ∧ t.flash = s.flash ∧ t.part = s.part)

/-- A thermal sample whose readings lie below 110 degrees shows every running island's reading and leaves HOT; a reading of a running island or of a stack of 120 degrees or more counts a trip in flash and holds the die. The hold ends when every reading is below 100 degrees. An AVS sample with a low margin below the ceiling raises the setpoint by one step, one with every margin high lowers it; AVS_BUS_ERR sets its flag and stops further changes: a sample after it leaves the setpoint. -/
def Obligations.ThermalAndSupplySampling : Prop :=
  (∀ (s : State) (temps hbm : List Nat) (n : Nat), s.boot.pwrok = true → (∀ v ∈ temps, v < 174) → (∀ v ∈ hbm, v < 174) → n < 56 → s.islState n = 2 →
    (∀ i, i < 56 → s.reg .SUP_ISL_HEALTH_TEMP i < 174) →
    ∃ t, exec (.thermalSample temps hbm) s = .next t ∧ t.reg .SUP_ISL_HEALTH_TEMP n = nth temps n ∧ t.reg .SUP_THERM_HOT 0 = s.reg .SUP_THERM_HOT 0 ∧ t.frame = s.frame) ∧
  (∀ (s : State) (hbm : List Nat) (v : Nat), s.boot.pwrok = true → s.boot.stage ≠ .thermalHold → 184 ≤ v → ∃ t,
    exec (.thermalSample [] (v :: hbm)) s = .next t ∧ t.boot.stage = .thermalHold ∧ t.flash.trips = s.flash.trips + 1 ∧ t.part = s.part) ∧
  (∀ (s : State) (temps hbm : List Nat) (n : Nat), s.boot.pwrok = true → s.boot.stage ≠ .thermalHold → n < 56 → s.islState n = 2 → 184 ≤ nth temps n → ∃ t,
    exec (.thermalSample temps hbm) s = .next t ∧ t.boot.stage = .thermalHold ∧ t.flash.trips = s.flash.trips + 1 ∧ t.part = s.part) ∧
  (∀ s : State, s.boot.stage = .thermalHold → s.boot.pwrok = true → (∀ n, n < 56 → s.reg .SUP_ISL_HEALTH_TEMP n < 164) →
    exec .thermalHoldRelease s = .next { s with out := [], boot := { s.boot with stage := .none, origin := s.now, attemptAt := s.now, phaseAt := s.now } }) ∧
  (∀ (s : State) (n : Nat) (margins : List Int), 4 ≤ s.phase → s.isl.avsStopped = false → n < 56 → s.islState n ≠ 0 → (margins[n]?).getD 30 < 20 →
    s.reg .SUP_AVS_STATUS_SETPOINT 0 < 40 → ∃ t, exec (.avsSample margins) s = .next t ∧
      t.reg .SUP_AVS_STATUS_SETPOINT 0 = s.reg .SUP_AVS_STATUS_SETPOINT 0 + 1 ∧ t.reg .SUP_AVS_STATUS_AT_CEILING 0 = 0 ∧ t.frame = s.frame) ∧
  (∀ (s : State) (margins : List Int), 4 ≤ s.phase → s.isl.avsStopped = false → (∀ n, n < 56 → 40 < (margins[n]?).getD 30) → 0 < s.reg .SUP_AVS_STATUS_SETPOINT 0 →
    s.reg .SUP_AVS_STATUS_SETPOINT 0 ≤ 40 → ∃ t, exec (.avsSample margins) s = .next t ∧ t.reg .SUP_AVS_STATUS_SETPOINT 0 = s.reg .SUP_AVS_STATUS_SETPOINT 0 - 1 ∧ t.frame = s.frame) ∧
  (∀ s : State, ∃ t, exec .avsBusErr s = .next t ∧ t.reg .SUP_AVS_STATUS_BUS_ERR 0 = 1 ∧ t.isl.avsStopped = true ∧
    KeepsRegs s t [(.SUP_AVS_STATUS_BUS_ERR, 0)] ∧ t.frame = s.frame) ∧
  (∀ (s : State) (margins : List Int), s.isl.avsStopped = true → ∃ t, exec (.avsSample margins) s = .next t ∧
    t.reg .SUP_AVS_STATUS_SETPOINT 0 = s.reg .SUP_AVS_STATUS_SETPOINT 0 ∧ t.frame = s.frame)

/-- A domain that loses power good shows it, and its island, unless it is LOST already, enters LOST with LOSS set, its clock unlocked, its isolation begun and the cause PWR_LOSS present for it; so does every island of a supply's domains, and, with the cause CLK_UNLOCK, an island whose clock unlocks, alone, with its quad's reference clock, or with REFCLK[0], whose loss after P0 is also reported with source 0x01. Loss of the clock of island 50 or 51 is a cold reset. Otherwise flash, fuses, pool bytes, the queue and the clock stay, but that the bank which a FORME_WRITE was writing is BAD when the management core is lost; a domain without power good and an unlocked clock have nothing to lose. -/
def Obligations.IslandsLosePowerOrClock : Prop :=
  (∀ (s : State) (d : Nat), d < 90 → s.on .SUP_DOM_STATUS_PGOOD d = true → s.islState (domIsland d) ≠ 5 →
    ∃ t, exec (.pwrLoss d) s = .next t ∧ t.reg .SUP_DOM_STATUS_PGOOD d = 0 ∧ t.islState (domIsland d) = 5 ∧
      t.reg .SUP_ISL_STATUS_LOSS (domIsland d) = 1 ∧ t.reg .SUP_ISL_STATUS_CLK_LOCK (domIsland d) = 0 ∧
      t.isl.isolating.any (fun e => e.1 == domIsland d) = true ∧ t.flt.causes.contains { source := 8, kind := 0, scope := domIsland d } = true ∧
      (domIsland d ≠ 52 → t.flash = s.flash) ∧ t.part = s.part ∧ t.pool.mem = s.pool.mem ∧ t.now = s.now ∧ t.pending = s.pending) ∧
  (∀ (s : State) (ds : List Nat), ∃ t, exec (.supplyExcursion ds) s = .next t ∧ (∀ d ∈ ds, d < 90 → t.on .SUP_DOM_STATUS_PGOOD d = false) ∧
    (∀ d ∈ ds, d < 90 → s.on .SUP_DOM_STATUS_PGOOD d = true → t.islState (domIsland d) = 5) ∧
    ((∀ d ∈ ds, domIsland d ≠ 52) → t.flash = s.flash) ∧ t.part = s.part ∧ t.pool.mem = s.pool.mem ∧ t.now = s.now ∧ t.pending = s.pending) ∧
  (∀ (s : State) (n : Nat), n < 56 → n ≠ 50 → n ≠ 51 → s.on .SUP_ISL_STATUS_CLK_LOCK n = true → s.islState n ≠ 5 →
    ∃ t, exec (.clkUnlock n) s = .next t ∧ t.islState n = 5 ∧ t.reg .SUP_ISL_STATUS_LOSS n = 1 ∧ t.reg .SUP_ISL_STATUS_CLK_LOCK n = 0 ∧
      t.isl.isolating.any (fun e => e.1 == n) = true ∧ t.flt.causes.contains { source := 9, kind := 0, scope := n } = true ∧
      (n ≠ 52 → t.flash = s.flash) ∧ t.part = s.part ∧ t.pool.mem = s.pool.mem ∧ t.now = s.now ∧ t.pending = s.pending) ∧
  (∀ (s : State) (r : Running) (b : Bool), s.on .SUP_ISL_STATUS_CLK_LOCK 52 = true → s.islState 52 ≠ 5 → s.isl.mgmt = none → s.port.running = some r → r.opcode = 0x13 → r.result = none → b = (nth r.args 3 == 1) →
    ∃ t, exec (.clkUnlock 52) s = .next t ∧ t.islState 52 = 5 ∧ (t.bank b).state = .bad ∧ t.bank (!b) = s.bank (!b) ∧ t.port.running = none ∧ t.busy = true ∧ t.part = s.part ∧ t.pool.mem = s.pool.mem) ∧
  (∀ (s : State) (q n : Nat), 1 ≤ q → q ≤ 7 → (n = 32 + q ∨ (4 * q ≤ n ∧ n ≤ 4 * q + 3)) → s.on .SUP_ISL_STATUS_CLK_LOCK n = true → s.islState n ≠ 5 →
    ∃ t, exec (.refclkQLoss q) s = .next t ∧ t.islState n = 5 ∧ t.reg .SUP_ISL_STATUS_LOSS n = 1 ∧ t.reg .SUP_ISL_STATUS_CLK_LOCK n = 0 ∧ t.frame = s.frame) ∧
  (∀ (s : State) (n : Nat), 1 ≤ s.phase → (n = 32 ∨ n ≤ 3 ∨ (40 ≤ n ∧ n ≤ 49) ∨ (53 ≤ n ∧ n ≤ 55)) → s.on .SUP_ISL_STATUS_CLK_LOCK n = true → s.islState n ≠ 5 →
    ∃ t, exec .refclkLoss s = .next t ∧ t.islState n = 5 ∧ t.reg .SUP_ISL_STATUS_LOSS n = 1 ∧ t.reg .SUP_ISL_STATUS_CLK_LOCK n = 0 ∧
      t.flt.reportQ.any (fun r => r.source == 1) = true ∧ t.islState 52 = s.islState 52 ∧ t.frame = s.frame) ∧
  (∀ (s : State) (n : Nat), (n = 50 ∨ n = 51) → s.on .SUP_ISL_STATUS_CLK_LOCK n = true → exec (.clkUnlock n) s = exec .coldReset s ∧
    ∃ t, exec (.clkUnlock n) s = .next t ∧ t.boot.pwrok = false ∧ t.pool.mem = [] ∧ t.flash = s.flash ∧ t.part = s.part) ∧
  (∀ s : State, s.phase = 0 → exec .refclkLoss s = .next { s with out := [] }) ∧
  (∀ (s : State) (n : Nat), s.on .SUP_ISL_STATUS_CLK_LOCK n = false → exec (.clkUnlock n) s = .next { s with out := [] }) ∧
  (∀ (s : State) (d : Nat), s.on .SUP_DOM_STATUS_PGOOD d = false → exec (.pwrLoss d) s = .next { s with out := [] })

/-- When the isolation of a LOST island takes effect with nothing waiting for the island and a commit in progress, the island is isolated: no packet stands in it or in its crossings, no request that was delivered into it stays outstanding, and flash, fuses, pool bytes, the queue and the clock stay. With no isolation in progress and no register access waiting it changes nothing. -/
def Obligations.LostIslandsAreIsolated : Prop :=
  (∀ (s : State) (n : Nat), s.isl.isolating.any (fun e => e.1 == n) = true → s.islState n = 5 → s.isl.waking.any (fun e => e.1 == n) = false →
    s.isl.heldRegs.any (fun e => e.1 == n) = false → s.com.cur ≠ none →
    ∃ t, exec (.islandIsolated n) s = .next t ∧ t.isolated n = true ∧ (∀ o ∈ t.tr.outs, outInto n o = false) ∧
      (∀ k ∈ t.tr.pkts, inIsland n k = false ∧ inCross n k = false) ∧ t.frame = s.frame) ∧
  (∀ (s : State) (n : Nat), (s.isl.isolating.any (fun e => e.1 == n) = false ∨ s.islState n ≠ 5) → s.isl.heldRegs.any (fun e => e.1 == n) = false →
    ∃ t, exec (.islandIsolated n) s = .next t ∧ t.regs = s.regs ∧ t.tr = s.tr ∧ t.flt = s.flt ∧ t.frame = s.frame)

/-- An idle running island with stop permission stops, not before the idle time of its plan has passed since its latest work, and nothing else changes but that the stop of the last good quad's replica may be reported; one without permission, or with work, does not. A request to a STOPPED island sets WAKE_PEND; when it has woken it is in RUN, WAKE_PEND is clear and WAKE_COUNT counts one up to its maximum. A fence that has drained, and one that 10 microseconds have passed over without draining, ends: the island reads FENCED, no fence or wake of it is in progress, an ISL_FENCE that waited has its result; a forced one also shows FENCE_FORCED, is reported with source 0x0B, leaves no packet in the crossings and no request outstanding in the island. Flash, fuses, pool bytes and the queue stay. -/
def Obligations.IslandsStopWakeAndFence : Prop :=
  (∀ (s : State) (n : Nat), mayStop n = true → (powerRec s.com.power n).stopOk = true → s.running n = true → s.fencing n = false → s.idle n = true →
    s.isl.waking.any (fun e => e.1 == n) = false → ∃ t, exec (.islandIdleStop n) s = .next t ∧ t.islState n = 3 ∧
    KeepsRegs s t [(.SUP_ISL_STATUS_STATE, n)] ∧ t.now = max s.now ((Sparse.get? s.isl.workAt n).getD 0 + 1000 * (powerRec s.com.power n).idleUs) ∧ t.isl = s.isl ∧ t.tr = s.tr ∧
    ((n < 32 ∨ 40 ≤ n) → t.flt = s.flt) ∧ t.flash = s.flash ∧ t.part = s.part ∧ t.pool = s.pool ∧ t.pending = s.pending) ∧
  (∀ (s : State) (n : Nat), (mayStop n = false ∨ (powerRec s.com.power n).stopOk = false ∨ s.running n = false ∨ s.fencing n = true ∨ s.idle n = false) →
    exec (.islandIdleStop n) s = .next { s with out := [] }) ∧
  (∀ (s : State) (n : Nat), s.islState n = 3 → s.fencing n = false →
    exec (.wakeRequest n) s = .next ({ s with out := [] }.setReg .SUP_ISL_STATUS_WAKE_PEND n 1)) ∧
  (∀ (s : State) (n : Nat), s.islState n = 3 → s.on .SUP_ISL_STATUS_WAKE_PEND n = true → s.isl.waking.any (fun e => e.1 == n) = false →
    s.isl.heldRegs.any (fun e => e.1 == n) = false →
    ∃ t, exec (.wakeComplete n) s = .next t ∧ t.islState n = 2 ∧ t.reg .SUP_ISL_STATUS_WAKE_PEND n = 0 ∧
      t.reg .SUP_ISL_STATUS_WAKE_COUNT n = min (2 ^ Fld.SUP_ISL_STATUS_WAKE_COUNT.width - 1) (s.reg .SUP_ISL_STATUS_WAKE_COUNT n + 1) ∧
      KeepsRegs s t [(.SUP_ISL_STATUS_STATE, n), (.SUP_ISL_STATUS_WAKE_PEND, n), (.SUP_ISL_STATUS_WAKE_COUNT, n)] ∧ t.tr = s.tr ∧ t.frame = s.frame) ∧
  (∀ (s : State) (n : Nat), s.fencing n = true → s.drained n = true → s.isl.waking.any (fun e => e.1 == n) = false →
    s.isl.heldRegs.any (fun e => e.1 == n) = false →
    ∃ t, exec (.fenceComplete n) s = .next t ∧ t.islState n = 4 ∧ t.fencing n = false ∧ t.reg .SUP_ISL_STATUS_WAKE_PEND n = 0 ∧
      (s.waitsFor = some (.fence n) → s.resultCode = none → t.resultCode = some 0) ∧
      ((n = 40 ∨ n = 41) → t.flt.causes.any (fun c => c.source == 0x0A && c.scope == n) = true) ∧
      KeepsRegs s t [(.SUP_ISL_STATUS_STATE, n), (.SUP_ISL_STATUS_WAKE_PEND, n)] ∧ t.tr.pkts = s.tr.pkts ∧ t.frame = s.frame) ∧
  (∀ (s : State) (n : Nat), (s.fencing n = false ∨ s.drained n = false) → s.isl.heldRegs.any (fun e => e.1 == n) = false →
    ∃ t, exec (.fenceComplete n) s = .next t ∧ t.regs = s.regs ∧ t.tr = s.tr ∧ t.flt = s.flt ∧ t.isl.fences = s.isl.fences ∧ t.frame = s.frame) ∧
  (∀ (s : State) (n since : Nat), s.isl.fences.find? (fun f => f.island == n) = some { island := n, since } → s.drained n = false →
    s.isl.waking.any (fun e => e.1 == n) = false → s.isl.heldRegs.any (fun e => e.1 == n) = false →
    ∃ t, exec (.fenceForced n) s = .next t ∧ t.islState n = 4 ∧ t.fencing n = false ∧ t.reg .SUP_ISL_STATUS_FENCE_FORCED n = 1 ∧
      t.reg .SUP_ISL_STATUS_WAKE_PEND n = 0 ∧ (s.waitsFor = some (.fence n) → s.resultCode = none → t.resultCode = some 0) ∧
      t.flt.reportQ.any (fun r => r.source == 0x0B && r.scope == n) = true ∧ (∀ o ∈ t.tr.outs, outInto n o = false) ∧ (∀ k ∈ t.tr.pkts, inCross n k = false) ∧
      t.now = max s.now (since + 10000) ∧ t.flash = s.flash ∧ t.part = s.part ∧ t.pool.mem = s.pool.mem) ∧
  (∀ (s : State) (n : Nat), s.fencing n = false → s.isl.heldRegs.any (fun e => e.1 == n) = false →
    ∃ t, exec (.fenceForced n) s = .next t ∧ t.regs = s.regs ∧ t.tr = s.tr ∧ t.flt = s.flt ∧ t.isl.fences = s.isl.fences ∧ t.frame = s.frame)

/-- An island leaves its reset FENCED and stale with its clock locked, the management core in RUN and rebuilding, not before its reset time. A resynchronised island is in RUN, no longer stale, and ISL_UNFENCE has its result. An attempt to repair the management core that fails leaves island 52 LOST; the first two begin the next attempt, with domain 86 to be switched off and on, the third leaves domain 86 to be switched off, answers every waiting configuration write with Completer Abort and reports source 0x05. With its rebuild done the core is up again, its copies no longer stale, the lock released and marked BROKEN, configuration writes that waited answered, and the port free where no command runs and no commit waits. -/
def Obligations.ResetAndResynchronisationOfIslands : Prop :=
  (∀ (s : State) (n t0 : Nat), n ≠ 52 → s.isl.resets.find? (fun e => e.1 == n) = some (n, t0) → s.isl.heldRegs.any (fun e => e.1 == n) = false →
    ∃ t, exec (.islandResetRelease n) s = .next t ∧ t.islState n = 4 ∧ t.isl.stale.contains n = true ∧ t.reg .SUP_ISL_STATUS_CLK_LOCK n = 1 ∧
      t.isl.resets.any (fun e => e.1 == n) = false ∧ t.now = max s.now (t0 + resetTime n) ∧ t.flash = s.flash ∧ t.part = s.part ∧ t.pool.mem = s.pool.mem) ∧
  (∀ (s : State) (t0 : Nat), s.isl.resets.find? (fun e => e.1 == 52) = some (52, t0) → s.isl.heldRegs.any (fun e => e.1 == 52) = false →
    ∃ t, exec (.islandResetRelease 52) s = .next t ∧ t.islState 52 = 2 ∧ t.isl.mgmt = s.isl.mgmt.map (fun m => { m with rebuilding := true }) ∧
      t.reg .SUP_ISL_STATUS_CLK_LOCK 52 = 1 ∧ t.now = max s.now (t0 + resetTime 52) ∧ t.flash = s.flash ∧ t.part = s.part ∧ t.pool.mem = s.pool.mem) ∧
  (∀ (s : State) (n : Nat), s.isl.resync.contains n = true → s.islState n = 4 → s.mgmtUp = true →
    (n < 32 ∨ 40 ≤ n ∨ s.isl.stale.contains n = false ∨ s.sourceQuad.isSome = true) →
    ∃ t, exec (.resyncComplete n) s = .next t ∧ t.islState n = 2 ∧ t.isl.resync.contains n = false ∧ t.isl.stale.contains n = false ∧
      (s.waitsFor = some (.unfence n) → s.resultCode = none → t.resultCode = some 0) ∧
    (n ≠ 53 → t.frame = s.frame) ∧ t.flash = s.flash ∧ t.part = s.part ∧ t.pool.mem = s.pool.mem ∧ t.pending = s.pending) ∧
  (∀ (s : State) (m : MgmtRepair), s.isl.mgmt = some m → m.rebuilding = false → m.attempts < 3 → ∃ t, exec .mgmtRepairRetry s = .next t ∧
    t.islState 52 = 5 ∧ t.isl.mgmt = some { attempts := m.attempts + 1, since := m.since } ∧ t.isl.resets = s.isl.resets.filter (fun e => e.1 != 52) ∧
    t.isl.switchQ = s.isl.switchQ.filter (fun o => o.dom != 86) ++ [{ dom := 86, on := false }, { dom := 86, on := true }] ∧
    KeepsRegs s t [(.SUP_ISL_STATUS_STATE, 52)] ∧ t.com = s.com ∧ t.flt = s.flt ∧ t.frame = s.frame) ∧
  (∀ (s : State) (m : MgmtRepair), s.isl.mgmt = some m → m.rebuilding = false → m.attempts = 3 → ∃ t, exec .mgmtRepairRetry s = .next t ∧
    t.islState 52 = 5 ∧ t.isl.mgmt = some { m with attempts := 4 } ∧ t.com.hierQ = [] ∧ t.com.redo = [] ∧ t.com.owed = [] ∧
    t.isl.switchQ = s.isl.switchQ.filter (fun o => o.dom != 86) ++ [{ dom := 86, on := false }] ∧
    (∀ w ∈ s.com.redo ++ s.com.hierQ ++ s.com.owed, w.answer = true → Output.cfg w.host .ca 0 ∈ t.out) ∧
    t.flt.reportQ.any (fun r => r.source == 5) = true ∧ KeepsRegs s t [(.SUP_ISL_STATUS_STATE, 52)] ∧ t.frame = s.frame) ∧
  (∀ (s : State) (m : MgmtRepair), s.isl.mgmt = some m → m.rebuilding = true → (s.com.cur ≠ none ∨ (s.com.waiting = none ∧ s.com.hierQ = [] ∧ s.com.redo = [])) → ∃ t, exec .mgmtRebuildDone s = .next t ∧
    t.isl.mgmt = none ∧ t.isl.stale.contains 52 = false ∧ t.reg .CMP_LOCK_HELD 0 = 0 ∧ t.reg .CMP_LOCK_BROKEN 0 = 1 ∧ t.staged = [] ∧ t.com.staged = [] ∧ t.com.owed = [] ∧
    (∀ w ∈ s.com.owed, w.answer = true → Output.cfg w.host .sc 0 ∈ t.out) ∧
    (s.com.cur = none → s.port.running = none → s.islState 52 = 2 → t.busy = false) ∧ t.frame = s.frame) ∧
  (∀ s : State, s.isl.mgmt = none → exec .mgmtRepairRetry s = .next { s with out := [] } ∧ exec .mgmtRebuildDone s = .next { s with out := [] })

/-- An ECC error in a listed item of a running quad's replica: a correctable one counts in ECC_CORR and is reported with source 0x42; another counts in ECC_UE and the item is unreadable for 10 microseconds. The comparison makes every item of the quad readable again, corrects inverted check bits and reports a difference with source 0x43. -/
def Obligations.ReplicaErrorsAreCountedAndRepaired : Prop :=
  (∀ (s : State) (q i : Nat) (k : ItemKind), q < 8 → s.running (32 + q) = true → (Sparse.get? s.com.active (itemKey k i)).isSome = true →
    exec (.replicaEccError q k i true) s = .next (({ s with out := [] }.bump .IMP_Q_ECC_CORR q).report 0x42 0 q) ∧
    exec (.replicaEccError q k i false) s = .next (({ s with out := [] }.bump .IMP_Q_ECC_UE q).updCom (fun m =>
      { m with unreadable := m.unreadable ++ [(q, s.now + 10000, itemKey k i)] }))) ∧
  (∀ (s : State) (q : Nat), q < 8 → s.running (32 + q) = true → ∃ t u, exec (.replicaCompare q true) s = .next t ∧ exec (.replicaCompare q false) s = .next u ∧
    (∀ e ∈ t.com.unreadable, e.1 ≠ q) ∧ (∀ e ∈ t.com.flips, e.1 ≠ q) ∧ u.com.unreadable = t.com.unreadable ∧ u.com.flips = t.com.flips ∧ t.com.active = s.com.active ∧ u.flt = s.flt ∧
    t.flt.reportQ = queueReport (s.effSev 0x43 none) s.flt.reportQ { source := 0x43, kind := 0, scope := q, sev := none, isl := 32 + q } ∧
    t.regs = s.regs ∧ u.regs = s.regs ∧ t.frame = s.frame ∧ u.frame = s.frame) ∧
  (∀ (s : State) (q i : Nat) (k : ItemKind) (c d : Bool), 8 ≤ q → exec (.replicaEccError q k i c) s = .next { s with out := [] } ∧
    exec (.replicaCompare q d) s = .next { s with out := [] })

/-- An acknowledgement of a running participant is ticked off; a participant that is neither running nor stopped is stale instead. With all of them in, a registration at least 500 ns before T_c confirms the commit, and a later one abandons the commit of COMMIT with REFUSED_RESYNC; at T_c the clock has reached T_c and a confirmed commit opens the window of the old values; the window closes 1 microsecond later, the replica write and the kill-mark sweep follow in that order where there is something to write or to sweep, and the commit ends when they are done: COMMIT's result holds T_c and the epoch, the port is free unless a command runs, and a commit that waits begins. -/
def Obligations.CommitsRunToCompletion : Prop :=
  (∀ (s : State) (c : Commit) (i : Nat), s.com.cur = some c → c.phase = .delivering → c.waitAck.contains i = true → s.running i = true →
    exec (.commitDeliveryAck i) s = .next { s with out := [], com := { s.com with cur := some { c with waitAck := dropFrom i c.waitAck } } }) ∧
  (∀ (s : State) (c : Commit) (i : Nat), s.com.cur = some c → c.phase = .delivering → c.waitAck.contains i = true → s.running i = false → s.islState i ≠ 3 →
    exec (.commitDeliveryAck i) s = .next { s with
      out := [], com := { s.com with cur := some { c with waitAck := dropFrom i c.waitAck } }, isl := { s.isl with stale := addTo i s.isl.stale } }) ∧
  (∀ (s : State) (c : Commit) (x b : Nat), s.com.cur = some c → c.phase = .delivering → c.waitAck = [] → s.running 52 = true → s.boot.timeBase = some b →
    s.now ≤ b + x → x + 500 ≤ c.tc → exec (.commitRegistration x) s = .next { s with
      out := [], now := b + x, com := { s.com with cur := some { c with phase := .confirmed } } }) ∧
  (∀ (s : State) (c : Commit) (x b : Nat), s.com.cur = some c → c.phase = .delivering → c.waitAck = [] → s.running 52 = true → s.boot.timeBase = some b →
    s.now ≤ b + x → c.tc < x + 500 → c.origin = .command → s.com.waiting = none → s.com.hierQ = [] → s.com.redo = [] → ∃ t, exec (.commitRegistration x) s = .next t ∧
    t.com.cur = none ∧ t.com.active = s.com.active ∧ t.staged = s.staged ∧ (s.waitsFor = some .commit → s.resultCode = none → t.resultCode = some 0x0B) ∧
    t.reg .CMP_EPOCH_EPOCH 0 = s.reg .CMP_EPOCH_EPOCH 0 ∧ t.now = b + x) ∧
  (∀ (s : State) (c : Commit), s.com.cur = some c → c.phase = .confirmed → ∃ t, exec .commitInstant s = .next t ∧
    (t.com.cur.map (·.phase)) = some .window ∧ t.com.old = some (c.tc, s.com.active, s.com.hier) ∧
    t.part = s.part ∧ t.pool.mem = s.pool.mem ∧ t.flash.rollback = s.flash.rollback ∧ t.pending = s.pending ∧
    t.now = max s.now ((s.boot.timeBase.map (· + c.tc)).getD 0)) ∧
  (∀ (s : State) (c : Commit), s.com.cur = some c → c.phase = .window → c.imps = [] → c.writes = [] → bit c.mask 4 = false → ∃ t, exec .oldValueWindowClose s = .next t ∧
    t.com.old = none ∧ t.com.cur = some { c with phase := if c.kills = [] then .finished else .sweeping } ∧ t.tr.policyOld = none ∧ t.regs = s.regs ∧
    t.now = max s.now ((s.boot.timeBase.map (· + (c.tc + 1000))).getD 0)) ∧
  (∀ (s : State) (c : Commit), s.com.cur = some c → c.phase = .window → (c.imps ≠ [] ∨ c.writes ≠ [] ∨ bit c.mask 4 = true) → ∃ t, exec .oldValueWindowClose s = .next t ∧
    t.com.old = none ∧ t.com.cur = some { c with phase := .writing } ∧ t.tr.policyOld = none ∧ t.regs = s.regs ∧
    t.now = max s.now ((s.boot.timeBase.map (· + (c.tc + 1000))).getD 0)) ∧
  (∀ (s : State) (c : Commit), s.com.cur = some c → c.phase = .writing → s.flt.armed = none → exec .replicaWriteDone s = .next { s with
    out := [], com := { s.com with cur := some { c with phase := if c.kills.isEmpty then .finished else .sweeping } } }) ∧
  (∀ (s : State) (c : Commit), s.com.cur = some c → c.phase = .writing → ∃ t, exec .replicaWriteDone s = .next t ∧
    t.com.cur = some { c with phase := if c.kills.isEmpty then .finished else .sweeping } ∧ t.com.active = s.com.active ∧ t.frame = s.frame) ∧
  (∀ (s : State) (c : Commit), s.com.cur = some c → c.phase = .sweeping → exec .killMarkSweepDone s = .next { s with
    out := [], com := { s.com with
      active := s.com.active.map (fun e => if c.covered.contains e.1 then (e.1, e.2 / 2 * 2) else e), cur := some { c with phase := .finished, covered := [] } } }) ∧
  (∀ (s : State) (c : Commit), s.com.cur = some c → c.phase = .finished → c.origin = .command → s.com.waiting = none → s.com.hierQ = [] → s.com.redo = [] → s.mgmtUp = true →
    ∃ t, exec .commitComplete s = .next t ∧ t.com.cur = none ∧ t.reg .CMP_STATUS_INTERNAL 0 = 0 ∧ (s.port.running = none → t.busy = false) ∧
      KeepsRegs s t [(.CMP_STATUS_INTERNAL, 0), (.CMP_STATUS_BUSY, 0)] ∧ t.com.active = s.com.active ∧ t.frame = s.frame ∧ (∀ r, s.port.running = some r → r.wait = .commit → r.result = none →
      t.port.running = some { r with result := some (0, [c.tc % 2 ^ 32, c.tc / 2 ^ 32, s.reg .CMP_EPOCH_EPOCH 0 % 2 ^ 32, s.reg .CMP_EPOCH_EPOCH 0 / 2 ^ 32]) })) ∧
  (∀ (s : State) (c : Commit) (mask : Nat) (o : Origin), s.com.cur = some c → c.phase = .finished → s.com.waiting = some (mask, o, false) → s.mgmtUp = true →
    ∃ t, exec .commitComplete s = .next t ∧ (t.com.cur.map (fun c => (c.origin, c.mask, c.phase))) = some (o, mask, .delivering) ∧ t.com.waiting = none ∧ t.busy = true ∧ t.frame = s.frame) ∧
  (∀ s : State, s.com.cur = none → exec .commitInstant s = .next { s with out := [] } ∧ exec .oldValueWindowClose s = .next { s with out := [] } ∧
    exec .replicaWriteDone s = .next { s with out := [] } ∧ exec .killMarkSweepDone s = .next { s with out := [] } ∧ exec .commitComplete s = .next { s with out := [] })

/-- At the commit instant of a confirmed commit whose register cells are staged fields, CMP_EPOCH is one more (modulo 2^64), CMP_COMMIT_TIME is T_c and the window of the old values is open. Where the commit comes from COMMIT, brings no amendment and no hierarchy writes and writes each register field once, every one of them holds its committed value, the software part of the imposition table is the old one with the commit's changes, and for a mask with IMP no software change is staged any more. -/
def Obligations.CommitInstantAdvancesTheEpoch : Prop :=
  (∀ (s : State) (c : Commit), s.com.cur = some c → c.phase = .confirmed → (∀ e ∈ c.cells, e.1.fld.scope ≠ 0) →
    ∃ t, exec .commitInstant s = .next t ∧ t.reg .CMP_EPOCH_EPOCH 0 = (s.reg .CMP_EPOCH_EPOCH 0 + 1) % 2 ^ Fld.CMP_EPOCH_EPOCH.width ∧
      t.reg .CMP_COMMIT_TIME_T_C 0 = c.tc % 2 ^ Fld.CMP_COMMIT_TIME_T_C.width ∧ t.com.old.isSome = true ∧ (t.com.cur.map (·.phase)) = some .window) ∧
  (∀ (s : State) (c : Commit), s.com.cur = some c → c.phase = .confirmed → c.parts = [] → c.writes = [] → c.origin = .command →
    (∀ e ∈ c.cells, e.1.fld.scope ≠ 0) → (c.cells.map (·.1)).Nodup →
    ∃ t, exec .commitInstant s = .next t ∧ (∀ e ∈ c.cells, t.reg e.1.fld e.1.idx = e.2 % 2 ^ e.1.fld.width) ∧
      (∀ e ∈ applyImp s.com.active c.imps, e.1.typ = 1 → e.1.index < 0xEFC00 → e ∈ t.com.active) ∧
      (∀ e ∈ t.com.active, e.1.typ = 1 → e.1.index < 0xEFC00 → e ∈ applyImp s.com.active c.imps) ∧
      (bit c.mask 0 = true → t.com.staged = []) ∧ t.flash = s.flash ∧ t.part = s.part ∧ t.pool.mem = s.pool.mem)

/-- When host k writes a command that the port takes, the port is BUSY with its opcode and host, the issuer's CMP_RESULT is RUNNING with opcode and token, its result and its sixteen return words are zero, and the running command holds a copy of its arguments; flash, fuses, pool bytes, the queue and the clock stay. -/
def Obligations.AcceptedCommandsShowThemselves : Prop :=
  ∀ (s : State) (k token op : Nat), k < 32 → token < 256 → op < 256 →
    (s.accepted k token op).busy = true ∧ (s.accepted k token op).reg .CMP_STATUS_OPCODE 0 = op ∧ (s.accepted k token op).reg .CMP_STATUS_HOST_INDEX 0 = k ∧
    (s.accepted k token op).reg .CMP_RESULT_STATE k = 1 ∧ (s.accepted k token op).reg .CMP_RESULT_RESULT k = 0 ∧
    (s.accepted k token op).reg .CMP_RESULT_OPCODE k = op ∧ (s.accepted k token op).reg .CMP_RESULT_TOKEN k = token ∧
    (∀ n, n < 16 → (s.accepted k token op).reg .CMP_RET_VALUE (16 * k + n) = 0) ∧
    (s.accepted k token op).port.running = some { host := k, opcode := op, token, args := s.argWords k, since := s.now } ∧
    (s.accepted k token op).frame = s.frame

/-- Any composing-port command of host k that the port takes but that fails a check of R711 or R720 becomes the running command with that refusal as its result, here for IMP_READ, COMMIT and CONTAIN; while the port is busy it is dropped and counted. -/
def Obligations.RefusedCommandsEndWithTheirCode : Prop :=
  (∀ (s : State) (k token e : Nat), s.canIssue k = true → s.portFree = true → s.refusal k 0x26 (s.argWords k) = some e →
    exec (.impRead k token) s = .next ((s.accepted k token 0x26).ended e)) ∧
  (∀ (s : State) (k token e : Nat), s.canIssue k = true → s.portFree = true → s.refusal k 0x10 (s.argWords k) = some e →
    exec (.commit k token) s = .next ((s.accepted k token 0x10).ended e)) ∧
  (∀ (s : State) (k token e : Nat), s.canIssue k = true → s.portFree = true → s.refusal k 0x50 (s.argWords k) = some e →
    exec (.contain k token) s = .next ((s.accepted k token 0x50).ended e)) ∧
  (∀ (s : State) (k : Nat) (a : List Nat), s.operator k = false → s.refusal k 0x10 a = some 3) ∧
  (∀ (s : State) (k : Nat) (a : List Nat), s.operator k = true → s.halted = false → s.holdsLock k = false → s.refusal k 0x10 a = some 4) ∧
  (∀ (s : State) (k token : Nat), s.canIssue k = true → s.portFree = false → exec (.commit k token) s = .next ({ s with out := [] }.dropBusy))

/-- An accepted LOCK_ACQUIRE takes a free lock, counts LOCK_SEQ and clears BROKEN, and returns BROKEN as it was and the new LOCK_SEQ; its holder gets its values again, another host REFUSED_LOCKED and the holder. LOCK_RELEASE frees it and LOCK_BREAK by another operator frees it and sets BROKEN; both discard all staged state. A LOCK_BREAK of a free lock ends with BAD_ARG. -/
def Obligations.TheComposingLock : Prop :=
  (∀ (s : State) (k token : Nat), k < 32 → s.accepts k 0x01 = true → s.on .CMP_LOCK_HELD = false → ∃ t, exec (.lockAcquire k token) s = .next t ∧
    t.reg .CMP_LOCK_HELD 0 = 1 ∧ t.reg .CMP_LOCK_HOST_INDEX 0 = k ∧ t.reg .CMP_LOCK_BROKEN 0 = 0 ∧
    t.reg .CMP_LOCK_SEQ 0 = (s.reg .CMP_LOCK_SEQ 0 + 1) % 2 ^ 16 ∧
    (t.port.running.bind (·.result)) = some (0, [s.reg .CMP_LOCK_BROKEN 0 + 65536 * ((s.reg .CMP_LOCK_SEQ 0 + 1) % 2 ^ 16)]) ∧ t.frame = s.frame) ∧
  (∀ (s : State) (k token : Nat), s.accepts k 0x01 = true → s.holdsLock k = true →
    exec (.lockAcquire k token) s = .next ((s.accepted k token 0x01).ended 0 [s.reg .CMP_LOCK_BROKEN 0 + 65536 * s.reg .CMP_LOCK_SEQ 0])) ∧
  (∀ (s : State) (k token : Nat), s.accepts k 0x01 = true → s.on .CMP_LOCK_HELD = true → s.holdsLock k = false →
    exec (.lockAcquire k token) s = .next ((s.accepted k token 0x01).ended 0x05 [s.reg .CMP_LOCK_HOST_INDEX 0])) ∧
  (∀ (s : State) (k token : Nat), s.accepts k 0x02 = true → ∃ t, exec (.lockRelease k token) s = .next t ∧ t.reg .CMP_LOCK_HELD 0 = 0 ∧
    t.reg .CMP_LOCK_BROKEN 0 = s.reg .CMP_LOCK_BROKEN 0 ∧ t.com.staged = [] ∧ t.staged = [] ∧ t.resultCode = some 0 ∧ t.frame = s.frame) ∧
  (∀ (s : State) (k token : Nat), s.accepts k 0x03 = true → s.on .CMP_LOCK_HELD = true → s.holdsLock k = false → ∃ t, exec (.lockBreak k token) s = .next t ∧
    t.reg .CMP_LOCK_HELD 0 = 0 ∧ t.reg .CMP_LOCK_BROKEN 0 = 1 ∧ t.com.staged = [] ∧ t.staged = [] ∧ t.resultCode = some 0 ∧ t.frame = s.frame) ∧
  (∀ (s : State) (k token : Nat), s.accepts k 0x03 = true → s.on .CMP_LOCK_HELD = false →
    exec (.lockBreak k token) s = .next ((s.accepted k token 0x03).ended 0x02))

/-- An accepted COMMIT (and a write of ARB_COMMIT by an operator, as a COMMIT of scope ARB) that fails a check ends with its code; behind a commit in progress it waits for it; with none in progress it begins its delivery with T_c at the first whole microsecond at least 2 microseconds later, and the command waits for the commit. A write of ARB_COMMIT while the port is busy is dropped and counted, whoever makes it; a tenant's changes nothing on a free port. STAGE_DISCARD drops the staged copies of the named scopes: each reads its active value again. -/
def Obligations.CommitsAndDiscards : Prop :=
  (∀ (s : State) (k token e : Nat), s.accepts k 0x10 = true → (s.accepted k token 0x10).commitRefusal (nth (s.argWords k) 0) = some e →
    exec (.commit k token) s = .next ((s.accepted k token 0x10).ended e)) ∧
  (∀ (s : State) (k token : Nat) (c : Commit), s.accepts k 0x10 = true → (s.accepted k token 0x10).commitRefusal (nth (s.argWords k) 0) = none → s.com.cur = some c →
    ∃ t, exec (.commit k token) s = .next t ∧ t.com.waiting = some (nth (s.argWords k) 0, .command, false) ∧ t.com.cur = some c ∧
      t.waitsFor = some .commit ∧ t.frame = s.frame) ∧
  (∀ (s : State) (k token : Nat), s.accepts k 0x10 = true → (s.accepted k token 0x10).commitRefusal (nth (s.argWords k) 0) = none → s.com.cur = none →
    ∃ t, exec (.commit k token) s = .next t ∧ t.com.cur.map (fun c => (c.mask, c.origin, c.phase, c.tc)) = some (nth (s.argWords k) 0, .command, .delivering, ceilDiv (s.dev + 2000) 1000 * 1000) ∧
      t.busy = true ∧ t.waitsFor = some .commit ∧ t.frame = s.frame) ∧
  (∀ (s : State) (k : Nat), k < 32 → s.operator k = true → s.canIssue k = true → s.portFree = true → s.halted = false → s.holdsLock k = true →
    s.com.cur ≠ none → ({ s with out := [] }.begin_ k 0 0x10 (2 :: List.replicate 31 0)).commitRefusal 2 = none → ∃ t, exec (.arbCommit k) s = .next t ∧
      t.com.waiting = some (2, .arb, false) ∧ t.com.cur = s.com.cur ∧ t.reg .CMP_STATUS_OPCODE 0 = 0x10 ∧ t.busy = true ∧ t.waitsFor = some .commit ∧ t.frame = s.frame) ∧
  (∀ (s : State) (k : Nat), k < 32 → s.operator k = true → s.canIssue k = true → s.portFree = true → s.halted = false → s.holdsLock k = true →
    s.com.cur = none → ({ s with out := [] }.begin_ k 0 0x10 (2 :: List.replicate 31 0)).commitRefusal 2 = none → ∃ t, exec (.arbCommit k) s = .next t ∧
      t.com.cur.map (fun c => (c.mask, c.origin, c.phase, c.tc)) = some (2, .arb, .delivering, ceilDiv (s.dev + 2000) 1000 * 1000) ∧
      t.reg .CMP_STATUS_OPCODE 0 = 0x10 ∧ t.busy = true ∧ t.waitsFor = some .commit ∧ t.frame = s.frame) ∧
  (∀ (s : State) (k e : Nat), s.operator k = true → s.canIssue k = true → s.portFree = true → s.halted = false → s.holdsLock k = true →
    ({ s with out := [] }.begin_ k 0 0x10 (2 :: List.replicate 31 0)).commitRefusal 2 = some e →
    exec (.arbCommit k) s = .next (({ s with out := [] }.begin_ k 0 0x10 (2 :: List.replicate 31 0)).ended e)) ∧
  (∀ (s : State) (k : Nat), s.operator k = false → (s.canIssue k = false ∨ (s.busy = false ∧ s.mgmtUp = true)) → exec (.arbCommit k) s = .next { s with out := [] }) ∧
  (∀ (s : State) (k : Nat), s.canIssue k = true → s.busy = true → exec (.arbCommit k) s = .next ({ s with out := [] }.dropBusy)) ∧
  (∀ (s : State) (k token : Nat), s.accepts k 0x11 = true → ∃ t, exec (.stageDiscard k token) s = .next t ∧
    (∀ f i, bit (nth (s.argWords k) 0) f.scope = true → t.stagedReg f i = t.reg f i) ∧
    (∀ f i, bit (nth (s.argWords k) 0) f.scope = false → Sparse.get? t.staged ⟨f, i⟩ = Sparse.get? s.staged ⟨f, i⟩) ∧
    (bit (nth (s.argWords k) 0) 0 = true → t.com.staged = []) ∧ t.resultCode = some 0 ∧ t.frame = s.frame)

/-- An accepted AMEND_LOAD, FORME_WRITE or KEY_IMPORT with the engine STOPPED ends with DMA_ERROR, otherwise the command waits for its reads with nothing written; too long an image is refused, as are a misaligned AMEND_LOAD and a FORME_WRITE of the running bank. When the reads are over, COMMAND_DONE ends AMEND_LOAD with the code of the first check of R119 that fails, or stages its changes; FORME_WRITE with the image in its bank, TRIAL, or the bank BAD, and the other bank as it was; KEY_IMPORT with the slot READY from an imported key at its next generation, or the code of the check that fails. FORME_SELECT prefers a bank that is TRIAL or CONFIRMED and refuses another. -/
def Obligations.ImagesAreReadByDma : Prop :=
  (∀ (s : State) (k token : Nat) (im : Image), s.accepts k 0x12 = true → arg64 (s.argWords k) 0 % 16 ≠ 0 →
    exec (.amendLoad k token im) s = .next ((s.accepted k token 0x12).ended 0x02)) ∧
  (∀ (s : State) (k token : Nat) (im : Image), s.accepts k 0x12 = true → arg64 (s.argWords k) 0 % 16 = 0 → 20 * 2 ^ 20 < nth (s.argWords k) 2 →
    exec (.amendLoad k token im) s = .next ((s.accepted k token 0x12).ended 0x16)) ∧
  (∀ (s : State) (k token : Nat) (im : Image), s.accepts k 0x12 = true → arg64 (s.argWords k) 0 % 16 = 0 → nth (s.argWords k) 2 ≤ 20 * 2 ^ 20 →
    s.reg .CMP_DMA_STATUS_STATE k = 2 → ∃ t, exec (.amendLoad k token im) s = .next t ∧ t.resultCode = some 0x17 ∧ t.frame = s.frame) ∧
  (∀ (s : State) (k token : Nat) (im : Image), s.accepts k 0x12 = true → arg64 (s.argWords k) 0 % 16 = 0 → nth (s.argWords k) 2 ≤ 20 * 2 ^ 20 →
    s.reg .CMP_DMA_STATUS_STATE k ≠ 2 → ∃ t, exec (.amendLoad k token im) s = .next t ∧ t.resultCode = none ∧ t.waitsFor = some .dma ∧
      (t.port.running.bind (·.image)) = some im ∧ t.reg .CMP_DMA_STATUS_STATE k = 1 ∧ t.frame = s.frame) ∧
  (∀ (s : State) (k token : Nat) (im : Image), s.accepts k 0x13 = true → (nth (s.argWords k) 3 == 1) = s.boot.runB →
    exec (.formeWrite k token im) s = .next ((s.accepted k token 0x13).ended 0x06)) ∧
  (∀ (s : State) (k token : Nat) (im : Image), s.accepts k 0x13 = true → (nth (s.argWords k) 3 == 1) ≠ s.boot.runB → 40 * 2 ^ 20 < nth (s.argWords k) 2 →
    exec (.formeWrite k token im) s = .next ((s.accepted k token 0x13).ended 0x16)) ∧
  (∀ (s : State) (k token : Nat) (im : Image), s.accepts k 0x13 = true → (nth (s.argWords k) 3 == 1) ≠ s.boot.runB → nth (s.argWords k) 2 ≤ 40 * 2 ^ 20 →
    s.reg .CMP_DMA_STATUS_STATE k = 2 → exec (.formeWrite k token im) s = .next ((s.accepted k token 0x13).ended 0x17)) ∧
  (∀ (s : State) (k token : Nat) (im : Image), s.accepts k 0x13 = true → (nth (s.argWords k) 3 == 1) ≠ s.boot.runB → nth (s.argWords k) 2 ≤ 40 * 2 ^ 20 →
    s.reg .CMP_DMA_STATUS_STATE k ≠ 2 → ∃ t, exec (.formeWrite k token im) s = .next t ∧ t.resultCode = none ∧ t.waitsFor = some .dma ∧
      (t.port.running.bind (·.image)) = some im ∧ t.reg .CMP_DMA_STATUS_STATE k = 1 ∧ t.frame = s.frame) ∧
  (∀ (s : State) (k token : Nat), s.accepts k 0x14 = true → ((s.bank (nth (s.argWords k) 0 == 1)).state = .trial ∨ (s.bank (nth (s.argWords k) 0 == 1)).state = .confirmed) →
    ∃ t, exec (.formeSelect k token) s = .next t ∧ t.flash = { s.flash with prefB := nth (s.argWords k) 0 == 1 } ∧ t.reg .CMP_FORME_STATUS_PREF 0 = flag (nth (s.argWords k) 0 == 1) ∧
      t.resultCode = some 0 ∧ t.part = s.part ∧ t.pool.mem = s.pool.mem) ∧
  (∀ (s : State) (k token : Nat), s.accepts k 0x14 = true → ((s.bank (nth (s.argWords k) 0 == 1)).state = .empty ∨ (s.bank (nth (s.argWords k) 0 == 1)).state = .bad) →
    exec (.formeSelect k token) s = .next ((s.accepted k token 0x14).ended 0x02)) ∧
  (∀ (s : State) (k token : Nat) (b : KeyBlob), s.accepts k 0x38 = true → s.reg .CMP_DMA_STATUS_STATE k = 2 →
    ∃ t, exec (.keyImport k token b) s = .next t ∧ t.resultCode = some 0x17 ∧ t.frame = s.frame) ∧
  (∀ (s : State) (k token : Nat) (b : KeyBlob), s.accepts k 0x38 = true → s.reg .CMP_DMA_STATUS_STATE k ≠ 2 →
    ∃ t, exec (.keyImport k token b) s = .next t ∧ t.resultCode = none ∧ t.waitsFor = some .dma ∧ (t.port.running.bind (·.blob)) = some b ∧
      t.reg .CMP_DMA_STATUS_STATE k = 1 ∧ t.frame = s.frame) ∧
  (∀ (s : State) (r : Running) (im : Image), s.port.running = some r → r.wait = .dma → r.result = none → r.discard = false → r.host < 32 → r.opcode = 0x12 → r.image = some im →
    s.port.lockDrop = false → ∃ t, exec .commandDone s = .next t ∧ t.reg .CMP_RESULT_STATE r.host = 2 ∧
      t.reg .CMP_RESULT_RESULT r.host = (s.amendRefusal im (nth r.args 2)).getD 0 ∧
      (s.amendRefusal im (nth r.args 2) ≠ none → t.staged = s.staged ∧ t.com.staged = s.com.staged ∧ t.com.parts = s.com.parts) ∧
      (s.amendRefusal im (nth r.args 2) = none → t.com.staged = s.amendImp im) ∧ t.port.running = none ∧ t.frame = s.frame) ∧
  (∀ (s : State) (r : Running) (im : Image), s.port.running = some r → r.wait = .dma → r.result = none → r.discard = false → r.host < 32 → r.opcode = 0x13 → r.image = some im →
    ∃ t, exec .commandDone s = .next t ∧ t.reg .CMP_RESULT_STATE r.host = 2 ∧
      t.bank (nth r.args 3 == 1) = (if s.writeResult im (nth r.args 2) = 1 then { state := .trial, image := some im } else { s.bank (nth r.args 3 == 1) with state := .bad }) ∧
      t.bank (!(nth r.args 3 == 1)) = s.bank (!(nth r.args 3 == 1)) ∧
      t.reg .CMP_RESULT_RESULT r.host = (if s.writeResult im (nth r.args 2) = 1 then 0 else if s.writeResult im (nth r.args 2) = 2 then 0x10
        else if s.writeResult im (nth r.args 2) = 3 then 0x13 else 0x11) ∧ t.port.running = none ∧ t.part = s.part ∧ t.pool.mem = s.pool.mem) ∧
  (∀ (s : State) (r : Running) (b : KeyBlob) (i : Nat), s.port.running = some r → r.wait = .dma → r.result = none → r.discard = false → r.host < 32 → r.opcode = 0x38 →
    r.image = none → r.blob = some b → i < 1024 → nth r.args 0 = i → s.reg .BAL_KEY_SLOT_POLICY i = 2 → s.reg .BAL_KEY_SLOT_STATE i = 0 → s.part.factoryTest = false → s.rngOk = true →
    b.magic = 0x4B444C48 → b.version = 1 → b.reservedZero = true → b.imprint = i → ∃ t, exec .commandDone s = .next t ∧ t.reg .CMP_RESULT_STATE r.host = 2 ∧
      (if b.kexId ≠ s.kexId then t.reg .CMP_RESULT_RESULT r.host = 0x29 ∧ t.reg .BAL_KEY_SLOT_STATE i = 0
       else if b.nonce ≠ (Sparse.get? s.keys.nonces i).getD 0 then t.reg .CMP_RESULT_RESULT r.host = 0x2A ∧ t.reg .BAL_KEY_SLOT_STATE i = 0
       else if (Config.unwrap (s.kek b) b.wrapped).isNone = true then t.reg .CMP_RESULT_RESULT r.host = 0x2B ∧ t.reg .BAL_KEY_SLOT_STATE i = 0
       else t.reg .CMP_RESULT_RESULT r.host = 0 ∧ t.reg .BAL_KEY_SLOT_STATE i = 1 ∧ t.reg .BAL_KEY_SLOT_SOURCE i = 1 ∧
         t.reg .BAL_KEY_SLOT_GEN i = nextGen (s.reg .BAL_KEY_SLOT_GEN i)) ∧ t.port.running = none ∧ t.frame = s.frame)

/-- An accepted staging command whose item and staged table meet every rule of R780 stages exactly its changes, returns the number of staged changes and leaves the active table alone; IMP_INVALIDATE stages VALID 0 for each valid software entry of the domain whose range lies within the given one. A payload field out of its range is BAD_ARG before anything else; else with SIGNED_ONLY set each is refused with REFUSED_POLICY, as is an item outside the software range. IMP_READ of an index beyond the item type's space ends with BAD_ARG; of an entry, descriptor, source or route item, and of a part of a group, it returns the payload of the copy asked for, with a group's MEMBER_COUNT word. -/
def Obligations.StagingTheImpositionTable : Prop :=
  (∀ (s : State) (k token o : Nat), s.accepts k 0x20 = true → bits (nth (s.argWords k) 1) 1 0 = o → (o = 1 ∨ o = 2) → 
    stageable (s.accepted k token 0x20) [{ key := ⟨1, nth (s.argWords k) 0, 0⟩, val := if o = 1 then some (payloadOf (s.argWords k)) else none }] = true →
    (o = 1 → payloadRanges 1 (payloadOf (s.argWords k)) = true) →
    impPolicyOk 1 (nth (s.argWords k) 0) (if o = 1 then payloadOf (s.argWords k) else 0) = true → ∃ t, exec (.impStageEntry k token) s = .next t ∧
      t.com.staged = addChanges s.com.staged [{ key := ⟨1, nth (s.argWords k) 0, 0⟩, val := if o = 1 then some (payloadOf (s.argWords k)) else none }] ∧ t.com.active = s.com.active ∧ (t.port.running.bind (·.result)) = some (0, [impCount t.com.staged]) ∧ t.frame = s.frame) ∧
  (∀ (s : State) (k token o : Nat), s.accepts k 0x21 = true → bits (nth (s.argWords k) 1) 1 0 = o → (o = 1 ∨ o = 2) → 
    stageable (s.accepted k token 0x21) [{ key := ⟨2, nth (s.argWords k) 0, 0⟩, val := if o = 1 then some (payloadOf (s.argWords k)) else none }] = true →
    (o = 1 → payloadRanges 2 (payloadOf (s.argWords k)) = true) →
    impPolicyOk 2 (nth (s.argWords k) 0) (if o = 1 then payloadOf (s.argWords k) else 0) = true → ∃ t, exec (.impStageTarget k token) s = .next t ∧
      t.com.staged = addChanges s.com.staged [{ key := ⟨2, nth (s.argWords k) 0, 0⟩, val := if o = 1 then some (payloadOf (s.argWords k)) else none }] ∧ t.com.active = s.com.active ∧ (t.port.running.bind (·.result)) = some (0, [impCount t.com.staged]) ∧ t.frame = s.frame) ∧
  (∀ (s : State) (k token o : Nat), s.accepts k 0x22 = true → bits (nth (s.argWords k) 1) 1 0 = o → (o = 1 ∨ o = 2) → 
    stageable (s.accepted k token 0x22) [{ key := ⟨3, nth (s.argWords k) 0, 0⟩, val := if o = 1 then some (payloadOf (s.argWords k)) else none }] = true →
    (o = 1 → payloadRanges 3 (payloadOf (s.argWords k)) = true) →
    impPolicyOk 3 (nth (s.argWords k) 0) (if o = 1 then payloadOf (s.argWords k) else 0) = true → ∃ t, exec (.impStageSource k token) s = .next t ∧
      t.com.staged = addChanges s.com.staged [{ key := ⟨3, nth (s.argWords k) 0, 0⟩, val := if o = 1 then some (payloadOf (s.argWords k)) else none }] ∧ t.com.active = s.com.active ∧ (t.port.running.bind (·.result)) = some (0, [impCount t.com.staged]) ∧ t.frame = s.frame) ∧
  (∀ (s : State) (k token o : Nat), s.accepts k 0x23 = true → bits (nth (s.argWords k) 1) 1 0 = o → (o = 1 ∨ o = 2) → (o = 1 → nth (s.argWords k) 4 ≤ 63 ∨ nth (s.argWords k) 4 = 255) →
    stageable (s.accepted k token 0x23) [{ key := ⟨4, nth (s.argWords k) 0, 0⟩, val := if o = 1 then some (payloadOf (s.argWords k)) else none }] = true →
    (o = 1 → payloadRanges 4 (payloadOf (s.argWords k)) = true) →
    impPolicyOk 4 (nth (s.argWords k) 0) (if o = 1 then payloadOf (s.argWords k) else 0) = true → ∃ t, exec (.impStageRoute k token) s = .next t ∧
      t.com.staged = addChanges s.com.staged [{ key := ⟨4, nth (s.argWords k) 0, 0⟩, val := if o = 1 then some (payloadOf (s.argWords k)) else none }] ∧ t.com.active = s.com.active ∧ (t.port.running.bind (·.result)) = some (0, [impCount t.com.staged]) ∧ t.frame = s.frame) ∧
  (∀ (s : State) (k token : Nat), s.accepts k 0x24 = true → 4 < bits (nth (s.argWords k) 1) 10 8 →
    exec (.impStageGroup k token) s = .next ((s.accepted k token 0x24).ended 0x02)) ∧
  (∀ (s : State) (k token o : Nat), s.accepts k 0x24 = true → bits (nth (s.argWords k) 1) 1 0 = o → (o = 1 ∨ o = 2) → bits (nth (s.argWords k) 1) 10 8 ≤ 4 →
    stageable (s.accepted k token 0x24) [{ key := ⟨5, nth (s.argWords k) 0, bits (nth (s.argWords k) 1) 10 8⟩, val := if o = 1 then some (payloadOf (s.argWords k)) else none }, { key := ⟨7, nth (s.argWords k) 0, 0⟩, val := some (nth (s.argWords k) 2) }] = true →
    (o = 1 → payloadRanges 5 (payloadOf (s.argWords k)) = true) →
    impPolicyOk 5 (nth (s.argWords k) 0) (if o = 1 then payloadOf (s.argWords k) else 0) = true → ∃ t, exec (.impStageGroup k token) s = .next t ∧
      t.com.staged = addChanges s.com.staged [{ key := ⟨5, nth (s.argWords k) 0, bits (nth (s.argWords k) 1) 10 8⟩, val := if o = 1 then some (payloadOf (s.argWords k)) else none }, { key := ⟨7, nth (s.argWords k) 0, 0⟩, val := some (nth (s.argWords k) 2) }] ∧ t.com.active = s.com.active ∧ (t.port.running.bind (·.result)) = some (0, [impCount t.com.staged]) ∧ t.frame = s.frame) ∧
  (∀ (s : State) (k token : Nat), s.accepts k 0x25 = true → 52 < nth (s.argWords k) 1 →
    exec (.impInvalidate k token) s = .next ((s.accepted k token 0x25).ended 0x02)) ∧
  (∀ (s : State) (k token : Nat) (l : List ImpChange), s.accepts k 0x25 = true → nth (s.argWords k) 1 ≤ 52 → nth (s.argWords k) 0 ≠ 4095 →
    arg64 (s.argWords k) 2 % 2 ^ (nth (s.argWords k) 1 + 12) = 0 → s.signedOnly = false → ¬(32 ≤ nth (s.argWords k) 0 ∧ nth (s.argWords k) 0 ≤ 63) →
    l = ((s.stagedImp.filter (fun e => e.1.typ == 1 && softIndex 1 e.1.index && eValid e.2 && eDomain e.2 == nth (s.argWords k) 0 &&
      decide (arg64 (s.argWords k) 2 ≤ eBase e.2 * 4096) && decide (eBase e.2 * 4096 + 2 ^ (eSize e.2 + 12) ≤ arg64 (s.argWords k) 2 + 2 ^ (nth (s.argWords k) 1 + 12)))).map
        (fun e => { key := e.1, val := some (e.2 / 2 * 2) })) →
    impCount (addChanges s.com.staged l) ≤ 16384 → viewOk (s.accepted k token 0x25).portView (applyImp s.com.active (addChanges s.com.staged l)) = true →
    (s.accepted k token 0x25).sealBarsOk (applyImp s.com.active (addChanges s.com.staged l)) = true →
    ∃ t, exec (.impInvalidate k token) s = .next t ∧ t.com.staged = addChanges s.com.staged l ∧ t.com.active = s.com.active ∧
      (t.port.running.bind (·.result)) = some (0, [impCount t.com.staged]) ∧ t.frame = s.frame) ∧
  (∀ (s : State) (k token : Nat), s.accepts k 0x26 = true → impSpace (bits (nth (s.argWords k) 0) 7 0) ≤ nth (s.argWords k) 1 →
    exec (.impRead k token) s = .next ((s.accepted k token 0x26).ended 0x02)) ∧
  (∀ (s : State) (k token typ p : Nat), s.accepts k 0x26 = true → bits (nth (s.argWords k) 0) 7 0 = typ → 1 ≤ typ → typ ≤ 4 → bits (nth (s.argWords k) 0) 18 16 = 0 →
    nth (s.argWords k) 1 < impSpace typ → p = (Sparse.get? (if bit (nth (s.argWords k) 0) 8 then s.stagedImp else s.com.active) ⟨typ, nth (s.argWords k) 1, 0⟩).getD 0 →
    exec (.impRead k token) s = .next ((s.accepted k token 0x26).ended 0 ((span 0 3).map (payWord p) ++ [0, 0]))) ∧
  (∀ (s : State) (k token part p x : Nat) (v : Imp), s.accepts k 0x26 = true → bits (nth (s.argWords k) 0) 7 0 = 5 → bits (nth (s.argWords k) 0) 18 16 = part → part ≤ 4 →
    nth (s.argWords k) 1 < 64 → v = (if bit (nth (s.argWords k) 0) 8 then s.stagedImp else s.com.active) → p = (Sparse.get? v ⟨5, nth (s.argWords k) 1, part⟩).getD 0 →
    x = (Sparse.get? v ⟨7, nth (s.argWords k) 1, 0⟩).getD 0 →
    exec (.impRead k token) s = .next ((s.accepted k token 0x26).ended 0 ((span 0 3).map (payWord p) ++ [payWord x 0, payWord x 1]))) ∧
  (∀ (s : State) (k token : Nat), s.signedOnly = true → (bits (nth (s.argWords k) 1) 1 0 = 1 ∨ bits (nth (s.argWords k) 1) 1 0 = 2) →
    (s.accepts k 0x20 = true → payloadRanges 1 (payloadOf (s.argWords k)) = true → exec (.impStageEntry k token) s = .next ((s.accepted k token 0x20).ended 0x08)) ∧
    (s.accepts k 0x21 = true → payloadRanges 2 (payloadOf (s.argWords k)) = true → exec (.impStageTarget k token) s = .next ((s.accepted k token 0x21).ended 0x08)) ∧
    (s.accepts k 0x22 = true → payloadRanges 3 (payloadOf (s.argWords k)) = true → exec (.impStageSource k token) s = .next ((s.accepted k token 0x22).ended 0x08)) ∧
    (s.accepts k 0x23 = true → nth (s.argWords k) 4 ≤ 63 → payloadRanges 4 (payloadOf (s.argWords k)) = true → exec (.impStageRoute k token) s = .next ((s.accepted k token 0x23).ended 0x08)) ∧
    (s.accepts k 0x24 = true → bits (nth (s.argWords k) 1) 10 8 ≤ 4 → payloadRanges 5 (payloadOf (s.argWords k)) = true → exec (.impStageGroup k token) s = .next ((s.accepted k token 0x24).ended 0x08)) ∧
    (s.accepts k 0x25 = true → nth (s.argWords k) 1 ≤ 52 → nth (s.argWords k) 0 ≠ 4095 → arg64 (s.argWords k) 2 % 2 ^ (nth (s.argWords k) 1 + 12) = 0 →
      exec (.impInvalidate k token) s = .next ((s.accepted k token 0x25).ended 0x08))) ∧
  (∀ (s : State) (k token : Nat), s.accepts k 0x20 = true → bits (nth (s.argWords k) 1) 1 0 = 1 → payloadRanges 1 (payloadOf (s.argWords k)) = false →
    exec (.impStageEntry k token) s = .next ((s.accepted k token 0x20).ended 0x02)) ∧
  (∀ (s : State) (k token : Nat), bits (nth (s.argWords k) 1) 1 0 = 1 →
    (s.accepts k 0x20 = true → payloadRanges 1 (payloadOf (s.argWords k)) = true → impPolicyOk 1 (nth (s.argWords k) 0) (payloadOf (s.argWords k)) = false →
      exec (.impStageEntry k token) s = .next ((s.accepted k token 0x20).ended 0x08)) ∧
    (s.accepts k 0x21 = true → payloadRanges 2 (payloadOf (s.argWords k)) = true → impPolicyOk 2 (nth (s.argWords k) 0) (payloadOf (s.argWords k)) = false →
      exec (.impStageTarget k token) s = .next ((s.accepted k token 0x21).ended 0x08)) ∧
    (s.accepts k 0x22 = true → payloadRanges 3 (payloadOf (s.argWords k)) = true → impPolicyOk 3 (nth (s.argWords k) 0) (payloadOf (s.argWords k)) = false →
      exec (.impStageSource k token) s = .next ((s.accepted k token 0x22).ended 0x08)))

/-- An accepted SH_FILL of no instance, of too many or beyond the last one ends with BAD_ARG; one of any other KIND and range stages the words of every instance, in order, as writes of its registers would, and leaves every active register but the port's own alone; here the values are written out for spine transit tickets. With SIGNED_ONLY set SH_FILL is refused with REFUSED_POLICY. An accepted DEV_RESET asks for a warm reset 10 microseconds later and shows RESET_PEND; one that the busy port takes as well ends at once, with REFUSED_IN_USE while AMEND_LOAD or FORME_WRITE runs. -/
def Obligations.FillsAndDeviceResets : Prop :=
  (∀ (s : State) (k token : Nat), s.accepts k 0x27 = true → s.signedOnly = false →
    (nth (s.argWords k) 2 = 0 ∨ 16384 < nth (s.argWords k) 2 ∨ fillCountOf (nth (s.argWords k) 0) < nth (s.argWords k) 1 + nth (s.argWords k) 2) →
    exec (.shFill k token) s = .next ((s.accepted k token 0x27).ended 0x02)) ∧
  (∀ (s : State) (k token n : Nat), s.accepts k 0x27 = true → s.signedOnly = false → n < 8 → nth (s.argWords k) 0 = 2 → nth (s.argWords k) 1 = n → nth (s.argWords k) 2 = 1 →
    nth (s.argWords k) 4 < 2 ^ 17 → nth (s.argWords k) 4 % 2 ^ 16 ≠ 0 → ∃ t, exec (.shFill k token) s = .next t ∧
      t.stagedReg .ARB_TRANSIT_TICKETS n = nth (s.argWords k) 4 % 2 ^ 16 ∧ t.stagedReg .ARB_TRANSIT_URGENT_OK n = nth (s.argWords k) 4 / 2 ^ 16 ∧
      t.reg .ARB_TRANSIT_TICKETS n = s.reg .ARB_TRANSIT_TICKETS n ∧ t.resultCode = some 0 ∧ t.frame = s.frame) ∧
  (∀ (s : State) (k token n m : Nat), s.accepts k 0x27 = true → s.signedOnly = false → nth (s.argWords k) 0 = 2 → nth (s.argWords k) 1 = n → nth (s.argWords k) 2 = m → 1 ≤ m → n + m ≤ 8 →
    nth (s.argWords k) 4 % 2 ^ 16 ≠ 0 → ∃ t, exec (.shFill k token) s = .next t ∧
      (∀ i, i < 8 → n ≤ i → i < n + m → t.stagedReg .ARB_TRANSIT_TICKETS i = nth (s.argWords k) 4 % 2 ^ 16 ∧ t.stagedReg .ARB_TRANSIT_URGENT_OK i = bits (nth (s.argWords k) 4) 16 16) ∧
      (∀ i, i < 8 → (i < n ∨ n + m ≤ i) → t.stagedReg .ARB_TRANSIT_TICKETS i = s.stagedReg .ARB_TRANSIT_TICKETS i) ∧ t.resultCode = some 0 ∧ t.frame = s.frame) ∧
  (∀ (s : State) (k token q n m : Nat), s.accepts k 0x27 = true → s.signedOnly = false → nth (s.argWords k) 0 = q → nth (s.argWords k) 1 = n → nth (s.argWords k) 2 = m → 1 ≤ m → m ≤ 16384 → n + m ≤ fillCountOf q →
    ∃ t, exec (.shFill k token) s = .next t ∧ t.staged = ((((List.range m).map (fun j => shCells (fillRegs q (n + j) (payloadOf (s.argWords k))))).flatten).foldl (fun s c => s.stage c.1 c.2.1 c.2.2) s).staged ∧
      (∀ (f : Fld) (i : Nat), f ∉ issueFields → t.reg f i = s.reg f i) ∧ t.com = s.com ∧ t.resultCode = some 0 ∧ t.frame = s.frame) ∧
  (∀ (s : State) (k token : Nat), s.accepts k 0x15 = true → s.port.resetAt = none → ∃ t, exec (.devReset k token) s = .next t ∧
    t.reg .CMP_STATUS_RESET_PEND 0 = 1 ∧ t.port.resetAt = some (s.now + 10000) ∧ t.resultCode = some 0 ∧ t.frame = s.frame) ∧
  (∀ (s : State) (k token : Nat), s.accepts k 0x27 = true → s.signedOnly = true → exec (.shFill k token) s = .next ((s.accepted k token 0x27).ended 0x08)) ∧
  (∀ (s : State) (k token : Nat) (r : Running), k < 32 → token < 256 → s.canIssue k = true → s.operator k = true → s.mgmtUp = true → s.busy = true → s.port.running = some r →
    s.refusal k 0x15 (s.argWords k) = none → r.opcode ≠ 0x12 → r.opcode ≠ 0x13 → s.port.resetAt = none → ∃ t, exec (.devReset k token) s = .next t ∧
    t.reg .CMP_STATUS_RESET_PEND 0 = 1 ∧ t.port.resetAt = some (s.now + 10000) ∧ t.reg .CMP_RESULT_STATE k = 2 ∧ t.reg .CMP_RESULT_RESULT k = 0 ∧
    t.reg .CMP_RESULT_OPCODE k = 0x15 ∧ t.reg .CMP_RESULT_TOKEN k = token ∧ t.port.running = some r ∧ t.frame = s.frame) ∧
  (∀ (s : State) (k token : Nat) (r : Running), k < 32 → s.canIssue k = true → s.operator k = true → s.mgmtUp = true → s.busy = true → s.port.running = some r →
    s.refusal k 0x15 (s.argWords k) = none → (r.opcode = 0x12 ∨ r.opcode = 0x13) → ∃ t, exec (.devReset k token) s = .next t ∧
    t.reg .CMP_STATUS_RESET_PEND 0 = s.reg .CMP_STATUS_RESET_PEND 0 ∧ t.port.resetAt = s.port.resetAt ∧ t.reg .CMP_RESULT_STATE k = 2 ∧ t.reg .CMP_RESULT_RESULT k = 6 ∧
    t.port.running = some r ∧ t.frame = s.frame)

/-- An accepted POOL_LEASE that passes every check of R516 holds the lowest FREE sheets, not yet live, under the handle of its first sheet with the slot, subscriber, access and key generation of the command, and its commit is asked for; one that fails, or of no or too many sheets, ends with its code. POOL_RELEASE and POOL_QUERY of no lease end with NO_LEASE; a release records the revocation of the lease's key and asks for its commit, or ends with REFUSED_RESYNC; a query returns the lease's fields. -/
def Obligations.LeasesOfPoolMemory : Prop :=
  (∀ (s : State) (k token e : Nat), s.accepts k 0x30 = true → bits (nth (s.argWords k) 1) 22 16 ≠ 0 → bits (nth (s.argWords k) 1) 22 16 ≤ 64 →
    (s.accepted k token 0x30).leaseRefusal (bits (nth (s.argWords k) 0) 9 0) (bits (nth (s.argWords k) 0) 20 16) (bits (nth (s.argWords k) 1) 9 0) (bits (nth (s.argWords k) 1) 22 16) = some e →
    exec (.poolLease k token) s = .next ((s.accepted k token 0x30).ended e)) ∧
  (∀ (s : State) (k token : Nat) (c : Commit), s.accepts k 0x30 = true → bits (nth (s.argWords k) 1) 22 16 ≠ 0 → bits (nth (s.argWords k) 1) 22 16 ≤ 64 → s.com.cur = some c →
    (s.accepted k token 0x30).leaseRefusal (bits (nth (s.argWords k) 0) 9 0) (bits (nth (s.argWords k) 0) 20 16) (bits (nth (s.argWords k) 1) 9 0) (bits (nth (s.argWords k) 1) 22 16) = none →
    ∃ (t : State) (l : Lease), exec (.poolLease k token) s = .next t ∧ t.pool.leases = s.pool.leases ++ [l] ∧ l.imprint = bits (nth (s.argWords k) 0) 9 0 ∧
      l.host = bits (nth (s.argWords k) 0) 20 16 ∧ l.slot = bits (nth (s.argWords k) 1) 9 0 ∧ l.count = bits (nth (s.argWords k) 1) 22 16 ∧
      l.readOnly = bit (nth (s.argWords k) 1) 24 ∧ l.sub = bits (nth (s.argWords k) 2) 13 0 ∧ l.gen = s.reg .BAL_KEY_SLOT_GEN l.imprint ∧ l.sheets = s.freeSheets (bits (nth (s.argWords k) 1) 22 16) ∧ l.handle = nth l.sheets 0 ∧ l.live = false ∧
      t.com.waiting = some (1, .lease l.handle, false) ∧ t.waitsFor = some (.lease l.handle) ∧ t.frame = s.frame) ∧
  (∀ (s : State) (k token : Nat), s.accepts k 0x30 = true → (bits (nth (s.argWords k) 1) 22 16 = 0 ∨ 64 < bits (nth (s.argWords k) 1) 22 16) →
    exec (.poolLease k token) s = .next ((s.accepted k token 0x30).ended 0x02)) ∧
  (∀ (s : State) (k token : Nat), s.accepts k 0x30 = true → bits (nth (s.argWords k) 1) 22 16 ≠ 0 → bits (nth (s.argWords k) 1) 22 16 ≤ 64 → s.com.cur = none →
    (s.accepted k token 0x30).leaseRefusal (bits (nth (s.argWords k) 0) 9 0) (bits (nth (s.argWords k) 0) 20 16) (bits (nth (s.argWords k) 1) 9 0) (bits (nth (s.argWords k) 1) 22 16) = none →
    ∃ t, exec (.poolLease k token) s = .next t ∧ t.waitsFor = some (.lease (nth (s.freeSheets (bits (nth (s.argWords k) 1) 22 16)) 0)) ∧
      t.com.cur.map (fun c => (c.origin, c.mask, c.phase)) = some (.lease (nth (s.freeSheets (bits (nth (s.argWords k) 1) 22 16)) 0), 1, .delivering) ∧
      t.busy = true ∧ t.frame = s.frame) ∧
  (∀ (s : State) (k token : Nat), s.accepts k 0x31 = true → s.namedLease false (nth (s.argWords k) 0) = none →
    exec (.poolRelease k token) s = .next ((s.accepted k token 0x31).ended 0x25)) ∧
  (∀ (s : State) (k token : Nat) (l : Lease) (c : Commit), s.accepts k 0x31 = true → s.namedLease false (nth (s.argWords k) 0) = some l → s.resyncing 1 = false → s.com.cur = some c →
    ∃ t, exec (.poolRelease k token) s = .next t ∧ t.keys.revs = s.keys.revs ++ [{ imprint := l.imprint, handle := some l.handle, refs := [l.key] }] ∧
      t.com.waiting = some (1, .release l.handle, false) ∧ t.waitsFor = some (.release l.handle) ∧ t.frame = s.frame) ∧
  (∀ (s : State) (k token : Nat) (l : Lease), s.accepts k 0x31 = true → s.namedLease false (nth (s.argWords k) 0) = some l → s.resyncing 1 = true →
    exec (.poolRelease k token) s = .next ((s.accepted k token 0x31).ended 0x0B)) ∧
  (∀ (s : State) (k token : Nat), s.accepts k 0x32 = true → s.namedLease (bit (nth (s.argWords k) 0) 16) (bits (nth (s.argWords k) 0) 9 0) = none →
    exec (.poolQuery k token) s = .next ((s.accepted k token 0x32).ended 0x25)) ∧
  (∀ (s : State) (k token : Nat) (l : Lease), s.accepts k 0x32 = true → s.namedLease (bit (nth (s.argWords k) 0) 16) (bits (nth (s.argWords k) 0) 9 0) = some l →
    exec (.poolQuery k token) s = .next ((s.accepted k token 0x32).ended 0 [l.imprint + 2 ^ 10 * l.host + 2 ^ 15 * flag l.readOnly + 2 ^ 16 * l.slot,
      l.count + 2 ^ 16 * l.sub, l.epoch % 2 ^ 32, l.epoch / 2 ^ 32, l.handle]))

/-- An accepted KEY_REVOKE of a READY slot makes it REVOKING, removes staged changes of what it invalidates, records the revocation of its leases' keys and its derived keys, and waits for it with its commit asked for; of a REVOKING slot it waits for the revocation that runs; of another it ends with BAD_ARG. KEY_QUERY returns the slot's two words and the import nonce. -/
def Obligations.OwnerKeysAreRevokedAndQueried : Prop :=
  (∀ (s : State) (k token : Nat) (c : Commit), nth (s.argWords k) 0 < 1024 → s.accepts k 0x39 = true → s.reg .BAL_KEY_SLOT_STATE (nth (s.argWords k) 0) = 1 → s.com.cur = some c →
    ∃ t, exec (.keyRevoke k token) s = .next t ∧ t.reg .BAL_KEY_SLOT_STATE (nth (s.argWords k) 0) = 2 ∧
      t.keys.revs = s.keys.revs ++ [{ imprint := nth (s.argWords k) 0, handle := none, refs := ((s.leasesOf (nth (s.argWords k) 0)).filter (·.live)).map Lease.key ++
        [.seal (nth (s.argWords k) 0) (s.reg .BAL_KEY_SLOT_GEN (nth (s.argWords k) 0)), .galley (nth (s.argWords k) 0) (s.reg .BAL_KEY_SLOT_GEN (nth (s.argWords k) 0))] }] ∧
      (∀ x ∈ t.com.staged, x ∈ s.com.staged ∧ ∀ l ∈ s.leasesOf (nth (s.argWords k) 0), ∀ y ∈ leaseChanges l false, y.key ≠ x.key) ∧
      t.com.waiting = some (1, .revoke (nth (s.argWords k) 0), false) ∧ t.com.cur = some c ∧ t.waitsFor = some (.revoke (nth (s.argWords k) 0)) ∧ t.frame = s.frame) ∧
  (∀ (s : State) (k token : Nat), nth (s.argWords k) 0 < 1024 → s.accepts k 0x39 = true → s.reg .BAL_KEY_SLOT_STATE (nth (s.argWords k) 0) = 1 → s.com.cur = none →
    ∃ t, exec (.keyRevoke k token) s = .next t ∧ t.reg .BAL_KEY_SLOT_STATE (nth (s.argWords k) 0) = 2 ∧
      t.com.cur.map (fun c => (c.origin, c.mask, c.phase)) = some (.revoke (nth (s.argWords k) 0), 1, .delivering) ∧ t.waitsFor = some (.revoke (nth (s.argWords k) 0)) ∧ t.frame = s.frame) ∧
  (∀ (s : State) (k token : Nat), s.accepts k 0x39 = true → s.reg .BAL_KEY_SLOT_STATE (nth (s.argWords k) 0) = 2 →
    exec (.keyRevoke k token) s = .next ((s.accepted k token 0x39).waitFor (.revoke (nth (s.argWords k) 0)))) ∧
  (∀ (s : State) (k token : Nat), s.accepts k 0x39 = true → (s.reg .BAL_KEY_SLOT_STATE (nth (s.argWords k) 0) = 0 ∨ s.reg .BAL_KEY_SLOT_STATE (nth (s.argWords k) 0) = 3) →
    exec (.keyRevoke k token) s = .next ((s.accepted k token 0x39).ended 0x02)) ∧
  (∀ (s : State) (k token : Nat), s.accepts k 0x3A = true → ∃ t, exec (.keyQuery k token) s = .next t ∧ t.resultCode = some 0 ∧
    (t.port.running.bind (·.result)).map (·.2) =
      some ([s.readWord k (0x31000 + 8 * nth (s.argWords k) 0), s.readWord k (0x31004 + 8 * nth (s.argWords k) 0)] ++ ((span 0 3).map (payWord ((Sparse.get? s.keys.nonces (nth (s.argWords k) 0)).getD 0)))) ∧ t.frame = s.frame)

/-- Accepted island commands: islands 50, 51 and 52 cannot be fenced or reset; a fence of a running or stopped island begins now and the command waits for it, as does one for a fence that runs already; an unfence of a running or stopped island ends at once, of a FENCED one it waits for its resynchronisation, of another it is refused with REFUSED_IN_USE. A reset of FENCED islands resets them; one of a running island with an open partner outside the set is refused with REFUSED_NOT_FENCED. Switching a domain on, or off behind a fence, is queued to the supervisor in the order of its island's domains; a running island's digital domain is not switched off, and the management core's own domain is refused. -/
def Obligations.IslandCommands : Prop :=
  (∀ (s : State) (k token : Nat), s.accepts k 0x40 = true → (55 < nth (s.argWords k) 0 ∨ nth (s.argWords k) 0 = 50 ∨ nth (s.argWords k) 0 = 51 ∨ nth (s.argWords k) 0 = 52) →
    exec (.islFence k token) s = .next ((s.accepted k token 0x40).ended 0x02)) ∧
  (∀ (s : State) (k token n : Nat), s.accepts k 0x40 = true → nth (s.argWords k) 0 = n → n < 56 → n ≠ 50 → n ≠ 51 → n ≠ 52 → (s.islState n = 2 ∨ s.islState n = 3) →
    s.fencing n = false → s.com.cur ≠ none →
    ∃ t, exec (.islFence k token) s = .next t ∧ t.isl.fences = s.isl.fences ++ [{ island := n, since := s.now }] ∧ t.islState n = s.islState n ∧
      t.waitsFor = some (.fence n) ∧ t.frame = s.frame) ∧
  (∀ (s : State) (k token n : Nat), s.accepts k 0x40 = true → nth (s.argWords k) 0 = n → n < 56 → n ≠ 50 → n ≠ 51 → n ≠ 52 → s.fencing n = true →
    exec (.islFence k token) s = .next ((s.accepted k token 0x40).waitFor (.fence n))) ∧
  (∀ (s : State) (k token n : Nat), s.accepts k 0x41 = true → nth (s.argWords k) 0 = n → n ≤ 55 → (s.islState n = 2 ∨ s.islState n = 3) →
    exec (.islUnfence k token) s = .next ((s.accepted k token 0x41).ended 0)) ∧
  (∀ (s : State) (k token n : Nat), s.accepts k 0x41 = true → nth (s.argWords k) 0 = n → n ≤ 55 → s.islState n = 4 → (∀ p ∈ s.port.proofs, p.typ = 5 → 32 + p.target ≠ n) →
    (32 ≤ n → n ≤ 41 → s.rngOk = true) →
    ∃ t, exec (.islUnfence k token) s = .next t ∧ t.isl.resync.contains n = true ∧ t.islState n = 4 ∧ t.waitsFor = some (.unfence n) ∧ t.frame = s.frame) ∧
  (∀ (s : State) (k token n : Nat), s.accepts k 0x41 = true → nth (s.argWords k) 0 = n → (n ≤ 55 ∧ n ≠ 52 ∧ (s.islState n = 0 ∨ s.islState n = 1 ∨ s.islState n = 5)) →
    exec (.islUnfence k token) s = .next ((s.accepted k token 0x41).ended 0x06)) ∧
  (∀ (s : State) (k token : Nat), s.accepts k 0x42 = true →
    (setBits 56 (arg64 (s.argWords k) 0) = [] ∨ (∃ n ∈ setBits 56 (arg64 (s.argWords k) 0), 50 ≤ n ∧ n ≤ 52)) →
    exec (.islReset k token) s = .next ((s.accepted k token 0x42).ended 0x02)) ∧
  (∀ (s : State) (k token n : Nat), s.accepts k 0x42 = true → (n < 50 ∨ 52 < n) → setBits 56 (arg64 (s.argWords k) 0) = [n] → s.islState n = 4 →
    ∃ t, exec (.islReset k token) s = .next t ∧ t.islState n = 1 ∧ t.isl.resets.contains (n, s.now) = true ∧ (∀ o ∈ t.tr.outs, outInto n o = false) ∧
      t.resultCode = some 0 ∧ t.frame = s.frame) ∧
  (∀ (s : State) (k token n p : Nat), s.accepts k 0x42 = true → (n < 50 ∨ 52 < n) → setBits 56 (arg64 (s.argWords k) 0) = [n] → s.islState n = 2 →
    (partners n).contains p = true → p ≠ n → s.islState p ≠ 0 → s.islState p ≠ 5 →
    exec (.islReset k token) s = .next ((s.accepted k token 0x42).ended 0x07)) ∧
  (∀ (s : State) (k token : Nat), s.accepts k 0x43 = true → (bits (nth (s.argWords k) 0) 6 0 = 86 ∨ 89 < bits (nth (s.argWords k) 0) 6 0) →
    exec (.islPower k token) s = .next ((s.accepted k token 0x43).ended 0x02)) ∧
  (∀ (s : State) (k token d : Nat), s.accepts k 0x43 = true → bits (nth (s.argWords k) 0) 6 0 = d → d < 90 → d ≠ 86 → bit (nth (s.argWords k) 0) 8 = true → s.on .SUP_DOM_STATUS_PGOOD d = false →
    ∃ t, exec (.islPower k token) s = .next t ∧ t.isl.switchQ = s.isl.switchQ ++ ((((islDomains (domIsland d)).takeWhile (fun x => x != d)).filter
        (fun x => !s.on .SUP_DOM_STATUS_PGOOD x)) ++ [d]).map (fun x => { dom := x, on := true }) ∧
      t.waitsFor = some (.power d) ∧ t.frame = s.frame) ∧
  (∀ (s : State) (k token d : Nat), s.accepts k 0x43 = true → bits (nth (s.argWords k) 0) 6 0 = d → d < 90 → d ≠ 86 → bit (nth (s.argWords k) 0) 8 = false →
    s.islState (domIsland d) = 4 → s.on .SUP_DOM_STATUS_ON d = true →
    ∃ t, exec (.islPower k token) s = .next t ∧ t.isl.switchQ = s.isl.switchQ ++ ((((islDomains (domIsland d)).dropWhile (fun x => x != d)).filter
        (fun x => x != d && s.on .SUP_DOM_STATUS_ON x)) ++ [d]).map (fun x => { dom := x, on := false }) ∧
      t.waitsFor = some (.power d) ∧ t.frame = s.frame) ∧
  (∀ (s : State) (k token d : Nat), s.accepts k 0x43 = true → bits (nth (s.argWords k) 0) 6 0 = d → d < 90 → d ≠ 86 → bit (nth (s.argWords k) 0) 8 = false →
    32 ≤ domIsland d → domIsland d ≠ 52 → s.islState (domIsland d) = 2 → exec (.islPower k token) s = .next ((s.accepted k token 0x43).ended 0x07))

/-- Accepted commands: LINK_WIDTH of a port that is no fabric port, and CONTAIN or CONTAIN_RELEASE of a scope that does not exist, end with BAD_ARG; a width change of a fabric link that is not up, or that changes already, ends with its code; one to a subset of the lanes in use switches the transmitter at once, a wider one shows TX_PEND until its lanes are ready, and one of the partner's transmitter shows RX_PEND. CONTAIN of an imprint sets its quarantine bit and CONTAIN_RELEASE clears it, unless a cause of kind C is present. A proof that may start takes the lowest free handle, RUNNING, a march with its sheets in TEST; one of a target in use is refused; PROOF_STOP ends a running one STOPPED and frees an ended one; PROOF_END shows its outcome, but a lane test runs on. -/
def Obligations.LinksContainmentAndProofs : Prop :=
  (∀ (s : State) (k token : Nat), s.accepts k 0x48 = true → s.role (bits (nth (s.argWords k) 0) 6 0) ≠ 3 →
    exec (.linkWidth k token) s = .next ((s.accepted k token 0x48).ended 0x02)) ∧
  (∀ (s : State) (k token p : Nat), s.accepts k 0x48 = true → bits (nth (s.argWords k) 0) 6 0 = p → s.role p = 3 → widthCode (popCount 16 (nth (s.argWords k) 1)) ≠ 0 →
    nth (s.argWords k) 1 < 2 ^ (s.lanes p).length → s.fabActive p = false →
    exec (.linkWidth k token) s = .next ((s.accepted k token 0x48).ended 0x30 [0])) ∧
  (∀ (s : State) (k token p : Nat), s.accepts k 0x48 = true → bits (nth (s.argWords k) 0) 6 0 = p → bit (nth (s.argWords k) 0) 8 = false →
    widthCode (popCount 16 (nth (s.argWords k) 1)) ≠ 0 → nth (s.argWords k) 1 < 2 ^ (s.lanes p).length → s.fabActive p = true → (s.dlink p).chTx.isSome = true →
    exec (.linkWidth k token) s = .next ((s.accepted k token 0x48).ended 0x30 [0])) ∧
  (∀ (s : State) (k token p m : Nat), s.accepts k 0x48 = true → bits (nth (s.argWords k) 0) 6 0 = p → p < 128 → bit (nth (s.argWords k) 0) 8 = false → nth (s.argWords k) 1 = m →
    widthCode (popCount 16 m) ≠ 0 → m < 2 ^ (s.lanes p).length → m < 2 ^ 16 → s.fabActive p = true → (s.dlink p).chTx = none → m &&& s.reg .TILE_DL_MASK_TX_MASK (p / 4) = m →
    ∃ t, exec (.linkWidth k token) s = .next t ∧ t.reg .TILE_DL_MASK_TX_MASK (p / 4) = m ∧ t.reg .TILE_DL_STATUS_TX_WIDTH (p / 4) = widthCode (popCount 16 m) ∧
      t.reg .TILE_DL_STATUS_TX_PEND (p / 4) = 0 ∧ t.resultCode = some 0 ∧ t.frame = s.frame) ∧
  (∀ (s : State) (k token p m : Nat), s.accepts k 0x48 = true → bits (nth (s.argWords k) 0) 6 0 = p → p < 128 → bit (nth (s.argWords k) 0) 8 = false → nth (s.argWords k) 1 = m →
    widthCode (popCount 16 m) ≠ 0 → m < 2 ^ (s.lanes p).length → s.fabActive p = true → (s.dlink p).chTx = none → m &&& s.reg .TILE_DL_MASK_TX_MASK (p / 4) ≠ m →
    ∃ t, exec (.linkWidth k token) s = .next t ∧ t.reg .TILE_DL_STATUS_TX_PEND (p / 4) = 1 ∧ (t.dlink p).chTx = some { mask := m, widening := true, since := s.now, byCommand := true } ∧
      t.reg .TILE_DL_MASK_TX_MASK (p / 4) = s.reg .TILE_DL_MASK_TX_MASK (p / 4) ∧ t.waitsFor = some (.width p) ∧ t.resultCode = none ∧ t.frame = s.frame) ∧
  (∀ (s : State) (k token p m : Nat), s.accepts k 0x48 = true → bits (nth (s.argWords k) 0) 6 0 = p → p < 128 → bit (nth (s.argWords k) 0) 8 = true → nth (s.argWords k) 1 = m →
    widthCode (popCount 16 m) ≠ 0 → m < 2 ^ (s.lanes p).length → s.fabActive p = true → (s.dlink p).chRx = none →
    ∃ t, exec (.linkWidth k token) s = .next t ∧ t.reg .TILE_DL_STATUS_RX_PEND (p / 4) = 1 ∧
      (t.dlink p).chRx = some { mask := m, widening := m &&& s.reg .TILE_DL_MASK_RX_MASK (p / 4) != m, since := s.now, byCommand := true } ∧
      t.waitsFor = some (.width p) ∧ t.resultCode = none ∧ t.frame = s.frame) ∧
  (∀ (s : State) (k token : Nat), s.accepts k 0x50 = true → s.scopeOk (nth (s.argWords k) 0) (nth (s.argWords k) 1) = false →
    exec (.contain k token) s = .next ((s.accepted k token 0x50).ended 0x02)) ∧
  (∀ (s : State) (k token i : Nat), s.accepts k 0x50 = true → nth (s.argWords k) 0 = 2 → nth (s.argWords k) 1 = i → i < 1024 →
    ∃ t, exec (.contain k token) s = .next t ∧ t.quarantined i = true ∧ t.resultCode = some 0 ∧ t.frame = s.frame) ∧
  (∀ (s : State) (k token i : Nat), s.accepts k 0x51 = true → nth (s.argWords k) 0 = 2 → nth (s.argWords k) 1 = i → i < 1024 →
    s.flt.causes.any (fun c => c.kind == 2 && c.scope == i) = false →
    ∃ t, exec (.containRelease k token) s = .next t ∧ t.quarantined i = false ∧ t.resultCode = some 0 ∧ t.frame = s.frame) ∧
  (∀ (s : State) (k token : Nat), s.accepts k 0x51 = true → s.scopeOk (nth (s.argWords k) 0) (nth (s.argWords k) 1) = false →
    exec (.containRelease k token) s = .next ((s.accepted k token 0x51).ended 0x02)) ∧
  (∀ (s : State) (k token : Nat), s.accepts k 0x51 = true → s.scopeOk (nth (s.argWords k) 0) (nth (s.argWords k) 1) = true →
    s.flt.causes.any (fun c => c.kind == nth (s.argWords k) 0 && c.scope == nth (s.argWords k) 1) = true →
    exec (.containRelease k token) s = .next ((s.accepted k token 0x51).ended 0x0D)) ∧
  (∀ (s : State) (k token h : Nat), k < 32 → s.accepts k 0x58 = true → nth (s.argWords k) 0 = 6 → nth (s.argWords k) 1 < 8 → nth (s.argWords k) 2 = 0 →
    (List.range 8).find? (fun i => s.reg .CMP_PROOF_STATE i == 0) = some h →
    ∃ t, exec (.proofStart k token) s = .next t ∧ t.reg .CMP_PROOF_STATE h = 1 ∧ t.reg .CMP_PROOF_TYPE h = 6 ∧ t.reg .CMP_PROOF_HOST_INDEX h = k ∧
      t.port.proofs = s.port.proofs ++ [{ handle := h, typ := 6, target := nth (s.argWords k) 1, param := 0 }] ∧ t.resultCode = some 0 ∧ t.frame = s.frame) ∧
  (∀ (s : State) (k token h a n : Nat), k < 32 → s.accepts k 0x58 = true → nth (s.argWords k) 0 = 2 → nth (s.argWords k) 1 = a → nth (s.argWords k) 2 = n → 1 ≤ n → a + n ≤ 1024 →
    (∀ i, i < 1024 → a ≤ i → i < a + n → s.reg .MEM_SHEET_STATE i = 0) → (List.range 8).find? (fun i => s.reg .CMP_PROOF_STATE i == 0) = some h →
    ∃ t, exec (.proofStart k token) s = .next t ∧ t.reg .CMP_PROOF_STATE h = 1 ∧ t.reg .CMP_PROOF_TYPE h = 2 ∧ (∀ i, i < 1024 → a ≤ i → i < a + n → t.reg .MEM_SHEET_STATE i = 5) ∧
      (t.port.running.bind (·.result)) = some (0, [h]) ∧ t.frame = s.frame) ∧
  (∀ (s : State) (k token : Nat), s.accepts k 0x58 = true → s.proofArgs (nth (s.argWords k) 0) (nth (s.argWords k) 1) (nth (s.argWords k) 2) = true →
    (List.range 8).any (fun i => s.reg .CMP_PROOF_STATE i == 0) = true → s.proofBlocked (nth (s.argWords k) 0) (nth (s.argWords k) 1) (nth (s.argWords k) 2) = true →
    exec (.proofStart k token) s = .next ((s.accepted k token 0x58).ended 0x06)) ∧
  (∀ (s : State) (k token h : Nat), s.accepts k 0x59 = true → nth (s.argWords k) 0 = h → s.reg .CMP_PROOF_STATE h = 1 → s.port.proofs.any (fun p => p.handle == h) = true →
    ∃ t, exec (.proofStop k token) s = .next t ∧ t.reg .CMP_PROOF_STATE h = 2 ∧ t.reg .CMP_PROOF_OUTCOME h = 2 ∧ (∀ p ∈ t.port.proofs, p.handle ≠ h) ∧ t.resultCode = some 0 ∧ t.frame = s.frame) ∧
  (∀ (s : State) (k token h : Nat), s.accepts k 0x59 = true → nth (s.argWords k) 0 = h → s.reg .CMP_PROOF_STATE h = 2 →
    ∃ t, exec (.proofStop k token) s = .next t ∧ t.reg .CMP_PROOF_STATE h = 0 ∧ t.reg .CMP_PROOF_TYPE h = 0 ∧ t.resultCode = some 0 ∧ t.frame = s.frame) ∧
  (∀ (s : State) (h : Nat) (fail : Bool) (rows : List (Nat × Nat × Nat)) (p : Proof), s.port.proofs.find? (fun p => p.handle == h) = some p → p.typ ≠ 1 →
    ∃ t, exec (.proofEnd h fail rows) s = .next t ∧ t.reg .CMP_PROOF_STATE h = 2 ∧ t.reg .CMP_PROOF_OUTCOME h = flag fail ∧ t.reg .CMP_PROOF_PROGRESS h = 100 ∧
      (∀ q ∈ t.port.proofs, q.handle ≠ h) ∧ t.frame = s.frame) ∧
  (∀ (s : State) (h : Nat) (fail : Bool) (rows : List (Nat × Nat × Nat)) (p : Proof), s.port.proofs.find? (fun p => p.handle == h) = some p → p.typ = 1 →
    exec (.proofEnd h fail rows) s = .next { s with out := [] })

/-- When the running command has its result, with no other change waiting, no command runs any more and BUSY is 0; its issuer's CMP_RESULT is DONE with the code, opcode and token and its return words are the ones returned (zero beyond them), or, where a reset of its host discards it, NONE. Without a running command, or with one that still waits, nothing changes. -/
def Obligations.CommandsEnd : Prop :=
  (∀ (s : State) (r : Running) (code : Nat) (ret : List Nat), s.port.running = some r → r.result = some (code, ret) → r.discard = false → r.host < 32 → code < 256 →
    r.opcode < 256 → r.token < 256 → (∀ x ∈ ret, x < 2 ^ 32) → s.port.lockDrop = false → s.on .CMP_STATUS_RESET_PEND = false → s.com.cur = none → s.com.waiting = none → s.com.hierQ = [] → s.com.redo = [] →
    s.mgmtUp = true → ∃ t, exec .commandDone s = .next t ∧ t.busy = false ∧ t.port.running = none ∧ t.reg .CMP_RESULT_STATE r.host = 2 ∧
      t.reg .CMP_RESULT_RESULT r.host = code ∧ t.reg .CMP_RESULT_OPCODE r.host = r.opcode ∧ t.reg .CMP_RESULT_TOKEN r.host = r.token ∧
      (∀ n, n < 16 → t.reg .CMP_RET_VALUE (16 * r.host + n) = nth ret n) ∧ t.frame = s.frame) ∧
  (∀ (s : State) (r : Running) (code : Nat) (ret : List Nat), s.port.running = some r → r.result = some (code, ret) → r.discard = true →
    s.port.lockDrop = false → s.on .CMP_STATUS_RESET_PEND = false → s.com.cur = none → s.com.waiting = none → s.com.hierQ = [] → s.com.redo = [] →
    s.mgmtUp = true → ∃ t, exec .commandDone s = .next t ∧ t.busy = false ∧ t.port.running = none ∧ t.reg .CMP_RESULT_STATE r.host = 0 ∧
      KeepsRegs s t [(.CMP_RESULT_STATE, r.host), (.CMP_STATUS_BUSY, 0), (.CMP_STATUS_INTERNAL, 0)] ∧ t.frame = s.frame) ∧
  (∀ s : State, s.port.running = none → exec .commandDone s = .next { s with out := [] }) ∧
  (∀ (s : State) (r : Running), s.port.running = some r → r.result = none → r.wait ≠ .dma → exec .commandDone s = .next { s with out := [] })

/-- When PERST_N of a host port rises and nothing else holds it, its port trains. A reset of a host port whose link is up (with a commit in progress) takes the link down, stops the host's engine, retires the host's requests and configuration writes, puts its virtual registers and command results at their reset values and, in P5, asks for a hierarchy change; before P5 it affects the port's colophon view alone. A PERST_N of a host index without a port is remembered. A function level reset of an assigned function clears its virtual registers and asks for one too; one of the management endpoint stops its engine, quarantines its tags and clears its registers. -/
def Obligations.HostPortsAndFunctionsAreReset : Prop :=
  (∀ (s : State) (k p : Nat), s.link.perstLow.contains k = true → s.stalled = false → s.hostPort k = some p → s.role p = 1 →
    (∀ r, s.portRec p = some r → r.hostIndex = k) → 4 ≤ s.phase → s.reg .FLT_PORT_STATE p ≠ 1 → s.running (p / 4) = true → s.fencing (p / 4) = false →
    (∀ l ∈ s.lanes p, s.inTest l = false) → ∃ t, exec (.perstNRise k) s = .next t ∧ t.link.training.contains p = true ∧
      t.link.perstLow.contains k = false ∧ t.regs = s.regs ∧ t.frame = s.frame) ∧
  (∀ (s : State) (k : Nat), s.link.perstLow.contains k = false → exec (.perstNRise k) s = .next { s with out := [] }) ∧
  (∀ (s : State) (k p : Nat) (c : HostReset) (r : PortRec), s.stalled = false → s.hostPort k = some p → s.portRec p = some r → r.hostIndex = k →
    s.on .TILE_PORT_STATUS_LINK_UP p = true → s.phase = 5 → s.com.cur ≠ none → ∃ t, exec (.hostPortReset k c) s = .next t ∧
      t.reg .TILE_PORT_STATUS_LINK_UP p = 0 ∧ t.reg .CMP_DMA_STATUS_STATE k = 2 ∧
      (∀ e ∈ t.link.vregs, e.1.host ≠ k) ∧ (∀ o ∈ t.tr.outs, o.src ≠ .host k) ∧ t.reg .CMP_RESULT_STATE k = 0 ∧
      (∀ n, n < 32 → t.reg .CMP_ARG_VALUE (32 * k + n) = 0) ∧ t.com.hierQ.length = (s.com.hierQ.filter (fun w => w.host != k)).length + 1 ∧
      (∀ w ∈ s.com.hierQ, w.host ≠ k → w ∈ t.com.hierQ) ∧ (∀ w ∈ t.com.owed, w.host ≠ k) ∧ t.frame = s.frame) ∧
  (∀ (s : State) (k p : Nat) (c : HostReset) (r : PortRec), s.stalled = false → s.hostPort k = some p → s.portRec p = some r → r.hostIndex = k →
    s.on .TILE_PORT_STATUS_LINK_UP p = true → s.phase < 5 → s.com.cur ≠ none → ∃ t, exec (.hostPortReset k c) s = .next t ∧
      t.reg .TILE_PORT_STATUS_LINK_UP p = 0 ∧ t.reg .CMP_DMA_STATUS_STATE k = 2 ∧
      (∀ e ∈ t.link.vregs, e.1.host ≠ k) ∧ t.com = s.com ∧ t.flt.reportQ = s.flt.reportQ ∧ t.frame = s.frame) ∧
  (∀ (s : State) (k : Nat), s.stalled = false → s.hostPort k = none → k < 32 → exec (.hostPortReset k .perst) s =
    .next { s with out := [], link := { s.link with perstLow := addTo k s.link.perstLow } }) ∧
  (∀ (s : State) (k v f rid i : Nat) (h : HierRec), s.assignAt k v = some h → s.fnRid h f = some rid → s.fnIx h f = some i → s.com.cur ≠ none →
    ∃ t, exec (.functionLevelReset k v f) s = .next t ∧ (∀ e ∈ t.link.vregs, ¬(e.1.host = k ∧ e.1.target = .fn v i)) ∧
      t.com.hierQ.length = s.com.hierQ.length + 1 ∧ (h.kind ≠ 3 → t.out = [.forward (hierPort h) rid "FLR"]) ∧ t.regs = s.regs ∧ t.tr = s.tr ∧ t.frame = s.frame) ∧
  (∀ (s : State) (k v f : Nat), s.assignAt k v = none → exec (.functionLevelReset k v f) s = .next { s with out := [] }) ∧
  (∀ (s : State) (k : Nat), s.hasMep k = true → ∃ t, exec (.mgmtEndpointFlr k) s = .next t ∧ t.reg .CMP_DMA_STATUS_STATE k = 2 ∧
    (∀ e ∈ t.link.dma, e.host = k → e.quarantined = true) ∧ (∀ e ∈ t.link.vregs, ¬(e.1.host = k ∧ e.1.target = .mep)) ∧
    t.reg .CMP_RESULT_STATE k = 0 ∧ t.reg .CMP_DMA_LATE_COUNT k = 0 ∧ t.tr = s.tr ∧ t.frame = s.frame)

/-- A configuration request of a host whose link is up: to nothing it gets Unsupported Request; a read of a lost device all ones and a write Unsupported Request; the management endpoint reads as device 0x9256 of vendor 0x1F3E and takes its timeout value. A write that moves a decode range (out of safe mode, with a commit in progress) waits for a hierarchy change and is not yet visible. From a host whose link is down nothing happens. -/
def Obligations.ConfigurationRequestsAreAnswered : Prop :=
  (∀ (s : State) (k v : Nat) (t : CfgTarget) (r : CfgReg) (w : Bool), s.cfgHost k = true → s.findTarget k t = .nothing →
    exec (.configRequest k t r w v) s = .next { s with out := [.cfg k .ur 0] }) ∧
  (∀ (s : State) (k v : Nat) (t : CfgTarget) (r : CfgReg), s.cfgHost k = true → s.findTarget k t = .lost →
    exec (.configRequest k t r false v) s = .next { s with out := [.cfg k .sc (2 ^ 32 - 1)] } ∧
    exec (.configRequest k t r true v) s = .next { s with out := [.cfg k .ur 0] }) ∧
  (∀ (s : State) (k v : Nat), s.cfgHost k = true → exec (.configRequest k .mep .vendorDevice false v) s = .next { s with out := [.cfg k .sc 0x92561F3E] } ∧
    exec (.configRequest k .mep .vendorDevice true v) s = .next { s with out := [.cfg k .sc 0] }) ∧
  (∀ (s : State) (k v : Nat), s.cfgHost k = true → ∃ t, exec (.configRequest k .mep .devCtl2 true v) s = .next t ∧ t.vreg k .mep .devCtl2 = v % 16 ∧
    (∀ (j : Nat) (g : CfgTarget) (r : CfgReg), ¬(j = k ∧ g = .mep ∧ r = .devCtl2) → t.vreg j g r = s.vreg j g r) ∧ t.out = [.cfg k .sc 0] ∧ t.regs = s.regs ∧ t.frame = s.frame) ∧
  (∀ (s : State) (k v : Nat) (t : CfgTarget) (r : CfgReg) (w : Bool), s.cfgHost k = false → exec (.configRequest k t r w v) s = .next { s with out := [] }) ∧
  (∀ (s : State) (k p v w : Nat) (g : CfgTarget) (r : CfgReg), s.hostPort k = some p → s.decodeKeep k g r v = some w → s.phase = 5 →
    s.on .TILE_PORT_STATUS_LINK_UP p = true → s.movesDecode k g r v = true → s.safeMode = false → s.isl.mgmt = none → s.com.cur ≠ none →
    ∃ t, exec (.hierarchyChange k g r v) s = .next t ∧
      t.com.hierQ = s.com.hierQ ++ [{ host := k, target := s.keepTarget k g, reg := r, value := w }] ∧ t.link = s.link ∧ t.regs = s.regs ∧ t.frame = s.frame) ∧
  (∀ (s : State) (k v : Nat) (g : CfgTarget) (r : CfgReg), s.hostPort k = none → exec (.hierarchyChange k g r v) s = .next { s with out := [] })

/-- Clearing Bus Master Enable of an endpoint that may master stops its engine and puts its outstanding tags into quarantine; setting it in D0 brings a STOPPED engine to IDLE. A read timeout retires its tag, quarantines the host's others, sets Completion Timeout Status in the endpoint's AER, ends the host's command that reads with DMA_ERROR and frees the engine. A late completion of a quarantined tag counts, and with its last byte the tag leaves; the tag leaves at its time at the latest. -/
def Obligations.DmaEnginesStopAndRecover : Prop :=
  (∀ (s : State) (k : Nat), s.hasMep k = true → s.mayMaster k = true → ∃ t, exec (.busMasterEnableClear k) s = .next t ∧
    t.reg .CMP_DMA_STATUS_STATE k = 2 ∧ bit (t.vreg k .mep .command) 2 = false ∧ (∀ e ∈ t.link.dma, e.host = k → e.quarantined = true) ∧ t.tr = s.tr ∧ t.frame = s.frame) ∧
  (∀ (s : State) (k : Nat), s.hasMep k = true → s.vreg k .mep .pmcsr % 4 ≠ 3 → s.reg .CMP_DMA_STATUS_STATE k = 2 →
    ∃ t, exec (.busMasterEnableSet k) s = .next t ∧ t.reg .CMP_DMA_STATUS_STATE k = 0 ∧ bit (t.vreg k .mep .command) 2 = true ∧
      KeepsRegs s t [(.CMP_DMA_STATUS_STATE, k)] ∧ t.link.dma = s.link.dma ∧ t.tr = s.tr ∧ t.frame = s.frame) ∧
  (∀ (s : State) (k : Nat), s.hasMep k = false → exec (.busMasterEnableClear k) s = .next { s with out := [] } ∧
    exec (.busMasterEnableSet k) s = .next { s with out := [] }) ∧
  (∀ (s : State) (k n : Nat) (e : DmaTag), s.dmaTag k n = some e → e.quarantined = false → ∃ t, exec (.dmaReadTimeout k n) s = .next t ∧
    t.dmaTag k n = none ∧ (∀ x ∈ t.link.dma, x.host = k → x.quarantined = true) ∧ t.now = max s.now e.due ∧
    bit (t.vreg k .mep .aerStatus) 14 = true ∧ (s.waitsFor = some .dma → s.port.running.map (·.host) = some k → s.resultCode = none → t.resultCode = some 0x17) ∧
    t.reg .CMP_DMA_STATUS_STATE k ≠ 1 ∧ KeepsRegs s t [(.CMP_DMA_STATUS_STATE, k), (.SUP_COL_RECOV_STATUS_STATE, 0), (.SUP_COL_RECOV_STATUS_RESULT, 0)] ∧
    t.flash = s.flash ∧ t.part = s.part ∧ t.pool = s.pool) ∧
  (∀ (s : State) (k n : Nat) (e : DmaTag), s.dmaTag k n = some e → e.quarantined = true →
    (∃ t, exec (.quarantineLateCompletion k n true) s = .next t ∧ t.dmaTag k n = none ∧
      t.reg .CMP_DMA_LATE_COUNT k = min (2 ^ Fld.CMP_DMA_LATE_COUNT.width - 1) (s.reg .CMP_DMA_LATE_COUNT k + 1) ∧
      KeepsRegs s t [(.CMP_DMA_LATE_COUNT, k)] ∧ t.frame = s.frame) ∧
    exec (.quarantineLateCompletion k n false) s = .next ({ s with out := [] }.bump .CMP_DMA_LATE_COUNT k) ∧
    ∃ t, exec (.quarantineTimeout k n) s = .next t ∧ t.dmaTag k n = none ∧ t.now = max s.now e.due ∧ t.regs = s.regs ∧ t.pool = s.pool) ∧
  (∀ (s : State) (k n : Nat) (b : Bool), s.dmaTag k n = none → exec (.dmaReadTimeout k n) s = .next { s with out := [] } ∧
    exec (.quarantineLateCompletion k n b) s = .next { s with out := [] } ∧ exec (.quarantineTimeout k n) s = .next { s with out := [] })

/-- A host or device port that trains (or leaves Loopback) is up at the lowest rate of the parties and the trained width. A device whose functions stand on the buses of R233 is known with its BARs placed. A device port that goes down is down, no request to it stays outstanding, and with presence still asserted (fewer than 64 reports waiting in its tile) source 0x22 is reported. In L1 the running lanes sleep, receivers unlocked, and they wake and relock at its exit. A port whose forme allows it follows a loopback request: its link goes down and its lanes run on; at another port the link goes down and source 0x58 is reported. A host clears DPC Trigger Status in its view. Flits are sent again from the oldest unacknowledged one 600 ns after the last advance; a bad flit gets a NAK. -/
def Obligations.PortLinksComeAndGo : Prop :=
  (∀ (s : State) (p : Nat) (x : Training) (sl : LanePort) (tile : LaneTile) (r : PortRec), s.stalled = false → (s.role p = 1 ∨ s.role p = 2) →
    (s.link.training.contains p = true ∨ s.link.follow.contains p = true) → s.mayTrain p = true → s.slotRec p = some sl → s.tileRec (p / 4) = some tile → s.portRec p = some r →
    s.trainWidth p (s.lanes p).length x.width = true → 1 ≤ trainRate sl.maxRate x.partnerRate (r.cxl && x.cxl) →
    ∃ t, exec (.portTrained p x) s = .next t ∧ t.reg .TILE_PORT_STATUS_LINK_UP p = 1 ∧
      t.reg .TILE_PORT_STATUS_RATE p = trainRate sl.maxRate x.partnerRate (r.cxl && x.cxl) ∧ t.reg .TILE_PORT_STATUS_WIDTH p = x.width ∧
      t.reg .TILE_PORT_STATUS_CXL p = flag (r.cxl && x.cxl) ∧ t.link.training.contains p = false ∧ t.link.follow.contains p = false ∧ t.frame = s.frame) ∧
  (∀ (s : State) (p : Nat) (fns : List DevFn), s.role p = 2 → s.on .TILE_PORT_STATUS_LINK_UP p = true → s.reg .FLT_PORT_STATE p = 0 →
    fns.all busesOk = true → (s.phase < 5 ∨ s.com.cur ≠ none) → ∃ t, exec (.deviceEnumerated p fns) s = .next t ∧
      t.link.devices.find? (fun d => d.port == p) = some { port := p, fns, bars := placeBars (numVfs s.com.hier p) fns } ∧ t.regs = s.regs ∧ t.frame = s.frame) ∧
  (∀ (s : State) (p : Nat), s.role p = 2 → p < 128 → s.on .TILE_PORT_STATUS_LINK_UP p = true → ∃ t, exec (.devicePortLinkDown p) s = .next t ∧
    t.reg .TILE_PORT_STATUS_LINK_UP p = 0 ∧ t.reg .TILE_PORT_STATUS_RATE p = 0 ∧ t.reg .TILE_PORT_STATUS_WIDTH p = 0 ∧ (∀ o ∈ t.tr.outs, o.port ≠ p) ∧
    (s.stillPresent p = true → (s.flt.reportQ.filter (fun r => r.isl == p / 4)).length < 64 → t.flt.reportQ.any (fun r => r.source == 0x22 && r.kind == 1 && r.scope == p) = true) ∧
    t.frame = s.frame) ∧
  (∀ (s : State) (p : Nat), s.pcieUp p = true → s.link.quiet.contains p = false → ∃ t, exec (.l1Entry p) s = .next t ∧ t.link.quiet.contains p = true ∧
    (∀ l ∈ s.lanes p, (s.reg .TILE_LANE_STATUS_TX_STATE l = 1 → t.reg .TILE_LANE_STATUS_TX_STATE l = 2) ∧
      (s.reg .TILE_LANE_STATUS_RX_STATE l = 1 → t.reg .TILE_LANE_STATUS_RX_STATE l = 2 ∧ t.reg .TILE_LANE_STATUS_CDR_LOCK l = 0)) ∧ t.tr = s.tr ∧ t.frame = s.frame) ∧
  (∀ (s : State) (p : Nat), s.link.quiet.contains p = true → ∃ t, exec (.l1Exit p) s = .next t ∧ t.link.quiet.contains p = false ∧
    (∀ l ∈ s.lanes p, ((s.reg .TILE_LANE_STATUS_TX_STATE l = 2 ∨ s.reg .TILE_LANE_STATUS_TX_STATE l = 3) → t.reg .TILE_LANE_STATUS_TX_STATE l = 1) ∧
      ((s.reg .TILE_LANE_STATUS_RX_STATE l = 2 ∨ s.reg .TILE_LANE_STATUS_RX_STATE l = 3) → t.reg .TILE_LANE_STATUS_RX_STATE l = 1 ∧ t.reg .TILE_LANE_STATUS_CDR_LOCK l = 1)) ∧
    t.tr = s.tr ∧ t.frame = s.frame) ∧
  (∀ (s : State) (p : Nat) (sl : LanePort), s.slotRec p = some sl → sl.feAllow = true → (s.role p = 1 ∨ s.role p = 2) → (s.on .TILE_PORT_STATUS_LINK_UP p = true ∨ s.link.training.contains p = true) →
    ∃ t, exec (.loopbackRequest p) s = .next t ∧ t.frame = s.frame ∧ t.link.follow.contains p = true ∧ t.link.training.contains p = false ∧
      t.on .TILE_PORT_STATUS_LINK_UP p = false ∧ (∀ l ∈ s.lanes p, t.reg .TILE_LANE_STATUS_TX_STATE l = 1 ∧ t.reg .TILE_LANE_STATUS_RX_STATE l = 1)) ∧
  (∀ (s : State) (p : Nat) (sl : LanePort), s.slotRec p = some sl → sl.feAllow = false → (s.role p = 1 ∨ s.role p = 2) → p < 128 →
    (s.on .TILE_PORT_STATUS_LINK_UP p = true ∨ s.link.training.contains p = true) → (s.flt.reportQ.filter (fun r => r.isl == p / 4)).length < 63 →
    ∃ t, exec (.loopbackRequest p) s = .next t ∧ t.frame = s.frame ∧ t.on .TILE_PORT_STATUS_LINK_UP p = false ∧
      t.flt.reportQ.any (fun r => r.source == 0x58 && r.scope == p) = true) ∧
  (∀ (s : State) (k v : Nat), s.phase = 5 → s.hostPort k ≠ none → ∃ t, exec (.dpcTriggerStatusClear k v) s = .next t ∧
    bit (t.vreg k (.vdsp v) .dpcStatus) 0 = false ∧ (∀ (j : Nat) (g : CfgTarget) (r : CfgReg), ¬(j = k ∧ g = .vdsp v ∧ r = .dpcStatus) → t.vreg j g r = s.vreg j g r) ∧
    t.regs = s.regs ∧ t.frame = s.frame) ∧
  (∀ (s : State) (p n : Nat) (l : List Nat) (f : FlitTx), s.link.flits.find? (fun f => f.port == p) = some f → f.unacked = n :: l → s.on .TILE_PORT_STATUS_FLIT p = true →
    ∃ t, exec (.pcieReplayTimer p) s = .next t ∧ t.out = [.ctl p "replay" n 0] ∧ t.now = max s.now (f.lastAdv + 600) ∧ t.regs = s.regs ∧ t.pool = s.pool) ∧
  (∀ (s : State) (p : Nat) (a n : Option Nat), s.on .TILE_PORT_STATUS_FLIT p = true → (s.role p = 1 ∨ s.role p = 2) →
    (∃ t, exec (.flitReceived p a n true) s = .next t ∧ t.out = [.ctl p "nak" 0 0] ∧ t.link = s.link ∧ t.regs = s.regs ∧ t.frame = s.frame) ∧
    ∀ m, exec (.flitReceived p (some m) none false) s = .next ({ s with out := [] }.flitAck p m)) ∧
  (∀ (s : State) (p : Nat), (s.role p ≠ 2 ∨ s.on .TILE_PORT_STATUS_LINK_UP p = false) → exec (.devicePortLinkDown p) s = .next { s with out := [] })

/-- On a link that is up: a PTM request gets the device time base and changes nothing; key management or device set-up makes the IDE stream secure under its key, for CXL.mem on a CXL port under a key of its own; skid mode is refused; a failure takes the streams insecure with a report; a device that requires IDE and does not get it is contained. SPDM certificates are returned from P2 on. ATS translation and page requests go to the host of the function's assignment, that host's invalidations and responses to the function, with their prefixes; a device's message goes to its host, a host's to the function that it names or, implicit toward its devices, to the ports of its assignments that are up (none of them behind a shut island), all with their prefixes. An I/O request gets Unsupported Request and changes nothing. A margining step goes to its lane. -/
def Obligations.MessagesTimeAndSecurityOfLinks : Prop :=
  (∀ (s : State) (p : Nat), s.role p = 2 → s.on .TILE_PORT_STATUS_LINK_UP p = true → exec (.ptmRequest p) s = .next { s with out := [.time p s.dev] }) ∧
  (∀ (s : State) (k p : Nat), s.hostPort k = some p → s.on .TILE_PORT_STATUS_LINK_UP p = true → exec (.ptmHostRequest k) s = .next { s with out := [.time p s.dev] }) ∧
  (∀ (s : State) (k p key : Nat), s.hostPort k = some p → s.on .TILE_PORT_STATUS_LINK_UP p = true → ∃ t, exec (.ideKm k ⟨key, false, false⟩) s = .next t ∧
    t.reg .TILE_PORT_STATUS_IDE p = 1 ∧ t.link.ideKeys = s.link.ideKeys.filter (fun e => e.1 != p) ++ [(p, key)] ∧ KeepsRegs s t [(.TILE_PORT_STATUS_IDE, p)] ∧ t.frame = s.frame) ∧
  (∀ (s : State) (k p key : Nat) (mem : Bool), s.hostPort k = some p → s.on .TILE_PORT_STATUS_LINK_UP p = true →
    exec (.ideKm k ⟨key, mem, true⟩) s = .next { s with out := [.message k "IDE mode not supported"] }) ∧
  (∀ (s : State) (k p key : Nat), s.hostPort k = some p → s.on .TILE_PORT_STATUS_LINK_UP p = true → s.on .TILE_PORT_STATUS_CXL p = true → ∃ t, exec (.ideKm k ⟨key, true, false⟩) s = .next t ∧
    Sparse.get? t.link.ideMem p = some key ∧ t.link.ideKeys = s.link.ideKeys ∧ t.regs = s.regs ∧ t.frame = s.frame) ∧
  (∀ (s : State) (p x : Nat), s.role p = 2 → s.on .TILE_PORT_STATUS_LINK_UP p = true →
    ∃ t, exec (.deviceIdeSetup p true x) s = .next t ∧ t.reg .TILE_PORT_STATUS_IDE p = 1 ∧
      t.link.ideKeys = s.link.ideKeys.filter (fun e => e.1 != p) ++ [(p, Config.linkKey (s.sysKey 4) x)] ∧ KeepsRegs s t [(.TILE_PORT_STATUS_IDE, p)] ∧ t.frame = s.frame) ∧
  (∀ (s : State) (p x : Nat), s.role p = 2 → s.on .TILE_PORT_STATUS_LINK_UP p = true → s.ideRequired p = false → exec (.deviceIdeSetup p false x) s = .next { s with out := [] }) ∧
  (∀ (s : State) (p x : Nat), s.role p = 2 → s.on .TILE_PORT_STATUS_LINK_UP p = true → s.ideRequired p = true → s.reg .FLT_PORT_STATE p = 0 →
    ∃ t, exec (.deviceIdeSetup p false x) s = .next t ∧ t.reg .FLT_PORT_STATE p = 1 ∧ t.frame = s.frame) ∧
  (∀ (s : State) (p : Nat), (s.on .TILE_PORT_STATUS_IDE p = true ∨ (Sparse.get? s.link.ideMem p).isSome = true) → ∃ t, exec (.ideFail p) s = .next t ∧ t.reg .TILE_PORT_STATUS_IDE p = 0 ∧
    (∀ e ∈ t.link.ideKeys, e.1 ≠ p) ∧ Sparse.get? t.link.ideMem p = none ∧
    t.flt.reportQ = queueReport (s.effSev 0x21 none) s.flt.reportQ { source := 0x21, kind := 1, scope := p, sev := none, isl := p / 4 } ∧
    KeepsRegs s t [(.TILE_PORT_STATUS_IDE, p)] ∧ t.frame = s.frame) ∧
  (∀ (s : State) (k i : Nat), 2 ≤ s.phase → 1 ≤ i → i ≤ 5 → exec (.spdmRequest (.doe k) (.getCertificate i)) s = .next { s with out := [.reply (.doe k) 0 (s.certBody i)] }) ∧
  (∀ (s : State) (k : Nat) (q : SpdmReq), s.phase < 2 → exec (.spdmRequest (.doe k) q) s = .next { s with out := [] }) ∧
  (∀ (s : State) (k p q rid : Nat) (h : HierRec) (a : AtsKind) (pre : List Nat), s.ownerOf p rid = some h → s.hostPort h.host = some q → s.portUp q = true →
    (a = .translation ∨ a = .pageRequest) → exec (.atsRequest true k p rid ⟨a, pre⟩) s = .next { s with out := [.ats true h.host p (s.srcRid (.device p rid) q) a pre] }) ∧
  (∀ (s : State) (p rid : Nat) (h : HierRec) (a : AtsKind) (pre : List Nat), s.ownerOf p rid = some h → s.portUp p = true → s.funcClosed p rid = false →
    (a = .invalidation ∨ a = .pageResponse) → exec (.atsRequest false h.host p rid ⟨a, pre⟩) s = .next { s with out := [.ats false h.host p rid a pre] }) ∧
  (∀ (s : State) (p q rid : Nat) (h : HierRec) (m : MsgRoute) (w : Bool), s.ownerOf p rid = some h → s.hostPort h.host = some q → s.portUp q = true → s.reg .FLT_PORT_STATE p = 0 →
    exec (.messageReceived (.device p rid) m w) s = .next { s with out := [.msg true h.host p rid m.pre] }) ∧
  (∀ (s : State) (k : Nat) (pre : List Nat), (∀ h ∈ s.com.hier, isAssign h = true → h.host = k → s.shutPort (hierPort h) = false) →
    exec (.messageReceived (.host k) ⟨none, pre⟩ false) s = .next { s with
      out := (s.com.hier.filter (fun h => isAssign h && h.host == k && s.portUp (hierPort h))).map (fun h => .msg false k (hierPort h) 0 pre) }) ∧
  (∀ (s : State) (k id p rid : Nat) (pre : List Nat) (w : Bool), s.fnOfId k id = some (p, rid) → s.portUp p = true → s.funcClosed p rid = false →
    exec (.messageReceived (.host k) ⟨some id, pre⟩ w) s = .next { s with out := [.msg false k p rid pre] }) ∧
  (∀ (s : State) (p rid k : Nat) (m : MsgRoute) (w : Bool) (a : AtsKind) (pre : List Nat), s.ownerOf p rid = none →
    exec (.messageReceived (.device p rid) m w) s = .next { s with out := [] } ∧ exec (.atsRequest w k p rid ⟨a, pre⟩) s = .next { s with out := [] }) ∧
  (∀ (s : State) (src : Source) (tag : Nat), exec (.ioRequest src tag) s = .next { s with out := [.cpl src tag .ur [] false] }) ∧
  (∀ (s : State) (l p x v : Nat), s.lanePort l = some p → s.role p ≠ 3 → s.reg .TILE_LANE_STATUS_RX_STATE l = 1 → 4 ≤ s.reg .TILE_LANE_STATUS_RATE l →
    x ≤ 32 → v ≤ 64 → exec (.laneMargining l x v) s = .next { s with out := [.ctl p "margin" x v] }) ∧
  (∀ (s : State) (l x v : Nat), s.lanePort l = none → exec (.laneMargining l x v) s = .next { s with out := [] })

/-- With its quad running and metering taking records: a posted write of a device that passes its checks toward a device port that is up stands in the switch as a packet of its entry's imprint to the descriptor's port at the outgoing address; a read without permission is answered with Completer Abort, counted and reported. A completion that matches a host's read and brings all its bytes goes to the host with the host's requester ID and tag and the completer's ID as that host knows it, and retires the request; one that matches none is logged with source 0x51. A request that times out is retired, counted, logged with source 0x23 and answered: a host's read with all ones, a device's request with Unsupported Request. A packet that has arrived and need not follow another joins the egress queue of its class. -/
def Obligations.RequestsAndCompletionsFindTheirWay : Prop :=
  (∀ (s : State) (r : Req) (p rid ent des : Nat), r.src = .device p rid → r.kind = .write → r.poison = false → r.bufUe = false → s.canArrive r = true → s.halted = false →
    s.reg .FLT_PORT_STATE p = 0 → s.funcClosed p rid = false → s.running (32 + quadOf r.inPort) = true → s.fencing (32 + quadOf r.inPort) = false → s.metHeld = false → s.com.flips = [] →
    (s.atTile r).policerOf r ((s.atTile r).domainOf r).1 = none →
    (s.atTile r).check (quadOf r.inPort) r ((s.atTile r).domainOf r).1 ((s.atTile r).domainOf r).2 = .ok ent des → s.quarantined (eImprint ent) = false →
    dKind des = 1 → s.portUp (dDestA des) = true → s.funcClosed (dDestA des) (dDestB des) = false →
    outAddr ent des ((s.atTile r).domainOf r).2 % s.pieceUnit 1 (dDestA des) true + max 1 r.len ≤ s.pieceUnit 1 (dDestA des) true →
    ∃ t, exec (.requestArrival r) s = .next t ∧ t.part = s.part ∧ t.flash = s.flash ∧ t.pool = s.pool ∧ t.now = (s.atDev r.ts).now ∧
      ∃ k ∈ t.tr.pkts, k.id = s.tr.nextId ∧ k.cls = .posted ∧ k.imprint = some (eImprint ent) ∧ k.dest = dDestA des ∧ k.destB = dDestB des ∧
        k.addr = outAddr ent des ((s.atTile r).domainOf r).2 ∧ k.req.data = r.data.take (max 1 r.len)) ∧
  (∀ (s : State) (r : Req) (p rid i : Nat), r.src = .device p rid → r.kind = .read → r.poison = false → s.canArrive r = true → s.halted = false →
    s.reg .FLT_PORT_STATE p = 0 → s.funcClosed p rid = false → s.running (32 + quadOf r.inPort) = true → s.fencing (32 + quadOf r.inPort) = false → s.metHeld = false → s.com.flips = [] →
    (s.atTile r).policerOf r ((s.atTile r).domainOf r).1 = none →
    (s.atTile r).check (quadOf r.inPort) r ((s.atTile r).domainOf r).1 ((s.atTile r).domainOf r).2 = .perm i →
    ∃ t, exec (.requestArrival r) s = .next t ∧ t.out = [.cpl (.device p rid) r.tag .ca [] false] ∧ t.tr = s.tr ∧
      t.flt.reportQ = queueReport (s.effSev 0x31 none) s.flt.reportQ { source := 0x31, kind := 3, scope := p * 4096 + rid, sev := none, isl := reportIsland 0x31 3 (p * 4096 + rid) } ∧
      t.reg .IMP_Q_COUNT_PERM (quadOf r.inPort) = min (2 ^ Fld.IMP_Q_COUNT_PERM.width - 1) (s.reg .IMP_Q_COUNT_PERM (quadOf r.inPort) + 1) ∧
      t.flash = s.flash ∧ t.part = s.part ∧ t.pool = s.pool) ∧
  (∀ (s : State) (c : Cpl), s.role c.inPort = 2 → s.on .TILE_PORT_STATUS_LINK_UP c.inPort = true → s.hasCredit c.inPort c.data.length = true → c.poison = false → s.running (32 + quadOf c.inPort) = true → s.metHeld = false → s.matchOut c = none →
    ∃ t, exec (.completionReceived c) s = .next t ∧
      t.flt.reportQ = queueReport (s.effSev 0x51 none) s.flt.reportQ { source := 0x51, kind := 0, scope := c.inPort, sev := none, isl := c.inPort / 4 } ∧
      t.tr = s.tr ∧ t.regs = s.regs ∧ t.out = [] ∧ t.pool = s.pool) ∧
  (∀ (s : State) (c : Cpl) (o : OutReq) (h q : Nat), s.role c.inPort = 2 → s.on .TILE_PORT_STATUS_LINK_UP c.inPort = true → s.hasCredit c.inPort c.data.length = true → c.poison = false → s.running (32 + quadOf c.inPort) = true → s.metHeld = false → s.matchOut c = some o →
    o.sealed = false → o.answered = false → o.fails = [] → o.poisonAt = [] → o.kind = .read → o.got = [] → c.status = .sc → c.offset = 0 → c.data ≠ [] → o.len ≤ c.data.length → o.src = .host h → s.hostPort h = some q →
    s.on .TILE_PORT_STATUS_LINK_UP q = true → ∃ t, exec (.completionReceived c) s = .next t ∧ (∀ x ∈ t.tr.outs, x.id ≠ o.id) ∧
      (∃ k ∈ t.tr.pkts, k.id = s.tr.nextId ∧ k.cls = .completion ∧ k.status = .sc ∧ k.dest = q ∧
        k.req.tag = o.tag ∧ k.req.rid = o.reqId ∧ k.cid = s.srcRid (.device o.port o.rid) q ∧ k.req.poison = false ∧ k.req.data = c.data) ∧ t.flash = s.flash ∧ t.part = s.part ∧ t.pool = s.pool) ∧
  (∀ (s : State) (i d : Nat) (o : OutReq), s.outReq i = some o → o.due = some d → ∃ t, exec (.completionTimeout i) s = .next t ∧ (∀ x ∈ t.tr.outs, x.id ≠ i) ∧
    t.reg .FLT_PORT_CTO o.port = min (2 ^ Fld.FLT_PORT_CTO.width - 1) (s.reg .FLT_PORT_CTO o.port + 1) ∧ KeepsRegs s t [(.FLT_PORT_CTO, o.port), (.SUP_XING_DROP_COUNT, 0)] ∧ t.now = max s.now d ∧
    t.flt.reportQ = queueReport (s.effSev 0x23 none) s.flt.reportQ (if s.role o.port = 2 then
      { source := 0x23, kind := 3, scope := o.port * 4096 + o.rid, sev := none, isl := reportIsland 0x23 3 (o.port * 4096 + o.rid) }
      else { source := 0x23, kind := 1, scope := o.port, sev := none, isl := o.port / 4 }) ∧
    t.flash = s.flash ∧ t.part = s.part ∧ t.pool = s.pool) ∧
  (∀ (s : State) (i d h : Nat) (o : OutReq), s.outReq i = some o → o.due = some d → o.answered = false → o.src = .host h → o.kind = .read →
    ∃ t, exec (.completionTimeout i) s = .next t ∧ t.out = [.cpl (.host h) o.tag .sc (ones (o.len - gotLen o)) false] ∧ t.outReq i = none ∧ t.part = s.part ∧ t.flash = s.flash) ∧
  (∀ (s : State) (i d p rid : Nat) (o : OutReq), s.outReq i = some o → o.due = some d → o.answered = false → o.src = .device p rid →
    ∃ t, exec (.completionTimeout i) s = .next t ∧ t.out = [.cpl (.device p rid) o.tag .ur [] false] ∧ t.outReq i = none ∧ t.part = s.part ∧ t.flash = s.flash) ∧
  (∀ (s : State) (i : Nat) (p : Pkt), s.pkt i = some p → p.place = .arrived → p.dest < 128 → (p.kind ≠ 3 ∨ p.cls ≠ .completion) → p.sealedReq = false → s.mustFollow p = false →
    ∃ t, exec (.egressQueueArrival i) s = .next t ∧ (∃ k ∈ t.tr.pkts, k.id = i ∧ k.q = .egress p.dest p.req.tc ∧ k.req = p.req ∧ k.enq = s.dev) ∧ t.frame = s.frame) ∧
  (∀ (s : State) (i : Nat), s.pkt i = none → exec (.egressQueueArrival i) s = .next { s with out := [] })

/-- A held packet goes to the galley store, or to the shared region when its queue holds nothing there and does not spill. A packet whose key is gone is freed unread; one that may be read back stands in the shared region again, without its pages, or, if it is bad, is discarded and logged with source 0x34 for its imprint or its quad. A queue that can take again admits. A draw advances its arbiter's LFSR by one, and at a memory output one transfer of the winner passes. -/
def Obligations.QueuesGalleyAndArbiters : Prop :=
  (∀ (s : State) (n : Nat) (p : Pkt) (ps : List Pkt) (u : State), s.inQ (QId.ofNat n) .blocked = p :: ps → { s with out := [] }.toGalley p.id = some u →
    exec (.galleyUnblock n) s = .next u) ∧
  (∀ (s : State) (n : Nat) (p : Pkt) (ps : List Pkt), s.inQ (QId.ofNat n) .blocked = p :: ps → s.toGalley p.id = none → s.inQ (QId.ofNat n) .galley = [] →
    s.spills (QId.ofNat n) p.cells = false → ∃ t, exec (.galleyUnblock n) s = .next t ∧
      t.tr.pkts = s.tr.pkts.map (fun x => if x.id == p.id then { x with place := .shared } else x) ∧ t.regs = s.regs ∧ t.frame = s.frame) ∧
  (∀ (s : State) (n : Nat), s.inQ (QId.ofNat n) .blocked = [] → exec (.galleyUnblock n) s = .next { s with out := [] }) ∧
  (∀ (s : State) (n : Nat) (p : Pkt) (ps : List Pkt) (b : Bool), s.inQ (QId.ofNat n) .galley = p :: ps → (s.keys.dead.contains p.key = true ∨ p.dead = true) →
    ∃ t, exec (.galleyReadBack n b) s = .next t ∧ (∀ x ∈ t.tr.pkts, x.id ≠ p.id) ∧ KeepsRegs s t [(.SUP_XING_DROP_COUNT, 0)] ∧ t.frame = s.frame) ∧
  (∀ (s : State) (n : Nat) (p : Pkt) (ps : List Pkt), s.inQ (QId.ofNat n) .galley = p :: ps → s.keys.dead.contains p.key = false → p.dead = false →
    cellSum (s.sharedQ (QId.ofNat n)) < s.reg .QD_SPILL_PROF_REFILL (s.profile (QId.ofNat n)) → p.cells ≤ s.sharedFree (QId.ofNat n).quad → s.pagesRun p = true →
    (∀ pg ∈ p.pages, s.keys.redeliver.contains (46 + pg % 4, p.key) = false) →
    (p.storeFlip ≠ 2 → ∃ t, exec (.galleyReadBack n false) s = .next t ∧
      t.tr.pkts = s.tr.pkts.map (fun x => if x.id == p.id then { x with place := .shared, pages := [], key := .transit } else x) ∧ t.regs = s.regs ∧ t.frame = s.frame) ∧
    ∃ t, exec (.galleyReadBack n true) s = .next t ∧ (∀ x ∈ t.tr.pkts, x.id ≠ p.id) ∧
      t.flt.reportQ = queueReport (s.effSev 0x34 none) s.flt.reportQ
        { source := 0x34, kind := if p.imprint.isSome then 2 else 0, scope := p.imprint.getD p.q.quad, sev := none, isl := 32 + p.q.quad } ∧
      KeepsRegs s t [(.SUP_XING_DROP_COUNT, 0)] ∧ t.frame = s.frame) ∧
  (∀ (s : State) (n : Nat), (s.queue (QId.ofNat n)).taking = false → s.canTake (QId.ofNat n) = true → ∃ t, exec (.admissionRestore n) s = .next t ∧
    (t.queue (QId.ofNat n)).taking = true ∧ (∀ q, q ≠ QId.ofNat n → t.queue q = s.queue q) ∧ t.tr.pkts = s.tr.pkts ∧ t.regs = s.regs ∧ t.frame = s.frame) ∧
  (∀ (s : State) (n : Nat), (s.queue (QId.ofNat n)).taking = true → exec (.admissionRestore n) s = .next { s with out := [] }) ∧
  (∀ (s : State) (a : ArbId), arbOk a = true → s.halted = false → (s.running (arbIsland a) = true ∨ s.fencing (arbIsland a) = true) →
    ∃ t, exec (.arbiterDraw a) s = .next t ∧ (t.arb a).lfsr = lfsrStep (s.arb a).lfsr ∧ t.frame = s.frame) ∧
  (∀ (s : State) (si m k i : Nat) (how : Won) (b : Bid) (p : Pkt), si < 2 → m < 4 → k < 4 → s.halted = false → s.running (40 + si) = true → s.closed (46 + m) = false → s.closed (42 + m) = false →
    ((s.arb (.spineMem si m k)).draw 8 (s.spineBids (.spineMem si m k))).1 = some (i, how) → (s.spineBids (.spineMem si m k)).find? (fun b => b.slot == i) = some b → s.pkt b.pkt = some p →
    ∃ t, exec (.arbiterDraw (.spineMem si m k)) s = .next t ∧
      ∃ x ∈ t.tr.pkts, x.id = p.id ∧ x.passed = p.passed + 1 ∧ x.place = (if p.cells ≤ p.passed + 1 then Place.cipher else p.place)) ∧
  (∀ (s : State) (a : ArbId), (arbOk a = false ∨ s.halted = true) → exec (.arbiterDraw a) s = .next { s with out := [] })

/-- A port that can send (on a fabric port with fewer than 1,024 folios unacknowledged) starts the head of class 7 when it is ready: a completion goes out on the wire with its requester's ID and tag, a request of no sealed window under its source's requester ID there, and its packet is gone. A refill step follows the shaper's latest by its length, raises the bucket by its rate, keeps the remainder and stops at the burst. A gate list's next entry is in force at its instant; a lead-in ends at its start time. A new guard band comes into force. A queue sample moves to the next multiple of the period. A read of a sealed partial line that returns good is merged into its packet, which may leave in its turn; with a failed one the packet is dropped, counted and logged with source 0x33. -/
def Obligations.EgressSchedulingAndGates : Prop :=
  (∀ (s : State) (p : Nat) (k : Pkt), p < 128 → s.canSend p = true → (∀ c, c < 8 → (s.egressHead p c).all (fun x => (s.badHead x).isNone) = true) → s.keys.flips = [] → ¬(s.role p = 3 ∧ 1024 ≤ (s.dlink p).replay.length) →
    s.egressHead p 7 = some k → s.ready p k = true → ∃ t, exec (.egressStart p) s = .next t ∧ (∀ x ∈ t.tr.pkts, x.id ≠ k.id) ∧
      (s.role p ≠ 3 → k.cls = .completion → t.out = [.returned k.req.src k.req.rid k.cid k.req.tag k.status k.req.data k.req.poison k.req.pre]) ∧
      (s.role p ≠ 3 → k.cls ≠ .completion → k.sealedReq = false → t.out = [.sent p (s.srcRid k.req.src p) k]) ∧ t.frame = s.frame) ∧
  (∀ (s : State) (p : Nat), (128 ≤ p ∨ s.canSend p = false) → exec (.egressStart p) s = .next { s with out := [] }) ∧
  (∀ (s : State) (sh : ShaperId) (dt : Nat), shOk sh = true → 1 ≤ dt → dt ≤ 40 → ∃ t, exec (.shaperRefill sh dt) s = .next t ∧
    t.bucket sh = min (Int.ofNat (1024 * s.reg (shBurst sh).1 (shBurst sh).2))
      (s.bucket sh + Int.ofNat (((Sparse.get? s.tr.frac sh).getD 0 + s.reg (shRate sh).1 (shRate sh).2 * dt * 16) / 125)) ∧
    (Sparse.get? t.tr.frac sh).getD 0 = ((Sparse.get? s.tr.frac sh).getD 0 + s.reg (shRate sh).1 (shRate sh).2 * dt * 16) % 125 ∧
    t.lastStep sh = s.lastStep sh + dt ∧ t.now = max s.now (s.lastStep sh + dt) ∧
    (∀ x, x ≠ sh → t.bucket x = s.bucket x) ∧ t.tr.pkts = s.tr.pkts ∧ t.regs = s.regs ∧ t.pool = s.pool ∧ t.flash = s.flash ∧ t.part = s.part) ∧
  (∀ (s : State) (sh : ShaperId) (dt : Nat), (dt = 0 ∨ 40 < dt) → exec (.shaperRefill sh dt) s = .next { s with out := [] }) ∧
  (∀ (s : State) (p b x : Nat), p < 128 → s.reg .GATE_STATUS_STATE p = 2 → (s.gateNow p s.dev).2.2 = some x → s.boot.timeBase = some b → s.now ≤ b + x →
    ∃ t, exec (.gateEntryChange p) s = .next t ∧ t.dev = x ∧ t.reg .GATE_STATUS_GATES p = (s.gateNow p x).1 % 2 ^ Fld.GATE_STATUS_GATES.width ∧
      KeepsRegs s t [(.GATE_STATUS_STATE, p), (.GATE_STATUS_ENTRY, p), (.GATE_STATUS_GATES, p)] ∧ t.pool = s.pool ∧ t.flash = s.flash ∧ t.part = s.part) ∧
  (∀ (s : State) (p : Nat), s.reg .GATE_STATUS_STATE p ≠ 2 → exec (.gateEntryChange p) s = .next { s with out := [] }) ∧
  (∀ (s : State) (p b : Nat), p < 128 → s.reg .GATE_STATUS_STATE p = 1 → (Sparse.get? s.tr.gateFrom p).isSome = true → s.reg .GATE_CTL_ENTRY_COUNT p ≠ 0 → s.boot.timeBase = some b →
    s.now ≤ b + s.reg .GATE_START_START p → ∃ t, exec (.leadinEnd p) s = .next t ∧ t.dev = s.reg .GATE_START_START p ∧ t.reg .GATE_STATUS_STATE p = 2 ∧
      KeepsRegs s t [(.GATE_STATUS_STATE, p), (.GATE_STATUS_ENTRY, p), (.GATE_STATUS_GATES, p)] ∧ t.pool = s.pool) ∧
  (∀ (s : State) (p g : Nat), Sparse.get? s.tr.guardNew p = some g → ∃ t, exec (.guardBandUpdate p) s = .next t ∧
    t.reg .GATE_GUARD_GUARD p = g % 2 ^ Fld.GATE_GUARD_GUARD.width ∧ Sparse.get? t.tr.guardNew p = none ∧ KeepsRegs s t [(.GATE_GUARD_GUARD, p)] ∧ t.frame = s.frame) ∧
  (∀ (s : State) (p : Nat), Sparse.get? s.tr.guardNew p = none → exec (.guardBandUpdate p) s = .next { s with out := [] }) ∧
  (∀ (s : State) (b : Nat), s.boot.timeBase = some b → b ≤ s.now → 0 < s.reg .SHP_SAMPLE_CTL_PERIOD 0 → ∃ t, exec .queueSample s = .next t ∧
    t.dev = (s.dev / (1000 * s.reg .SHP_SAMPLE_CTL_PERIOD 0) + 1) * (1000 * s.reg .SHP_SAMPLE_CTL_PERIOD 0) ∧
    (∀ f i, f ≠ Fld.SHP_QSAMP_DEPTH → f ≠ Fld.SHP_QSAMP_DELAY → f ≠ Fld.SHP_QMAX_MAX_DEPTH → f ≠ Fld.SHP_QMAX_MAX_DELAY → t.reg f i = s.reg f i) ∧ t.tr = s.tr ∧ t.pool = s.pool) ∧
  (∀ s : State, s.boot.timeBase = none → exec .queueSample s = .next { s with out := [] }) ∧
  (∀ (s : State) (i : Nat) (x : SealRmw) (k : Pkt) (b : Bool), s.tr.seals.find? (fun x => x.pkt == i && !x.ready) = some x → s.pkt i = some k →
    s.keys.dead.contains (.seal (k.imprint.getD 0) k.gen) = false → ∃ t, exec (.sealedRmwReadDone i false b) s = .next t ∧
      (∀ y ∈ t.tr.pkts, y.id ≠ i) ∧ t.reg .IMP_Q_SEAL_RMW_FAIL x.quad = min (2 ^ Fld.IMP_Q_SEAL_RMW_FAIL.width - 1) (s.reg .IMP_Q_SEAL_RMW_FAIL x.quad + 1) ∧
      t.flt.reportQ = queueReport (s.effSev 0x33 none) s.flt.reportQ { source := 0x33, kind := 2, scope := k.imprint.getD 0, sev := none, isl := 32 + x.quad } ∧ t.frame = s.frame) ∧
  (∀ (s : State) (i : Nat) (x : SealRmw) (k : Pkt), s.tr.seals.find? (fun x => x.pkt == i && !x.ready) = some x → s.pkt i = some k →
    s.keys.dead.contains (.seal (k.imprint.getD 0) k.gen) = false → 
    ∃ t, exec (.sealedRmwReadDone i true false) s = .next t ∧ t.pkt i = some { (s.mergeLine k x.line).1 with place := .shared, merged := true } ∧
      t.tr.seals = s.tr.seals.map (fun y => if y.pkt == i && y.line == x.line then { y with ready := true } else y) ∧ t.regs = s.regs ∧ t.flt = s.flt ∧ t.frame = s.frame) ∧
  (∀ (s : State) (i : Nat) (g b : Bool), s.tr.seals.find? (fun x => x.pkt == i && !x.ready) = none → exec (.sealedRmwReadDone i g b) s = .next { s with out := [] })

/-- At a running stack: a request of a sheet without a lease is discarded and a read of a granule never written is served; either leaves every byte as it is. The first write of a whole line stores its bytes there, clears the rest of its granule and changes no byte outside the granule. A completed fill sets the granule's bit. A read-modify-write whose read fails stores nothing. A held read goes on when no earlier write to its lines stands. A scrub step of a clean line moves on; a copied row is open. -/
def Obligations.PoolRequestsAreServed : Prop :=
  (∀ (s : State) (i : Nat) (k : Pkt) (e : EccResult), s.atStack i k → s.leaseOf k.destB = none →
    ∃ t, exec (.poolRequest i e) s = .next t ∧ (∀ x ∈ t.tr.pkts, x.id ≠ i) ∧ t.pool = s.pool ∧ t.frame = s.frame) ∧
  (∀ (s : State) (i : Nat) (k : Pkt) (l : Lease) (e : EccResult), s.atStack i k → s.neverWritten k l → k.req.kind = .read → i < s.tr.nextId →
    ∃ t, exec (.poolRequest i e) s = .next t ∧ (∀ x ∈ t.tr.pkts, x.id ≠ i) ∧ t.pool = s.pool ∧ KeepsRegs s t [(.SUP_XING_DROP_COUNT, 0)] ∧ t.frame = s.frame ∧
      (∀ j o, k.outId = some j → s.outReq j = some o → ∃ x ∈ t.tr.pkts, x.id = s.tr.nextId ∧ x.cls = .completion ∧ x.status = .sc ∧ x.req.poison = false ∧ x.req.data = List.replicate k.req.len 0)) ∧
  (∀ (s : State) (i : Nat) (k : Pkt) (l : Lease) (e : EccResult), s.atStack i k → s.neverWritten k l → k.req.kind = .write → k.cls = .posted → k.req.len = 64 → k.req.data.length = 64 →
    k.addr % 64 = 0 → ∃ t, exec (.poolRequest i e) s = .next t ∧
      (∀ x ∈ t.tr.pkts, x.id ≠ i) ∧ memRead t.pool.mem (k.destB * 2 ^ 28 + k.addr) 64 = k.req.data ∧
      (∀ a, (k.destB * 2 ^ 28 + k.addr) / 64 ≠ a / 64 → (s.granLines (s.granule (k.destB * 2 ^ 28 + k.addr))).contains (a / 64) = true → memGet t.pool.mem a = 0) ∧
      (∀ a, (k.destB * 2 ^ 28 + k.addr) / 64 ≠ a / 64 → (s.granLines (s.granule (k.destB * 2 ^ 28 + k.addr))).contains (a / 64) = false → memGet t.pool.mem a = memGet s.pool.mem a) ∧
      t.flash = s.flash ∧ t.part = s.part) ∧
  (∀ (s : State) (i : Nat) (e : EccResult), s.pkt i = none → exec (.poolRequest i e) s = .next { s with out := [] } ∧ exec (.poolReadHoldRelease i) s = .next { s with out := [] } ∧
    exec (.poolRmwReadDone i e) s = .next { s with out := [] }) ∧
  (∀ (s : State) (m g : Nat), s.pool.filling.contains (m, g) = true → ∃ t, exec (.granuleFillDone m g) s = .next t ∧ t.pool.granules.contains (m * 2 ^ 24 + g) = true ∧
    t.pool.filling.contains (m, g) = false ∧ t.pool.lines = s.pool.lines ∧ t.regs = s.regs ∧ t.frame = s.frame) ∧
  (∀ (s : State) (m g : Nat), s.pool.filling.contains (m, g) = false → exec (.granuleFillDone m g) s = .next { s with out := [] }) ∧
  (∀ (s : State) (i ln : Nat) (k : Pkt) (l : Lease), s.pool.rmw.find? (fun e => e.1 == i) = some (i, ln) → s.pkt i = some k → s.leaseOf k.destB = some l → s.keys.dead.contains l.key = false →
    s.running (42 + (k.dest - 128)) = true → s.running (46 + (k.dest - 128)) = true → ((s.tag ln).map (·.corr)).getD false = false → ∃ t, exec (.poolRmwReadDone i .bad) s = .next t ∧ t.pool.mem = s.pool.mem ∧
      t.pool.rmw = s.pool.rmw.filter (fun x => x != (i, ln)) ∧ t.reg .MEM_STK_RMW_FAIL (k.dest - 128) = min (2 ^ Fld.MEM_STK_RMW_FAIL.width - 1) (s.reg .MEM_STK_RMW_FAIL (k.dest - 128) + 1) ∧
      t.reg .MEM_STK_ECC_UE (k.dest - 128) = min (2 ^ Fld.MEM_STK_ECC_UE.width - 1) (s.reg .MEM_STK_ECC_UE (k.dest - 128) + 1) ∧ t.frame = s.frame) ∧
  (∀ (s : State) (i ln : Nat) (k : Pkt) (l : Lease), s.pool.rmw.find? (fun e => e.1 == i) = some (i, ln) → s.pkt i = some k → s.leaseOf k.destB = some l → s.keys.dead.contains l.key = false →
    s.running (42 + (k.dest - 128)) = true → s.running (46 + (k.dest - 128)) = true → ((s.tag ln).map (fun x => x.corr || x.ue)).getD false = false → ∃ t, exec (.poolRmwReadDone i .clean) s = .next t ∧
      t.pool.mem = memPut s.pool.mem (64 * ln) (overlay k (k.destB * 2 ^ 28 + k.addr) ln (s.lineData l ln)) ∧ t.pool.rmw = s.pool.rmw.filter (fun x => x != (i, ln)) ∧
      t.reg .MEM_STK_RMW_DONE (k.dest - 128) = min (2 ^ Fld.MEM_STK_RMW_DONE.width - 1) (s.reg .MEM_STK_RMW_DONE (k.dest - 128) + 1) ∧
      ((s.pool.rmw.filter (fun x => x != (i, ln))).any (fun x => x.1 == i) = false → ∀ x ∈ t.tr.pkts, x.id ≠ i) ∧ t.flash = s.flash ∧ t.part = s.part ∧ t.now = s.now) ∧
  (∀ (s : State) (i : Nat) (k : Pkt), s.pkt i = some k → k.hold = true → s.readHeld k.req.src (k.destB * 2 ^ 28 + k.addr) (k.destB * 2 ^ 28 + k.addr + k.req.len - 1) k.req.ts = false →
    ∃ t, exec (.poolReadHoldRelease i) s = .next t ∧ t.tr.pkts = s.tr.pkts.map (fun x => if x.id == i then { x with hold := false } else x) ∧ t.pool = s.pool ∧ t.regs = s.regs ∧ t.frame = s.frame) ∧
  (∀ (s : State) (m ln row bank : Nat), m < 4 → s.running (42 + m) = true → (s.locate (64 * ln)).1 = m → ln < 2 ^ 32 → s.scrubs ln = true → s.lastScrub m ln = false →
    (∀ x, s.tag ln = some x → x.corr = false ∧ x.ue = false) → exec (.scrubStep m ln row bank .clean) s =
      .next ({ s with out := [] }.setReg .MEM_STK_SCRUB_PROGRESS m ((s.locate (64 * ln)).2 * 100 / 2 ^ 36))) ∧
  (∀ (s : State) (m ln row bank : Nat) (e : EccResult), s.scrubs ln = false → exec (.scrubStep m ln row bank e) s = .next { s with out := [] }) ∧
  (∀ (s : State) (m row : Nat), ∃ t, exec (.rowCopyDone m row) s = .next t ∧ t.pool.copying.contains (m, row) = false ∧ t.pool.remaps = s.pool.remaps ∧ t.pool.lines = s.pool.lines ∧
    t.regs = s.regs ∧ t.frame = s.frame)

/-- An error in a key store entry asks for the entry again and is reported; redelivery ends the wait (here with no item waiting at the island). A revoked reference without holders is destroyed from T_f + 1 microsecond on; at T_f + 40 microseconds nothing of the oldest waiting revocation is left undestroyed. When all references of an owner key's revocation are destroyed, a slot that is not to be refilled is EMPTY; when those of a released lease are, its sheets are FREE and it is gone; the command has its result. A health failure counts, and the first one clears RNG_OK and is reported; entropy recovery sets it. -/
def Obligations.KeyStoresRevocationAndEntropy : Prop :=
  (∀ (s : State) (n : Nat) (r : KeyRef) (c : Bool), s.storeHas n r = true → ∃ t, exec (.keystoreEcc n r c) s = .next t ∧ t.keys.redeliver.contains (n, r) = true ∧
    t.flt.reportQ = queueReport (s.effSev 0x46 none) s.flt.reportQ { source := 0x46, kind := 0, scope := n, sev := none, isl := n } ∧ t.regs = s.regs ∧ t.frame = s.frame) ∧
  (∀ (s : State) (n : Nat) (r : KeyRef) (c : Bool), s.storeHas n r = false → exec (.keystoreEcc n r c) s = .next { s with out := [] }) ∧
  (∀ (s : State) (n : Nat) (r : KeyRef), s.isl.waking.any (fun e => e.1 == n) = false → ∃ t, exec (.keyRedelivery n r) s = .next t ∧ t.keys.redeliver.contains (n, r) = false ∧
    (s.flt.armed = none → t.regs = s.regs ∧ t.flt = s.flt) ∧ t.tr = s.tr ∧ t.frame = s.frame) ∧
  (∀ (s : State) (v : Revocation) (T : Nat), s.keys.revs.find? (fun v => v.tf.isSome && !v.swept) = some v → v.tf = some T → ∃ t, exec .holderDeadline s = .next t ∧
    (∀ r ∈ v.refs, v.destroyed.contains r = true ∨ t.keys.dead.contains r = true) ∧
    (∀ x ∈ t.keys.revs, x.imprint = v.imprint → x.handle = v.handle → x.swept = true) ∧ t.now = (s.atDev (T + 40000)).now ∧ t.flash = s.flash ∧ t.part = s.part ∧ t.pool.mem = s.pool.mem) ∧
  (∀ (s : State) (v : Revocation) (T : Nat) (r : KeyRef), s.keys.revs.find? (fun v => v.tf.isSome && v.refs.contains r && !v.destroyed.contains r) = some v → v.tf = some T → s.holders r = 0 →
    ∃ t, exec (.keyDestruction r) s = .next t ∧ t.keys.dead.contains r = true ∧ (∀ e ∈ t.keys.redeliver, e.2 ≠ r) ∧ t.now = (s.atDev (T + 1000)).now ∧
      t.regs = s.regs ∧ t.tr = s.tr ∧ t.pool = s.pool ∧ t.flash = s.flash ∧ t.part = s.part) ∧
  (∀ (s : State) (r : KeyRef), s.keys.revs = [] → exec .holderDeadline s = .next { s with out := [] } ∧ exec (.keyDestruction r) s = .next { s with out := [] } ∧
    exec .destructionComplete s = .next { s with out := [] }) ∧
  (∀ (s : State) (v : Revocation), s.keys.revs.find? (fun v => v.tf.isSome && v.refs.all v.destroyed.contains) = some v → v.handle = none → s.reg .BAL_KEY_SLOT_STATE v.imprint = 2 →
    s.reg .BAL_KEY_SLOT_POLICY v.imprint ≠ 1 → ∃ t, exec .destructionComplete s = .next t ∧ t.reg .BAL_KEY_SLOT_STATE v.imprint = 0 ∧ Sparse.get? t.keys.owner v.imprint = none ∧
      (∀ x ∈ t.keys.revs, ¬(x.imprint = v.imprint ∧ x.handle = none)) ∧ t.reg .BAL_REVOKE_LAST_ACTIVE 0 = 0 ∧
      (s.waitsFor = some (.revoke v.imprint) → s.resultCode = none → t.resultCode = some 0) ∧ t.frame = s.frame) ∧
  (∀ (s : State) (v : Revocation) (h : Nat), s.keys.revs.find? (fun v => v.tf.isSome && v.refs.all v.destroyed.contains) = some v → v.handle = some h →
    ∃ t, exec .destructionComplete s = .next t ∧ (∀ l ∈ s.pool.leases, l.handle = h → ∀ n ∈ l.sheets, t.reg .MEM_SHEET_STATE n = 0) ∧ (∀ l ∈ t.pool.leases, l.handle ≠ h) ∧
      (s.waitsFor = some (.release h) → s.resultCode = none → t.resultCode = some 0) ∧ t.frame = s.frame) ∧
  (∀ s : State, s.flt.causes.any (fun c => c.source == 0x0D) = false → ∃ t, exec .rngHealthFail s = .next t ∧ t.reg .BAL_STATUS_RNG_OK 0 = 0 ∧
    t.reg .BAL_STATUS_RNG_FAIL 0 = min (2 ^ Fld.BAL_STATUS_RNG_FAIL.width - 1) (s.reg .BAL_STATUS_RNG_FAIL 0 + 1) ∧
    t.flt.reportQ = queueReport (s.effSev 0x0D none) s.flt.reportQ { source := 0x0D, kind := 0, scope := 0, sev := none, isl := 50 } ∧ KeepsRegs s t [(.BAL_STATUS_RNG_OK, 0), (.BAL_STATUS_RNG_FAIL, 0)] ∧ t.frame = s.frame) ∧
  (∀ s : State, s.flt.causes.any (fun c => c.source == 0x0D) = true → exec .rngHealthFail s = .next ({ s with out := [] }.bump .BAL_STATUS_RNG_FAIL 0)) ∧
  (∀ s : State, s.flt.causes.any (fun c => c.source == 0x0D) = true → ∃ t, exec .entropyRecovery s = .next t ∧ t.reg .BAL_STATUS_RNG_OK 0 = 1 ∧
    (∀ c ∈ t.flt.causes, ¬(c.source = 0x0D ∧ c.scope = 0)) ∧ (s.phase < 4 → KeepsRegs s t [(.BAL_STATUS_RNG_OK, 0)]) ∧ t.frame = s.frame) ∧
  (∀ s : State, s.flt.causes.any (fun c => c.source == 0x0D) = false → exec .entropyRecovery s = .next { s with out := [] })

/-- From P1 the colophon is answered. A report request in P5 (of the device, or of an owner by a requester that is no tenant's) joins the queue, is refused when eight wait, and an owner report of a foreign imprint is refused a tenant. The oldest queued report is signed, held and its first chunk sent when no key command runs. A certificate is held and sent from P2. A later chunk comes from the held response. A held response expires a second after it was made. None changes a register. -/
def Obligations.ReportsAreQueuedAndAnswered : Prop :=
  (∀ (s : State) (w : Requester), 1 ≤ s.phase → exec (.getColophon w 0) s = .next { s with
    out := [.reply w 0 (chunkOf 1 ((List.range 13).map (fun n => bytesOf 4 (s.readWord ((whoHost w).getD 0) (4 * n)))).flatten 0)] }) ∧
  (∀ (s : State) (w : Requester) (i : Nat), s.phase = 0 → exec (.getColophon w i) s = .next { s with out := [.reply w 4 (message 1 4 i 0 [])] }) ∧
  (∀ (s : State) (w : Requester) (y i x : Nat), s.phase = 5 → i < 1024 → (y = 1 ∨ (y = 2 ∧ s.tenant w = false)) → s.keys.reports.length < 8 → ∃ t, exec (.getReport w y i x 0) s = .next t ∧
    t.keys.reports = s.keys.reports ++ [{ who := w, typ := y, imprint := i, nonce := x }] ∧ (∀ h ∈ t.keys.held, h.who ≠ w) ∧ t.out = [] ∧ t.regs = s.regs ∧ t.frame = s.frame) ∧
  (∀ (s : State) (k i x : Nat), s.phase = 5 → i < 1024 → s.operator k = false → (s.ownImprints k).contains i = false →
    exec (.getReport (.doe k) 2 i x 0) s = .next { s with out := [.reply (.doe k) 2 (message 2 2 0 0 [])] }) ∧
  (∀ (s : State) (w : Requester) (i x : Nat), s.phase = 5 → i < 1024 → 8 ≤ s.keys.reports.length → exec (.getReport w 1 i x 0) s = .next { s with out := [.reply w 1 (message 2 1 0 0 [])] }) ∧
  (∀ (s : State) (w : Requester) (t i x n : Nat), n ≠ 0 → s.keys.held.find? (fun h => decide (h.who = w)) = none →
    exec (.getReport w t i x n) s = .next { s with out := [.reply w 3 (message 2 3 n 0 [])] } ∧ exec (.getCert w t n) s = .next { s with out := [.reply w 3 (message 3 3 n 0 [])] }) ∧
  (∀ (s : State) (w : Requester) (t i x n : Nat) (h : HeldResp), n ≠ 0 → s.keys.held.find? (fun h => decide (h.who = w)) = some h → 1024 * n < h.body.length →
    exec (.getReport w t i x n) s = .next { s with out := [.reply w 0 (chunkOf 2 h.body n)] } ∧ exec (.getCert w t n) s = .next { s with out := [.reply w 0 (chunkOf 3 h.body n)] }) ∧
  (∀ (s : State) (w : Requester) (c : Nat), 2 ≤ s.phase → 1 ≤ c → c ≤ 5 → ∃ t, exec (.getCert w c 0) s = .next t ∧ t.out = [.reply w 0 (chunkOf 3 (s.certBody c) 0)] ∧
    t.keys.held.find? (fun h => decide (h.who = w)) = some { who := w, body := s.certBody c, since := s.now } ∧ t.regs = s.regs ∧ t.frame = s.frame) ∧
  (∀ (s : State) (q : ReportReq) (rest : List ReportReq), s.keys.reports = q :: rest → s.keyCommand = false → ∃ t, exec .reportSigned s = .next t ∧ t.keys.reports = rest ∧
    t.keys.held.find? (fun h => decide (h.who = q.who)) = some { who := q.who, body := s.signedReport q, since := s.now } ∧ t.out = [.reply q.who 0 (chunkOf 2 (s.signedReport q) 0)] ∧ t.regs = s.regs ∧ t.frame = s.frame) ∧
  (∀ s : State, (s.keys.reports = [] ∨ s.keyCommand = true) → exec .reportSigned s = .next { s with out := [] }) ∧
  (∀ (s : State) (w : Requester) (h : HeldResp), s.keys.held.find? (fun h => decide (h.who = w)) = some h → ∃ t, exec (.heldResponseExpiry w) s = .next t ∧
    (∀ x ∈ t.keys.held, x.who ≠ w) ∧ t.now = max s.now (h.since + 1000000000) ∧ t.regs = s.regs ∧ t.pool = s.pool ∧ t.flash = s.flash ∧ t.part = s.part) ∧
  (∀ (s : State) (w : Requester), s.keys.held.find? (fun h => decide (h.who = w)) = none → exec (.heldResponseExpiry w) s = .next { s with out := [] })

/-- A report of severity S0 or S1 that alone waits is recorded: PENDING, the last scope, the count, and the first fault when none stands; a fatal one halts the switch. An expired S3 entry begins safe mode and is freed. A released function's entry is free. An operator's writes clear the first fault, a PENDING whose cause is gone, the escalation entries of a source, one entry, safe mode when no S3 fault is pending, and arm an injection while it holds the lock; a tenant's change nothing. -/
def Obligations.FaultsAreCollectedAndCleared : Prop :=
  (∀ (s : State) (r : Report), s.flt.reportQ = [r] → s.flt.counted = [] → r.source < 128 → r.scope < 2 ^ 20 → r.kind < 4 → s.effSev r.source r.sev ≤ 1 → s.fltGlobal.notifyMin = 4 →
    (r.source < 0x18 ∨ 0x22 < r.source) → s.on .FLT_FIRST_VALID = false → ∃ t, exec (.faultReport 1 []) s = .next t ∧ t.flt.reportQ = [] ∧ t.on .FLT_CAUSE_PENDING r.source = true ∧
      t.reg .FLT_CAUSE_LAST_SCOPE r.source = r.scope ∧ t.reg .FLT_CAUSE_COUNT r.source = min (2 ^ Fld.FLT_CAUSE_COUNT.width - 1) (s.reg .FLT_CAUSE_COUNT r.source + r.count) ∧
      t.on .FLT_FIRST_VALID = true ∧ t.reg .FLT_FIRST_SOURCE 0 = r.source ∧ t.reg .FLT_FIRST_SCOPE 0 = r.scope ∧ t.tr = s.tr ∧ t.frame = s.frame) ∧
  (∀ (s : State) (r : Report), s.flt.reportQ = [r] → s.effSev r.source r.sev = 4 → ∃ t, exec (.faultReport 1 []) s = .next t ∧ t.halted = true ∧
    t.on .FLT_CAUSE_PENDING r.source = true ∧ t.frame = s.frame) ∧
  (∀ (s : State) (n : Nat), s.flt.reportQ = [] → s.flt.counted = [] → exec (.faultReport n []) s = .next { s with out := [] }) ∧
  (∀ (s : State) (e : Nat), 224 ≤ e → e < 256 → s.escOn e = true → ∃ t, exec (.escalationExpiry e) s = .next t ∧ t.safeMode = true ∧ t.escOn e = false ∧
    t.now = max s.now ((Sparse.get? s.flt.expiry e).getD 0) ∧ t.tr = s.tr ∧ t.pool = s.pool ∧ t.flash = s.flash ∧ t.part = s.part) ∧
  (∀ (s : State) (e : Nat), e < 224 → s.escOn e = true → ∃ t, exec (.escalationExpiry e) s = .next t ∧ t.escOn e = false ∧ Sparse.get? t.flt.expiry e = none ∧ t.part = s.part ∧ t.flash = s.flash ∧ t.pool.mem = s.pool.mem) ∧
  (∀ (s : State) (e : Nat), s.escOn e = false → exec (.escalationExpiry e) s = .next { s with out := [] }) ∧
  (∀ (s : State) (n : Nat), s.reg .FLT_FUNC_STATE n = 2 → ∃ t, exec (.functionReleaseDone n) s = .next t ∧ t.reg .FLT_FUNC_STATE n = 0 ∧ t.reg .FLT_FUNC_RID n = 0 ∧ t.reg .FLT_FUNC_PORT n = 0 ∧
    KeepsRegs s t [(.FLT_FUNC_STATE, n), (.FLT_FUNC_RID, n), (.FLT_FUNC_PORT, n)] ∧ t.now = max s.now ((Sparse.get? s.flt.releases n).getD 0) ∧ t.tr = s.tr ∧ t.pool = s.pool) ∧
  (∀ (s : State) (n : Nat), s.reg .FLT_FUNC_STATE n ≠ 2 → exec (.functionReleaseDone n) s = .next { s with out := [] }) ∧
  (∀ (s : State) (k : Nat), s.operator k = true → exec (.fltFirstClear k) s = .next ({ s with out := [] }.setReg .FLT_FIRST_VALID 0 0)) ∧
  (∀ (s : State) (k c : Nat), s.operator k = true → c < 128 → s.active c = false → exec (.fltCausePendingClear k c) s = .next ({ s with out := [] }.setReg .FLT_CAUSE_PENDING c 0)) ∧
  (∀ (s : State) (k c : Nat), s.operator k = true → c < 128 → s.active c = true → exec (.fltCausePendingClear k c) s = .next { s with out := [] }) ∧
  (∀ (s : State) (k c : Nat), s.operator k = true → ∃ t, exec (.ackAll k c) s = .next t ∧ (∀ n, n < 256 → s.escOn n = true → s.reg .FLT_ESC_SOURCE n = c → t.escOn n = false) ∧
    (∀ n, (s.escOn n = false ∨ s.reg .FLT_ESC_SOURCE n ≠ c) → t.escOn n = s.escOn n) ∧ t.frame = s.frame) ∧
  (∀ (s : State) (k e : Nat), s.operator k = true → e < 256 → s.escOn e = true → ∃ t, exec (.fltEscAck k e) s = .next t ∧ t.escOn e = false ∧ (∀ n, n ≠ e → t.escOn n = s.escOn n) ∧ t.frame = s.frame) ∧
  (∀ (s : State) (k : Nat), s.operator k = true → s.pendSev 3 = false → exec (.safeModeClear k) s = .next ({ s with out := [] }.setReg .FLT_STATUS_SAFE_MODE 0 0)) ∧
  (∀ (s : State) (k : Nat), s.operator k = true → s.pendSev 3 = true → exec (.safeModeClear k) s = .next { s with out := [] }) ∧
  (∀ (s : State) (k v : Nat), s.operator k = true → s.holdsLock k = true → s.flt.armed = none → sourceInv (bits v 6 0) = true → 1 ≤ bits v 29 28 → bits v 29 28 ≤ 2 →
    ∃ t, exec (.fltInjectGo k v) s = .next t ∧ t.flt.armed = some ⟨bits v 6 0, bits v 27 8, bits v 29 28⟩ ∧ t.reg .FLT_INJECT_DONE 0 = 0 ∧ t.frame = s.frame) ∧
  (∀ (s : State) (k c e v : Nat), s.operator k = false → exec (.fltFirstClear k) s = .next { s with out := [] } ∧ exec (.fltCausePendingClear k c) s = .next { s with out := [] } ∧
    exec (.ackAll k c) s = .next { s with out := [] } ∧ exec (.fltEscAck k e) s = .next { s with out := [] } ∧ exec (.safeModeClear k) s = .next { s with out := [] } ∧
    exec (.fltInjectGo k v) s = .next { s with out := [] })

/-- On an ACTIVE fabric link: a folio that cannot be corrected counts in BAD_COUNT and opens a NAK episode (none counts while alignment is lost); a good IDLE folio counts the symbols that were corrected and its ACK releases the folios it covers; a folio of the reserved type takes the link down; in ALIGN good IDLE folios and in CONFIG TRAIN folios with PEER_SEEN count in a row, and a TRAIN folio's PING is taken to be echoed. The oldest packet of a channel that has been received, a posted one for another switch, goes on toward the member port of its route with one hop less. The replay window's end sends every unacknowledged folio again. Credit returns are IDLE folios with the ACK or NAK and the freed counts of the channels in their turn; ALIGN marks of the mask in force go out on its lanes. ALIGN marks on the active lanes end a loss of alignment, on added lanes of a wider mask make the change pending; 100 microseconds without alignment, or 10 without a good folio, take the link down. -/
def Obligations.FabricFoliosAndPackets : Prop :=
  (∀ (s : State) (p : Nat) (rx : List (List Nat)), s.fabActive p = true → (s.dlink p).lostAt = none → Folio.receive (Folio.fromWire (s.reg .TILE_DL_MASK_RX_MASK (p / 4)) rx) = none → ∃ t, exec (.folioReceived p rx) s = .next t ∧
    t.reg .TILE_DL_BAD_COUNT (p / 4) = min (2 ^ Fld.TILE_DL_BAD_COUNT.width - 1) (s.reg .TILE_DL_BAD_COUNT (p / 4) + 1) ∧ (t.dlink p).episode = true ∧
    (t.dlink p).badRun = (s.dlink p).badRun + 1 ∧ t.fabActive p = true ∧ t.tr = s.tr ∧ t.frame = s.frame) ∧
  (∀ (s : State) (p n k : Nat) (rx : List (List Nat)) (f : List Byte), s.fabActive p = true → (s.dlink p).lostAt = none → Folio.receive (Folio.fromWire (s.reg .TILE_DL_MASK_RX_MASK (p / 4)) rx) = some (f, n) → (Folio.header f).ftype = 0 → (Folio.header f).nak = false →
    (Folio.header f).crValid = false → k = ((Folio.header f).ack + 4096 - ((s.dlink p).oldest + 4095) % 4096) % 4096 → k ≤ ((s.dlink p).nextTx + 4096 - (s.dlink p).oldest) % 4096 →
    (s.dlink p).replays = 0 → (s.dlink p).cmdQ = [] → (s.dlink p).due = false → ∃ t, exec (.folioReceived p rx) s = .next t ∧
      t.reg .TILE_DL_FEC_CORR_COUNT (p / 4) = min (2 ^ Fld.TILE_DL_FEC_CORR_COUNT.width - 1) (s.reg .TILE_DL_FEC_CORR_COUNT (p / 4) + n) ∧
      (t.dlink p).badRun = 0 ∧ (t.dlink p).goodAt = s.now ∧ (t.dlink p).replay = (s.dlink p).replay.drop k ∧ (k ≠ 0 → (t.dlink p).oldest = ((s.dlink p).oldest + k) % 4096) ∧
      t.out = [] ∧ KeepsRegs s t [(.TILE_DL_FEC_CORR_COUNT, p / 4)] ∧ t.tr = s.tr ∧ t.frame = s.frame) ∧
  (∀ (s : State) (p n : Nat) (rx : List (List Nat)) (f : List Byte), s.fabActive p = true → (s.dlink p).lostAt = none → Folio.receive (Folio.fromWire (s.reg .TILE_DL_MASK_RX_MASK (p / 4)) rx) = some (f, n) → (Folio.header f).ftype = 3 → ∃ t, exec (.folioReceived p rx) s = .next t ∧
    t.dlState p = 0 ∧ t.on .TILE_PORT_STATUS_LINK_UP p = false ∧ t.frame = s.frame) ∧
  (∀ (s : State) (p n : Nat) (rx : List (List Nat)) (f : List Byte), s.role p = 3 → s.dlState p = 4 → Folio.receive (Folio.fromWire (s.reg .TILE_DL_MASK_RX_MASK (p / 4)) rx) = some (f, n) → (Folio.header f).ftype = 2 →
    ∃ t, exec (.folioReceived p rx) s = .next t ∧ (t.dlink p).echo = Folio.at_ f 15 ∧ (t.dlink p).ping = ((s.dlink p).ping + 1) % 256 ∧
      (t.dlink p).run = (if bit (Folio.at_ f 14) 0 then (s.dlink p).run + 1 else 0) ∧ (t.dlink p).heard = some (trainInfo f) ∧
      KeepsRegs s t [(.TILE_DL_FEC_CORR_COUNT, p / 4)] ∧ t.tr = s.tr ∧ t.frame = s.frame) ∧
  (∀ (s : State) (p n : Nat) (rx : List (List Nat)) (f : List Byte), s.role p = 3 → s.dlState p = 3 → Folio.receive (Folio.fromWire (s.reg .TILE_DL_MASK_RX_MASK (p / 4)) rx) = some (f, n) → (Folio.header f).ftype = 0 →
    ∃ t, exec (.folioReceived p rx) s = .next t ∧ (t.dlink p).run = (s.dlink p).run + 1 ∧ KeepsRegs s t [(.TILE_DL_FEC_CORR_COUNT, p / 4)] ∧ t.out = [] ∧ t.tr = s.tr ∧ t.frame = s.frame) ∧
  (∀ (s : State) (p : Nat) (rx : List (List Nat)), s.fabActive p = true → (s.dlink p).lostAt ≠ none → exec (.folioReceived p rx) s = .next { s with out := [] }) ∧
  (∀ (s : State) (p : Nat) (rx : List (List Nat)), s.fabActive p = false → s.dlState p ≠ 3 → s.dlState p ≠ 4 → exec (.folioReceived p rx) s = .next { s with out := [] }) ∧
  (∀ (s : State) (p ts e : Nat) (f g : FabPkt), (s.dlink p).left.any (fun g => chanOf g == chanOf f) = false → inboxHead (s.dlink p).inbox f = some g → f.ptype = 1 → f.poison = false → f.dstSw ≠ ownSw s.com.active →
    s.halted = false → s.running (32 + quadOf p) = true → s.fencing (32 + quadOf p) = false → s.metHeld = false →
    2 ≤ f.hops → s.routePort f.dstSw f.vc f.srcSw f.srcPort f.tc = some e → ∃ t, exec (.fabricPacket p f ts) s = .next t ∧
      (∃ k ∈ t.tr.pkts, k.id = s.tr.nextId ∧ k.cls = .posted ∧ k.dest = e ∧ k.fab = some { f with hops := f.hops - 1 }) ∧ (t.dlink p).inbox = (s.dlink p).inbox.erase g ∧
      t.now = (s.atDev ts).now ∧ t.flash = s.flash ∧ t.part = s.part ∧ t.pool = s.pool) ∧
  (∀ (s : State) (p ts : Nat) (f : FabPkt), inboxHead (s.dlink p).left f = none → inboxHead (s.dlink p).inbox f = none → exec (.fabricPacket p f ts) s = .next { s with out := [] }) ∧
  (∀ (s : State) (p : Nat), s.fabActive p = true → (s.dlink p).replay ≠ [] → (s.dlink p).replays < 7 → (s.dlink p).sent + (s.dlink p).replay.length < 16384 → ∃ t, exec (.replayWindowExpiry p) s = .next t ∧
    t.out.length = (s.dlink p).replay.length ∧ (t.dlink p).replay = (s.dlink p).replay ∧ t.now = max s.now ((s.dlink p).lastAdv + s.effWindow p) ∧ (t.dlink p).lastAdv = t.now ∧
    (t.dlink p).replays = (s.dlink p).replays + 1 ∧
    t.reg .TILE_DL_REPLAY_BY_TIMER (p / 4) = min (2 ^ Fld.TILE_DL_REPLAY_BY_TIMER.width - 1) (s.reg .TILE_DL_REPLAY_BY_TIMER (p / 4) + 1) ∧
    KeepsRegs s t [(.TILE_DL_REPLAY_BY_TIMER, p / 4)] ∧ t.tr = s.tr ∧ t.pool = s.pool) ∧
  (∀ (s : State) (p v m : Nat) (d : Dlink) (h : Folio.Header), s.fabActive p = true → v < 16 → s.dlink p = d → d.crTurn % 16 = v → d.owed = [] → d.sent < 16383 → m = s.reg .TILE_DL_MASK_TX_MASK (p / 4) →
    h = { ftype := 0, seq := 0, ack := (if d.episode then d.nextRx else (d.nextRx + 4095) % 4096), nak := d.episode, fhp := 0, crVc := v, crHdr := nth d.freedHdr v, crData := nth d.freedData v, crValid := true } → ∃ t, exec (.creditReturnSend p v) s = .next t ∧
      t.out = [.folio p m (Folio.toWire m (Folio.assemble h.word (List.replicate 288 0)))] ∧ (t.dlink p).crTurn = (v + 1) % 16 ∧ t.regs = s.regs ∧ t.tr = s.tr ∧ t.frame = s.frame) ∧
  (∀ (s : State) (p v : Nat), s.fabActive p = true → v < 16 → (s.dlink p).sent < 16367 → ∃ t, exec (.creditReturnSend p v) s = .next t ∧
    t.out.length = (v + 16 - (s.dlink p).crTurn % 16) % 16 + 1 ∧ (t.dlink p).crTurn = (v + 1) % 16 ∧ t.regs = s.regs ∧ t.tr = s.tr ∧ t.frame = s.frame) ∧
  (∀ (s : State) (p m : Nat), s.fabActive p = true → m = s.reg .TILE_DL_MASK_TX_MASK (p / 4) → ∃ t, exec (.alignMarkSend p) s = .next t ∧
    t.out = [.mark p m (Folio.widthMark 2 (widthCode (popCount 16 m)) m)] ∧ (t.dlink p).sent = 0 ∧ t.regs = s.regs ∧ t.tr = s.tr ∧ t.frame = s.frame) ∧
  (∀ (s : State) (p : Nat) (bs : List (List Byte)), s.fabActive p = true → (s.heardMark p 2 bs).isSome = true →
    (Folio.marksOn (65535 ^^^ s.reg .TILE_DL_MASK_RX_MASK (p / 4)) 2 bs).findSome? id = none → ∃ t, exec (.realign ⟨p, bs⟩) s = .next t ∧
      t.dlink p = { s.dlink p with port := p, lostAt := none, badRun := 0 } ∧ t.regs = s.regs ∧ t.tr = s.tr ∧ t.frame = s.frame) ∧
  (∀ (s : State) (p w m old : Nat) (bs : List (List Byte)), s.fabActive p = true → s.heardMark p 2 bs = none → old = s.reg .TILE_DL_MASK_RX_MASK (p / 4) →
    (Folio.marksOn (65535 ^^^ old) 2 bs).findSome? id = some (w, m) → m &&& (65535 ^^^ old) ≠ 0 → maskFits ((s.dlink p).usable ||| m &&& (65535 ^^^ old)) w m = true →
    m &&& (65535 ^^^ old) &&& (s.dlink p).usable = m &&& (65535 ^^^ old) → (s.dlink p).chRx = none → ∃ t, exec (.realign ⟨p, bs⟩) s = .next t ∧
      t.reg .TILE_DL_STATUS_RX_PEND (p / 4) = 1 ∧ ((t.dlink p).chRx.map (·.mask)) = some m ∧ t.reg .TILE_DL_MASK_RX_MASK (p / 4) = old ∧ t.tr = s.tr ∧ t.frame = s.frame) ∧
  (∀ (s : State) (p x : Nat), s.fabActive p = true → (s.dlink p).lostAt = some x → ∃ t, exec (.dlAlignLost p) s = .next t ∧ t.dlState p = 0 ∧
    t.on .TILE_PORT_STATUS_LINK_UP p = false ∧ t.now = max s.now (x + 100000) ∧ t.flash = s.flash ∧ t.part = s.part ∧ t.pool = s.pool) ∧
  (∀ (s : State) (p : Nat), s.fabActive p = true → ∃ t, exec (.dlSilent p) s = .next t ∧ t.dlState p = 0 ∧ t.on .TILE_PORT_STATUS_LINK_UP p = false ∧
    t.now = max s.now ((s.dlink p).goodAt + 10000) ∧ t.flash = s.flash ∧ t.part = s.part ∧ t.pool = s.pool) ∧
  (∀ (s : State) (p v : Nat) (bs : List (List Byte)), s.fabActive p = false → exec (.replayWindowExpiry p) s = .next { s with out := [] } ∧ exec (.creditReturnSend p v) s = .next { s with out := [] } ∧
    exec (.alignMarkSend p) s = .next { s with out := [] } ∧ exec (.realign ⟨p, bs⟩) s = .next { s with out := [] } ∧ exec (.dlAlignLost p) s = .next { s with out := [] } ∧
    exec (.dlSilent p) s = .next { s with out := [] })

/-- A fabric port leaves DETECT with signal on at least two lanes, EQ for ALIGN with the largest width that the common lanes fill (or back to DETECT when they fill none), ALIGN for CONFIG after 64 good IDLE folios, and CONFIG for ACTIVE after 8 good TRAIN folios with PEER_SEEN when the partner has the other DIR and credits in range, with the least round-trip time measured; two ends of one DIR fail with source 0x28, credits out of range with 0x24. Link down puts it down; after 1 ms it detects again unless one of its tiles is fenced or its lanes are in lane test. A transit record is retired 50 ms after it was made. -/
def Obligations.FabricLinksTrainAndGoDown : Prop :=
  (∀ (s : State) (p x : Nat), s.role p = 3 → s.dlState p = 1 → s.mayTrain p = true → 2 ≤ popCount (s.lanes p).length (x % 2 ^ (s.lanes p).length) →
    ∃ t, exec (.detectExit p x) s = .next t ∧ t.dlState p = 2 ∧ (t.dlink p).usable = x % 2 ^ (s.lanes p).length ∧ t.tr = s.tr ∧ t.frame = s.frame) ∧
  (∀ (s : State) (p x : Nat), s.dlState p ≠ 1 → exec (.detectExit p x) s = .next { s with out := [] }) ∧
  (∀ (s : State) (p x m : Nat) (u : EqFound), s.role p = 3 → s.dlState p = 2 → m = x % 2 ^ (s.lanes p).length &&& (s.dlink p).usable &&& (u.rounds.getLast?.map eqReady).getD 0 →
    widthFit (popCount (s.lanes p).length m) = 0 → ∃ t, exec (.eqExit p x u) s = .next t ∧ t.dlState p = 1 ∧ t.tr = s.tr ∧ t.frame = s.frame) ∧
  (∀ (s : State) (p x n m : Nat) (u : EqFound), s.role p = 3 → s.dlState p = 2 → m = x % 2 ^ (s.lanes p).length &&& (s.dlink p).usable &&& (u.rounds.getLast?.map eqReady).getD 0 →
    n = widthFit (popCount (s.lanes p).length m) → n ≠ 0 → ∃ t, exec (.eqExit p x u) s = .next t ∧ t.dlState p = 3 ∧
      t.reg .TILE_DL_STATUS_TX_WIDTH (p / 4) = widthCode n ∧ t.reg .TILE_DL_STATUS_RX_WIDTH (p / 4) = widthCode n ∧
      t.reg .TILE_DL_MASK_TX_MASK (p / 4) = lowLanes m n % 2 ^ 16 ∧ t.reg .TILE_DL_MASK_RX_MASK (p / 4) = lowLanes m n % 2 ^ 16 ∧ (t.dlink p).usable = lowLanes m n ∧ t.tr = s.tr ∧ t.frame = s.frame) ∧
  (∀ (s : State) (p x : Nat) (u : EqFound), s.dlState p ≠ 2 → exec (.eqExit p x u) s = .next { s with out := [] }) ∧
  (∀ (s : State) (p : Nat), s.role p = 3 → s.dlState p = 3 → 64 ≤ (s.dlink p).run → (s.dlink p).sent < 16383 → ∃ t, exec (.alignExit p) s = .next t ∧ t.dlState p = 4 ∧
    (t.dlink p).ping = ((s.dlink p).ping + 1) % 256 ∧ (t.dlink p).run = 0 ∧ t.out.length = 1 ∧ KeepsRegs s t [(.TILE_DL_STATUS_STATE, p / 4)] ∧ t.tr = s.tr ∧ t.frame = s.frame) ∧
  (∀ (s : State) (p : Nat), (s.dlState p ≠ 3 ∨ (s.dlink p).run < 64) → exec (.alignExit p) s = .next { s with out := [] }) ∧
  (∀ (s : State) (p : Nat) (x : TrainInfo), s.role p = 3 → s.dlState p = 4 → 8 ≤ (s.dlink p).run → (s.dlink p).heard = some x → x.dir ≠ s.ownDir p → creditsOk x = true → ∃ t, exec (.configExit p x) s = .next t ∧ t.dlState p = 5 ∧
    t.on .TILE_PORT_STATUS_LINK_UP p = true ∧ t.reg .TILE_DL_STATUS_PARTNER_SW (p / 4) = x.switchId % 2 ^ Fld.TILE_DL_STATUS_PARTNER_SW.width ∧
    t.reg .TILE_DL_RTT_RTT (p / 4) = min 65535 ((s.dlink p).rtt.getD 0) ∧
    (t.dlink p).limHdr = x.hdrCredits ∧ (t.dlink p).limData = x.dataCredits ∧ (t.dlink p).oldest = 0 ∧ (t.dlink p).nextTx = 0 ∧ (t.dlink p).nextRx = 0 ∧ t.tr.pkts = s.tr.pkts ∧ t.frame = s.frame) ∧
  (∀ (s : State) (p c : Nat) (x : TrainInfo), s.role p = 3 → s.dlState p = 4 → 8 ≤ (s.dlink p).run → (s.dlink p).heard = some x →
    ((x.dir = s.ownDir p ∧ c = 0x28) ∨ (x.dir ≠ s.ownDir p ∧ creditsOk x = false ∧ c = 0x24)) → ∃ t, exec (.configExit p x) s = .next t ∧ t.dlState p = 0 ∧
    t.reg .TILE_DL_STATUS_TX_WIDTH (p / 4) = 0 ∧ t.reg .TILE_DL_STATUS_RX_WIDTH (p / 4) = 0 ∧ t.reg .TILE_DL_MASK_TX_MASK (p / 4) = 0 ∧ t.reg .TILE_DL_MASK_RX_MASK (p / 4) = 0 ∧
    (t.dlink p).retryAt = some (s.now + 1000000) ∧ t.flt.reportQ = queueReport (s.effSev c none) s.flt.reportQ { source := c, kind := 1, scope := p, sev := none, isl := p / 4 } ∧
    t.tr = s.tr ∧ t.frame = s.frame) ∧
  (∀ (s : State) (p : Nat) (x : TrainInfo), (s.dlState p ≠ 4 ∨ (s.dlink p).run < 8 ∨ (s.dlink p).heard ≠ some x) → exec (.configExit p x) s = .next { s with out := [] }) ∧
  (∀ (s : State) (p x : Nat), (s.dlink p).retryAt = some x → s.role p = 3 → s.dlState p = 0 → (s.portTiles p).all (fun t => !s.closed t) = true → (s.lanes p).any s.inTest = false → ∃ t, exec (.retrainTimer p) s = .next t ∧ t.dlState p = 1 ∧
    (t.dlink p).retryAt = none ∧ t.now = max s.now x ∧ KeepsRegs s t [(.TILE_DL_STATUS_STATE, p / 4)] ∧ t.tr = s.tr ∧ t.pool = s.pool) ∧
  (∀ (s : State) (p : Nat), (s.dlink p).retryAt = none → exec (.retrainTimer p) s = .next { s with out := [] }) ∧
  (∀ (s : State) (p : Nat), s.role p = 3 → s.dlState p ≠ 0 → s.dlState p ≠ 6 → ∃ t, exec (.fabricLinkDown p) s = .next t ∧ t.dlState p = 0 ∧ (t.dlink p).replay = [] ∧
    t.on .TILE_PORT_STATUS_LINK_UP p = false ∧ t.frame = s.frame) ∧
  (∀ (s : State) (p : Nat), s.role p ≠ 3 → exec (.fabricLinkDown p) s = .next { s with out := [] }) ∧
  (∀ (s : State) (p i : Nat) (x : Transit), s.tr.transits.find? (fun t => t.id == i && t.port == p) = some x → ∃ t, exec (.transitRecordExpiry p i) s = .next t ∧
    (∀ y ∈ t.tr.transits, y.id ≠ i) ∧ t.now = max s.now x.due ∧ t.tr.pkts = s.tr.pkts ∧ t.out = [] ∧ t.regs = s.regs ∧ t.pool = s.pool) ∧
  (∀ (s : State) (p i : Nat), s.tr.transits.find? (fun t => t.id == i && t.port == p) = none → exec (.transitRecordExpiry p i) s = .next { s with out := [] })

/-- On an ACTIVE fabric link: a width request that meets a pending change is refused as BUSY and one whose mask does not fit as UNSUPPORTED. one that fits is pending until its SWITCH mark. WIDTH_READY for the pending mask switches the transmit side to it; a refusal or 100 microseconds without an answer end the change, and LINK_WIDTH with LINK_FAILED where it asked for it; a SWITCH mark moves the receive side. A lane that fails with automatic drop asks the partner for the lanes that are left, lanes that failed before left out; with fewer than two usable lanes left the link goes down. An idle bucket takes the member of its map again. -/
def Obligations.FabricWidthsAndBuckets : Prop :=
  (∀ (s : State) (p w m : Nat), s.fabActive p = true → (s.dlink p).chTx.isSome = true → exec (.widthReq p true w m) s = .next ({ s with out := [] }.linkCmd p 3 1 w 1 (m % 65536))) ∧
  (∀ (s : State) (p w m : Nat), s.fabActive p = true → (s.dlink p).chTx = none → maskFits (s.dlink p).usable w (m % 65536) = false →
    exec (.widthReq p true w m) s = .next ({ s with out := [] }.linkCmd p 3 1 w 2 (m % 65536))) ∧
  (∀ (s : State) (p w m : Nat), s.fabActive p = true → (s.dlink p).chRx = none → maskFits (s.dlink p).live w (m % 65536) = true → ∃ t, exec (.widthReq p false w m) s = .next t ∧
    t.reg .TILE_DL_STATUS_RX_PEND (p / 4) = 1 ∧ ((t.dlink p).chRx.map (·.mask)) = some (m % 65536) ∧
    (m % 65536 &&& s.reg .TILE_DL_MASK_RX_MASK (p / 4) = m % 65536 → KeepsRegs s t [(.TILE_DL_STATUS_RX_PEND, p / 4)]) ∧ t.tr = s.tr ∧ t.frame = s.frame) ∧
  (∀ (s : State) (p m : Nat) (c : WidthChange), s.fabActive p = true → (s.dlink p).chTx = some c → c.mask = m % 65536 → ∃ t, exec (.widthReady p m) s = .next t ∧
    t.reg .TILE_DL_MASK_TX_MASK (p / 4) = m % 65536 ∧ t.reg .TILE_DL_STATUS_TX_WIDTH (p / 4) = widthCode (popCount 16 (m % 65536)) ∧ t.reg .TILE_DL_STATUS_TX_PEND (p / 4) = 0 ∧
    (t.dlink p).chTx = none ∧ t.out = [.mark p (s.reg .TILE_DL_MASK_TX_MASK (p / 4) ||| m % 65536) (Folio.widthMark 1 (widthCode (popCount 16 (m % 65536))) (m % 65536))] ∧
    (s.waitsFor = some (.width p) → s.resultCode = none → t.resultCode = some 0) ∧ t.frame = s.frame) ∧
  (∀ (s : State) (p m : Nat), (s.dlink p).chTx = none → exec (.widthReady p m) s = .next { s with out := [] } ∧ exec (.widthChangeTimeout p) s = .next { s with out := [] }) ∧
  (∀ (s : State) (p r : Nat) (c : WidthChange), s.fabActive p = true → (s.dlink p).chTx = some c → c.byCommand = false → ∃ t, exec (.widthRefuse p true r) s = .next t ∧
    (t.dlink p).chTx = none ∧ t.reg .TILE_DL_STATUS_TX_PEND (p / 4) = 0 ∧ KeepsRegs s t ((.TILE_DL_STATUS_TX_PEND, p / 4) :: (s.lanes p).map (fun l => (.TILE_LANE_STATUS_TX_STATE, l))) ∧ t.port = s.port ∧ t.frame = s.frame) ∧
  (∀ (s : State) (p r : Nat) (c : WidthChange), s.fabActive p = true → (s.dlink p).chTx = some c → c.byCommand = true → s.waitsFor = some (.width p) → s.resultCode = none →
    ∃ t, exec (.widthRefuse p true r) s = .next t ∧ (t.dlink p).chTx = none ∧ t.reg .TILE_DL_STATUS_TX_PEND (p / 4) = 0 ∧ t.resultCode = some 0x30 ∧ t.frame = s.frame) ∧
  (∀ (s : State) (p r : Nat) (b : Bool), s.fabActive p = false → exec (.widthRefuse p b r) s = .next { s with out := [] }) ∧
  (∀ (s : State) (p w m : Nat) (lo hi : List (List Byte)), s.fabActive p = true → s.heardMark p 1 (lo ++ hi) = some (w, m) → widthCode (popCount 16 m) = w → w ≠ 0 → m < 2 ^ (s.lanes p).length →
    (s.on .TILE_DL_CTL_AUTO_DROP (p / 4) = false ∨ (s.dlink p).failed = 0) →
    ∃ t, exec (.switchMark p lo hi) s = .next t ∧
    t.reg .TILE_DL_MASK_RX_MASK (p / 4) = m % 65536 ∧ t.reg .TILE_DL_STATUS_RX_WIDTH (p / 4) = w ∧ t.reg .TILE_DL_STATUS_RX_PEND (p / 4) = 0 ∧ (t.dlink p).chRx = none ∧ t.tr = s.tr ∧ t.frame = s.frame) ∧
  (∀ (s : State) (p : Nat) (lo hi : List (List Byte)), s.heardMark p 1 (lo ++ hi) = none → exec (.switchMark p lo hi) s = .next { s with out := [] }) ∧
  (∀ (s : State) (p : Nat) (c : WidthChange), s.fabActive p = true → (s.dlink p).chTx = some c → ∃ t, exec (.widthChangeTimeout p) s = .next t ∧ (t.dlink p).chTx = none ∧
    t.reg .TILE_DL_STATUS_TX_PEND (p / 4) = 0 ∧ t.reg .TILE_DL_MASK_TX_MASK (p / 4) = s.reg .TILE_DL_MASK_TX_MASK (p / 4) ∧ t.now = max s.now (c.since + 100000) ∧
    (c.byCommand = true → s.waitsFor = some (.width p) → s.resultCode = none → t.resultCode = some 0x30) ∧ t.tr = s.tr ∧ t.pool = s.pool) ∧
  (∀ (s : State) (p l v r : Nat), s.fabActive p = true → l < 16 → bit (s.reg .TILE_DL_MASK_RX_MASK (p / 4)) l = true → s.reg .TILE_DL_CTL_AUTO_DROP (p / 4) = 1 → (s.dlink p).chRx = none →
    v = (s.dlink p).usable &&& (65535 ^^^ putBit (s.dlink p).failed l true) → r = s.reg .TILE_DL_MASK_RX_MASK (p / 4) &&& v → 2 ≤ popCount 16 v → ∃ t, exec (.autoDrop p l) s = .next t ∧
      t.reg .TILE_DL_STATUS_RX_PEND (p / 4) = 1 ∧ (t.dlink p).failed = putBit (s.dlink p).failed l true ∧
      ((t.dlink p).chRx.map (·.mask)) = some (if widthFit (popCount 16 r) = 0 then lowLanes v 2 else lowLanes r (widthFit (popCount 16 r))) ∧
      t.flt.reportQ = queueReport (s.effSev 0x29 (some 1)) s.flt.reportQ { source := 0x29, kind := 1, scope := p, sev := some 1, isl := p / 4 } ∧ t.fabActive p = true ∧ t.frame = s.frame) ∧
  (∀ (s : State) (p l : Nat), s.fabActive p = true → l < 16 → bit (s.reg .TILE_DL_MASK_RX_MASK (p / 4)) l = true →
    popCount 16 ((s.dlink p).usable &&& (65535 ^^^ putBit (s.dlink p).failed l true)) < 2 → ∃ t, exec (.autoDrop p l) s = .next t ∧
      t.dlState p = 0 ∧ t.on .TILE_PORT_STATUS_LINK_UP p = false ∧ t.frame = s.frame) ∧
  (∀ (s : State) (p l : Nat), bit (s.reg .TILE_DL_MASK_RX_MASK (p / 4)) l = false → exec (.autoDrop p l) s = .next { s with out := [] }) ∧
  (∀ (s : State) (g c b : Nat), c < 2 → b < 64 → Sparse.get? s.tr.lastBucket (bucketKey g c b) = none → s.tr.pkts.any (fun p => s.pktBucket p == some (bucketKey g c b)) = false →
    ∃ t, exec (.bucketRebind g c b) s = .next t ∧ t.boundMember g c b = groupMap s.com.active g c b ∧ t.tr.pkts = s.tr.pkts ∧ t.regs = s.regs ∧ t.frame = s.frame) ∧
  (∀ (s : State) (g c b : Nat), s.tr.pkts.any (fun p => s.pktBucket p == some (bucketKey g c b)) = true → exec (.bucketRebind g c b) s = .next { s with out := [] })

/-- After 10 ms a sleeping direction sleeps deeply, and it wakes when its port wants it back: a receiver relocks, from deep sleep after a calibration. A receiver that adapts moves its eye by a step toward the new one, and an eye that falls below a quarter of its trained height is marked and reported; a calibration counts. In TEST a write of the lane's test register takes the listed encodings, and a new checker pattern takes the lock; one injected bit counts at a synchronised checker that sees the generator, and rate injection repeats it every 2^INJ_EXP bits; 256 bits without an error after the seed give the checker its lock, and 32 errors within 1,024 bits take it; a read of the error count returns and clears it. Outside TEST and for tenants nothing changes; a write to a tile in reset or stopped waits for it. The size of one step of an eye, the order of received bits, the checker behind a loopback and the bits of an interval are the model's (log entries 145, 146, 27, 140). -/
def Obligations.LanesSleepAdaptAndTest : Prop :=
  (∀ (s : State) (l : Nat) (d : Dir), l < 256 → s.reg (laneField d) l = 2 → exec (.laneSleepDeep l d) s = .next (({ s with out := [] }.atNow ((Sparse.get? s.link.asleep (dirKey l d)).getD s.now + 10000000)).setReg (laneField d) l 3)) ∧
  (∀ (s : State) (l : Nat) (d : Dir), s.reg (laneField d) l ≠ 2 → exec (.laneSleepDeep l d) s = .next { s with out := [] }) ∧
  (∀ (s : State) (l : Nat) (d : Dir), l < 256 → (s.reg (laneField d) l = 2 ∨ s.reg (laneField d) l = 3) → s.wakes l d = true → ∃ t, exec (.laneWake l d) s = .next t ∧
    t.reg (laneField d) l = 1 ∧ (d = .rx → t.reg .TILE_LANE_STATUS_CDR_LOCK l = 1 ∧ t.reg .TILE_LANE_STATUS_SIG_DET l = 1 ∧
      t.reg .TILE_LANE_ADAPT_CAL_COUNT l = (if s.reg (laneField d) l = 3 then min (2 ^ Fld.TILE_LANE_ADAPT_CAL_COUNT.width - 1) (s.reg .TILE_LANE_ADAPT_CAL_COUNT l + 1) else s.reg .TILE_LANE_ADAPT_CAL_COUNT l)) ∧
    (d = .tx → t.regs = (s.setReg (laneField d) l 1).regs) ∧
    (s.reg (laneField d) l = 2 → KeepsRegs s t [(laneField d, l), (.TILE_LANE_STATUS_CDR_LOCK, l), (.TILE_LANE_STATUS_SIG_DET, l)]) ∧
    KeepsRegs s t [(laneField d, l), (.TILE_LANE_STATUS_CDR_LOCK, l), (.TILE_LANE_STATUS_SIG_DET, l), (.TILE_LANE_ADAPT_CAL_COUNT, l),
      (.TILE_LANE_ADAPT_EYE_H, l), (.TILE_LANE_ADAPT_EYE_W, l), (.TILE_LANE_ADAPT_CTLE, l), (.TILE_LANE_STATUS_MARGIN_LOW, l)] ∧ t.tr = s.tr ∧ t.frame = s.frame) ∧
  (∀ (s : State) (l : Nat) (d : Dir), (s.wakes l d = false ∨ (s.reg (laneField d) l ≠ 2 ∧ s.reg (laneField d) l ≠ 3)) → exec (.laneWake l d) s = .next { s with out := [] }) ∧
  (∀ (s : State) (l h w c e : Nat), l < 256 → s.adapts l = true → Sparse.get? s.link.trainedEye l = some e → e ≤ 4 * s.reg .TILE_LANE_ADAPT_EYE_H l → ∃ t, exec (.adaptationStep l h w c) s = .next t ∧
    t.reg .TILE_LANE_ADAPT_EYE_H l = eyeStep (s.reg .TILE_LANE_ADAPT_EYE_H l) (min 255 h) % 2 ^ Fld.TILE_LANE_ADAPT_EYE_H.width ∧
    t.reg .TILE_LANE_ADAPT_EYE_W l = eyeStep (s.reg .TILE_LANE_ADAPT_EYE_W l) (min 255 w) % 2 ^ Fld.TILE_LANE_ADAPT_EYE_W.width ∧ t.reg .TILE_LANE_ADAPT_CTLE l = c % 2 ^ Fld.TILE_LANE_ADAPT_CTLE.width ∧
    (4 * eyeStep (s.reg .TILE_LANE_ADAPT_EYE_H l) (min 255 h) < e → t.reg .TILE_LANE_STATUS_MARGIN_LOW l = 1 ∧
      t.flt.reportQ = queueReport (s.effSev 0x57 none) s.flt.reportQ { source := 0x57, kind := 0, scope := l, sev := none, isl := l / 8 }) ∧
    (e ≤ 4 * eyeStep (s.reg .TILE_LANE_ADAPT_EYE_H l) (min 255 h) → t.reg .TILE_LANE_STATUS_MARGIN_LOW l = s.reg .TILE_LANE_STATUS_MARGIN_LOW l ∧ t.flt = s.flt) ∧ t.frame = s.frame) ∧
  (∀ (s : State) (l h w c : Nat), s.adapts l = false → exec (.adaptationStep l h w c) s = .next { s with out := [] } ∧ exec (.offsetCalibration l) s = .next { s with out := [] }) ∧
  (∀ (s : State) (l : Nat), l < 256 → s.adapts l = true → exec (.offsetCalibration l) s = .next ({ s with out := [] }.bump .TILE_LANE_ADAPT_CAL_COUNT l)) ∧
  (∀ (s : State) (k l v : Nat), l < 256 → s.operator k = true → s.regOpen (l / 8) = true → s.regWaits (l / 8) = false → s.inTest l = true → bit v 19 = false → ∃ t, exec (.tileLaneTestWrite k l v) s = .next t ∧
    t.reg .TILE_LANE_TEST_LPBK l = (if bits v 2 0 ≤ 3 then bits v 2 0 else s.reg .TILE_LANE_TEST_LPBK l) ∧
    t.reg .TILE_LANE_TEST_GEN_PAT l = (if patOk (s.reg .TILE_LANE_STATUS_RATE l) (bits v 6 3) then bits v 6 3 else s.reg .TILE_LANE_TEST_GEN_PAT l) ∧
    t.reg .TILE_LANE_TEST_CHK_PAT l = (if patOk (s.reg .TILE_LANE_STATUS_RATE l) (bits v 10 7) then bits v 10 7 else s.reg .TILE_LANE_TEST_CHK_PAT l) ∧
    t.reg .TILE_LANE_TEST_INJ_MODE l = (if bits v 12 11 ≤ 2 then bits v 12 11 else s.reg .TILE_LANE_TEST_INJ_MODE l) ∧
    (t.reg .TILE_LANE_TEST_CHK_PAT l ≠ s.reg .TILE_LANE_TEST_CHK_PAT l → s.reg .TILE_LANE_TEST_CHK_SYNC l = 1 → t.reg .TILE_LANE_TEST_CHK_SYNC l = 0) ∧ t.tr = s.tr ∧ t.frame = s.frame) ∧
  (∀ (s : State) (k l v : Nat), l < 256 → s.operator k = true → s.regWaits (l / 8) = true → ∃ t, exec (.tileLaneTestWrite k l v) s = .next t ∧
    t.isl.heldRegs = s.isl.heldRegs ++ [(l / 8, { host := k, tag := 0, offset := laneReg l, size := 4, kind := .write, value := v })] ∧
    KeepsRegs s t [(.SUP_ISL_STATUS_WAKE_PEND, l / 8)] ∧ t.link = s.link ∧ t.frame = s.frame) ∧
  (∀ (s : State) (k l v : Nat), (s.operator k = false ∨ (s.regOpen (l / 8) = true ∧ s.regWaits (l / 8) = false ∧ s.inTest l = false)) → exec (.tileLaneTestWrite k l v) s = .next { s with out := [] } ∧ exec (.injGo k l) s = .next { s with out := [] }) ∧
  (∀ (s : State) (k l : Nat), l < 256 → s.operator k = true → s.regOpen (l / 8) = true → s.regWaits (l / 8) = false → s.reg .TILE_LANE_TEST_INJ_MODE l = 1 → s.inTest l = true → s.nearEnd l = true → s.reg .TILE_LANE_TEST_LPBK l ≠ 3 → s.reg .TILE_LANE_STATUS_RATE l < 6 → s.reg .TILE_LANE_TEST_CHK_SYNC l = 1 →
    s.reg .TILE_LANE_TEST_GEN_PAT l = s.reg .TILE_LANE_TEST_CHK_PAT l → Sparse.get? s.link.gens l = some (s.checker l).reg → (s.checker l).errs = [] → ∃ t, exec (.injGo k l) s = .next t ∧
      t.reg .TILE_PRBS_ERR_COUNT l = min (2 ^ Fld.TILE_PRBS_ERR_COUNT.width - 1) (s.reg .TILE_PRBS_ERR_COUNT l + 1) ∧
      KeepsRegs s t [(.TILE_PRBS_ERR_COUNT, l)] ∧ t.tr = s.tr ∧ t.frame = s.frame) ∧
  (∀ (s : State) (k l d : Nat), l < 256 → s.operator k = true → s.regOpen (l / 8) = true → s.regWaits (l / 8) = false → s.inTest l = true → s.reg .TILE_LANE_TEST_INJ_MODE l = 2 →
    d = max 1 (rate2 (s.reg .TILE_LANE_STATUS_RATE l)) → ∃ t, exec (.injGo k l) s = .next t ∧
      Sparse.get? t.link.injecting l = some (s.now + 2 ^ (s.reg .TILE_LANE_TEST_INJ_EXP l + 1) / d, 2 ^ (s.reg .TILE_LANE_TEST_INJ_EXP l + 1) % d) ∧ t.regs = s.regs ∧ t.tr = s.tr ∧ t.frame = s.frame) ∧
  (∀ (s : State) (l x r n d : Nat), Sparse.get? s.link.injecting l = some (x, r) → s.reg .TILE_LANE_TEST_INJ_MODE l = 2 → n = 2 ^ (s.reg .TILE_LANE_TEST_INJ_EXP l + 1) + r →
    d = max 1 (rate2 (s.reg .TILE_LANE_STATUS_RATE l)) → s.inTest l = true → s.nearEnd l = true → s.reg .TILE_LANE_TEST_LPBK l ≠ 3 → s.reg .TILE_LANE_STATUS_RATE l < 6 → s.reg .TILE_LANE_TEST_CHK_SYNC l = 1 →
    s.reg .TILE_LANE_TEST_GEN_PAT l = s.reg .TILE_LANE_TEST_CHK_PAT l → Sparse.get? s.link.gens l = some (s.checker l).reg → (s.checker l).errs = [] → ∃ t, exec (.rateInjection l) s = .next t ∧
      t.reg .TILE_PRBS_ERR_COUNT l = min (2 ^ Fld.TILE_PRBS_ERR_COUNT.width - 1) (s.reg .TILE_PRBS_ERR_COUNT l + 1) ∧
      KeepsRegs s t [(.TILE_PRBS_ERR_COUNT, l)] ∧ Sparse.get? t.link.injecting l = some (x + n / d, n % d) ∧ t.now = max s.now x ∧ t.tr = s.tr ∧ t.pool = s.pool) ∧
  (∀ (s : State) (l : Nat), Sparse.get? s.link.injecting l = none → exec (.rateInjection l) s = .next { s with out := [] }) ∧
  (∀ (s : State) (l p : Nat) (rx bs : List Nat), s.inTest l = true → p = s.reg .TILE_LANE_TEST_CHK_PAT l → p ≠ 0 → s.reg .TILE_LANE_TEST_CHK_SYNC l = 0 → bs = (s.received ⟨l, rx⟩).1 →
    Folio.patDegree p + 256 ≤ bs.length → (checkRun p { lane := l, reg := (bs.take (Folio.patDegree p)).foldl (Folio.shiftIn p) 0 } (bs.drop (Folio.patDegree p))).1 = 0 → ∃ t, exec (.chkSync ⟨l, rx⟩) s = .next t ∧
    t.reg .TILE_LANE_TEST_CHK_SYNC l = 1 ∧ (s.reg .TILE_LANE_TEST_LPBK l ≠ 2 → t.reg .TILE_LANE_STATUS_SIG_DET l = 1 ∧ t.reg .TILE_LANE_STATUS_CDR_LOCK l = 1) ∧
    KeepsRegs s t [(.TILE_LANE_TEST_CHK_SYNC, l), (.TILE_LANE_STATUS_SIG_DET, l), (.TILE_LANE_STATUS_CDR_LOCK, l)] ∧ t.checkedBits l = s.checkedBits l ∧ t.frame = s.frame) ∧
  (∀ (s : State) (l n : Nat) (c : Checker) (rx bs : List Nat), s.inTest l = true → s.reg .TILE_LANE_TEST_CHK_SYNC l = 1 → bs = (s.received ⟨l, rx⟩).1 → bs.length ≤ 1024 →
    checkRun (s.reg .TILE_LANE_TEST_CHK_PAT l) (s.checker l) bs = (n, c, true) → ∃ t, exec (.lockLoss ⟨l, rx⟩) s = .next t ∧ t.reg .TILE_LANE_TEST_CHK_SYNC l = 0 ∧
    t.reg .TILE_PRBS_ERR_COUNT l = min (2 ^ Fld.TILE_PRBS_ERR_COUNT.width - 1) (s.reg .TILE_PRBS_ERR_COUNT l + n) ∧
    t.reg .TILE_PRBS_SYNC_LOCK_LOSS l = min (2 ^ Fld.TILE_PRBS_SYNC_LOCK_LOSS.width - 1) (s.reg .TILE_PRBS_SYNC_LOCK_LOSS l + 1) ∧
    KeepsRegs s t [(.TILE_LANE_TEST_CHK_SYNC, l), (.TILE_PRBS_SYNC_LOCK_LOSS, l), (.TILE_PRBS_ERR_COUNT, l)] ∧ t.checkedBits l = s.checkedBits l ∧ t.frame = s.frame) ∧
  (∀ (s : State) (l n : Nat) (c : Checker) (rx bs : List Nat), s.inTest l = true → s.reg .TILE_LANE_TEST_CHK_SYNC l = 1 → bs = (s.received ⟨l, rx⟩).1 → bs.length ≤ 1024 →
    checkRun (s.reg .TILE_LANE_TEST_CHK_PAT l) (s.checker l) bs = (n, c, false) → ∃ t, exec (.lockLoss ⟨l, rx⟩) s = .next t ∧
    t.reg .TILE_PRBS_ERR_COUNT l = min (2 ^ Fld.TILE_PRBS_ERR_COUNT.width - 1) (s.reg .TILE_PRBS_ERR_COUNT l + n) ∧ KeepsRegs s t [(.TILE_PRBS_ERR_COUNT, l)] ∧
    (t.checker l).reg = c.reg ∧ t.frame = s.frame) ∧
  (∀ (s : State) (l : Nat) (rx : List Nat), s.inTest l = false → exec (.chkSync ⟨l, rx⟩) s = .next { s with out := [] } ∧ exec (.lockLoss ⟨l, rx⟩) s = .next { s with out := [] }) ∧
  (∀ (s : State) (k l : Nat), l < 256 → s.operator k = true → s.regOpen (l / 8) = true → s.regWaits (l / 8) = false → ∃ t, exec (.tilePrbsErrRead k l) s = .next t ∧ t.out = [.read (s.reg .TILE_PRBS_ERR_COUNT l)] ∧
    t.reg .TILE_PRBS_ERR_COUNT l = 0 ∧ t.reg .TILE_PRBS_BITS_COUNT l = s.checkedBits l % 2 ^ Fld.TILE_PRBS_BITS_COUNT.width ∧ t.checkedBits l = 0 ∧
    KeepsRegs s t [(.TILE_PRBS_ERR_COUNT, l), (.TILE_PRBS_BITS_COUNT, l)] ∧ t.frame = s.frame) ∧
  (∀ (s : State) (k l : Nat), l < 256 → s.operator k = true → s.islState (l / 8) = 0 → exec (.tilePrbsErrRead k l) s = .next { s with out := [.read 0] })

/-- A channel: an insertion of an OFF channel starts 100 ms of debounce and counts; a removal of a powered one goes to SETTLE; the enable pin turns an ON channel to STOPPING and a channel that meets R674 to RAMP; power good, an enhanced gate, the end of STOPPING and of settling each move it on; a fast trip latches it, with INRUSH_SHORT in RAMP and FAST_TRIP otherwise; an idle sample below the reference only lowers it. -/
def Obligations.SlotChannelsSwitchAndLatch : Prop :=
  (∀ (s : State) (k : Nat), k < 32 → s.on .SLT_STATUS_PRSNT k = false → s.chState k = 0 → (s.ch k).settleAt = none → ∃ t, exec (.insertionRecognised k) s = .next t ∧
    t.chState k = 1 ∧ t.on .SLT_STATUS_PRSNT k = true ∧ t.reg .SLT_GEN_GEN k = (s.reg .SLT_GEN_GEN k + 1) % 2 ^ Fld.SLT_GEN_GEN.width ∧ (t.ch k).debounceAt = some (s.now + 100000000) ∧
    KeepsRegs s t [(.SLT_STATUS_PRSNT, k), (.SLT_GEN_GEN, k), (.SLT_STATUS_STATE, k)] ∧ t.frame = s.frame) ∧
  (∀ (s : State) (k : Nat), s.on .SLT_STATUS_PRSNT k = true → exec (.insertionRecognised k) s = .next { s with out := [] }) ∧
  (∀ (s : State) (k : Nat), k < 32 → s.on .SLT_STATUS_PRSNT k = true → s.chState k = 4 → s.chanPort k = none → ∃ t, exec (.removalRecognised k) s = .next t ∧ t.chState k = 6 ∧
    t.on .SLT_STATUS_PRSNT k = false ∧ t.reg .SLT_STATUS_PERST k = 1 ∧ (t.ch k).settleAt = some (s.now + (s.ch k).tSettle) ∧ (t.ch k).debounceAt = none ∧ t.frame = s.frame) ∧
  (∀ (s : State) (k p : Nat), k < 32 → s.on .SLT_STATUS_PRSNT k = true → s.chanPort k = some p → ∃ t, exec (.removalRecognised k) s = .next t ∧ t.on .SLT_STATUS_PRSNT k = false ∧
    t.on .TILE_PORT_STATUS_PRESENT p = false ∧ (∀ d ∈ t.link.devices, d.port ≠ p) ∧ t.frame = s.frame) ∧
  (∀ (s : State) (k : Nat), s.on .SLT_STATUS_PRSNT k = false → exec (.removalRecognised k) s = .next { s with out := [] }) ∧
  (∀ (s : State) (k : Nat), k < 32 → s.on .SLT_STATUS_EN_PIN k = false → s.chState k = 0 → ({ s with out := [] }.setReg .SLT_STATUS_EN_PIN k 1).mayTurnOn k = true →
    ∃ t, exec (.slotEnAssert k) s = .next t ∧ t.chState k = 2 ∧ t.on .SLT_STATUS_EN_PIN k = true ∧ t.reg .SLT_CFG_ACTIVE k = s.reg .SLT_CFG_PROFILE k ∧
      (t.ch k).prof = s.profNums (s.reg .SLT_CFG_PROFILE k) ∧ (t.ch k).cnt = List.replicate 8 0 ∧ (t.ch k).stateAt = s.now ∧ t.frame = s.frame) ∧
  (∀ (s : State) (k : Nat), k < 32 → s.on .SLT_STATUS_EN_PIN k = true → s.chState k = 4 → ∃ t, exec (.slotEnDeassert k) s = .next t ∧ t.chState k = 5 ∧ t.on .SLT_STATUS_EN_PIN k = false ∧
    t.reg .SLT_STATUS_PERST k = 1 ∧ KeepsRegs s t [(.SLT_STATUS_STATE, k), (.SLT_STATUS_EN_PIN, k), (.SLT_STATUS_PERST, k)] ∧ t.frame = s.frame) ∧
  (∀ (s : State) (k : Nat), s.on .SLT_STATUS_EN_PIN k = true → exec (.slotEnAssert k) s = .next { s with out := [] }) ∧
  (∀ (s : State) (k : Nat), s.on .SLT_STATUS_EN_PIN k = false → exec (.slotEnDeassert k) s = .next { s with out := [] }) ∧
  (∀ (s : State) (k p x : Nat), k < 32 → (s.ch k).debounceAt = some x → s.chState k = 1 → s.sltUp = true → s.chanPort k = some p → s.on .SLT_CTL_EN k = false → ∃ t, exec (.debounceEnd k) s = .next t ∧
    t.on .TILE_PORT_STATUS_PRESENT p = true ∧ t.chState k = 0 ∧ (t.ch k).debounceAt = none ∧ t.now = max s.now x ∧ t.tr = s.tr ∧ t.pool = s.pool) ∧
  (∀ (s : State) (k : Nat), (s.ch k).debounceAt = none → exec (.debounceEnd k) s = .next { s with out := [] }) ∧
  (∀ (s : State) (k : Nat), k < 32 → s.chState k = 2 → ∃ t, exec (.slotPowerGood k) s = .next t ∧ t.chState k = 3 ∧ (t.ch k).stateAt = s.now ∧ KeepsRegs s t [(.SLT_STATUS_STATE, k)] ∧ t.frame = s.frame) ∧
  (∀ (s : State) (k : Nat), k < 32 → s.chState k = 3 → ∃ t, exec (.gateEnhanced k) s = .next t ∧ t.chState k = 4 ∧ (t.ch k).stateAt = s.now ∧ KeepsRegs s t [(.SLT_STATUS_STATE, k)] ∧ t.frame = s.frame) ∧
  (∀ (s : State) (k : Nat), k < 32 → s.chState k = 5 → ∃ t, exec (.stoppingEnd k) s = .next t ∧ t.chState k = 6 ∧ t.reg .SLT_STATUS_PERST k = 1 ∧ t.now = max s.now ((s.ch k).stateAt + 500000) ∧
      (t.ch k).settleAt = some (t.now + (s.ch k).tSettle) ∧ KeepsRegs s t [(.SLT_STATUS_STATE, k), (.SLT_STATUS_PERST, k)] ∧ t.pool = s.pool) ∧
  (∀ (s : State) (k : Nat), s.chState k ≠ 2 → exec (.slotPowerGood k) s = .next { s with out := [] }) ∧
  (∀ (s : State) (k : Nat), s.chState k ≠ 3 → exec (.gateEnhanced k) s = .next { s with out := [] }) ∧
  (∀ (s : State) (k : Nat), s.chState k ≠ 5 → exec (.stoppingEnd k) s = .next { s with out := [] }) ∧
  (∀ (s : State) (k x : Nat), (s.ch k).settleAt = some x → s.chState k = 6 → ∃ t, exec (.settleEnd k) s = .next t ∧ t.chState k = flag (s.on .SLT_STATUS_PRSNT k) ∧ (t.ch k).settleAt = none ∧
    t.now = max s.now x ∧ KeepsRegs s t [(.SLT_STATUS_STATE, k)] ∧ t.pool = s.pool) ∧
  (∀ (s : State) (k : Nat), (s.ch k).settleAt = none → exec (.settleEnd k) s = .next { s with out := [] }) ∧
  (∀ (s : State) (k i v : Nat) (g : Bool), k < 32 → s.chState k = 0 → (s.ch k).fetHigh (millivolt v) = false → 1 < (s.ch k).capWin - (s.ch k).capN → ∃ t, exec (.slotSample k i v g) s = .next t ∧
    (t.ch k).lowV = some (min ((s.ch k).lowV.getD (millivolt v)) (millivolt v)) ∧ (t.ch k).fetAt = none ∧ (t.ch k).sampleAt = t.now ∧ t.now = max s.now ((s.ch k).sampleAt + 2000) ∧
    t.regs = s.regs ∧ t.flt = s.flt ∧ t.pool = s.pool) ∧
  (∀ (s : State) (k i v : Nat) (g : Bool), 32 ≤ k → exec (.slotSample k i v g) s = .next { s with out := [] }) ∧
  (∀ (s : State) (k : Nat), k < 32 → gateOn (s.chState k) = true → ∃ t, exec (.fastTrip k) s = .next t ∧ t.chState k = 7 ∧ t.reg .SLT_STATUS_CAUSE k = (if s.chState k = 2 then 3 else 1) ∧
    t.reg .SLT_STATUS_BRK_POINT k = 0 ∧ t.reg .SLT_STATUS_PERST k = 1 ∧ (t.ch k).settleAt = some (s.now + (s.ch k).tSettle) ∧ t.frame = s.frame) ∧
  (∀ (s : State) (k : Nat), gateOn (s.chState k) = false → exec (.fastTrip k) s = .next { s with out := [] })

/-- While the interface works an operator's EN 0 turns an ON channel to STOPPING and arms the clearing of a latched one, and EN 1 turns on a channel that meets R674; a tenant's write changes nothing. Outside a reset SLOT_PERST_N of a channel on a link that is up goes high 100 ms after ON. A failed link freezes the SLT registers and is a fault; its return ends it. VBCD power-up makes every channel OFF without presence. -/
def Obligations.SlotPowerCommandsAndInterface : Prop :=
  (∀ (s : State) (h k en : Nat), k < 32 → s.operator h = true → s.sltUp = true → en % 2 = 0 → s.chState k = 4 → ∃ t, exec (.sltCtlWrite h k en) s = .next t ∧
    t.reg .SLT_CTL_EN k = 0 ∧ t.chState k = 5 ∧ t.reg .SLT_STATUS_PERST k = 1 ∧ KeepsRegs s t [(.SLT_CTL_EN, k), (.SLT_STATUS_STATE, k), (.SLT_STATUS_PERST, k)] ∧ t.frame = s.frame) ∧
  (∀ (s : State) (h k en : Nat), k < 32 → s.operator h = true → s.sltUp = true → en % 2 = 0 → s.chState k = 7 → ∃ t, exec (.sltCtlWrite h k en) s = .next t ∧
    t.reg .SLT_CTL_EN k = 0 ∧ t.chState k = 7 ∧ t.reg .SLT_STATUS_CLR_ARMED k = 1 ∧ (t.ch k).enLow = true ∧ t.frame = s.frame) ∧
  (∀ (s : State) (h k : Nat), k < 32 → s.operator h = true → s.chState k = 0 → s.sltUp = true → ({ s with out := [] }.setReg .SLT_CTL_EN k 1).mayTurnOn k = true → ∃ t, exec (.sltCtlWrite h k 1) s = .next t ∧
    t.reg .SLT_CTL_EN k = 1 ∧ t.chState k = 2 ∧ t.reg .SLT_CFG_ACTIVE k = s.reg .SLT_CFG_PROFILE k ∧ (t.ch k).prof = s.profNums (s.reg .SLT_CFG_PROFILE k) ∧ t.frame = s.frame) ∧
  (∀ (s : State) (h k en : Nat), (s.operator h = false ∨ s.sltUp = false) → exec (.sltCtlWrite h k en) s = .next { s with out := [] }) ∧
  (∀ (s : State) (k p : Nat), k < 32 → s.boot.stage = .none → s.chanPort k = some p → s.portChan p = some k → s.chState k = 4 → s.on .TILE_PORT_STATUS_LINK_UP p = true → s.reg .FLT_PORT_STATE p ≠ 1 →
    (∀ l ∈ s.lanes p, s.inTest l = false) → ∃ t, exec (.slotPerstRelease k) s = .next t ∧ t.reg .SLT_STATUS_PERST k = 0 ∧ t.now = max s.now ((s.ch k).stateAt + 100000000) ∧
      KeepsRegs s t [(.SLT_STATUS_PERST, k)] ∧ t.tr = s.tr ∧ t.pool = s.pool) ∧
  (∀ (s : State) (k : Nat), s.chState k ≠ 4 → exec (.slotPerstRelease k) s = .next { s with out := [] }) ∧
  (∀ s : State, s.on .SLT_SUMMARY_LINK_OK = true → ∃ t, exec .slotLinkFail s = .next t ∧ t.on .SLT_SUMMARY_LINK_OK = false ∧ t.isl.sltCopy.isSome = true ∧
    t.flt.causes.contains { source := 0x0F, kind := 0, scope := 0, sev := none } = true ∧ t.flt.reportQ = queueReport (s.effSev 0x0F none) s.flt.reportQ { source := 0x0F, kind := 0, scope := 0, sev := none, isl := 54 } ∧
    t.chan = s.chan ∧ KeepsRegs s t [(.SLT_SUMMARY_LINK_OK, 0)] ∧ t.frame = s.frame) ∧
  (∀ s : State, s.on .SLT_SUMMARY_LINK_OK = false → exec .slotLinkFail s = .next { s with out := [] }) ∧
  (∀ s : State, s.on .SLT_SUMMARY_LINK_OK = false → ∃ t, exec .slotLinkRestored s = .next t ∧ t.on .SLT_SUMMARY_LINK_OK = true ∧ (s.running 54 = true → t.isl.sltCopy = none) ∧ t.frame = s.frame) ∧
  (∀ s : State, s.on .SLT_SUMMARY_LINK_OK = true → exec .slotLinkRestored s = .next { s with out := [] }) ∧
  (∀ s : State, s.running 54 = true → s.flt.causes.any (fun c => c.source == 0x0F) = false → ∃ t, exec .slotInterfaceResync s = .next t ∧ t.on .SLT_SUMMARY_LINK_OK = true ∧
    t.isl.sltCopy = none ∧ t.frame = s.frame) ∧
  (∀ s : State, s.running 54 = false → exec .slotInterfaceResync s = .next { s with out := [] }) ∧
  (∀ s : State, ∃ t, exec .vbcdRise s = .next t ∧ t.chan = [] ∧ (∀ k, k < 32 → t.chState k = 0 ∧ t.reg .SLT_CTL_EN k = 0 ∧ t.on .SLT_STATUS_PRSNT k = false ∧
    t.reg .SLT_STATUS_PERST k = 1 ∧ t.reg .SLT_CFG_ACTIVE k = 15 ∧ t.reg .SLT_GEN_GEN k = 0) ∧ t.frame = s.frame)

/-- The first record of its sender that reaches the metering island is counted in its interval and its peak window. At a tick the open bank begins to close and a new one opens; a closed bank joins the batches, of which fewer than sixteen wait; an unsigned batch is signed with the chain's next sequence number; a signed one that nothing holds back goes to the ring. While the metering island runs, only the billing host arms the ring and moves its tail; at one that is OFF or LOST the write is dropped and counted. Operators' writes start a snapshot, whose end shows what each counter held at its copy, configure a counter and clear it, and configure sampling; a decided sample joins a buffer that has room. -/
def Obligations.MeteringCountersAndSamples : Prop :=
  (∀ (s : State) (c : CountRec), s.metRuns = true → s.met.sent.find? (fun x => x.src == c.src) = some c → s.met.closing = none → s.met.start ≤ c.ts → ∃ t, exec (.countingRecord c) s = .next t ∧
    t.met.opened = bankTake s.peakNs s.met.opened c ∧ t.met.sent = s.met.sent.erase c ∧ t.met.recHeld = [] ∧ t.met.batches = s.met.batches ∧ t.regs = s.regs ∧ t.tr = s.tr ∧ t.frame = s.frame) ∧
  (∀ (s : State) (c : CountRec), (s.metRuns = false ∨ s.met.sent.find? (fun x => x.src == c.src) ≠ some c) → exec (.countingRecord c) s = .next { s with out := [] }) ∧
  (∀ s : State, s.phase = 5 → s.metRuns = true → s.met.closing = none → s.met.sent = [] → s.com.meterNext = none → ∃ t, exec .tickBoundary s = .next t ∧
    t.met.closing = some (s.met.opened, s.met.start, s.met.nextEnd) ∧ t.met.winOld = s.peakNs ∧ t.met.opened = s.freshBank ∧ t.met.start = s.met.nextEnd ∧
    t.met.nextEnd = nextTick s.met.nextEnd s.com.meter.tickS ∧ KeepsRegs s t [(.MET_INTERVAL_START, 0)] ∧ t.now = (s.atDev s.met.nextEnd).now ∧ t.pool = s.pool ∧ t.flash = s.flash ∧ t.part = s.part) ∧
  (∀ s : State, (s.phase < 5 ∨ s.metRuns = false) → exec .tickBoundary s = .next { s with out := [] }) ∧
  (∀ s : State, s.met.sent = [] → ∃ t, exec .peakWindowEnd s = .next t ∧ t.met.opened = foldPeak s.peakNs t.dev s.met.opened ∧ t.met.winAt = t.dev ∧ t.regs = s.regs ∧
    t.now = (s.atDev ((s.met.winAt / s.peakNs + 1) * s.peakNs)).now ∧ t.pool = s.pool) ∧
  (∀ (s : State) (l : List MetRec) (a b : Nat), s.met.closing = some (l, a, b) → s.met.sent = [] → s.met.batches.length < 16 → s.on .MET_STATUS_MERGING = false → ∃ t, exec .bankClose s = .next t ∧
    t.met.closing = none ∧ (∃ x : Batch, t.met.batches = s.met.batches ++ [x] ∧ x.start = a ∧ x.stop = b ∧ x.digest = none) ∧ t.met.opened = s.met.opened ∧ t.regs = s.regs ∧
    t.now = (s.atDev (b + 5000)).now ∧ t.pool = s.pool) ∧
  (∀ s : State, s.met.closing = none → exec .bankClose s = .next { s with out := [] }) ∧
  (∀ (s : State) (x : Batch) (rest : List Batch), s.keyCommand = false → s.met.batches = x :: rest → x.digest = none → ∃ t y, exec .batchSigned s = .next t ∧ t.met.batches = y :: rest ∧
    y.seq = s.met.nextSeq ∧ y.prev = s.met.prev ∧ y.digest = some t.met.prev ∧ y.records = x.records ∧ t.met.nextSeq = s.met.nextSeq + 1 ∧ t.met.chainStart = false ∧ t.regs = s.regs ∧ t.frame = s.frame) ∧
  (∀ s : State, s.keyCommand = true → exec .batchSigned s = .next { s with out := [] }) ∧
  (∀ (s : State) (x : Batch) (rest : List Batch), s.met.batches = x :: rest → x.digest.isSome = true → s.heldBack x = false → ∃ t, exec .batchWriteDone s = .next t ∧ t.met.batches = rest ∧
    t.out.head? = some (.ledger x.plan.billing (x.plan.ringBase + 524288 * (s.reg .MET_RING_HEAD_HEAD 0 % x.plan.ringSlots)) (x.bytes s.part.serial ++ signatureBlock (s.sysKey 2) 2 (x.digest.getD 0))) ∧
    t.reg .MET_RING_HEAD_HEAD 0 = (s.reg .MET_RING_HEAD_HEAD 0 + 1) % 2 ^ Fld.MET_RING_HEAD_HEAD.width ∧ t.reg .MET_SEQ_LAST 0 = x.seq % 2 ^ Fld.MET_SEQ_LAST.width ∧
    KeepsRegs s t [(.MET_RING_HEAD_HEAD, 0), (.MET_SEQ_LAST, 0)] ∧ t.tr = s.tr ∧ t.frame = s.frame) ∧
  (∀ s : State, (s.met.batches = [] ∨ ∃ x rest, s.met.batches = x :: rest ∧ s.heldBack x = true) → exec .batchWriteDone s = .next { s with out := [] }) ∧
  (∀ (s : State) (k v : Nat), s.metRuns = true → s.billing k = true → (∃ t, exec (.metRingArm k v) s = .next t ∧ t.reg .MET_RING_HEAD_HEAD 0 = v % 4096 ∧ t.reg .MET_RING_TAIL_TAIL 0 = v % 4096 ∧
      t.on .MET_STATUS_ARMED = true ∧ t.reg .MET_RING_CTL_START 0 = v % 4096 ∧ t.met = s.met ∧ t.frame = s.frame) ∧
    exec (.metRingTailWrite k v) s = .next ({ s with out := [] }.setReg .MET_RING_TAIL_TAIL 0 v)) ∧
  (∀ (s : State) (k v : Nat), s.metRuns = true → s.billing k = false → exec (.metRingArm k v) s = .next { s with out := [] } ∧ exec (.metRingTailWrite k v) s = .next { s with out := [] }) ∧
  (∀ (s : State) (k v : Nat), s.regOpen 53 = false → exec (.metRingArm k v) s = .next ({ s with out := [] }.bump .SUP_XING_DROP_COUNT 0) ∧
    exec (.metRingTailWrite k v) s = .next ({ s with out := [] }.bump .SUP_XING_DROP_COUNT 0)) ∧
  (∀ (s : State) (k : Nat), s.operator k = true → s.running 55 = true → s.on .PMC_CTL_BUSY = false → ∃ t, exec (.pmcSnap k) s = .next t ∧ t.on .PMC_CTL_BUSY = true ∧
    t.met.snapAt = some s.dev ∧ t.met.snapSet = (List.range 476).filter (fun i => s.reg .PMC_CFG_ENABLE i == 1) ∧ t.met.snapKept = [] ∧ KeepsRegs s t [(.PMC_CTL_BUSY, 0)] ∧ t.frame = s.frame) ∧
  (∀ (s : State) (x b : Nat), s.met.snapAt = some x → s.boot.timeBase = some b → ∃ t, exec .snapshotDone s = .next t ∧ t.on .PMC_CTL_BUSY = false ∧ t.met.snapAt = none ∧
    t.now = max s.now (b + (x + 20 * s.met.snapSet.length)) ∧
    (∀ i, i < 476 → i ∈ s.met.snapSet → s.countsCycles i = false → Sparse.get? s.met.snapKept i = none →
      t.reg .PMC_SNAP_VAL_COUNT i = ((Sparse.get? s.met.ctrs i).getD 0) % 2 ^ Fld.PMC_SNAP_VAL_COUNT.width) ∧
    (∀ i v st, i < 476 → i ∈ s.met.snapSet → Sparse.get? s.met.snapKept i = some (v, st) → t.reg .PMC_SNAP_VAL_COUNT i = v % 2 ^ Fld.PMC_SNAP_VAL_COUNT.width) ∧
    (∀ i, i ∉ s.met.snapSet → t.reg .PMC_SNAP_VAL_COUNT i = s.reg .PMC_SNAP_VAL_COUNT i) ∧ t.met.ctrs = s.met.ctrs ∧ t.pool = s.pool) ∧
  (∀ s : State, s.met.snapAt = none → exec .snapshotDone s = .next { s with out := [] }) ∧
  (∀ (s : State) (k i v : Nat), i < 476 → s.operator k = true → s.running 55 = true → ∃ t, exec (.pmcCfgWrite k i v) s = .next t ∧ Sparse.get? t.met.ctrs i = none ∧
    t.reg .PMC_CFG_EVENT i = (if ctrListed i (bits v 7 0) then bits v 7 0 else s.reg .PMC_CFG_EVENT i) ∧ t.reg .PMC_CFG_ENABLE i = bits v 9 9 ∧ t.reg .PMC_CFG_IMPRINT i = bits v 21 12 ∧
    (∀ j, j ≠ i → Sparse.get? t.met.ctrs j = Sparse.get? s.met.ctrs j) ∧ t.frame = s.frame) ∧
  (∀ (s : State) (k v : Nat), s.operator k = true → s.running 55 = true → bit v 24 = true → ∃ t, exec (.pmcSampCfgWrite k v) s = .next t ∧ t.on .PMC_SAMP_CFG_ENABLE = true ∧
    t.reg .PMC_SAMP_CFG_N_MINUS_1 0 = bits v 23 0 ∧ t.on .PMC_SAMP_STATUS_FULL = false ∧ t.met.matched = 0 ∧ t.frame = s.frame) ∧
  (∀ (s : State) (k i v : Nat), s.operator k = false → exec (.pmcSnap k) s = .next { s with out := [] } ∧ exec (.pmcCfgWrite k i v) s = .next { s with out := [] } ∧
    exec (.pmcSampCfgWrite k v) s = .next { s with out := [] }) ∧
  (∀ (s : State) (i j : Nat) (x : Sample), s.met.sampPend.find? (fun e => e.1 == i) = some (j, x) → s.met.samples.length < 4096 → ∃ t, exec (.transactionSample i) s = .next t ∧
    t.met.samples = s.met.samples ++ [x] ∧ (∀ e ∈ t.met.sampPend, e.1 ≠ i) ∧ t.regs = s.regs ∧ t.frame = s.frame) ∧
  (∀ (s : State) (i : Nat), s.met.sampPend.find? (fun e => e.1 == i) = none → exec (.transactionSample i) s = .next { s with out := [] })
end

