-- ==== Sys2Proof/Laws/Frame.lean ====
section
/-! SUPPORT. One lemma per operation that changes neither the queue, the fuses, the flash die, the bytes of the memory pool nor the
clock: its state has the frame of the state it was given. -/

namespace Sys2Proof.Machine

@[simp] theorem mk_frame (pe : List Instr) (n d : Nat) (o : List Output) (r st : List RegCell) (fl : Flash) (pa : Part) (b : Boot) (i : Islands)
    (c : Commits) (po : Port) (l : Links) (t : Traffic) (pl : Pool) (k : Keys) (dl : List Dlink) (f : Faults) (ch : List Chan) (m : Meter) :
    (State.mk pe n d o r st fl pa b i c po l t pl k dl f ch m).frame = Frame.mk pe pa fl pl.mem n := rfl

@[simp] theorem eta_frame (s : State) : Frame.mk s.pending s.part s.flash s.pool.mem s.now = s.frame := rfl

theorem frame_isl (s : State) (i : Islands) : ({ s with isl := i } : State).frame = s.frame := rfl

theorem foldl_frame {α : Type} {g : State → α → State} (h : ∀ s e, (g s e).frame = s.frame) :
    ∀ (l : List α) (s : State), (l.foldl g s).frame = s.frame
  | [], _ => rfl
  | e :: l, s => (foldl_frame h l (g s e)).trans (h s e)

@[simp] theorem foldl_frame_simp {α : Type} {g : State → α → State} {l : List α} {s : State} (h : ∀ s e, (g s e).frame = s.frame) :
    (l.foldl g s).frame = s.frame := foldl_frame h l s

@[simp] theorem ite_frame {c : Prop} [Decidable c] (a b : State) : (if c then a else b).frame = if c then a.frame else b.frame := apply_ite _ _ _ _

@[simp] theorem State.updPool_frame (s : State) (f : Pool → Pool) (h : (f s.pool).mem = s.pool.mem) : (s.updPool f).frame = s.frame := by
  simp [State.updPool, h]


@[simp] theorem State.setReg_frame (s : State) (f : Fld) (i v : Nat) :
    (State.setReg s f i v).frame = s.frame := by
  simp [State.setReg]

@[simp] theorem State.bump_frame (s : State) (f : Fld) (i : Nat) (n : Nat) :
    (State.bump s f i n).frame = s.frame := by
  simp [State.bump]

@[simp] theorem State.setRegs_frame (s : State) (l : List (Fld × Nat × Nat)) :
    (State.setRegs s l).frame = s.frame := by
  simp [State.setRegs]

@[simp] theorem State.stage_frame (s : State) (f : Fld) (i v : Nat) :
    (State.stage s f i v).frame = s.frame := by
  simp [State.stage]

@[simp] theorem State.emit_frame (s : State) (o : Output) :
    (State.emit s o).frame = s.frame := by
  simp [State.emit]

@[simp] theorem State.draw_frame (s : State) :
    (State.draw s).2.frame = s.frame := by
  simp [State.draw]

@[simp] theorem State.touch_frame (s : State) (n : Nat) :
    (State.touch s n).frame = s.frame := by
  simp [State.touch]

@[simp] theorem State.holdReg_frame (s : State) (n : Nat) (a : RegAccess) :
    (State.holdReg s n a).frame = s.frame := by
  simp [State.holdReg]

@[simp] theorem State.meetReg_frame (s : State) (n : Nat) (a : RegAccess) (go : State → State) (h : ∀ s, (go s).frame = s.frame) :
    (s.meetReg n a go).frame = s.frame := by
  unfold State.meetReg; repeat' (first | (simp [h]; done) | split)

@[simp] theorem State.work_frame (s : State) (n : Nat) :
    (State.work s n).frame = s.frame := by
  simp [State.work]

@[simp] theorem State.updMet_frame (s : State) (f : Meter → Meter) :
    (State.updMet s f).frame = s.frame := by
  simp [State.updMet]

@[simp] theorem State.keepSnap_frame (s : State) (i : Nat) :
    (State.keepSnap s i).frame = s.frame := by
  unfold State.keepSnap; split
  · rfl
  · dsimp only; split <;> simp

@[simp] theorem State.keepSnaps_frame (s : State) (n : Nat) :
    (State.keepSnaps s n).frame = s.frame := by
  unfold State.keepSnaps; exact foldl_frame (fun s i => State.keepSnap_frame s i) _ _

@[simp] theorem State.tally_frame (s : State) (n e : Nat) (imprint : Option Nat) :
    (State.tally s n e imprint).frame = s.frame := by
  simp [State.tally]

@[simp] theorem State.report_frame (s : State) (source : Nat) (kind scope : Nat) (sev : Option Nat) (isl : Option Nat) :
    (State.report s source kind scope sev isl).frame = s.frame := by
  simp [State.report]

@[simp] theorem State.causeOn_frame (s : State) (source kind scope : Nat) :
    (State.causeOn s source kind scope).frame = s.frame := by
  simp [State.causeOn]

@[simp] theorem State.causeOff_frame (s : State) (source scope : Nat) :
    (State.causeOff s source scope).frame = s.frame := by
  simp [State.causeOff]

@[simp] theorem State.armedWrite_frame (s : State) (sources : List Nat) (target : Nat) :
    (State.armedWrite s sources target).2.frame = s.frame := by
  unfold State.armedWrite; (try dsimp only); repeat' (first | (simp; done) | (refine (foldl_frame (fun s e => ?_) _ _).trans ?_) | split)

@[simp] theorem State.askKey_frame (s : State) (n : Nat) (r : KeyRef) :
    (State.askKey s n r).frame = s.frame := by
  simp [State.askKey]

@[simp] theorem State.writeKey_frame (s : State) (n : Nat) (r : KeyRef) :
    (State.writeKey s n r).frame = s.frame := by
  simp [State.writeKey]

@[simp] theorem State.readKey_frame (s : State) (n : Nat) (r : KeyRef) :
    (State.readKey s n r).frame = s.frame := by
  simp [State.readKey]

@[simp] theorem State.count_frame (s : State) (c : CountRec) :
    (State.count s c).frame = s.frame := by
  simp [State.count]

@[simp] theorem State.vector_frame (s : State) (k n : Nat) :
    (State.vector s k n).frame = s.frame := by
  simp [State.vector]

@[simp] theorem State.vectorOps_frame (s : State) (n : Nat) :
    (State.vectorOps s n).frame = s.frame := by
  simp [State.vectorOps]



@[simp] theorem State.setPkts_frame (s : State) (l : List Pkt) :
    (State.setPkts s l).frame = s.frame := by
  simp [State.setPkts]

@[simp] theorem State.updPkt_frame (s : State) (i : Nat) (f : Pkt → Pkt) :
    (State.updPkt s i f).frame = s.frame := by
  simp [State.updPkt]

@[simp] theorem State.delPkt_frame (s : State) (i : Nat) :
    (State.delPkt s i).frame = s.frame := by
  simp [State.delPkt]

@[simp] theorem State.addPkt_frame (s : State) (p : Pkt) :
    (State.addPkt s p).frame = s.frame := by
  simp [State.addPkt]

@[simp] theorem State.setQueue_frame (s : State) (q : QId) (v : Queue) :
    (State.setQueue s q v).frame = s.frame := by
  simp [State.setQueue]

theorem State.toGalley_frame {s t : State} {i : Nat} (h : s.toGalley i = some t) : t.frame = s.frame := by
  unfold State.toGalley at h
  repeat' (first | contradiction | (injection h with h; subst h; simp; done) | split at h)

@[simp] theorem State.settleQueue_frame (s : State) (q : QId) :
    (State.settleQueue s q).frame = s.frame := by
  simp [State.settleQueue]

@[simp] theorem State.spillPkt_frame (s : State) (i : Nat) (q : QId) : (s.spillPkt i q).frame = s.frame := by
  unfold State.spillPkt
  dsimp only
  generalize ht : State.setQueue _ q _ = t
  have hf : t.frame = s.frame := by
    rw [← ht, State.setQueue_frame]; split <;> simp
  split
  · rename_i u h
    split at h
    · contradiction
    · rw [State.toGalley_frame h, hf]
  · split
    · simp [hf]
    · split <;> simp [hf]

@[simp] theorem State.placePkt_frame (s : State) (i : Nat) :
    (State.placePkt s i).frame = s.frame := by
  unfold State.placePkt; (try dsimp only); repeat' (first | (simp; done) | (refine (foldl_frame (fun s e => ?_) _ _).trans ?_) | split)

@[simp] theorem State.unblock_frame (s : State) (q : QId) : (s.unblock q).frame = s.frame := by
  unfold State.unblock
  split
  · rfl
  · split
    · rename_i h; exact State.toGalley_frame h
    · simp

@[simp] theorem State.bindFirst_frame (s : State) (q : QId) :
    (State.bindFirst s q).frame = s.frame := by
  simp [State.bindFirst]

@[simp] theorem State.enqueue_frame (s : State) (p : Pkt) :
    (State.enqueue s p).frame = s.frame := by
  simp [State.enqueue]

@[simp] theorem State.rebind_frame (s : State) (n : Nat) :
    (State.rebind s n).frame = s.frame := by
  simp [State.rebind]

@[simp] theorem State.keepBucket_frame (s : State) (dst c sw port tc : Nat) :
    (State.keepBucket s dst c sw port tc).frame = s.frame := by
  unfold State.keepBucket; (try dsimp only); repeat' (first | (simp; done) | (refine (foldl_frame (fun s e => ?_) _ _).trans ?_) | split)

@[simp] theorem State.sendFabric_frame (s : State) (p : Nat) (fp : FabPkt) (cls : PClass) (imprint sub quad : Option Nat) :
    (State.sendFabric s p fp cls imprint sub quad).frame = s.frame := by
  unfold State.sendFabric; (try dsimp only); repeat' (first | (simp; done) | (refine (foldl_frame (fun s e => ?_) _ _).trans ?_) | split)

@[simp] theorem State.sayFail_frame (s : State) (a : Asked) (st : CplStatus) :
    (State.sayFail s a st).frame = s.frame := by
  unfold State.sayFail; (try dsimp only); repeat' (first | (simp; done) | (refine (foldl_frame (fun s e => ?_) _ _).trans ?_) | split)

@[simp] theorem State.countSynth_frame (s : State) (a : Asked) :
    (State.countSynth s a).frame = s.frame := by
  simp [State.countSynth]

@[simp] theorem State.synth_frame (s : State) (a : Asked) (st : CplStatus) :
    (State.synth s a st).frame = s.frame := by
  simp [State.synth]

@[simp] theorem State.synthLost_frame (s : State) (a : Asked) (len : Nat) (data : Bool) :
    (State.synthLost s a len data).frame = s.frame := by
  unfold State.synthLost; (try dsimp only); repeat' (first | (simp; done) | (refine (foldl_frame (fun s e => ?_) _ _).trans ?_) | split)

@[simp] theorem State.sampleEnd_frame (s : State) (p : Pkt) (o egress : Nat) :
    (State.sampleEnd s p o egress).frame = s.frame := by
  unfold State.sampleEnd; (try dsimp only); repeat' (first | (simp; done) | (refine (foldl_frame (fun s e => ?_) _ _).trans ?_) | split)

@[simp] theorem State.outcome_frame (s : State) (p : Pkt) (o egress : Nat) :
    (State.outcome s p o egress).frame = s.frame := by
  simp [State.outcome]

@[simp] theorem State.countDrop_frame (s : State) (p : Pkt) :
    (State.countDrop s p).frame = s.frame := by
  simp [State.countDrop]

@[simp] theorem State.workPort_frame (s : State) (p : Nat) :
    (State.workPort s p).frame = s.frame := by
  simp [State.workPort]

@[simp] theorem State.delOut_frame (s : State) (i : Nat) :
    (State.delOut s i).frame = s.frame := by
  unfold State.delOut; (try dsimp only); repeat' (first | (simp; done) | (refine (foldl_frame (fun s e => ?_) _ _).trans ?_) | split)

@[simp] theorem State.updOut_frame (s : State) (i : Nat) (f : OutReq → OutReq) :
    (State.updOut s i f).frame = s.frame := by
  simp [State.updOut]

@[simp] theorem State.addOut_frame (s : State) (o : OutReq) :
    (State.addOut s o).frame = s.frame := by
  simp [State.addOut]

@[simp] theorem State.outLost_frame (s : State) (o : OutReq) :
    (State.outLost s o).frame = s.frame := by
  simp [State.outLost]

@[simp] theorem State.outFail_frame (s : State) (o : OutReq) (st : CplStatus) :
    (State.outFail s o st).frame = s.frame := by
  simp [State.outFail]

@[simp] theorem State.pieceFail_frame (s : State) (o : OutReq) (st : CplStatus) :
    (State.pieceFail s o st).frame = s.frame := by
  simp [State.pieceFail]

@[simp] theorem State.cplGone_frame (s : State) (p : Pkt) :
    (State.cplGone s p).frame = s.frame := by
  unfold State.cplGone; (try dsimp only); repeat' (first | (simp; done) | (refine (foldl_frame (fun s e => ?_) _ _).trans ?_) | split)

@[simp] theorem State.discard_frame (s : State) (p : Pkt) (f : State → OutReq → State) (n : Nat) (h : ∀ s o, (f s o).frame = s.frame) :
    (s.discard p f n).frame = s.frame := by
  unfold State.discard; dsimp only; repeat' (first | (simp [h]; done) | split)

@[simp] theorem State.discardAll_frame (s : State) (l : List Pkt) (f : State → OutReq → State) (n : Nat) (h : ∀ s o, (f s o).frame = s.frame) :
    (s.discardAll l f n).frame = s.frame := by
  simp [State.discardAll, h]

@[simp] theorem State.settleAll_frame (s : State) (l : List Pkt) :
    (State.settleAll s l).frame = s.frame := by
  simp [State.settleAll]

@[simp] theorem State.bumpDiscard_frame (s : State) (p n : Nat) :
    (State.bumpDiscard s p n).frame = s.frame := by
  simp [State.bumpDiscard]

@[simp] theorem State.loseDest_frame (s : State) (p : Nat) (cpls : Bool) :
    (State.loseDest s p cpls).frame = s.frame := by
  simp [State.loseDest]

@[simp] theorem State.loseFunc_frame (s : State) (p rid : Nat) :
    (State.loseFunc s p rid).frame = s.frame := by
  simp [State.loseFunc]



@[simp] theorem State.replicaError_frame (s : State) (q : Nat) (k : ImpKey) (correctable : Bool) :
    (State.replicaError s q k correctable).frame = s.frame := by
  simp [State.replicaError]

@[simp] theorem State.readItem_frame (s : State) (q : Nat) (k : ImpKey) :
    (State.readItem s q k).frame = s.frame := by
  unfold State.readItem; (try dsimp only); repeat' (first | (simp; done) | (refine (foldl_frame (fun s e => ?_) _ _).trans ?_) | split)

@[simp] theorem State.readReplica_frame (s : State) (q : Nat) (r : Req) (d a : Nat) :
    (State.readReplica s q r d a).frame = s.frame := by
  unfold State.readReplica; (try dsimp only); repeat' (first | (simp; done) | (refine (foldl_frame (fun s e => ?_) _ _).trans ?_) | split)

@[simp] theorem State.logRefusal_frame (s : State) (q : Nat) (r : Req) (d a knd : Nat) :
    (State.logRefusal s q r d a knd).frame = s.frame := by
  simp [State.logRefusal]

@[simp] theorem State.police_frame (s : State) (r : Req) (d : Nat) :
    (State.police s r d).2.frame = s.frame := by
  unfold State.police; (try dsimp only); repeat' (first | (simp; done) | (refine (foldl_frame (fun s e => ?_) _ _).trans ?_) | split)



@[simp] theorem State.refuse_frame (s : State) (r : Req) (st : CplStatus) (imprint : Option Nat) :
    (State.refuse s r st imprint).frame = s.frame := by
  simp [State.refuse]

@[simp] theorem State.lost_frame (s : State) (r : Req) (p : Option Nat) (imprint : Option Nat) :
    (State.lost s r p imprint).frame = s.frame := by
  unfold State.lost; (try dsimp only); repeat' (first | (simp; done) | (refine (foldl_frame (fun s e => ?_) _ _).trans ?_) | split)

@[simp] theorem State.shutOut_frame (s : State) (closed : Bool) (r : Req) :
    (State.shutOut s closed r).frame = s.frame := by
  simp [State.shutOut]

@[simp] theorem State.missed_frame (s : State) (q : Nat) (r : Req) (d a knd : Nat) :
    (State.missed s q r d a knd).frame = s.frame := by
  simp [State.missed]

@[simp] theorem State.counted_frame (s : State) (q : Nat) (r : Req) (imprint : Nat) :
    (State.counted s q r imprint).frame = s.frame := by
  simp [State.counted]

@[simp] theorem State.select_frame (s : State) (q : Nat) (r : Req) (imprint : Option Nat) :
    (State.select s q r imprint).2.frame = s.frame := by
  unfold State.select; (try dsimp only); repeat' (first | (simp; done) | (refine (foldl_frame (fun s e => ?_) _ _).trans ?_) | split)

@[simp] theorem State.sendPieces_frame (s : State) (base : Pkt) (pieces : List (Nat × Nat × Nat)) :
    (State.sendPieces s base pieces).frame = s.frame := by
  simp [State.sendPieces]

@[simp] theorem State.forward_frame (s : State) (q : Nat) (r : Req) (d a ent des : Nat) (smp : Option Nat) :
    (State.forward s q r d a ent des smp).frame = s.frame := by
  unfold State.forward; (try dsimp only); repeat' (first | (simp; done) | (refine (foldl_frame (fun s e => ?_) _ _).trans ?_) | split)

@[simp] theorem State.classify_frame (s : State) (q : Nat) (r : Req) :
    (State.classify s q r).frame = s.frame := by
  unfold State.classify; (try dsimp only); repeat' (first | (simp; done) | (refine (foldl_frame (fun s e => ?_) _ _).trans ?_) | split)

@[simp] theorem State.waitWake_frame (s : State) (n : Nat) (h : Held) :
    (State.waitWake s n h).frame = s.frame := by
  simp [State.waitWake]

@[simp] theorem State.meetQuad_frame (s : State) (q : Nat) (e : Held) (c : Bool) (shut go : State → State)
    (h : ∀ s, (shut s).frame = s.frame) (k : ∀ s, (go s).frame = s.frame) : (s.meetQuad q e c shut go).frame = s.frame := by
  unfold State.meetQuad; repeat' (first | (simp [h, k]; done) | split)


@[simp] theorem State.quadRequest_frame (s : State) (r : Req) :
    (State.quadRequest s r).frame = s.frame := by
  simp [State.quadRequest]

@[simp] theorem State.arrive_frame (s : State) (r : Req) :
    (State.arrive s r).frame = s.frame := by
  unfold State.arrive; (try dsimp only); repeat' (first | (simp; done) | (refine (foldl_frame (fun s e => ?_) _ _).trans ?_) | split)



@[simp] theorem State.takeRec_frame (s : State) (c : CountRec) :
    (State.takeRec s c).frame = s.frame := by
  simp [State.takeRec]

@[simp] theorem State.drainRecs_frame (s : State) :
    (State.drainRecs s).frame = s.frame := by
  simp [State.drainRecs]

@[simp] theorem State.endSpan_frame (s : State) (sheet : Bool) (key t : Nat) :
    (State.endSpan s sheet key t).frame = s.frame := by
  simp [State.endSpan]

@[simp] theorem State.startSpan_frame (s : State) (sheet : Bool) (imprint weight key t : Nat) :
    (State.startSpan s sheet imprint weight key t).frame = s.frame := by
  simp [State.startSpan]

@[simp] theorem State.meterStart_frame (s : State) :
    (State.meterStart s).frame = s.frame := by
  simp [State.meterStart]

@[simp] theorem State.closePartial_frame (s : State) :
    (State.closePartial s).frame = s.frame := by
  unfold State.closePartial; (try dsimp only); repeat' (first | (simp; done) | (refine (foldl_frame (fun s e => ?_) _ _).trans ?_) | split)

@[simp] theorem State.signBatch_frame (s : State) :
    (State.signBatch s).frame = s.frame := by
  simp [State.signBatch]

@[simp] theorem State.writeBatch_frame (s : State) :
    (State.writeBatch s).frame = s.frame := by
  unfold State.writeBatch; (try dsimp only); repeat' (first | (simp; done) | (refine (foldl_frame (fun s e => ?_) _ _).trans ?_) | split)

@[simp] theorem State.ringCtl_frame (s : State) (k v : Nat) :
    (State.ringCtl s k v).frame = s.frame := by
  simp [State.ringCtl]

@[simp] theorem State.ringTail_frame (s : State) (k v : Nat) :
    (State.ringTail s k v).frame = s.frame := by
  simp [State.ringTail]

@[simp] theorem State.pmcCfg_frame (s : State) (i v : Nat) :
    (State.pmcCfg s i v).frame = s.frame := by
  simp [State.pmcCfg]

@[simp] theorem State.snap_frame (s : State) :
    (State.snap s).frame = s.frame := by
  simp [State.snap]

@[simp] theorem State.sampCfg_frame (s : State) (v : Nat) :
    (State.sampCfg s v).frame = s.frame := by
  simp [State.sampCfg]



@[simp] theorem State.updLink_frame (s : State) (f : Links → Links) :
    (State.updLink s f).frame = s.frame := by
  simp [State.updLink]

@[simp] theorem State.setVreg_frame (s : State) (k : Nat) (t : CfgTarget) (r : CfgReg) (v : Nat) :
    (State.setVreg s k t r v).frame = s.frame := by
  simp [State.setVreg]

@[simp] theorem State.slotEvent_frame (s : State) (k v : Nat) (pdc dlc up : Bool) :
    (State.slotEvent s k v pdc dlc up).frame = s.frame := by
  simp [State.slotEvent]

@[simp] theorem State.hotplug_frame (f : State → State) (s : State) (h : ∀ s, (f s).frame = s.frame) : (State.hotplug f s).frame = s.frame := by
  simp [State.hotplug, h]

@[simp] theorem State.dpcTrigger_frame (s : State) (p : Nat) :
    (State.dpcTrigger s p).frame = s.frame := by
  simp [State.dpcTrigger]

@[simp] theorem State.setLanes_frame (s : State) (p : Nat) (f : Fld) (v : Nat) :
    (State.setLanes s p f v).frame = s.frame := by
  simp [State.setLanes]

@[simp] theorem State.sleepDir_frame (s : State) (l : Nat) (d : Dir) :
    (State.sleepDir s l d).frame = s.frame := by
  unfold State.sleepDir; (try dsimp only); repeat' (first | (simp; done) | (refine (foldl_frame (fun s e => ?_) _ _).trans ?_) | split)

@[simp] theorem State.adaptTo_frame (s : State) (l h w c : Nat) :
    (State.adaptTo s l h w c).frame = s.frame := by
  simp [State.adaptTo]

@[simp] theorem State.wakeDir_frame (s : State) (l : Nat) (d : Dir) :
    (State.wakeDir s l d).frame = s.frame := by
  unfold State.wakeDir; (try dsimp only); repeat' (first | (simp; done) | (refine (foldl_frame (fun s e => ?_) _ _).trans ?_) | split)

@[simp] theorem State.countFrom_frame (s : State) (l n : Nat) :
    (State.countFrom s l n).frame = s.frame := by
  simp [State.countFrom]

@[simp] theorem State.checkerOff_frame (s : State) (l : Nat) :
    (State.checkerOff s l).frame = s.frame := by
  simp [State.checkerOff]

@[simp] theorem State.laneTo_frame (s : State) (l st : Nat) :
    (State.laneTo s l st).frame = s.frame := by
  simp [State.laneTo]

@[simp] theorem State.clearTest_frame (s : State) (l : Nat) :
    (State.clearTest s l).frame = s.frame := by
  simp [State.clearTest]

@[simp] theorem State.laneOff_frame (s : State) (l : Nat) :
    (State.laneOff s l).frame = s.frame := by
  simp [State.laneOff]

@[simp] theorem State.setCoefs_frame (s : State) (l : Nat) (c : Nat × Nat × Nat) :
    (State.setCoefs s l c).frame = s.frame := by
  simp [State.setCoefs]

@[simp] theorem State.startEq_frame (s : State) (l rate : Nat) (sl : LanePort) :
    (State.startEq s l rate sl).frame = s.frame := by
  simp [State.startEq]

@[simp] theorem State.requestEq_frame (s : State) (l rate : Nat) (sl : LanePort) (q : EqRequest) :
    (State.requestEq s l rate sl q).frame = s.frame := by
  unfold State.requestEq; (try dsimp only); repeat' (first | (simp; done) | (refine (foldl_frame (fun s e => ?_) _ _).trans ?_) | split)

@[simp] theorem State.setPolarity_frame (s : State) (l : Nat) (detected : Bool) :
    (State.setPolarity s l detected).frame = s.frame := by
  simp [State.setPolarity]

@[simp] theorem State.tuneLane_frame (s : State) (l i rate : Nat) (t : LaneTune) (sl : LanePort) :
    (State.tuneLane s l i rate t sl).frame = s.frame := by
  simp [State.tuneLane]

@[simp] theorem State.equalise_frame (s : State) (l i rate : Nat) (t : LaneTune) (sl : LanePort) :
    (State.equalise s l i rate t sl).frame = s.frame := by
  simp [State.equalise]

@[simp] theorem State.lanesOff_frame (s : State) (p : Nat) :
    (State.lanesOff s p).frame = s.frame := by
  simp [State.lanesOff]

@[simp] theorem State.lanesSleep_frame (s : State) (p : Nat) :
    (State.lanesSleep s p).frame = s.frame := by
  simp [State.lanesSleep]

@[simp] theorem State.updRun_frame (s : State) (f : Running → Running) :
    (State.updRun s f).frame = s.frame := by
  simp [State.updRun]

@[simp] theorem State.finish_frame (s : State) (w : Wait) (code : Nat) (ret : List Nat) :
    (State.finish s w code ret).frame = s.frame := by
  simp [State.finish]

@[simp] theorem State.discardScopes_frame (s : State) (mask : Nat) :
    (State.discardScopes s mask).frame = s.frame := by
  simp [State.discardScopes]

@[simp] theorem State.releaseLock_frame (s : State) (broken : Bool) :
    (State.releaseLock s broken).frame = s.frame := by
  simp [State.releaseLock]

@[simp] theorem State.ownerReset_frame (s : State) (k : Nat) :
    (State.ownerReset s k).frame = s.frame := by
  unfold State.ownerReset; (try dsimp only); repeat' (first | (simp; done) | (refine (foldl_frame (fun s e => ?_) _ _).trans ?_) | split)

@[simp] theorem State.guardChange_frame (s : State) (p rate width : Nat) :
    (State.guardChange s p rate width).frame = s.frame := by
  simp [State.guardChange]

@[simp] theorem State.endProof_frame (s : State) (h outcome : Nat) :
    (State.endProof s h outcome).frame = s.frame := by
  unfold State.endProof; (try dsimp only); repeat' (first | (simp; done) | (refine (foldl_frame (fun s e => ?_) _ _).trans ?_) | split)

@[simp] theorem State.abortProofs_frame (s : State) (i : Nat) :
    (State.abortProofs s i).frame = s.frame := by
  simp [State.abortProofs]

@[simp] theorem State.issueRead_frame (s : State) (k : Nat) :
    (State.issueRead s k).frame = s.frame := by
  unfold State.issueRead; (try dsimp only); repeat' (first | (simp; done) | (refine (foldl_frame (fun s e => ?_) _ _).trans ?_) | split)

@[simp] theorem State.startReads_frame (s : State) (k n : Nat) :
    (State.startReads s k n).frame = s.frame := by
  simp [State.startReads]

@[simp] theorem State.quarantineTags_frame (s : State) (k : Nat) :
    (State.quarantineTags s k).frame = s.frame := by
  simp [State.quarantineTags]

@[simp] theorem State.dmaFail_frame (s : State) (k : Nat) :
    (State.dmaFail s k).frame = s.frame := by
  simp [State.dmaFail]

@[simp] theorem State.dmaStop_frame (s : State) (k : Nat) (signal : Bool) :
    (State.dmaStop s k signal).frame = s.frame := by
  simp [State.dmaStop]

@[simp] theorem State.setSeals_frame (s : State) (l : List SealRmw) :
    (State.setSeals s l).frame = s.frame := by
  simp [State.setSeals]

@[simp] theorem State.delSeal_frame (s : State) (i ln : Nat) :
    (State.delSeal s i ln).frame = s.frame := by
  simp [State.delSeal]

@[simp] theorem State.sealDone_frame (s : State) (i : Nat) :
    (State.sealDone s i).frame = s.frame := by
  simp [State.sealDone]

@[simp] theorem State.sealFail_frame (s : State) (x : SealRmw) :
    (State.sealFail s x).frame = s.frame := by
  unfold State.sealFail; (try dsimp only); repeat' (first | (simp; done) | (refine (foldl_frame (fun s e => ?_) _ _).trans ?_) | split)

@[simp] theorem State.sealFailPort_frame (s : State) (p : Nat) :
    (State.sealFailPort s p).frame = s.frame := by
  simp [State.sealFailPort]

@[simp] theorem State.linkGone_frame (s : State) (p : Nat) (disabled : Bool) :
    (State.linkGone s p disabled).frame = s.frame := by
  simp [State.linkGone]

@[simp] theorem State.trainStop_frame (s : State) (p : Nat) :
    (State.trainStop s p).frame = s.frame := by
  simp [State.trainStop]

@[simp] theorem State.deviceDown_frame (s : State) (p : Nat) :
    (State.deviceDown s p).frame = s.frame := by
  simp [State.deviceDown]

@[simp] theorem State.retireHost_frame (s : State) (k : Nat) :
    (State.retireHost s k).frame = s.frame := by
  simp [State.retireHost]

@[simp] theorem State.endHostSpans_frame (s : State) (p : Nat) :
    (State.endHostSpans s p).frame = s.frame := by
  unfold State.endHostSpans; (try dsimp only); repeat' (first | (simp; done) | (refine (foldl_frame (fun s e => ?_) _ _).trans ?_) | split)

@[simp] theorem State.hostLinkDown_frame (s : State) (p : Nat) :
    (State.hostLinkDown s p).frame = s.frame := by
  simp [State.hostLinkDown]

@[simp] theorem State.slotPerst_frame (s : State) (p : Nat) (low : Bool) :
    (State.slotPerst s p low).frame = s.frame := by
  unfold State.slotPerst; (try dsimp only); repeat' (first | (simp; done) | (refine (foldl_frame (fun s e => ?_) _ _).trans ?_) | split)

@[simp] theorem State.clearMep_frame (s : State) (k : Nat) :
    (State.clearMep s k).frame = s.frame := by
  simp [State.clearMep]

@[simp] theorem State.clearVregs_frame (s : State) (k : Nat) :
    (State.clearVregs s k).frame = s.frame := by
  simp [State.clearVregs]

@[simp] theorem State.askHier_frame (s : State) (k : Nat) :
    (State.askHier s k).frame = s.frame := by
  simp [State.askHier]

@[simp] theorem State.sendFlr_frame (s : State) (p rid : Nat) :
    (State.sendFlr s p rid).frame = s.frame := by
  simp [State.sendFlr]

@[simp] theorem State.resetAssigned_frame (s : State) (k : Nat) :
    (State.resetAssigned s k).frame = s.frame := by
  unfold State.resetAssigned; (try dsimp only); repeat' (first | (simp; done) | (refine (foldl_frame (fun s e => ?_) _ _).trans ?_) | split)

@[simp] theorem State.dropWrites_frame (s : State) (k : Nat) :
    (State.dropWrites s k).frame = s.frame := by
  simp [State.dropWrites]

@[simp] theorem State.hostReset_frame (s : State) (k : Nat) :
    (State.hostReset s k).frame = s.frame := by
  simp [State.hostReset]

@[simp] theorem State.setDlink_frame (s : State) (p : Nat) (d : Dlink) :
    (State.setDlink s p d).frame = s.frame := by
  simp [State.setDlink]

@[simp] theorem State.updDlink_frame (s : State) (p : Nat) (f : Dlink → Dlink) :
    (State.updDlink s p f).frame = s.frame := by
  simp [State.updDlink]

@[simp] theorem State.fabricUr_frame (s : State) (p : Nat) (t : Transit) :
    (State.fabricUr s p t).frame = s.frame := by
  simp [State.fabricUr]

@[simp] theorem State.fabricAnswer_frame (s : State) (p : Nat) (t : Transit) :
    (State.fabricAnswer s p t).frame = s.frame := by
  unfold State.fabricAnswer; (try dsimp only); repeat' (first | (simp; done) | (refine (foldl_frame (fun s e => ?_) _ _).trans ?_) | split)

@[simp] theorem State.answerTransit_frame (s : State) (t : Transit) :
    (State.answerTransit s t).frame = s.frame := by
  unfold State.answerTransit; (try dsimp only); repeat' (first | (simp; done) | (refine (foldl_frame (fun s e => ?_) _ _).trans ?_) | split)

@[simp] theorem State.dlDown_frame (s : State) (t : Nat) :
    (State.dlDown s t).frame = s.frame := by
  simp [State.dlDown]

@[simp] theorem State.fabDown_frame (s : State) (p : Nat) (src : Option Nat) (b : Bool) : (s.fabDown p src b).frame = s.frame := by
  unfold State.fabDown
  dsimp only
  split
  · rfl
  · refine (foldl_frame (fun s e => ?_) _ _).trans ?_
    · simp
    · simp only [State.finish_frame, State.linkGone_frame]
      simp only [frame_isl, State.setDlink_frame, State.bump_frame, State.settleAll_frame]
      rw [State.discardAll_frame]
      · split <;> simp
      · intros; simp

@[simp] theorem State.fabDisable_frame (s : State) (p : Nat) :
    (State.fabDisable s p).frame = s.frame := by
  simp [State.fabDisable]

@[simp] theorem State.dpc_frame (s : State) (p : Nat) :
    (State.dpc s p).frame = s.frame := by
  simp [State.dpc]

@[simp] theorem State.containPort_frame (s : State) (p : Nat) :
    (State.containPort s p).frame = s.frame := by
  unfold State.containPort; (try dsimp only); repeat' (first | (simp; done) | (refine (foldl_frame (fun s e => ?_) _ _).trans ?_) | split)

@[simp] theorem State.quarantine_frame (s : State) (i : Nat) :
    (State.quarantine s i).frame = s.frame := by
  simp [State.quarantine]

@[simp] theorem State.containFunc_frame (s : State) (p rid : Nat) :
    (State.containFunc s p rid).frame = s.frame := by
  unfold State.containFunc; (try dsimp only); repeat' (first | (simp; done) | (refine (foldl_frame (fun s e => ?_) _ _).trans ?_) | split)

@[simp] theorem State.contain_frame (s : State) (kind scope : Nat) :
    (State.contain s kind scope).frame = s.frame := by
  unfold State.contain; (try dsimp only); repeat' (first | (simp; done) | (refine (foldl_frame (fun s e => ?_) _ _).trans ?_) | split)

@[simp] theorem State.updCh_frame (s : State) (k : Nat) (f : Chan → Chan) :
    (State.updCh s k f).frame = s.frame := by
  simp [State.updCh]

@[simp] theorem State.perstRule_frame (s : State) (p : Nat) :
    (State.perstRule s p).frame = s.frame := by
  unfold State.perstRule; (try dsimp only); repeat' (first | (simp; done) | (refine (foldl_frame (fun s e => ?_) _ _).trans ?_) | split)

@[simp] theorem State.startTrain_frame (s : State) (p : Nat) :
    (State.startTrain s p).frame = s.frame := by
  simp [State.startTrain]

@[simp] theorem State.releaseScope_frame (s : State) (kind scope : Nat) :
    (State.releaseScope s kind scope).frame = s.frame := by
  unfold State.releaseScope; (try dsimp only); repeat' (first | (simp; done) | (refine (foldl_frame (fun s e => ?_) _ _).trans ?_) | split)

@[simp] theorem State.hostDown_frame (s : State) (p : Nat) :
    (State.hostDown s p).frame = s.frame := by
  unfold State.hostDown; (try dsimp only); repeat' (first | (simp; done) | (refine (foldl_frame (fun s e => ?_) _ _).trans ?_) | split)

@[simp] theorem State.portDown_frame (s : State) (p : Nat) (src : Option Nat) :
    (State.portDown s p src).frame = s.frame := by
  unfold State.portDown; (try dsimp only); repeat' (first | (simp; done) | (refine (foldl_frame (fun s e => ?_) _ _).trans ?_) | split)

@[simp] theorem State.tileDown_frame (s : State) (t : Nat) :
    (State.tileDown s t).frame = s.frame := by
  simp [State.tileDown]

@[simp] theorem State.halt_frame (s : State) :
    (State.halt s).frame = s.frame := by
  simp [State.halt]



@[simp] theorem State.enterSafe_frame (s : State) :
    (State.enterSafe s).frame = s.frame := by
  simp [State.enterSafe]

@[simp] theorem State.escStart_frame (s : State) (e : Nat) (r : Report) (kind sev : Nat) :
    (State.escStart s e r kind sev).frame = s.frame := by
  simp [State.escStart]

@[simp] theorem State.escFree_frame (s : State) (e : Nat) :
    (State.escFree s e).frame = s.frame := by
  simp [State.escFree]

@[simp] theorem State.armS2_frame (s : State) (r : Report) :
    (State.armS2 s r).frame = s.frame := by
  unfold State.armS2; (try dsimp only); repeat' (first | (simp; done) | (refine (foldl_frame (fun s e => ?_) _ _).trans ?_) | split)

@[simp] theorem State.armS3_frame (s : State) (r : Report) :
    (State.armS3 s r).frame = s.frame := by
  unfold State.armS3; (try dsimp only); repeat' (first | (simp; done) | (refine (foldl_frame (fun s e => ?_) _ _).trans ?_) | split)

@[simp] theorem State.immediate_frame (s : State) (r : Report) :
    (State.immediate s r).frame = s.frame := by
  simp [State.immediate]

@[simp] theorem State.collect_frame (s : State) (r : Report) :
    (State.collect s r).frame = s.frame := by
  unfold State.collect; (try dsimp only); repeat' (first | (simp; done) | (refine (foldl_frame (fun s e => ?_) _ _).trans ?_) | split)

@[simp] theorem State.collectAll_frame (s : State) (rs : List Report) :
    (State.collectAll s rs).frame = s.frame := by
  unfold State.collectAll; (try dsimp only); repeat' (first | (simp; done) | (refine (foldl_frame (fun s e => ?_) _ _).trans ?_) | split)

@[simp] theorem State.firstClear_frame (s : State) :
    (State.firstClear s).frame = s.frame := by
  simp [State.firstClear]

@[simp] theorem State.pendingClear_frame (s : State) (c : Nat) :
    (State.pendingClear s c).frame = s.frame := by
  simp [State.pendingClear]

@[simp] theorem State.ackSource_frame (s : State) (c : Nat) :
    (State.ackSource s c).frame = s.frame := by
  simp [State.ackSource]

@[simp] theorem State.escAck_frame (s : State) (e : Nat) :
    (State.escAck s e).frame = s.frame := by
  simp [State.escAck]

@[simp] theorem State.safeClear_frame (s : State) :
    (State.safeClear s).frame = s.frame := by
  simp [State.safeClear]

@[simp] theorem State.inject_frame (s : State) (k v : Nat) :
    (State.inject s k v).frame = s.frame := by
  simp [State.inject]



@[simp] theorem State.sendCpl_frame (s : State) (o : OutReq) (inP : Nat) (st : CplStatus) (data : List Byte) (poison : Bool) (ts : Nat) (egr : Bool) :
    (State.sendCpl s o inP st data poison ts egr).frame = s.frame := by
  unfold State.sendCpl; (try dsimp only); repeat' (first | (simp; done) | (refine (foldl_frame (fun s e => ?_) _ _).trans ?_) | split)

@[simp] theorem State.deliverOn_frame (s : State) (o : OutReq) (n inP ts : Nat) (egr : Bool) :
    (State.deliverOn s o n inP ts egr).frame = s.frame := by
  unfold State.deliverOn; (try dsimp only); repeat' (first | (simp; done) | (refine (foldl_frame (fun s e => ?_) _ _).trans ?_) | split)

@[simp] theorem State.deliver_frame (s : State) (o : OutReq) (inP off : Nat) (data : List Byte) (poison : Bool) (ts : Nat) (egr : Bool) :
    (State.deliver s o inP off data poison ts egr).frame = s.frame := by
  simp [State.deliver]

@[simp] theorem State.deliverDone_frame (s : State) (o : OutReq) (inP ts : Nat) (egr : Bool) :
    (State.deliverDone s o inP ts egr).frame = s.frame := by
  simp [State.deliverDone]

@[simp] theorem State.deliverFail_frame (s : State) (o : OutReq) (inP : Nat) (st : CplStatus) (off ts : Nat) (egr : Bool) :
    (State.deliverFail s o inP st off ts egr).frame = s.frame := by
  simp [State.deliverFail]

@[simp] theorem State.countCpl_frame (s : State) (isl : Nat) (imprint : Option Nat) (tc n ts : Nat) :
    (State.countCpl s isl imprint tc n ts).frame = s.frame := by
  simp [State.countCpl]

@[simp] theorem State.takeCpl_frame (s : State) (o : OutReq) (c : Cpl) :
    (State.takeCpl s o c).frame = s.frame := by
  unfold State.takeCpl; (try dsimp only); repeat' (first | (simp; done) | (refine (foldl_frame (fun s e => ?_) _ _).trans ?_) | split)

@[simp] theorem State.unexpected_frame (s : State) (p : Nat) :
    (State.unexpected s p).frame = s.frame := by
  simp [State.unexpected]

@[simp] theorem State.cplLost_frame (s : State) (p tc : Nat) :
    (State.cplLost s p tc).frame = s.frame := by
  simp [State.cplLost]

@[simp] theorem State.cplIn_frame (s : State) (c : Cpl) : (s.cplIn c).frame = s.frame := by
  refine State.meetQuad_frame _ _ _ _ _ _ (fun s => by simp) (fun s => ?_)
  repeat' (first | (simp; done) | split)





@[simp] theorem State.maskLanes_frame (s : State) (p mask : Nat) (tx : Bool) :
    (State.maskLanes s p mask tx).frame = s.frame := by
  simp [State.maskLanes]

@[simp] theorem State.setWindow_frame (s : State) (p : Nat) :
    (State.setWindow s p).frame = s.frame := by
  simp [State.setWindow]

@[simp] theorem State.freeCredits_frame (s : State) (p v n : Nat) :
    (State.freeCredits s p v n).frame = s.frame := by
  simp [State.freeCredits]

@[simp] theorem State.settleOwed_frame (s : State) (p : Nat) :
    (State.settleOwed s p).frame = s.frame := by
  simp [State.settleOwed]

@[simp] theorem State.putMark_frame (s : State) (p lanes typ mask : Nat) :
    (State.putMark s p lanes typ mask).frame = s.frame := by
  simp [State.putMark]

@[simp] theorem State.putAlign_frame (s : State) (p : Nat) :
    (State.putAlign s p).frame = s.frame := by
  simp [State.putAlign]

@[simp] theorem State.putFolio_frame (s : State) (p ftype seq fhp : Nat) (area : List Byte) :
    (State.putFolio s p ftype seq fhp area).frame = s.frame := by
  simp [State.putFolio]

@[simp] theorem State.putIdle_frame (s : State) (p : Nat) : (s.putIdle p).frame = s.frame := State.putFolio_frame _ _ _ _ _ _

@[simp] theorem State.putCopy_frame (s : State) (p : Nat) (c : FolioCopy) :
    (State.putCopy s p c).frame = s.frame := by
  simp [State.putCopy]

@[simp] theorem State.putPacket_frame (s : State) (p : Nat) (f : FabPkt) :
    (State.putPacket s p f).frame = s.frame := by
  simp [State.putPacket]

@[simp] theorem State.putCmd_frame (s : State) (p addr : Nat) :
    (State.putCmd s p addr).frame = s.frame := by
  simp [State.putCmd]

@[simp] theorem State.putWaiting_frame (s : State) (p : Nat) :
    (State.putWaiting s p).frame = s.frame := by
  simp [State.putWaiting]

@[simp] theorem State.putTrain_frame (s : State) (p : Nat) :
    (State.putTrain s p).frame = s.frame := by
  simp [State.putTrain]

@[simp] theorem State.putEq_frame (s : State) (p i ask status : Nat) :
    (State.putEq s p i ask status).frame = s.frame := by
  simp [State.putEq]

@[simp] theorem State.eqLane_frame (s : State) (p : Nat) (r : EqRound) (i : Nat) :
    (State.eqLane s p r i).frame = s.frame := by
  unfold State.eqLane; (try dsimp only); repeat' (first | (simp; done) | (refine (foldl_frame (fun s e => ?_) _ _).trans ?_) | split)

@[simp] theorem State.eqRound_frame (s : State) (p lanes : Nat) (r : EqRound) :
    (State.eqRound s p lanes r).frame = s.frame := by
  simp [State.eqRound]

@[simp] theorem State.configFail_frame (s : State) (p src : Nat) :
    (State.configFail s p src).frame = s.frame := by
  simp [State.configFail]

@[simp] theorem State.fabUp_frame (s : State) (p : Nat) (t : TrainInfo) :
    (State.fabUp s p t).frame = s.frame := by
  simp [State.fabUp]

@[simp] theorem State.openEpisode_frame (s : State) (p : Nat) :
    (State.openEpisode s p).frame = s.frame := by
  simp [State.openEpisode]

@[simp] theorem State.advance_frame (s : State) (p n : Nat) :
    (State.advance s p n).frame = s.frame := by
  simp [State.advance]

@[simp] theorem State.replayFrom_frame (s : State) (p : Nat) (byNak : Bool) :
    (State.replayFrom s p byNak).frame = s.frame := by
  simp [State.replayFrom]

@[simp] theorem State.afterFolio_frame (s : State) (p : Nat) :
    (State.afterFolio s p).frame = s.frame := by
  simp [State.afterFolio]

theorem some_of_ite {c d : Prop} [Decidable c] [Decidable d] {a b t : State} (h : (if c then some a else if d then none else some b) = some t) :
    t = a ∨ t = b := by
  by_cases hc : c
  · rw [if_pos hc] at h; exact .inl (Option.some.inj h).symm
  · by_cases hd : d
    · rw [if_neg hc, if_pos hd] at h; contradiction
    · rw [if_neg hc, if_neg hd] at h; exact .inr (Option.some.inj h).symm

theorem State.ackFolio_frame {s t : State} {p a : Nat} (h : s.ackFolio p a = some t) : t.frame = s.frame := by
  unfold State.ackFolio at h
  rcases some_of_ite h with e | e
  · rw [e]; generalize (_ : Nat) % 4096 = n; exact State.advance_frame s p n
  · rw [e]

theorem State.nakFolio_frame {s t : State} {p a : Nat} (h : s.nakFolio p a = some t) : t.frame = s.frame := by
  unfold State.nakFolio at h
  dsimp only at h
  repeat' (first | contradiction | (injection h with h; subst h; simp; done) | split at h)


theorem State.takeCredits_frame {s t : State} {p v h d : Nat} (e : s.takeCredits p v h d = some t) : t.frame = s.frame := by
  unfold State.takeCredits at e
  dsimp only at e
  repeat' (first | contradiction | (injection e with e; subst e; simp; done) | split at e)


theorem State.useCredits_frame {s t : State} {p v n : Nat} (h : s.useCredits p v n = some t) : t.frame = s.frame := by
  unfold State.useCredits at h
  dsimp only at h
  repeat' (first | contradiction | (injection h with h; subst h; simp; done) | split at h)


@[simp] theorem State.linkCmd_frame (s : State) (p cmd dirn width reason mask : Nat) :
    (State.linkCmd s p cmd dirn width reason mask).frame = s.frame := by
  simp [State.linkCmd]

@[simp] theorem State.txSwitch_frame (s : State) (p mask : Nat) :
    (State.txSwitch s p mask).frame = s.frame := by
  simp [State.txSwitch]

@[simp] theorem State.txChange_frame (s : State) (p mask : Nat) (byCommand : Bool) :
    (State.txChange s p mask byCommand).frame = s.frame := by
  simp [State.txChange]

@[simp] theorem State.widthReq_frame (s : State) (p : Nat) (partnerTx : Bool) (width mask : Nat) :
    (State.widthReq s p partnerTx width mask).frame = s.frame := by
  simp [State.widthReq]

@[simp] theorem State.widthReady_frame (s : State) (p mask : Nat) :
    (State.widthReady s p mask).frame = s.frame := by
  unfold State.widthReady; (try dsimp only); repeat' (first | (simp; done) | (refine (foldl_frame (fun s e => ?_) _ _).trans ?_) | split)

@[simp] theorem State.widthRefuse_frame (s : State) (p : Nat) (partnerTx : Bool) (reason : Nat) :
    (State.widthRefuse s p partnerTx reason).frame = s.frame := by
  unfold State.widthRefuse; (try dsimp only); repeat' (first | (simp; done) | (refine (foldl_frame (fun s e => ?_) _ _).trans ?_) | split)

@[simp] theorem State.dropReq_frame (s : State) (p : Nat) :
    (State.dropReq s p).frame = s.frame := by
  simp [State.dropReq]

@[simp] theorem State.rxSwitch_frame (s : State) (p width m : Nat) :
    (State.rxSwitch s p width m).frame = s.frame := by
  simp [State.rxSwitch]

theorem State.gotLinkCmd_frame {s t : State} {p a : Nat} (h : s.gotLinkCmd p a = some t) : t.frame = s.frame := by
  unfold State.gotLinkCmd at h
  dsimp only at h
  repeat' (first | contradiction | (injection h with h; subst h; simp; done) | split at h)


theorem State.takeSlots_frame (p : Nat) : ∀ (l : List (List Byte)) (s t : State), State.takeSlots p l s = some t → t.frame = s.frame
  | [], s, t, h => by injection h with h; rw [h]
  | sl :: l, s, t, h => by
    have ih := State.takeSlots_frame p l
    unfold State.takeSlots at h
    dsimp only at h
    repeat' (first | contradiction | (exact ih _ _ h) | (rename_i u hu; rw [ih _ _ h]; first | exact State.gotLinkCmd_frame hu | exact State.useCredits_frame hu) |
      (rename_i u hu _; rw [ih _ _ h]; simp [State.useCredits_frame hu]; done) | (rw [ih _ _ h]; simp; done) | split at h)

@[simp] theorem State.badFolio_frame (s : State) (p : Nat) :
    (State.badFolio s p).frame = s.frame := by
  simp [State.badFolio]

theorem State.dataFolio_frame {s t : State} {p : Nat} {g : Folio.Header} {f : List Byte} (h : s.dataFolio p g f = some t) :
    t.frame = s.frame := by
  unfold State.dataFolio at h
  dsimp only at h
  repeat' (first | contradiction | (rw [State.takeSlots_frame _ _ _ _ h]; simp; done) | (injection h with h; subst h; simp; done) | split at h)



theorem State.goodFolio_frame {s t : State} {p : Nat} {f : List Byte} (h : s.goodFolio p f = some t) : t.frame = s.frame := by
  unfold State.goodFolio at h
  dsimp only at h
  split at h
  · contradiction
  split at h
  · injection h with h; rw [← h]
  split at h
  · contradiction
  rename_i u hu
  have h1 : u.frame = s.frame := by
    split at hu
    · exact State.nakFolio_frame hu
    · exact State.ackFolio_frame hu
  split at h
  · contradiction
  rename_i v hv
  have h2 : v.frame = u.frame := by
    split at hv
    · exact State.takeCredits_frame hv
    · injection hv with hv; rw [← hv]
  split at h
  · exact (State.dataFolio_frame h).trans (h2.trans h1)
  · injection h with h; rw [← h, h2, h1]

@[simp] theorem State.activeFolio_frame (s : State) (p : Nat) (f : Option (List Byte × Nat)) : (s.activeFolio p f).frame = s.frame := by
  unfold State.activeFolio
  split
  · rfl
  · split
    · simp
    · dsimp only
      split
      · rename_i h
        have := State.goodFolio_frame h
        split <;> simp [this]
      · simp

@[simp] theorem State.configFolio_frame (s : State) (p : Nat) (f : List Byte) :
    (State.configFolio s p f).frame = s.frame := by
  simp [State.configFolio]

@[simp] theorem State.trainFolio_frame (s : State) (p : Nat) (f : Option (List Byte × Nat)) :
    (State.trainFolio s p f).frame = s.frame := by
  unfold State.trainFolio; (try dsimp only); repeat' (first | (simp; done) | (refine (foldl_frame (fun s e => ?_) _ _).trans ?_) | split)

@[simp] theorem State.addedAligned_frame (s : State) (p : Nat) (blocks : List (List Byte)) :
    (State.addedAligned s p blocks).frame = s.frame := by
  unfold State.addedAligned; (try dsimp only); repeat' (first | (simp; done) | (refine (foldl_frame (fun s e => ?_) _ _).trans ?_) | split)

@[simp] theorem State.fabCpl_frame (s : State) (p : Nat) (f : FabPkt) (ts : Nat) :
    (State.fabCpl s p f ts).frame = s.frame := by
  unfold State.fabCpl; (try dsimp only); repeat' (first | (simp; done) | (refine (foldl_frame (fun s e => ?_) _ _).trans ?_) | split)

@[simp] theorem State.fabRefuse_frame (s : State) (p : Nat) (f : FabPkt) :
    (State.fabRefuse s p f).frame = s.frame := by
  simp [State.fabRefuse]

@[simp] theorem State.fabForward_frame (s : State) (p : Nat) (f : FabPkt) (ts : Nat) :
    (State.fabForward s p f ts).frame = s.frame := by
  unfold State.fabForward; (try dsimp only); repeat' (first | (simp; done) | (refine (foldl_frame (fun s e => ?_) _ _).trans ?_) | split)

@[simp] theorem State.fabShut_frame (s : State) (p : Nat) (f : FabPkt) :
    (State.fabShut s p f).frame = s.frame := by
  simp [State.fabShut]

@[simp] theorem State.fabPass_frame (s : State) (p : Nat) (f : FabPkt) (ts : Nat) (live : Bool) :
    (State.fabPass s p f ts live).frame = s.frame := by
  simp [State.fabPass]

@[simp] theorem State.fabTake_frame (s : State) (p : Nat) (f : FabPkt) (ts : Nat) (live : Bool) :
    (State.fabTake s p f ts live).frame = s.frame := by
  simp [State.fabTake]



@[simp] theorem State.seedArbs_frame (s : State) (isl : Nat) :
    (State.seedArbs s isl).frame = s.frame := by
  simp [State.seedArbs]

@[simp] theorem State.setArb_frame (s : State) (a : ArbId) (v : Arb) :
    (State.setArb s a v).frame = s.frame := by
  simp [State.setArb]

@[simp] theorem State.readCells_frame (s : State) (p : Pkt) :
    (State.readCells s p).frame = s.frame := by
  simp [State.readCells]

@[simp] theorem State.grantQuad_frame (s : State) (a : ArbId) (p : Pkt) :
    (State.grantQuad s a p).frame = s.frame := by
  unfold State.grantQuad; (try dsimp only); repeat' (first | (simp; done) | (refine (foldl_frame (fun s e => ?_) _ _).trans ?_) | split)

@[simp] theorem State.refuseNew_frame (s : State) (p : Pkt) :
    (State.refuseNew s p).frame = s.frame := by
  simp [State.refuseNew]

@[simp] theorem State.grantSpine_frame (s : State) (p : Pkt) (isl : Nat) :
    (State.grantSpine s p isl).frame = s.frame := by
  simp [State.grantSpine]

@[simp] theorem State.cellsLost_frame (s : State) (p : Pkt) :
    (State.cellsLost s p).frame = s.frame := by
  unfold State.cellsLost; (try dsimp only); repeat' (first | (simp; done) | (refine (foldl_frame (fun s e => ?_) _ _).trans ?_) | split)

@[simp] theorem State.purge_frame (q : Nat) : ∀ (f : Nat) (s : State), (State.purge q f s).frame = s.frame
  | 0, _ => rfl
  | f + 1, s => by
    unfold State.purge
    split
    · rw [State.purge_frame q f]; simp
    · rfl

@[simp] theorem State.withdraw_frame (s : State) (q : QId) :
    (State.withdraw s q).frame = s.frame := by
  simp [State.withdraw]

@[simp] theorem State.drawArb_frame (s : State) (a : ArbId) : (s.drawArb a).frame = s.frame := by
  unfold State.drawArb
  cases a <;> dsimp only <;> repeat' (first | (simp; done) | split)

@[simp] theorem State.joinEgress_frame (s : State) (p : Pkt) :
    (State.joinEgress s p).frame = s.frame := by
  unfold State.joinEgress; (try dsimp only); repeat' (first | (simp; done) | (refine (foldl_frame (fun s e => ?_) _ _).trans ?_) | split)

@[simp] theorem State.poolReturn_frame (s : State) (p : Pkt) :
    (State.poolReturn s p).frame = s.frame := by
  unfold State.poolReturn; (try dsimp only); repeat' (first | (simp; done) | (refine (foldl_frame (fun s e => ?_) _ _).trans ?_) | split)

@[simp] theorem State.freeDead_frame (s : State) (p : Pkt) :
    (State.freeDead s p).frame = s.frame := by
  simp [State.freeDead]

@[simp] theorem State.galleyUe_frame (s : State) (p : Pkt) :
    (State.galleyUe s p).frame = s.frame := by
  unfold State.galleyUe; (try dsimp only); repeat' (first | (simp; done) | (refine (foldl_frame (fun s e => ?_) _ _).trans ?_) | split)

@[simp] theorem State.galleyLose_frame (s : State) (m : Nat) :
    (State.galleyLose s m).frame = s.frame := by
  simp [State.galleyLose]



@[simp] theorem State.setBucket_frame (s : State) (sh : ShaperId) (v : Int) :
    (State.setBucket s sh v).frame = s.frame := by
  simp [State.setBucket]

@[simp] theorem State.stepped_frame (s : State) (sh : ShaperId) (t : Nat) :
    (State.stepped s sh t).frame = s.frame := rfl

@[simp] theorem State.charge_frame (s : State) (sh : ShaperId) (n : Nat) :
    (State.charge s sh n).frame = s.frame := by
  simp [State.charge]

@[simp] theorem State.showGate_frame (s : State) (p t : Nat) :
    (State.showGate s p t).frame = s.frame := by
  simp [State.showGate]

@[simp] theorem State.installGate_frame (s : State) (p tc : Nat) :
    (State.installGate s p tc).frame = s.frame := by
  simp [State.installGate]

@[simp] theorem State.sampleQ_frame (s : State) (p c t : Nat) :
    (State.sampleQ s p c t).frame = s.frame := by
  simp [State.sampleQ]

@[simp] theorem State.startRmw_frame (s : State) (p : Nat) (k : Pkt) :
    (State.startRmw s p k).frame = s.frame := by
  simp [State.startRmw]

@[simp] theorem State.mergeLine_frame (s : State) (k : Pkt) (ln : Nat) :
    (State.mergeLine s k ln).2.frame = s.frame := by
  simp [State.mergeLine]

@[simp] theorem State.sendFab_frame (s : State) (p : Nat) (k : Pkt) (f : FabPkt) :
    (State.sendFab s p k f).frame = s.frame := by
  unfold State.sendFab; (try dsimp only); repeat' (first | (simp; done) | (refine (foldl_frame (fun s e => ?_) _ _).trans ?_) | split)

@[simp] theorem State.sendTlp_frame (s : State) (p : Nat) (k : Pkt) :
    (State.sendTlp s p k).frame = s.frame := by
  unfold State.sendTlp; (try dsimp only); repeat' (first | (simp; done) | (refine (foldl_frame (fun s e => ?_) _ _).trans ?_) | split)

@[simp] theorem State.markSent_frame (s : State) (p : Nat) (k : Pkt) :
    (State.markSent s p k).frame = s.frame := by
  unfold State.markSent; (try dsimp only); repeat' (first | (simp; done) | (refine (foldl_frame (fun s e => ?_) _ _).trans ?_) | split)

@[simp] theorem State.startPkt_frame (s : State) (p : Nat) (k : Pkt) :
    (State.startPkt s p k).frame = s.frame := by
  unfold State.startPkt; (try dsimp only); repeat' (first | (simp; done) | (refine (foldl_frame (fun s e => ?_) _ _).trans ?_) | split)

@[simp] theorem State.purgeEgress_frame (p : Nat) : ∀ (f : Nat) (s : State), (State.purgeEgress p f s).frame = s.frame
  | 0, _ => rfl
  | f + 1, s => by
    unfold State.purgeEgress
    split
    · rw [State.purgeEgress_frame p f]; simp
    · rfl


@[simp] theorem State.egress_frame (s : State) (p : Nat) : (s.egress p).frame = s.frame := by
  unfold State.egress
  generalize ht : State.purgeEgress p s.tr.pkts.length s = t
  have hf : t.frame = s.frame := by rw [← ht]; simp
  dsimp only
  repeat' (first | (simp [hf]; done) | split)

@[simp] theorem State.rmwDone_frame (s : State) (x : SealRmw) (good : Bool) :
    (State.rmwDone s x good).frame = s.frame := by
  unfold State.rmwDone; (try dsimp only); repeat' (first | (simp; done) | (refine (foldl_frame (fun s e => ?_) _ _).trans ?_) | split)



@[simp] theorem State.remap_frame (s : State) (m row bank : Nat) :
    (State.remap s m row bank).frame = s.frame := by
  simp [State.remap]

@[simp] theorem State.corrected_frame (s : State) (m row bank : Nat) :
    (State.corrected s m row bank).frame = s.frame := by
  simp [State.corrected]

@[simp] theorem State.uncorrected_frame (s : State) (m row bank imprint : Nat) :
    (State.uncorrected s m row bank imprint).frame = s.frame := by
  simp [State.uncorrected]

@[simp] theorem State.setTag_frame (s : State) (ln : Nat) (t : LineTag) :
    (State.setTag s ln t).frame = s.frame := by
  simp [State.setTag]

@[simp] theorem State.poolReply_frame (s : State) (k : Pkt) (m : Nat) (st : CplStatus) (data : List Byte) (poison : Bool) :
    (State.poolReply s k m st data poison).frame = s.frame := by
  unfold State.poolReply; (try dsimp only); repeat' (first | (simp; done) | (refine (foldl_frame (fun s e => ?_) _ _).trans ?_) | split)

@[simp] theorem State.served_frame (s : State) (k : Pkt) :
    (State.served s k).frame = s.frame := by
  simp [State.served]

@[simp] theorem State.lineReads_frame (s : State) (l : Lease) (m n : Nat) :
    (State.lineReads s l m n).frame = s.frame := by
  simp [State.lineReads]

@[simp] theorem State.poolRead_frame (s : State) (k : Pkt) (l : Lease) (m pa : Nat) (ecc : EccResult) :
    (s.poolRead k l m pa ecc).frame = s.frame := by
  unfold State.poolRead
  dsimp only
  split
  · simp
  · simp only [State.served_frame, State.poolReply_frame]
    split
    · simp only [State.uncorrected_frame]
      split
      · refine (foldl_frame (fun s e => ?_) _ _).trans ?_
        · split <;> simp
        · split <;> simp
      · split <;> simp
    · split <;> simp



@[simp] theorem State.setChecker_frame (s : State) (c : Checker) :
    (State.setChecker s c).frame = s.frame := by
  simp [State.setChecker]

@[simp] theorem State.checkIn_frame (s : State) (l : Nat) (bs : List Nat) :
    (State.checkIn s l bs).frame = s.frame := by
  simp [State.checkIn]

@[simp] theorem State.generate_frame (s : State) (l n : Nat) :
    (State.generate s l n).2.frame = s.frame := by
  unfold State.generate; (try dsimp only); repeat' (first | (simp; done) | (refine (foldl_frame (fun s e => ?_) _ _).trans ?_) | split)

@[simp] theorem State.received_frame (s : State) (r : LaneRx) :
    (State.received s r).2.frame = s.frame := by
  unfold State.received; (try dsimp only); repeat' (first | (simp; done) | (refine (foldl_frame (fun s e => ?_) _ _).trans ?_) | split)

@[simp] theorem State.injectBit_frame (s : State) (l : Nat) :
    (State.injectBit s l).frame = s.frame := by
  unfold State.injectBit; (try dsimp only); repeat' (first | (simp; done) | (refine (foldl_frame (fun s e => ?_) _ _).trans ?_) | split)

@[simp] theorem State.injNext_frame (s : State) (l t r : Nat) :
    (State.injNext s l t r).frame = s.frame := by
  simp [State.injNext]

@[simp] theorem State.injGo_frame (s : State) (l : Nat) :
    (State.injGo s l).frame = s.frame := by
  unfold State.injGo; (try dsimp only); repeat' (first | (simp; done) | (refine (foldl_frame (fun s e => ?_) _ _).trans ?_) | split)

@[simp] theorem State.setGen_frame (s : State) (l old : Nat) :
    (State.setGen s l old).frame = s.frame := by
  simp [State.setGen]

@[simp] theorem State.laneTest_frame (s : State) (l v : Nat) :
    (State.laneTest s l v).frame = s.frame := by
  simp [State.laneTest]

@[simp] theorem State.prbsRead_frame (s : State) (l : Nat) :
    (State.prbsRead s l).2.frame = s.frame := by
  simp [State.prbsRead]



@[simp] theorem State.sltFreeze_frame (s : State) :
    (State.sltFreeze s).frame = s.frame := by
  unfold State.sltFreeze; (try dsimp only); repeat' (first | (simp; done) | (refine (foldl_frame (fun s e => ?_) _ _).trans ?_) | split)

@[simp] theorem State.sltThaw_frame (s : State) :
    (State.sltThaw s).frame = s.frame := by
  simp [State.sltThaw]

@[simp] theorem State.toCh_frame (s : State) (k st : Nat) :
    (State.toCh s k st).frame = s.frame := by
  simp [State.toCh]

@[simp] theorem State.turnOn_frame (s : State) (k : Nat) :
    (State.turnOn s k).frame = s.frame := by
  simp [State.turnOn]

@[simp] theorem State.turnOnAll_frame (s : State) :
    (State.turnOnAll s).frame = s.frame := by
  simp [State.turnOnAll]

@[simp] theorem State.autoEn_frame (s : State) :
    (State.autoEn s).frame = s.frame := by
  simp [State.autoEn]

@[simp] theorem State.debounce_frame (s : State) (k : Nat) :
    (State.debounce s k).frame = s.frame := by
  simp [State.debounce]

@[simp] theorem State.afterSettle_frame (s : State) (k : Nat) :
    (State.afterSettle s k).frame = s.frame := by
  simp [State.afterSettle]

@[simp] theorem State.pullDown_frame (s : State) (k : Nat) :
    (State.pullDown s k).frame = s.frame := by
  simp [State.pullDown]

@[simp] theorem State.turnOff_frame (s : State) (k : Nat) :
    (State.turnOff s k).frame = s.frame := by
  unfold State.turnOff; (try dsimp only); repeat' (first | (simp; done) | (refine (foldl_frame (fun s e => ?_) _ _).trans ?_) | split)

@[simp] theorem State.reportLatch_frame (s : State) (k cause : Nat) :
    (State.reportLatch s k cause).frame = s.frame := by
  simp [State.reportLatch]

@[simp] theorem State.latchOff_frame (s : State) (k : Nat) :
    (State.latchOff s k).frame = s.frame := by
  simp [State.latchOff]

@[simp] theorem State.latch_frame (s : State) (k cause point : Nat) :
    (State.latch s k cause point).frame = s.frame := by
  simp [State.latch]

@[simp] theorem State.clearLatch_frame (s : State) (k : Nat) :
    (State.clearLatch s k).frame = s.frame := by
  simp [State.clearLatch]

@[simp] theorem State.capture_frame (s : State) (k : Nat) (w : Option (Nat × Nat)) :
    (State.capture s k w).frame = s.frame := by
  unfold State.capture; (try dsimp only); repeat' (first | (simp; done) | (refine (foldl_frame (fun s e => ?_) _ _).trans ?_) | split)

@[simp] theorem State.sltDrop_frame (s : State) :
    (State.sltDrop s).frame = s.frame := by
  simp [State.sltDrop]

@[simp] theorem State.sltEn_frame (s : State) (k en : Nat) :
    (State.sltEn s k en).frame = s.frame := by
  simp [State.sltEn]

@[simp] theorem State.reportMissed_frame (s : State) :
    (State.reportMissed s).frame = s.frame := by
  simp [State.reportMissed]

@[simp] theorem State.restartDebounce_frame (s : State) :
    (State.restartDebounce s).frame = s.frame := by
  simp [State.restartDebounce]





@[simp] theorem State.updCom_frame (s : State) (f : Commits → Commits) :
    (State.updCom s f).frame = s.frame := by
  simp [State.updCom]

@[simp] theorem State.beginCommit_frame (s : State) (o : Origin) (mask : Nat) :
    (State.beginCommit s o mask).frame = s.frame := by
  simp [State.beginCommit]

@[simp] theorem State.askCommit_frame (s : State) (o : Origin) (mask : Nat) :
    (State.askCommit s o mask).frame = s.frame := by
  unfold State.askCommit; (try dsimp only); repeat' (first | (simp; done) | (refine (foldl_frame (fun s e => ?_) _ _).trans ?_) | split)

@[simp] theorem State.nextCommit_frame (s : State) :
    (State.nextCommit s).frame = s.frame := by
  unfold State.nextCommit; (try dsimp only); repeat' (first | (simp; done) | (refine (foldl_frame (fun s e => ?_) _ _).trans ?_) | split)

@[simp] theorem State.freePort_frame (s : State) :
    (State.freePort s).frame = s.frame := by
  simp [State.freePort]

@[simp] theorem State.askHierWrite_frame (s : State) (w : HierWrite) :
    (State.askHierWrite s w).frame = s.frame := by
  simp [State.askHierWrite]

@[simp] theorem State.dropLease_frame (s : State) (h : Nat) :
    (State.dropLease s h).frame = s.frame := by
  unfold State.dropLease; (try dsimp only); repeat' (first | (simp; done) | (refine (foldl_frame (fun s e => ?_) _ _).trans ?_) | split)

@[simp] theorem State.dropRelease_frame (s : State) (h : Nat) :
    (State.dropRelease s h).frame = s.frame := by
  simp [State.dropRelease]

@[simp] theorem State.abandonCommit_frame (s : State) :
    (State.abandonCommit s).frame = s.frame := by
  unfold State.abandonCommit; (try dsimp only); repeat' (first | (simp; done) | (refine (foldl_frame (fun s e => ?_) _ _).trans ?_) | split)

@[simp] theorem State.resetShaper_frame (s : State) (sh : ShaperId) :
    (State.resetShaper s sh).frame = s.frame := by
  simp [State.resetShaper]

@[simp] theorem State.applyCells_frame (s : State) (cells : List RegCell) (tc : Nat) :
    (State.applyCells s cells tc).frame = s.frame := by
  simp [State.applyCells]

@[simp] theorem State.setupVfs_frame (s : State) (p : Nat) :
    (State.setupVfs s p).frame = s.frame := by
  simp [State.setupVfs]

@[simp] theorem State.resetVfs_frame (s : State) (p : Nat) :
    (State.resetVfs s p).frame = s.frame := by
  simp [State.resetVfs]

@[simp] theorem State.dropAssigns_frame (s : State) (gone : List HierRec) :
    (State.dropAssigns s gone).frame = s.frame := by
  simp [State.dropAssigns]

@[simp] theorem State.applyHier_frame (s : State) (new : List HierRec) (tc : Nat) :
    (State.applyHier s new tc).frame = s.frame := by
  simp [State.applyHier]

@[simp] theorem State.pruneRemoved_frame (s : State) :
    (State.pruneRemoved s).frame = s.frame := by
  simp [State.pruneRemoved]

@[simp] theorem State.setDigest_frame (s : State) (d : Nat) :
    (State.setDigest s d).frame = s.frame := by
  simp [State.setDigest]

@[simp] theorem State.keepBuckets_frame (s : State) (new : Imp) (g : Nat) :
    (State.keepBuckets s new g).frame = s.frame := by
  unfold State.keepBuckets; (try dsimp only); repeat' (first | (simp; done) | (refine (foldl_frame (fun s e => ?_) _ _).trans ?_) | split)

@[simp] theorem State.capacityEvent_frame (s : State) (l : Lease) (add : Bool) :
    (State.capacityEvent s l add).frame = s.frame := by
  unfold State.capacityEvent; (try dsimp only); repeat' (first | (simp; done) | (refine (foldl_frame (fun s e => ?_) _ _).trans ?_) | split)

@[simp] theorem State.endLeases_frame (s : State) (ls : List Lease) (tc : Nat) :
    (State.endLeases s ls tc).frame = s.frame := by
  simp [State.endLeases]

@[simp] theorem State.markRevoked_frame (s : State) (i t : Nat) :
    (State.markRevoked s i t).frame = s.frame := by
  simp [State.markRevoked]

@[simp] theorem State.revokeLast_frame (s : State) (kind : Nat) (v : Revocation) (active : Bool) :
    (State.revokeLast s kind v active).frame = s.frame := by
  simp [State.revokeLast]

@[simp] theorem State.fenceKeys_frame (s : State) (f : Revocation → Bool) (tc : Nat) :
    (State.fenceKeys s f tc).frame = s.frame := by
  unfold State.fenceKeys; (try dsimp only); repeat' (first | (simp; done) | (refine (foldl_frame (fun s e => ?_) _ _).trans ?_) | split)

@[simp] theorem State.applyOrigin_frame (s : State) (c : Commit) :
    (State.applyOrigin s c).frame = s.frame := by
  unfold State.applyOrigin; (try dsimp only); repeat' (first | (simp; done) | (refine (foldl_frame (fun s e => ?_) _ _).trans ?_) | split)

@[simp] theorem State.updCur_frame (s : State) (f : Commit → Commit) :
    (State.updCur s f).frame = s.frame := by
  simp [State.updCur]

@[simp] theorem State.writeItem_frame (s : State) (source target q : Nat) (k : ImpKey) :
    (State.writeItem s source target q k).frame = s.frame := by
  simp [State.writeItem]





@[simp] theorem State.updKeys_frame (s : State) (f : Keys → Keys) :
    (State.updKeys s f).frame = s.frame := by
  simp [State.updKeys]

@[simp] theorem State.makeKey_frame (s : State) (i source key : Nat) :
    (State.makeKey s i source key).frame = s.frame := by
  simp [State.makeKey]

@[simp] theorem State.emptySlot_frame (s : State) (i : Nat) :
    (State.emptySlot s i).frame = s.frame := by
  simp [State.emptySlot]

@[simp] theorem State.randomKey_frame (s : State) (i : Nat) :
    (State.randomKey s i).frame = s.frame := by
  simp [State.randomKey]

@[simp] theorem State.redelivered_frame (s : State) (n : Nat) (r : KeyRef) :
    (State.redelivered s n r).frame = s.frame := by
  simp [State.redelivered]

@[simp] theorem State.discardHolder_frame (s : State) (refs : List KeyRef) (p : Pkt) :
    (State.discardHolder s refs p).frame = s.frame := by
  unfold State.discardHolder; (try dsimp only); repeat' (first | (simp; done) | (refine (foldl_frame (fun s e => ?_) _ _).trans ?_) | split)

@[simp] theorem State.discardOut_frame (s : State) (o : OutReq) :
    (State.discardOut s o).frame = s.frame := by
  simp [State.discardOut]

@[simp] theorem State.discardHolders_frame (s : State) (refs : List KeyRef) :
    (State.discardHolders s refs).frame = s.frame := by
  simp [State.discardHolders]

@[simp] theorem State.destroyKey_frame (s : State) (r : KeyRef) :
    (State.destroyKey s r).frame = s.frame := by
  simp [State.destroyKey]

@[simp] theorem State.leaveRevoking_frame (s : State) (i : Nat) :
    (State.leaveRevoking s i).frame = s.frame := by
  simp [State.leaveRevoking]

@[simp] theorem State.fillSlots_frame (s : State) :
    (State.fillSlots s).frame = s.frame := by
  simp [State.fillSlots]

@[simp] theorem State.turnDown_frame (s : State) (who : Requester) (cmd status index : Nat) :
    (State.turnDown s who cmd status index).frame = s.frame := by
  simp [State.turnDown]

@[simp] theorem State.dropHeld_frame (s : State) (who : Requester) :
    (State.dropHeld s who).frame = s.frame := by
  simp [State.dropHeld]

@[simp] theorem State.laterChunk_frame (s : State) (who : Requester) (cmd index : Nat) :
    (State.laterChunk s who cmd index).frame = s.frame := by
  unfold State.laterChunk; (try dsimp only); repeat' (first | (simp; done) | (refine (foldl_frame (fun s e => ?_) _ _).trans ?_) | split)

@[simp] theorem State.holdResponse_frame (s : State) (who : Requester) (cmd : Nat) (body : List Nat) :
    (State.holdResponse s who cmd body).frame = s.frame := by
  simp [State.holdResponse]



@[simp] theorem State.updIsl_frame (s : State) (f : Islands → Islands) :
    (State.updIsl s f).frame = s.frame := by
  simp [State.updIsl]

@[simp] theorem State.setIsl_frame (s : State) (n st : Nat) :
    (State.setIsl s n st).frame = s.frame := by
  simp [State.setIsl]

@[simp] theorem State.dropPkts_frame (s : State) (l : List Pkt) (xing : Bool) :
    (State.dropPkts s l xing).frame = s.frame := by
  simp [State.dropPkts]

@[simp] theorem State.flushCross_frame (s : State) (n : Nat) :
    (State.flushCross s n).frame = s.frame := by
  simp [State.flushCross]

@[simp] theorem State.dropHeldRecs_frame (s : State) (n : Nat) :
    (State.dropHeldRecs s n).frame = s.frame := by
  simp [State.dropHeldRecs]

@[simp] theorem State.flushInside_frame (s : State) (n : Nat) :
    (State.flushInside s n).frame = s.frame := by
  simp [State.flushInside]

@[simp] theorem State.loseBanks_frame (s : State) (n : Nat) :
    (State.loseBanks s n).frame = s.frame := by
  simp [State.loseBanks]

@[simp] theorem State.resume_frame (s : State) (h : Held) : (s.resume h).frame = s.frame := by
  cases h <;> simp [State.resume]

@[simp] theorem State.turnAway_frame (s : State) (h : Held) : (s.turnAway h).frame = s.frame := by
  cases h <;> simp [State.turnAway]

@[simp] theorem State.takeWaiting_frame (s : State) (n : Nat) :
    (State.takeWaiting s n).2.frame = s.frame := by
  simp [State.takeWaiting]

@[simp] theorem State.deliverWaiting_frame (s : State) (n : Nat) : (s.deliverWaiting n).frame = s.frame := by
  unfold State.deliverWaiting
  exact (foldl_frame (fun s e => by simp) _ _).trans rfl

@[simp] theorem State.answerWaiting_frame (s : State) (n : Nat) : (s.answerWaiting n).frame = s.frame := by
  unfold State.answerWaiting
  split
  · rfl
  · exact (foldl_frame (fun s e => by simp) _ _).trans rfl

@[simp] theorem State.replicaCheck_frame (before : Bool) (s : State) :
    (State.replicaCheck before s).frame = s.frame := by
  simp [State.replicaCheck]

@[simp] theorem State.leaveCommit_frame (s : State) (n : Nat) :
    (State.leaveCommit s n).frame = s.frame := by
  unfold State.leaveCommit; (try dsimp only); repeat' (first | (simp; done) | (refine (foldl_frame (fun s e => ?_) _ _).trans ?_) | split)

@[simp] theorem State.cycleMgmt_frame (s : State) (n since : Nat) :
    (State.cycleMgmt s n since).frame = s.frame := by
  simp [State.cycleMgmt]

@[simp] theorem State.repairFails_frame (s : State) :
    (State.repairFails s).frame = s.frame := by
  unfold State.repairFails; (try dsimp only); repeat' (first | (simp; done) | (refine (foldl_frame (fun s e => ?_) _ _).trans ?_) | split)

@[simp] theorem State.cutCommits_frame (s : State) :
    (State.cutCommits s).frame = s.frame := by
  unfold State.cutCommits; (try dsimp only); repeat' (first | (simp; done) | (refine (foldl_frame (fun s e => ?_) _ _).trans ?_) | split)

@[simp] theorem State.fenceEnd_frame (s : State) (n : Nat) :
    (State.fenceEnd s n).frame = s.frame := by
  simp [State.fenceEnd]

@[simp] theorem State.spineSingle_frame (s : State) (n : Nat) :
    (State.spineSingle s n).frame = s.frame := by
  simp [State.spineSingle]

@[simp] theorem State.fenceOver_frame (s : State) (n : Nat) :
    (State.fenceOver s n).frame = s.frame := by
  simp [State.fenceOver]

@[simp] theorem State.forceDrain_frame (s : State) (n : Nat) :
    (State.forceDrain s n).frame = s.frame := by
  simp [State.forceDrain]

@[simp] theorem State.forceFence_frame (s : State) (n : Nat) :
    (State.forceFence s n).frame = s.frame := by
  simp [State.forceFence]

@[simp] theorem State.fenceDone_frame (s : State) (n : Nat) :
    (State.fenceDone s n).frame = s.frame := by
  simp [State.fenceDone]

@[simp] theorem State.beginFence_frame (s : State) (n : Nat) :
    (State.beginFence s n).frame = s.frame := by
  simp [State.beginFence]

@[simp] theorem State.resetIsl_frame (s : State) (n : Nat) :
    (State.resetIsl s n).frame = s.frame := by
  simp [State.resetIsl]

@[simp] theorem State.isolate_frame (s : State) (n : Nat) :
    (State.isolate s n).frame = s.frame := by
  simp [State.isolate]

@[simp] theorem State.wakeUp_frame (s : State) (n : Nat) :
    (State.wakeUp s n).frame = s.frame := by
  simp [State.wakeUp]



@[simp] theorem State.updBoot_frame (s : State) (f : Boot → Boot) :
    (State.updBoot s f).frame = s.frame := by
  simp [State.updBoot]

@[simp] theorem State.beginP1_frame (s : State) (attempt : Nat) :
    (State.beginP1 s attempt).frame = s.frame := by
  simp [State.beginP1]

@[simp] theorem State.progress_frame (s : State) (c : Nat) :
    (State.progress s c).frame = s.frame := by
  simp [State.progress]

@[simp] theorem State.toPhase_frame (s : State) (p : Nat) :
    (State.toPhase s p).frame = s.frame := by
  simp [State.toPhase]

@[simp] theorem State.lastError_frame (s : State) (code detail : Nat) :
    (State.lastError s code detail).frame = s.frame := by
  simp [State.lastError]

@[simp] theorem State.powerDown_frame (s : State) :
    (State.powerDown s).frame = s.frame := by
  simp [State.powerDown]

@[simp] theorem State.runForme_frame (s : State) (b : Bool) (im : Image) (fallback : Bool) :
    (State.runForme s b im fallback).frame = s.frame := by
  simp [State.runForme]

@[simp] theorem State.seedReplicas_frame (s : State) :
    (State.seedReplicas s).frame = s.frame := by
  unfold State.seedReplicas; (try dsimp only); repeat' (first | (simp; done) | (refine (foldl_frame (fun s e => ?_) _ _).trans ?_) | split)

@[simp] theorem State.domainGood_frame (s : State) (d : Nat) :
    (State.domainGood s d).frame = s.frame := by
  simp [State.domainGood]

@[simp] theorem State.domainOff_frame (s : State) (d : Nat) (failed : Bool) :
    (State.domainOff s d failed).frame = s.frame := by
  simp [State.domainOff]

@[simp] theorem State.rampsOver_frame (s : State) :
    (State.rampsOver s).frame = s.frame := by
  simp [State.rampsOver]

@[simp] theorem State.failOff_frame (s : State) (n : Nat) (ds : List Nat) :
    (State.failOff s n ds).frame = s.frame := by
  simp [State.failOff]

@[simp] theorem State.bootFence_frame (s : State) (n code detail : Nat) :
    (State.bootFence s n code detail).frame = s.frame := by
  simp [State.bootFence]

@[simp] theorem State.powerFails_frame (s : State) (d : Nat) :
    (State.powerFails s d).frame = s.frame := by
  simp [State.powerFails]

@[simp] theorem State.loadForme_frame (s : State) (im : Image) :
    (State.loadForme s im).frame = s.frame := by
  simp [State.loadForme]

@[simp] theorem State.drawAll_frame (s : State) :
    (State.drawAll s).frame = s.frame := by
  simp [State.drawAll]

@[simp] theorem State.slotSync_frame (s : State) :
    (State.slotSync s).frame = s.frame := by
  unfold State.slotSync; (try dsimp only); repeat' (first | (simp; done) | (refine (foldl_frame (fun s e => ?_) _ _).trans ?_) | split)

@[simp] theorem State.firstTrain_frame (s : State) (p : Nat) :
    (State.firstTrain s p).frame = s.frame := by
  simp [State.firstTrain]

@[simp] theorem State.deferBatches_frame (s : State) :
    (State.deferBatches s).frame = s.frame := by
  unfold State.deferBatches; (try dsimp only); repeat' (first | (simp; done) | (refine (foldl_frame (fun s e => ?_) _ _).trans ?_) | split)

@[simp] theorem State.recovGo_frame (s : State) (k : Nat) (img : RecoveryImage) :
    (State.recovGo s k img).frame = s.frame := by
  simp [State.recovGo]



@[simp] theorem State.recovStop_frame (s : State) (k : Nat) :
    (State.recovStop s k).frame = s.frame := by
  unfold State.recovStop; (try dsimp only); repeat' (first | (simp; done) | (refine (foldl_frame (fun s e => ?_) _ _).trans ?_) | split)

@[simp] theorem State.recovDown_frame (s : State) :
    (State.recovDown s).frame = s.frame := by
  simp [State.recovDown]

@[simp] theorem State.recovTrain_frame (s : State) :
    (State.recovTrain s).frame = s.frame := by
  simp [State.recovTrain]

@[simp] theorem State.hostPortReset_frame (s : State) (k p : Nat) (c : HostReset) :
    (State.hostPortReset s k p c).frame = s.frame := by
  unfold State.hostPortReset; (try dsimp only); repeat' (first | (simp; done) | (refine (foldl_frame (fun s e => ?_) _ _).trans ?_) | split)

@[simp] theorem State.beginReads_frame (s : State) (k n : Nat) :
    (State.beginReads s k n).frame = s.frame := by
  simp [State.beginReads]

@[simp] theorem State.dropTag_frame (s : State) (k t : Nat) :
    (State.dropTag s k t).frame = s.frame := by
  simp [State.dropTag]

@[simp] theorem State.bmeClear_frame (s : State) (k : Nat) :
    (State.bmeClear s k).frame = s.frame := by
  simp [State.bmeClear]

@[simp] theorem State.bmeSet_frame (s : State) (k : Nat) :
    (State.bmeSet s k).frame = s.frame := by
  simp [State.bmeSet]

@[simp] theorem State.mepCommand_frame (s : State) (k v : Nat) :
    (State.mepCommand s k v).frame = s.frame := by
  simp [State.mepCommand]

@[simp] theorem State.mepPower_frame (s : State) (k v : Nat) :
    (State.mepPower s k v).frame = s.frame := by
  simp [State.mepPower]

@[simp] theorem State.trainLanes_frame (s : State) (ls : List Nat) (w rate : Nat) (t : LaneTune) (sl : LanePort) :
    (State.trainLanes s ls w rate t sl).frame = s.frame := by
  simp [State.trainLanes]

@[simp] theorem State.linkUp_frame (s : State) (p rate w : Nat) (flit cxl : Bool) :
    (State.linkUp s p rate w flit cxl).frame = s.frame := by
  simp [State.linkUp]

@[simp] theorem State.trained_frame (s : State) (p : Nat) (t : Training) :
    (State.trained s p t).frame = s.frame := by
  unfold State.trained; (try dsimp only); repeat' (first | (simp; done) | (refine (foldl_frame (fun s e => ?_) _ _).trans ?_) | split)

@[simp] theorem State.recovTrained_frame (s : State) (t : Training) :
    (State.recovTrained s t).frame = s.frame := by
  simp [State.recovTrained]

@[simp] theorem State.syncHier_frame (s : State) (k : Nat) :
    (State.syncHier s k).frame = s.frame := by
  simp [State.syncHier]

@[simp] theorem State.reweigh_frame (s : State) (h : HierRec) :
    (State.reweigh s h).frame = s.frame := by
  simp [State.reweigh]

@[simp] theorem State.lanesWake_frame (s : State) (p : Nat) :
    (State.lanesWake s p).frame = s.frame := by
  simp [State.lanesWake]

@[simp] theorem State.ideOn_frame (s : State) (p key : Nat) :
    (State.ideOn s p key).frame = s.frame := by
  simp [State.ideOn]

@[simp] theorem State.becomeFollower_frame (s : State) (p rate : Nat) :
    (State.becomeFollower s p rate).frame = s.frame := by
  simp [State.becomeFollower]

@[simp] theorem State.flitReplay_frame (s : State) (p : Nat) :
    (State.flitReplay s p).frame = s.frame := by
  unfold State.flitReplay; (try dsimp only); repeat' (first | (simp; done) | (refine (foldl_frame (fun s e => ?_) _ _).trans ?_) | split)

@[simp] theorem State.flitAck_frame (s : State) (p n : Nat) :
    (State.flitAck s p n).frame = s.frame := by
  simp [State.flitAck]

@[simp] theorem State.postOn_frame (s : State) (p : Nat) (ok : Bool) (o : Output) :
    (State.postOn s p ok o).frame = s.frame := by
  simp [State.postOn]

@[simp] theorem State.dpcClear_frame (s : State) (k v : Nat) :
    (State.dpcClear s k v).frame = s.frame := by
  simp [State.dpcClear]



@[simp] theorem State.freeCfg_frame (s : State) (k who : Nat) (r : CfgReg) (m v : Nat) :
    (State.freeCfg s k who r m v).frame = s.frame := by
  simp [State.freeCfg]

@[simp] theorem State.cfgRead_frame (s : State) (k : Nat) (t : CfgTarget) (r : CfgReg) :
    (State.cfgRead s k t r).frame = s.frame := by
  unfold State.cfgRead; (try dsimp only); repeat' (first | (simp; done) | (refine (foldl_frame (fun s e => ?_) _ _).trans ?_) | split)

@[simp] theorem State.decodeWrite_frame (s : State) (k : Nat) (t : CfgTarget) (r : CfgReg) (w : Nat) (fwd : State → State)
    (h : ∀ s, (fwd s).frame = s.frame) : (s.decodeWrite k t r w fwd).frame = s.frame := by
  unfold State.decodeWrite; dsimp only; repeat' (first | (simp [h]; done) | split)


@[simp] theorem State.fwdCommand_frame (s0 : State) (k : Nat) (t : CfgTarget) (r : CfgReg) (s : State) :
    (State.fwdCommand s0 k t r s).frame = s.frame := by
  unfold State.fwdCommand; (try dsimp only); repeat' (first | (simp; done) | (refine (foldl_frame (fun s e => ?_) _ _).trans ?_) | split)

@[simp] theorem State.msixFlush_frame (s : State) (k : Nat) :
    (State.msixFlush s k).frame = s.frame := by
  simp [State.msixFlush]

@[simp] theorem State.ldMailbox_frame (s : State) (k : Nat) (c : MailboxCmd) :
    (State.ldMailbox s k c).frame = s.frame := by
  unfold State.ldMailbox; (try dsimp only); repeat' (first | (simp; done) | (refine (foldl_frame (fun s e => ?_) _ _).trans ?_) | split)

@[simp] theorem State.ownWrite_frame (s : State) (k : Nat) (t : CfgTarget) (r : CfgReg) (v : Nat) :
    (State.ownWrite s k t r v).frame = s.frame := by
  unfold State.ownWrite; (try dsimp only); repeat' (first | (simp; done) | (refine (foldl_frame (fun s e => ?_) _ _).trans ?_) | split)

@[simp] theorem State.fnWrite_frame (s : State) (h : HierRec) (ix rid : Nat) (r : CfgReg) (v : Nat) :
    (State.fnWrite s h ix rid r v).frame = s.frame := by
  unfold State.fnWrite; (try dsimp only); repeat' (first | (simp; done) | (refine (foldl_frame (fun s e => ?_) _ _).trans ?_) | split)

@[simp] theorem State.cfgWrite_frame (s : State) (k : Nat) (t : CfgTarget) (r : CfgReg) (v : Nat) :
    (State.cfgWrite s k t r v).frame = s.frame := by
  unfold State.cfgWrite; (try dsimp only); repeat' (first | (simp; done) | (refine (foldl_frame (fun s e => ?_) _ _).trans ?_) | split)



@[simp] theorem State.dropBusy_frame (s : State) :
    (State.dropBusy s).frame = s.frame := by
  simp [State.dropBusy]

@[simp] theorem State.ended_frame (s : State) (code : Nat) (ret : List Nat) :
    (State.ended s code ret).frame = s.frame := by
  simp [State.ended]

@[simp] theorem State.waitFor_frame (s : State) (w : Wait) :
    (State.waitFor s w).frame = s.frame := by
  simp [State.waitFor]

@[simp] theorem State.wakeNow_frame (s : State) (n : Nat) :
    (State.wakeNow s n).frame = s.frame := by
  simp [State.wakeNow]

@[simp] theorem State.begin__frame (s : State) (k token op : Nat) (a : List Nat) :
    (State.begin_ s k token op a).frame = s.frame := by
  simp [State.begin_]

@[simp] theorem State.command_frame (s : State) (k token op : Nat) (a : List Nat) (body : List Nat → State → State)
    (h : ∀ a s, (body a s).frame = s.frame) : (s.command k token op a body).frame = s.frame := by
  unfold State.command; dsimp only; repeat' (first | (simp [h]; done) | split)



@[simp] theorem State.lockAcquire_frame (s : State) (k : Nat) :
    (State.lockAcquire s k).frame = s.frame := by
  simp [State.lockAcquire]

@[simp] theorem State.lockRelease_frame (s : State) :
    (State.lockRelease s).frame = s.frame := by
  simp [State.lockRelease]

@[simp] theorem State.lockBreak_frame (s : State) (k : Nat) :
    (State.lockBreak s k).frame = s.frame := by
  simp [State.lockBreak]

@[simp] theorem State.commitMask_frame (s : State) (o : Origin) (mask : Nat) :
    (State.commitMask s o mask).frame = s.frame := by
  unfold State.commitMask; (try dsimp only); repeat' (first | (simp; done) | (refine (foldl_frame (fun s e => ?_) _ _).trans ?_) | split)

@[simp] theorem State.stageDiscard_frame (s : State) (a : List Nat) :
    (State.stageDiscard s a).frame = s.frame := by
  simp [State.stageDiscard]

@[simp] theorem State.dmaRead_frame (s : State) (k addr len : Nat) :
    (State.dmaRead s k addr len).frame = s.frame := by
  simp [State.dmaRead]

@[simp] theorem State.stageAmend_frame (s : State) (im : Image) :
    (State.stageAmend s im).frame = s.frame := by
  simp [State.stageAmend]

@[simp] theorem State.amendLoad_frame (s : State) (k : Nat) (im : Image) (a : List Nat) :
    (State.amendLoad s k im a).frame = s.frame := by
  simp [State.amendLoad]

@[simp] theorem State.amendEnd_frame (s : State) (im : Image) (len : Nat) :
    (State.amendEnd s im len).frame = s.frame := by
  unfold State.amendEnd; (try dsimp only); repeat' (first | (simp; done) | (refine (foldl_frame (fun s e => ?_) _ _).trans ?_) | split)

@[simp] theorem State.formeWrite_frame (s : State) (k : Nat) (im : Image) (a : List Nat) :
    (State.formeWrite s k im a).frame = s.frame := by
  simp [State.formeWrite]

@[simp] theorem State.askReset_frame (s : State) (t : Nat) :
    (State.askReset s t).frame = s.frame := by
  simp [State.askReset]

@[simp] theorem State.resetBusy_frame (s : State) (k token : Nat) :
    (State.resetBusy s k token).frame = s.frame := by
  simp [State.resetBusy]

@[simp] theorem State.devReset_frame (s : State) (k token : Nat) :
    (State.devReset s k token).frame = s.frame := by
  simp [State.devReset]

@[simp] theorem State.stageImp_frame (s : State) (policy keys : Bool) (cs : List ImpChange) :
    (State.stageImp s policy keys cs).frame = s.frame := by
  simp [State.stageImp]

@[simp] theorem State.stageItem_frame (s : State) (typ part : Nat) (a : List Nat) (more : List ImpChange) :
    (State.stageItem s typ part a more).frame = s.frame := by
  simp [State.stageItem]

@[simp] theorem State.stageRoute_frame (s : State) (a : List Nat) :
    (State.stageRoute s a).frame = s.frame := by
  simp [State.stageRoute]

@[simp] theorem State.stageGroup_frame (s : State) (a : List Nat) :
    (State.stageGroup s a).frame = s.frame := by
  simp [State.stageGroup]

@[simp] theorem State.impInvalidate_frame (s : State) (a : List Nat) :
    (State.impInvalidate s a).frame = s.frame := by
  simp [State.impInvalidate]

@[simp] theorem State.impRead_frame (s : State) (a : List Nat) :
    (State.impRead s a).frame = s.frame := by
  simp [State.impRead]

@[simp] theorem State.shFill_frame (s : State) (a : List Nat) :
    (State.shFill s a).frame = s.frame := by
  simp [State.shFill]



@[simp] theorem State.clearGranules_frame (s : State) (sheets : List Nat) :
    (State.clearGranules s sheets).frame = s.frame := by
  simp [State.clearGranules]

@[simp] theorem State.poolLease_frame (s : State) (a : List Nat) :
    (State.poolLease s a).frame = s.frame := by
  unfold State.poolLease; (try dsimp only); repeat' (first | (simp; done) | (refine (foldl_frame (fun s e => ?_) _ _).trans ?_) | split)

@[simp] theorem State.addRevocation_frame (s : State) (v : Revocation) :
    (State.addRevocation s v).frame = s.frame := by
  simp [State.addRevocation]

@[simp] theorem State.poolRelease_frame (s : State) (a : List Nat) :
    (State.poolRelease s a).frame = s.frame := by
  unfold State.poolRelease; (try dsimp only); repeat' (first | (simp; done) | (refine (foldl_frame (fun s e => ?_) _ _).trans ?_) | split)

@[simp] theorem State.poolQuery_frame (s : State) (a : List Nat) :
    (State.poolQuery s a).frame = s.frame := by
  unfold State.poolQuery; (try dsimp only); repeat' (first | (simp; done) | (refine (foldl_frame (fun s e => ?_) _ _).trans ?_) | split)

@[simp] theorem State.keyImport_frame (s : State) (k : Nat) (b : KeyBlob) (a : List Nat) :
    (State.keyImport s k b a).frame = s.frame := by
  simp [State.keyImport]

@[simp] theorem State.importEnd_frame (s : State) (b : KeyBlob) (i : Nat) :
    (State.importEnd s b i).frame = s.frame := by
  unfold State.importEnd; (try dsimp only); repeat' (first | (simp; done) | (refine (foldl_frame (fun s e => ?_) _ _).trans ?_) | split)

@[simp] theorem State.dropStaged_frame (s : State) (i : Nat) :
    (State.dropStaged s i).frame = s.frame := by
  simp [State.dropStaged]

@[simp] theorem State.keyRevoke_frame (s : State) (i : Nat) :
    (State.keyRevoke s i).frame = s.frame := by
  unfold State.keyRevoke; (try dsimp only); repeat' (first | (simp; done) | (refine (foldl_frame (fun s e => ?_) _ _).trans ?_) | split)

@[simp] theorem State.keyQuery_frame (s : State) (k i : Nat) :
    (State.keyQuery s k i).frame = s.frame := by
  simp [State.keyQuery]

@[simp] theorem State.islFence_frame (s : State) (n : Nat) :
    (State.islFence s n).frame = s.frame := by
  simp [State.islFence]

@[simp] theorem State.islUnfence_frame (s : State) (n : Nat) :
    (State.islUnfence s n).frame = s.frame := by
  unfold State.islUnfence; (try dsimp only); repeat' (first | (simp; done) | (refine (foldl_frame (fun s e => ?_) _ _).trans ?_) | split)

@[simp] theorem State.emptyCross_frame (s : State) (n : Nat) :
    (State.emptyCross s n).frame = s.frame := by
  simp [State.emptyCross]

@[simp] theorem State.islReset_frame (s : State) (mask : Nat) :
    (State.islReset s mask).frame = s.frame := by
  simp [State.islReset]

@[simp] theorem State.askSwitch_frame (s : State) (first : List Nat) (d : Nat) (on : Bool) :
    (State.askSwitch s first d on).frame = s.frame := by
  simp [State.askSwitch]

@[simp] theorem State.islPower_frame (s : State) (a : List Nat) :
    (State.islPower s a).frame = s.frame := by
  simp [State.islPower]

@[simp] theorem State.linkWidth_frame (s : State) (a : List Nat) :
    (State.linkWidth s a).frame = s.frame := by
  simp [State.linkWidth]

@[simp] theorem State.containCmd_frame (s : State) (a : List Nat) :
    (State.containCmd s a).frame = s.frame := by
  simp [State.containCmd]

@[simp] theorem State.releaseCmd_frame (s : State) (a : List Nat) :
    (State.releaseCmd s a).frame = s.frame := by
  simp [State.releaseCmd]

@[simp] theorem State.testLanes_frame (s : State) (p rate : Nat) :
    (State.testLanes s p rate).frame = s.frame := by
  simp [State.testLanes]

@[simp] theorem State.proofStart_frame (s : State) (k : Nat) (a : List Nat) :
    (State.proofStart s k a).frame = s.frame := by
  unfold State.proofStart; (try dsimp only); repeat' (first | (simp; done) | (refine (foldl_frame (fun s e => ?_) _ _).trans ?_) | split)

@[simp] theorem State.proofStop_frame (s : State) (h : Nat) :
    (State.proofStop s h).frame = s.frame := by
  unfold State.proofStop; (try dsimp only); repeat' (first | (simp; done) | (refine (foldl_frame (fun s e => ?_) _ _).trans ?_) | split)

@[simp] theorem State.done_frame (s : State) (r : Running) (code : Nat) (ret : List Nat) :
    (State.done s r code ret).frame = s.frame := by
  simp [State.done]



@[simp] theorem State.readClears_frame (s : State) (k a n : Nat) :
    (State.readClears s k a n).frame = s.frame := by
  unfold State.readClears; (try dsimp only); repeat' (first | (simp; done) | (refine (foldl_frame (fun s e => ?_) _ _).trans ?_) | split)

@[simp] theorem State.barRead_frame (s : State) (k a size : Nat) :
    (State.barRead s k a size).2.frame = s.frame := by
  unfold State.barRead; (try dsimp only); repeat' (first | (simp; done) | (refine (foldl_frame (fun s e => ?_) _ _).trans ?_) | split)

@[simp] theorem State.writeField_frame (s : State) (k : Nat) (f : Fld) (i w : Nat) :
    (State.writeField s k f i w).frame = s.frame := by
  unfold State.writeField; (try dsimp only); repeat' (first | (simp; done) | (refine (foldl_frame (fun s e => ?_) _ _).trans ?_) | split)

@[simp] theorem State.msixWrite_frame (s : State) (k w v : Nat) :
    (State.msixWrite s k w v).frame = s.frame := by
  simp [State.msixWrite]

@[simp] theorem State.tenantWrite_frame (s : State) (k a n : Nat) : (s.tenantWrite k a n).frame = s.frame := by
  have h : ((s.shRefused k).getD s).frame = s.frame := by unfold State.shRefused; repeat' (first | (simp; done) | split)
  unfold State.tenantWrite
  repeat' (first | (simp [h]; done) | split)


@[simp] theorem State.barAnswer_frame (s : State) (k tag size : Nat) (v : Option Nat) :
    (State.barAnswer s k tag size v).frame = s.frame := by
  unfold State.barAnswer; (try dsimp only); repeat' (first | (simp; done) | (refine (foldl_frame (fun s e => ?_) _ _).trans ?_) | split)





end Sys2Proof.Machine
end

