-- ==== Sys2Proof/Laws/Sparse.lean ====
section
/-! SUPPORT. The laws of sparse tables: what a lookup sees after a write, and that every operation keeps the canonical form. -/

namespace Sys2Proof.Sparse

variable {κ α : Type} [DecidableEq κ] {code : κ → Nat}

@[simp] theorem get?_erase_self (l : List (κ × α)) (k : κ) : get? (erase l k) k = none := by
  induction l with
  | nil => rfl
  | cons e t ih =>
    by_cases h : e.1 = k
    · simpa [erase, h] using ih
    · have : get? (erase (e :: t) k) k = get? (erase t k) k := by simp [erase, h, get?]
      rw [this, ih]

theorem get?_erase_ne (l : List (κ × α)) {k j : κ} (h : j ≠ k) : get? (erase l k) j = get? l j := by
  induction l with
  | nil => rfl
  | cons e t ih =>
    by_cases hk : e.1 = k
    · have hj : e.1 ≠ j := fun he => h (he.symm.trans hk)
      have h1 : erase (e :: t) k = erase t k := by simp [erase, hk]
      rw [h1, ih]
      simp [get?, hj]
    · have h1 : erase (e :: t) k = e :: erase t k := by simp [erase, hk]
      rw [h1]
      simp [get?, ih]

theorem get?_insert_self {l : List (κ × α)} {k : κ} (a : α) (h : get? l k = none) : get? (insert code l k a) k = some a := by
  induction l with
  | nil => simp [insert, get?]
  | cons e t ih =>
    obtain ⟨hj, ht⟩ : e.1 ≠ k ∧ get? t k = none := by
      by_cases hk : e.1 = k
      · simp [get?, hk] at h
      · exact ⟨hk, by simpa [get?, hk] using h⟩
    unfold insert
    split
    · simp [get?]
    · simp [get?, hj, ih ht]

theorem get?_insert_ne (l : List (κ × α)) {k j : κ} (a : α) (h : j ≠ k) : get? (insert code l k a) j = get? l j := by
  induction l with
  | nil => simp [insert, get?, h.symm]
  | cons e t ih =>
    unfold insert
    split
    · simp [get?, h.symm]
    · simp [get?, ih]

@[simp] theorem get?_set_self (l : List (κ × α)) (k : κ) (a : α) : get? (set code l k a) k = some a :=
  get?_insert_self a (get?_erase_self l k)

theorem get?_set_ne (l : List (κ × α)) {k j : κ} (a : α) (h : j ≠ k) : get? (set code l k a) j = get? l j := by
  rw [set, get?_insert_ne _ _ h, get?_erase_ne _ h]

theorem sorted_filter (p : κ × α → Bool) (l : List (κ × α)) (h : sorted code l = true) : sorted code (l.filter p) = true := by
  induction l with
  | nil => rfl
  | cons e t ih =>
    simp only [sorted, Bool.and_eq_true, List.all_eq_true] at h
    by_cases hp : p e = true
    · simp only [List.filter_cons, hp, if_true, sorted, Bool.and_eq_true, List.all_eq_true]
      exact ⟨fun x hx => h.1 x (List.mem_filter.1 hx).1, ih h.2⟩
    · simpa [List.filter_cons, hp] using ih h.2

theorem sorted_erase {l : List (κ × α)} (k : κ) (h : sorted code l = true) : sorted code (erase l k) = true :=
  sorted_filter _ l h

theorem mem_insert {l : List (κ × α)} {k : κ} {a : α} {e : κ × α} : e ∈ insert code l k a ↔ e = (k, a) ∨ e ∈ l := by
  induction l with
  | nil => simp [insert]
  | cons d t ih =>
    unfold insert
    split
    · simp
    · simp only [List.mem_cons, ih]
      tauto

theorem sorted_insert {l : List (κ × α)} {k : κ} (a : α) (hn : ∀ e ∈ l, code e.1 ≠ code k) (h : sorted code l = true) :
    sorted code (insert code l k a) = true := by
  induction l with
  | nil => rfl
  | cons e t ih =>
    simp only [sorted, Bool.and_eq_true, List.all_eq_true, decide_eq_true_eq] at h
    have he := hn e (by simp)
    unfold insert
    split
    · rename_i hlt
      simp only [sorted, Bool.and_eq_true, List.all_eq_true, decide_eq_true_eq, List.mem_cons]
      refine ⟨fun x hx => ?_, h⟩
      rcases hx with rfl | hx
      · exact hlt
      · exact hlt.trans (h.1 x hx)
    · simp only [sorted, Bool.and_eq_true, List.all_eq_true, decide_eq_true_eq]
      refine ⟨fun x hx => ?_, ih (fun d hd => hn d (List.mem_cons_of_mem _ hd)) h.2⟩
      rcases mem_insert.1 hx with rfl | hx
      · dsimp only
        omega
      · exact h.1 x hx

theorem mem_erase {l : List (κ × α)} {k : κ} {e : κ × α} : e ∈ erase l k ↔ e ∈ l ∧ e.1 ≠ k := by
  simp [erase, List.mem_filter]

theorem sorted_set {l : List (κ × α)} (hc : Function.Injective code) (k : κ) (a : α) (h : sorted code l = true) :
    sorted code (set code l k a) = true :=
  sorted_insert a (fun _ he hce => (mem_erase.1 he).2 (hc hce)) (sorted_erase k h)

theorem mem_set {l : List (κ × α)} {k : κ} {a : α} {e : κ × α} : e ∈ set code l k a ↔ e = (k, a) ∨ (e ∈ l ∧ e.1 ≠ k) := by
  rw [set, mem_insert, mem_erase]

end Sys2Proof.Sparse
end

