-- ==== Sys2Proof/Laws/Memory.lean ====
section
/-! SUPPORT. The laws of pool memory: every operation keeps the canonical form, a read after a write gives the byte written,
and a write leaves every other byte alone. -/

namespace Sys2Proof.Machine

theorem Memory.wf_iff (m : List Host.Cell) : Memory.wf m = true ↔ Sparse.sorted id m = true ∧ ∀ c ∈ m, c.2 ≠ 0 := by
  simp [Memory.wf, List.all_eq_true]

theorem Memory.wf_nil : Memory.wf [] = true := rfl

theorem Memory.wf_filter {m : List Host.Cell} (p : Host.Cell → Bool) (h : Memory.wf m = true) : Memory.wf (m.filter p) = true := by
  rw [Memory.wf_iff] at h ⊢
  exact ⟨Sparse.sorted_filter p m h.1, fun c hc => h.2 c (List.mem_filter.1 hc).1⟩

theorem memSet_wf {m : List Host.Cell} (a : Nat) (b : Byte) (h : Memory.wf m = true) : Memory.wf (memSet m a b) = true := by
  unfold memSet
  split
  · exact Memory.wf_filter _ h
  · rename_i hb
    rw [Memory.wf_iff] at h ⊢
    refine ⟨Sparse.sorted_set Function.injective_id a b h.1, fun c hc => ?_⟩
    rcases Sparse.mem_set.1 hc with rfl | ⟨hc, -⟩
    · exact hb
    · exact h.2 c hc

theorem memPut_wf (bs : List Byte) : ∀ {m : List Host.Cell} (a : Nat), Memory.wf m = true → Memory.wf (memPut m a bs) = true := by
  induction bs with
  | nil => exact fun _ h => h
  | cons b bs ih => exact fun a h => ih (a + 1) (memSet_wf a b h)

theorem memClear_wf {m : List Host.Cell} (l : List Nat) (h : Memory.wf m = true) : Memory.wf (memClear m l) = true :=
  Memory.wf_filter _ h

@[simp] theorem memGet_memSet_self (m : List Host.Cell) (a : Nat) (b : Byte) : memGet (memSet m a b) a = b := by
  unfold memGet memSet
  split
  · rename_i h
    simp [h]
  · simp

theorem memGet_memSet_ne (m : List Host.Cell) {a c : Nat} (b : Byte) (h : c ≠ a) : memGet (memSet m a b) c = memGet m c := by
  unfold memGet memSet
  split
  · rw [Sparse.get?_erase_ne _ h]
  · rw [Sparse.get?_set_ne _ _ h]

theorem memGet_memPut_out (bs : List Byte) : ∀ (m : List Host.Cell) (a c : Nat), c < a ∨ a + bs.length ≤ c →
    memGet (memPut m a bs) c = memGet m c := by
  induction bs with
  | nil => exact fun _ _ _ _ => rfl
  | cons b bs ih =>
    intro m a c h
    simp only [List.length_cons] at h
    rw [memPut, ih _ _ _ (by omega), memGet_memSet_ne _ _ (by omega)]

theorem memGet_memPut_in (bs : List Byte) : ∀ (m : List Host.Cell) (a i : Nat) (h : i < bs.length),
    memGet (memPut m a bs) (a + i) = bs[i] := by
  induction bs with
  | nil => intro m a i h; simp at h
  | cons b bs ih =>
    intro m a i h
    cases i with
    | zero => rw [memPut, memGet_memPut_out _ _ _ _ (by omega)]; simp
    | succ i =>
      have := ih (memSet m a b) (a + 1) i (by simpa using h)
      rw [memPut, show a + (i + 1) = a + 1 + i by omega, this]
      simp

theorem get?_filter_key (p : Nat → Bool) (m : List Host.Cell) (a : Nat) :
    Sparse.get? (m.filter (fun c => p c.1)) a = if p a then Sparse.get? m a else none := by
  induction m with
  | nil => simp [Sparse.get?]
  | cons e t ih =>
    by_cases he : e.1 = a
    · by_cases hp : p a = true
      · simp [List.filter_cons, he, hp, Sparse.get?]
      · simp [List.filter_cons, he, hp, ih]
    · by_cases hp : p e.1 = true
      · simp [List.filter_cons, he, hp, Sparse.get?, ih]
      · simp [List.filter_cons, he, hp, Sparse.get?, ih]

/-- A byte of a cleared line reads zero, any other as before. -/
theorem memGet_memClear (m : List Host.Cell) (l : List Nat) (a : Nat) :
    memGet (memClear m l) a = if l.contains (a / 64) then 0 else memGet m a := by
  unfold memGet memClear
  rw [get?_filter_key (fun x => !l.contains (x / 64))]
  by_cases h : l.contains (a / 64) = true <;> simp only [h, Bool.not_true, Bool.not_false, if_true, if_false, Bool.false_eq_true] <;> rfl

end Sys2Proof.Machine
end

