-- ==== Sys2Proof/Laws/Onward.lean ====
section
/-! SUPPORT. The operations that change the flash die, a fuse, pool memory or the clock, and that each of them only goes
onward. -/

namespace Sys2Proof.Machine

theorem Onward.of_frame {s t : State} (h : t.frame = s.frame) : Onward s t := by
  have h1 : t.pending = s.pending := congrArg Frame.pending h
  have h2 : t.part = s.part := congrArg Frame.part h
  have h3 : t.flash = s.flash := congrArg Frame.flash h
  have h4 : t.pool.mem = s.pool.mem := congrArg Frame.mem h
  have h5 : t.now = s.now := congrArg Frame.now h
  exact ⟨h1, h5.ge, by rw [h3], fun n hn => by rw [h2]; exact hn, by rw [h2], fun hm => by rw [h4]; exact hm⟩

theorem Onward.refl (s : State) : Onward s s := .of_frame rfl

theorem Onward.trans {s t u : State} (h : Onward s t) (k : Onward t u) : Onward s u :=
  ⟨k.queue.trans h.queue, h.clock.trans k.clock, h.counter.trans k.counter, fun n hn => k.revoked n (h.revoked n hn),
    by rw [k.fuses, h.fuses], fun hm => k.mem (h.mem hm)⟩

theorem Onward.frame_right {s t u : State} (h : Onward s t) (k : u.frame = t.frame) : Onward s u := h.trans (.of_frame k)

theorem Onward.ite {s a b : State} {c : Prop} [Decidable c] (ha : Onward s a) (hb : Onward s b) : Onward s (if c then a else b) := by
  split
  · exact ha
  · exact hb

theorem Onward.foldl {α : Type} {g : State → α → State} (h : ∀ s e, Onward s (g s e)) : ∀ (l : List α) (s : State), Onward s (l.foldl g s)
  | [], s => .refl s
  | e :: l, s => (h s e).trans (Onward.foldl h l (g s e))

/-- Bits of a mask stay set when one more bit is set. -/
theorem bit_putBit_true (v i n : Nat) (h : bit v n = true) : bit (putBit v i true) n = true := by
  unfold putBit
  by_cases hi : bit v i = true
  · simpa [hi] using h
  · have hi' : bit v i = false := by simpa using hi
    simp only [hi', Bool.false_eq_true, if_false, if_true]
    simp only [bit, beq_iff_eq, beq_eq_false_iff_ne, ne_eq] at hi' h ⊢
    rcases lt_trichotomy n i with hlt | rfl | hgt
    · have := Nat.testBit_two_pow_add_gt hlt v
      rw [Nat.add_comm, Nat.testBit_eq_decide_div_mod_eq, Nat.testBit_eq_decide_div_mod_eq, decide_eq_decide] at this
      exact this.2 h
    · exact absurd h hi'
    · obtain ⟨d, rfl⟩ : ∃ d, n = i + 1 + d := ⟨n - (i + 1), by omega⟩
      have hp : 0 < 2 ^ i := Nat.pow_pos (by norm_num)
      rw [Nat.pow_add, Nat.pow_add, ← Nat.div_div_eq_div_mul, ← Nat.div_div_eq_div_mul, Nat.add_div_right _ hp, Nat.pow_one] 
      rw [Nat.pow_add, Nat.pow_add, ← Nat.div_div_eq_div_mul, ← Nat.div_div_eq_div_mul, Nat.pow_one] at h
      rwa [show (v / 2 ^ i).succ / 2 = v / 2 ^ i / 2 by omega]

theorem bit_foldl_putBit (n : Nat) : ∀ (l : List KeyRec) (v : Nat), bit v n = true →
    bit (l.foldl (fun v (r : KeyRec) => putBit v r.slot true) v) n = true
  | [], _, h => h
  | r :: l, v, h => bit_foldl_putBit n l _ (bit_putBit_true v r.slot n h)

@[simp] theorem frame_now (s : State) : s.frame.now = s.now := rfl
@[simp] theorem frame_pending (s : State) : s.frame.pending = s.pending := rfl
@[simp] theorem frame_part (s : State) : s.frame.part = s.part := rfl
@[simp] theorem frame_flash (s : State) : s.frame.flash = s.flash := rfl
@[simp] theorem frame_mem (s : State) : s.frame.mem = s.pool.mem := rfl

theorem State.atNow_frame (s : State) (t : Nat) : (s.atNow t).frame = { s.frame with now := max s.now t } := rfl

theorem State.atDev_frame (s : State) (t : Nat) :
    (s.atDev t).frame = { s.frame with now := max s.now ((s.boot.timeBase.map (· + t)).getD 0) } := by
  unfold State.atDev
  split <;> rename_i h <;> simp [h]

/-- A state whose frame differs in a later clock only is onward. -/
theorem Onward.of_later {s t : State} (h : ∃ n, s.now ≤ n ∧ t.frame = { s.frame with now := n }) : Onward s t := by
  obtain ⟨n, hn, h⟩ := h
  have h1 : t.now = n := congrArg Frame.now h
  exact Onward.trans (t := { s with now := n }) ⟨rfl, hn, le_rfl, fun _ h => h, rfl, id⟩ (.of_frame h)

theorem State.atDev_onward (s : State) (t : Nat) : Onward s (s.atDev t) := by
  unfold State.atDev
  split
  · exact ⟨rfl, le_max_left _ _, le_rfl, fun _ h => h, rfl, id⟩
  · exact .refl s

theorem State.atNow_onward (s : State) (t : Nat) : Onward s (s.atNow t) :=
  ⟨rfl, le_max_left _ _, le_rfl, fun _ h => h, rfl, id⟩

theorem State.tick_onward (s : State) : Onward s s.tick :=
  ⟨rfl, Nat.le_succ _, le_rfl, fun _ h => h, rfl, id⟩

theorem State.setBank_onward (s : State) (b : Bool) (v : Bank) : Onward s (s.setBank b v) := by
  refine ⟨rfl, le_rfl, ?_, fun _ h => h, rfl, id⟩
  unfold State.setBank
  cases b <;> exact le_rfl

theorem State.markBank_onward (s : State) (b : Bool) (v : BankState) : Onward s (s.markBank b v) := s.setBank_onward b _

theorem State.confirmBank_onward (s : State) (im : Image) : Onward s (s.confirmBank im) := by
  unfold State.confirmBank
  dsimp only
  refine ((s.markBank_onward s.boot.runB .confirmed).trans ?_).frame_right (State.setRegs_frame _ _)
  exact ⟨rfl, le_rfl, le_max_left _ _, fun n h => bit_foldl_putBit n _ _ h, rfl, id⟩

theorem State.formeSelect_onward (s : State) (a : List Nat) : Onward s (s.formeSelect a) := by
  unfold State.formeSelect
  dsimp only
  split
  · exact Onward.frame_right (t := { s with flash := { s.flash with prefB := nth a 0 == 1 } }) ⟨rfl, le_rfl, le_rfl, fun _ h => h, rfl, id⟩ (by simp)
  · exact Onward.frame_right (t := { s with flash := { s.flash with prefB := nth a 0 == 1 } }) ⟨rfl, le_rfl, le_rfl, fun _ h => h, rfl, id⟩ (by simp)
  · exact .of_frame (by simp)

theorem State.wipe_onward (s : State) (keep : Fld → Bool) : Onward s (s.wipe keep) :=
  ⟨rfl, le_rfl, le_rfl, fun _ h => h, rfl, fun _ => Memory.wf_nil⟩

theorem State.coldReset_onward (s : State) : Onward s s.coldReset := by
  unfold State.coldReset
  dsimp only
  exact (s.wipe_onward inSlotDie).trans (.of_frame rfl)

theorem State.applyParts_onward (s : State) (parts : List AmendParts) (tc : Nat) : Onward s (s.applyParts parts tc) := by
  unfold State.applyParts
  refine Onward.foldl (fun s a => ?_) _ _
  dsimp only
  generalize ht : State.setDigest s _ = t
  have h1 : Onward s t := .of_frame (by rw [← ht]; simp)
  have h2 : Onward t { t with flash := { t.flash with amendHigh := max t.flash.amendHigh a.seq } } := ⟨rfl, le_rfl, le_rfl, fun _ h => h, rfl, id⟩
  refine (h1.trans h2).frame_right ?_
  repeat' (first | (simp; done) | split)

theorem State.putLine_onward (s : State) (l : Lease) (ln : Nat) (d : List Byte) (poison : Bool) : Onward s (s.putLine l ln d poison) := by
  unfold State.putLine
  dsimp only
  generalize ht : (State.armedWrite _ _ _).2 = t
  have h1 : Onward s t := .of_frame (by rw [← ht]; simp)
  refine (h1.trans ?_).frame_right (State.setTag_frame _ _ _)
  exact ⟨rfl, le_rfl, le_rfl, fun _ h => h, rfl, memPut_wf d _⟩

theorem State.beginFill_onward (s : State) (l : Lease) (g : Nat) : Onward s (s.beginFill l g) := by
  unfold State.beginFill
  dsimp only
  refine (Onward.of_frame (State.tally_frame s (42 + g / 2 ^ 24) 0x33 none)).trans ?_
  generalize s.tally (42 + g / 2 ^ 24) 0x33 = t
  refine Onward.trans (t := t.updPool (fun p => { p with
    mem := memClear p.mem (s.granLines g), filling := p.filling ++ [(g / 2 ^ 24, g % 2 ^ 24)] })) ?_ (.of_frame (by simp))
  exact ⟨rfl, le_rfl, le_rfl, fun _ h => h, rfl, memClear_wf _⟩

theorem State.failBringup_onward (s : State) (code detail : Nat) : Onward s (s.failBringup code detail) := by
  have h : ∀ (t : State) (c d : Prop) [Decidable c] [Decidable d] (n : Nat), Onward s t → Onward s
      (if c then
         let u := (t.wipe keptAttempt).powerDown.setReg .SUP_COL_PHASE_STALLED 0 1
         if d then u else u.updLink (fun l => { l with training := [u.recovPort] })
       else (t.wipe keptAttempt).powerDown.beginP1 n) := by
    intro t c d _ _ n ht
    refine (ht.trans (t.wipe_onward keptAttempt)).frame_right ?_
    dsimp only
    repeat' (first | (simp; done) | split)
  have h0 : Onward s (s.lastError code detail) := .of_frame (by simp)
  unfold State.failBringup
  exact h _ _ _ _ (Onward.ite (h0.trans (State.markBank_onward _ _ _)) h0)

theorem State.formeEnd_onward (s : State) (im : Image) (a : List Nat) : Onward s (s.formeEnd im a) := by
  unfold State.formeEnd
  exact (Onward.ite (s.setBank_onward _ _) (s.markBank_onward _ _)).frame_right (State.ended_frame _ _ _)

theorem State.warmProceed_onward (s : State) : Onward s s.warmProceed := by
  unfold State.warmProceed
  dsimp only
  have h1 : Onward s s.deferBatches := .of_frame (by simp)
  exact (h1.trans (State.wipe_onward _ keptWarm)).frame_right (by simp)

theorem State.warmReset_onward (s : State) (cause : Nat) : Onward s (s.warmReset cause) := by
  unfold State.warmReset
  dsimp only
  split
  · exact .of_frame (by simp)
  · exact Onward.trans (.of_frame (by simp)) (State.warmProceed_onward _)

theorem State.applyCommit_onward (s : State) (c : Commit) : Onward s (s.applyCommit c) := by
  unfold State.applyCommit
  dsimp only
  generalize ht : List.foldl _ _ c.writes = t
  have h1 : Onward s t := by
    refine .of_frame ?_
    rw [← ht]
    refine (foldl_frame (fun s e => ?_) _ _).trans ?_
    · split <;> simp
    · simp
  refine (h1.trans (t.applyParts_onward c.parts c.tc)).frame_right ?_
  rw [State.pruneRemoved_frame, State.applyOrigin_frame]
  split <;> simp

theorem State.dmaEnd_onward (s : State) (r : Running) : Onward s (s.dmaEnd r) := by
  unfold State.dmaEnd
  dsimp only
  have h0 : Onward s (s.updLink (fun l => { l with dma := l.dma.filter (fun t => t.host != r.host || t.quarantined) })) := .of_frame (by simp)
  have h1 := fun c : Prop => fun [Decidable c] v => Onward.ite (c := c) (h0.frame_right (State.setReg_frame _ .CMP_DMA_STATUS_STATE r.host v)) h0
  split
  · exact (h1 _ 0).frame_right (State.amendEnd_frame _ _ _)
  · exact (h1 _ 0).trans (State.formeEnd_onward _ _ _)
  · exact (h1 _ 0).frame_right (State.importEnd_frame _ _ _)
  · exact h1 _ 0

theorem State.poolWrite_onward (s : State) (k : Pkt) (l : Lease) (m pa : Nat) : Onward s (s.poolWrite k l m pa) := by
  unfold State.poolWrite
  dsimp only
  have hd : ∀ t : State, ((match k.cls with
      | .nonposted => t.poolReply k m .sc [] false
      | _ => t).served k).frame = t.frame := by
    intro t
    split <;> simp
  split
  · refine Onward.frame_right ?_ (hd _)
    refine (s.beginFill_onward l _).trans (Onward.foldl (fun s e => ?_) _ _)
    split
    · exact s.putLine_onward _ _ _ _
    · exact (s.putLine_onward l e (overlay k pa e []) k.req.poison).frame_right (by simp)
  · have h1 : ∀ ls : List Nat, Onward s (ls.foldl (fun s ln => s.putLine l ln (overlay k pa ln []) k.req.poison) s) :=
      fun ls => Onward.foldl (fun s ln => s.putLine_onward _ _ _ _) _ _
    split
    · exact (h1 _).frame_right (hd _)
    · exact (h1 ((poolLines k pa).filter (covers k pa))).frame_right (by simp)

theorem State.rmwLine_onward (s : State) (k : Pkt) (l : Lease) (m ln : Nat) (ecc : EccResult) : Onward s (s.rmwLine k l m ln ecc) := by
  unfold State.rmwLine
  dsimp only
  have h0 : Onward s (s.lineReads l m 1) := .of_frame (by simp)
  have h2 : ∀ t : State, Onward s t → ∀ d p, Onward s ((State.putLine { t with draws := t.draws + 1 } l ln d p).bump .MEM_STK_RMW_DONE m) := by
    intro t ht d p
    have h3 : Onward t { t with draws := t.draws + 1 } := .of_frame rfl
    exact ((ht.trans h3).trans (State.putLine_onward _ l ln d p)).frame_right (State.bump_frame _ _ _ _)
  split
  · refine h0.frame_right ?_
    rw [State.countDrop_frame, State.remap_frame, State.report_frame, State.bump_frame, State.bump_frame]
    split <;> split <;> simp only [State.setTag_frame, State.corrected_frame]
  · split
    · exact h2 _ (h0.frame_right (State.corrected_frame _ _ _ _)) _ _
    · exact h2 _ h0 _ _

theorem State.poolServe_onward (s : State) (k : Pkt) (m : Nat) (ecc : EccResult) : Onward s (s.poolServe k m ecc) := by
  unfold State.poolServe
  dsimp only
  split
  · exact .of_frame (by simp)
  rename_i l _
  have h0 : Onward s (s.readKey (46 + m) l.key) := .of_frame (by simp)
  generalize s.readKey (46 + m) l.key = t at h0
  split
  · exact h0.frame_right (by simp)
  split
  · exact h0
  split
  · exact h0.frame_right (by simp)
  · exact h0.frame_right (by simp)
  split
  · exact h0
  · exact h0.trans (State.poolWrite_onward _ _ _ _ _)

/-- A command of the command interface goes onward where its body does. -/
theorem State.command_onward (s : State) (k token op : Nat) (a : List Nat) (body : List Nat → State → State)
    (h : ∀ a s, Onward s (body a s)) : Onward s (s.command k token op a body) := by
  unfold State.command
  dsimp only
  split
  · exact .refl s
  split
  · exact .of_frame (by simp)
  split
  · exact .of_frame (by simp)
  · exact Onward.trans (.of_frame (by simp)) (h _ _)

theorem State.cmdWrite_onward (s : State) (k token op : Nat) : Onward s (s.cmdWrite k token op) := by
  have h0 : ∀ (a : List Nat) (body : List Nat → State → State), (∀ a s, (body a s).frame = s.frame) → Onward s (s.command k token op a body) :=
    fun a body h => .of_frame (State.command_frame s k token op a body h)
  unfold State.cmdWrite
  dsimp only
  split
  case h_8 => exact s.command_onward k token _ _ _ (fun a t => t.formeSelect_onward a)
  all_goals first
    | exact h0 _ _ (fun a t => by simp)
    | exact .of_frame (by simp)

theorem State.shRefused_frame {s t : State} {k : Nat} (h : s.shRefused k = some t) : t.frame = s.frame := by
  unfold State.shRefused at h
  repeat' (first | contradiction | (injection h with h; subst h; simp; done) | split at h)

theorem State.writeReg_onward (s : State) (k : Nat) (r : RegAt) (i lo n v : Nat) : Onward s (s.writeReg k r i lo n v) := by
  unfold State.writeReg
  dsimp only
  split
  case h_1 => exact s.cmdWrite_onward _ _ _
  all_goals
    refine .of_frame ?_
    repeat' (first | (simp; done) | (exact State.shRefused_frame ‹_›) | (refine (foldl_frame (fun s e => ?_) _ _).trans ?_) | split)

theorem State.writeAt_onward (s : State) (k a n v : Nat) : Onward s (s.writeAt k a n v) := by
  unfold State.writeAt
  dsimp only
  repeat' split
  · exact .of_frame (State.tenantWrite_frame _ _ _ _)
  · exact .of_frame (State.msixWrite_frame _ _ _ _)
  · exact .refl s
  · exact State.writeReg_onward _ _ _ _ _ _ _
  · exact .of_frame (State.bump_frame _ _ _ _)
  · exact State.writeReg_onward _ _ _ _ _ _ _

theorem State.barWrite_onward (s : State) (k a size v : Nat) : Onward s (s.barWrite k a size v) := by
  have h2 : Onward s ((s.writeAt k a 32 v).writeAt k (a + 4) 32 (v / 2 ^ 32)) := (State.writeAt_onward _ _ _ _ _).trans (State.writeAt_onward _ _ _ _ _)
  unfold State.barWrite
  dsimp only
  split
  · exact .refl s
  · refine Onward.ite (.of_frame (by simp)) (Onward.ite (State.writeAt_onward _ _ _ _ _) ?_)
    exact Onward.ite (State.writeAt_onward _ _ _ _ _) h2

theorem State.barAccess_onward (s : State) (k tag a size : Nat) (kind : ReqKind) (v : Nat) : Onward s (s.barAccess k tag a size kind v) := by
  unfold State.barAccess
  dsimp only
  split
  · exact .of_frame (by simp)
  · exact .of_frame (by simp)
  · exact State.barWrite_onward _ _ _ _ _
  · exact Onward.ite ((State.barWrite_onward _ _ _ _ _).frame_right (State.emit_frame _ _)) (.of_frame (by simp))

theorem State.barMeet_onward (s : State) (k tag a size : Nat) (kind : ReqKind) (v : Nat) : Onward s (s.barMeet k tag a size kind v) := by
  unfold State.barMeet
  split
  · exact Onward.ite (.of_frame (by simp)) (State.barAccess_onward _ _ _ _ _ _ _)
  · exact State.barAccess_onward _ _ _ _ _ _ _

theorem State.serveRegs_onward (s : State) (n : Nat) : Onward s (s.serveRegs n) := by
  unfold State.serveRegs
  refine Onward.ite (.refl s) ?_
  exact Onward.trans (.of_frame (by simp)) (Onward.foldl (fun s _ => State.barAccess_onward s _ _ _ _ _ _) _ _)

theorem State.imageRead_onward (s : State) (k : Nat) : Onward s (s.imageRead k) := by
  unfold State.imageRead
  repeat' (first | exact .refl s | exact State.markBank_onward _ _ _ | split)

theorem State.cutCommand_onward (s : State) : Onward s s.cutCommand := by
  unfold State.cutCommand
  split
  · rename_i r _
    have h : Onward s { s.setReg .CMP_RESULT_STATE r.host 0 with port := { s.port with running := none } } :=
      .of_frame ((rfl : _ = (s.setReg .CMP_RESULT_STATE r.host 0).frame).trans (by simp))
    exact Onward.ite (h.trans (State.markBank_onward _ _ _)) h
  · exact .refl s

theorem State.mgmtLoss_onward (s : State) : Onward s s.mgmtLoss := by
  unfold State.mgmtLoss
  split
  · exact Onward.ite (.of_frame (by simp)) (.of_frame (by simp))
  · refine Onward.frame_right (Onward.trans (t := (s.cycleMgmt 1 s.now).updIsl (fun i => { i with resync := [] })) (.of_frame (by simp)) (State.cutCommand_onward _)) (by simp)

theorem State.lose_onward (s : State) (n source : Nat) : Onward s (s.lose n source) := by
  unfold State.lose
  split
  · exact .refl s
  · dsimp only
    refine Onward.frame_right ?_ (State.replicaCheck_frame _ _)
    split
    · refine Onward.trans ?_ (State.mgmtLoss_onward _)
      refine .of_frame ?_
      repeat' (first | (simp; done) | split)
    · refine .of_frame ?_
      repeat' (first | (simp; done) | split)

theorem State.unlock_onward (s : State) (n : Nat) : Onward s (s.unlock n) := by
  unfold State.unlock
  exact Onward.ite (State.lose_onward _ _ _) (.refl s)

theorem State.clkLoss_onward (s : State) (n : Nat) : Onward s (s.clkLoss n) :=
  Onward.ite (State.coldReset_onward s) (State.unlock_onward s n)

theorem State.bankClose_onward (s : State) : Onward s s.bankClose := by
  unfold State.bankClose
  split
  · exact .refl s
  · dsimp only
    rename_i b0 _
    have h0 : Onward s (s.atDev (b0 + 5000)).drainRecs := (State.atDev_onward _ _).trans (.of_frame (State.drainRecs_frame _))
    generalize (s.atDev (b0 + 5000)).drainRecs = t at h0
    refine h0.frame_right ?_
    repeat' (first | (simp; done) | split)

theorem State.fenceForce_onward (s : State) (n : Nat) : Onward s (s.fenceForce n) := by
  unfold State.fenceForce
  split
  · exact Onward.ite (.refl s) ((State.atNow_onward _ _).frame_right (State.forceFence_frame _ _))
  · exact .refl s

theorem State.leaveReset_onward (s : State) (n : Nat) : Onward s (s.leaveReset n) := by
  unfold State.leaveReset
  split
  · exact .refl s
  · rename_i e _
    refine (s.atNow_onward (e.2 + resetTime n)).frame_right ?_
    dsimp only
    repeat' (first | (simp; done) | split)

theorem State.switchNext_onward (s : State) : Onward s s.switchNext := by
  unfold State.switchNext
  have h0 : Onward s s.rampsOver := .of_frame (State.rampsOver_frame s)
  generalize s.rampsOver = t at h0
  dsimp only
  split
  · exact h0
  · rcases t.isl.lastSwitch with _ | x
    · refine h0.frame_right ?_
      dsimp only
      repeat' (first | (simp; done) | split)
    · refine (h0.trans (t.atNow_onward (x + 250))).frame_right ?_
      dsimp only
      repeat' (first | (simp; done) | split)

end Sys2Proof.Machine
end

