-- ==== Sys2Proof/Laws/State.lean ====
section
/-! SUPPORT. One lemma per field per update of the state, each true by definition, and what the register file reads after a
write. -/

namespace Sys2Proof.Machine

@[simp] theorem State.setReg_pending (s : State) (f : Fld) (i v : Nat) : (s.setReg f i v).pending = s.pending := rfl
@[simp] theorem State.setReg_now (s : State) (f : Fld) (i v : Nat) : (s.setReg f i v).now = s.now := rfl
@[simp] theorem State.setReg_draws (s : State) (f : Fld) (i v : Nat) : (s.setReg f i v).draws = s.draws := rfl
@[simp] theorem State.setReg_out (s : State) (f : Fld) (i v : Nat) : (s.setReg f i v).out = s.out := rfl
@[simp] theorem State.setReg_regs (s : State) (f : Fld) (i v : Nat) : (s.setReg f i v).regs = rset s.regs f i v := rfl
@[simp] theorem State.setReg_staged (s : State) (f : Fld) (i v : Nat) : (s.setReg f i v).staged = s.staged := rfl
@[simp] theorem State.setReg_flash (s : State) (f : Fld) (i v : Nat) : (s.setReg f i v).flash = s.flash := rfl
@[simp] theorem State.setReg_part (s : State) (f : Fld) (i v : Nat) : (s.setReg f i v).part = s.part := rfl
@[simp] theorem State.setReg_boot (s : State) (f : Fld) (i v : Nat) : (s.setReg f i v).boot = s.boot := rfl
@[simp] theorem State.setReg_isl (s : State) (f : Fld) (i v : Nat) : (s.setReg f i v).isl = s.isl := rfl
@[simp] theorem State.setReg_com (s : State) (f : Fld) (i v : Nat) : (s.setReg f i v).com = s.com := rfl
@[simp] theorem State.setReg_port (s : State) (f : Fld) (i v : Nat) : (s.setReg f i v).port = s.port := rfl
@[simp] theorem State.setReg_link (s : State) (f : Fld) (i v : Nat) : (s.setReg f i v).link = s.link := rfl
@[simp] theorem State.setReg_tr (s : State) (f : Fld) (i v : Nat) : (s.setReg f i v).tr = s.tr := rfl
@[simp] theorem State.setReg_pool (s : State) (f : Fld) (i v : Nat) : (s.setReg f i v).pool = s.pool := rfl
@[simp] theorem State.setReg_keys (s : State) (f : Fld) (i v : Nat) : (s.setReg f i v).keys = s.keys := rfl
@[simp] theorem State.setReg_dl (s : State) (f : Fld) (i v : Nat) : (s.setReg f i v).dl = s.dl := rfl
@[simp] theorem State.setReg_flt (s : State) (f : Fld) (i v : Nat) : (s.setReg f i v).flt = s.flt := rfl
@[simp] theorem State.setReg_chan (s : State) (f : Fld) (i v : Nat) : (s.setReg f i v).chan = s.chan := rfl
@[simp] theorem State.setReg_met (s : State) (f : Fld) (i v : Nat) : (s.setReg f i v).met = s.met := rfl

@[simp] theorem State.emit_pending (s : State) (o : Output) : (s.emit o).pending = s.pending := rfl
@[simp] theorem State.emit_now (s : State) (o : Output) : (s.emit o).now = s.now := rfl
@[simp] theorem State.emit_draws (s : State) (o : Output) : (s.emit o).draws = s.draws := rfl
@[simp] theorem State.emit_out (s : State) (o : Output) : (s.emit o).out = s.out ++ [o] := rfl
@[simp] theorem State.emit_regs (s : State) (o : Output) : (s.emit o).regs = s.regs := rfl
@[simp] theorem State.emit_staged (s : State) (o : Output) : (s.emit o).staged = s.staged := rfl
@[simp] theorem State.emit_flash (s : State) (o : Output) : (s.emit o).flash = s.flash := rfl
@[simp] theorem State.emit_part (s : State) (o : Output) : (s.emit o).part = s.part := rfl
@[simp] theorem State.emit_boot (s : State) (o : Output) : (s.emit o).boot = s.boot := rfl
@[simp] theorem State.emit_isl (s : State) (o : Output) : (s.emit o).isl = s.isl := rfl
@[simp] theorem State.emit_com (s : State) (o : Output) : (s.emit o).com = s.com := rfl
@[simp] theorem State.emit_port (s : State) (o : Output) : (s.emit o).port = s.port := rfl
@[simp] theorem State.emit_link (s : State) (o : Output) : (s.emit o).link = s.link := rfl
@[simp] theorem State.emit_tr (s : State) (o : Output) : (s.emit o).tr = s.tr := rfl
@[simp] theorem State.emit_pool (s : State) (o : Output) : (s.emit o).pool = s.pool := rfl
@[simp] theorem State.emit_keys (s : State) (o : Output) : (s.emit o).keys = s.keys := rfl
@[simp] theorem State.emit_dl (s : State) (o : Output) : (s.emit o).dl = s.dl := rfl
@[simp] theorem State.emit_flt (s : State) (o : Output) : (s.emit o).flt = s.flt := rfl
@[simp] theorem State.emit_chan (s : State) (o : Output) : (s.emit o).chan = s.chan := rfl
@[simp] theorem State.emit_met (s : State) (o : Output) : (s.emit o).met = s.met := rfl
@[simp] theorem State.emit_reg (s : State) (o : Output) (g : Fld) (j : Nat) : (s.emit o).reg g j = s.reg g j := rfl

@[simp] theorem State.atNow_pending (s : State) (t : Nat) : (s.atNow t).pending = s.pending := rfl
@[simp] theorem State.atNow_now (s : State) (t : Nat) : (s.atNow t).now = max s.now t := rfl
@[simp] theorem State.atNow_draws (s : State) (t : Nat) : (s.atNow t).draws = s.draws := rfl
@[simp] theorem State.atNow_out (s : State) (t : Nat) : (s.atNow t).out = s.out := rfl
@[simp] theorem State.atNow_regs (s : State) (t : Nat) : (s.atNow t).regs = s.regs := rfl
@[simp] theorem State.atNow_staged (s : State) (t : Nat) : (s.atNow t).staged = s.staged := rfl
@[simp] theorem State.atNow_flash (s : State) (t : Nat) : (s.atNow t).flash = s.flash := rfl
@[simp] theorem State.atNow_part (s : State) (t : Nat) : (s.atNow t).part = s.part := rfl
@[simp] theorem State.atNow_boot (s : State) (t : Nat) : (s.atNow t).boot = s.boot := rfl
@[simp] theorem State.atNow_isl (s : State) (t : Nat) : (s.atNow t).isl = s.isl := rfl
@[simp] theorem State.atNow_com (s : State) (t : Nat) : (s.atNow t).com = s.com := rfl
@[simp] theorem State.atNow_port (s : State) (t : Nat) : (s.atNow t).port = s.port := rfl
@[simp] theorem State.atNow_link (s : State) (t : Nat) : (s.atNow t).link = s.link := rfl
@[simp] theorem State.atNow_tr (s : State) (t : Nat) : (s.atNow t).tr = s.tr := rfl
@[simp] theorem State.atNow_pool (s : State) (t : Nat) : (s.atNow t).pool = s.pool := rfl
@[simp] theorem State.atNow_keys (s : State) (t : Nat) : (s.atNow t).keys = s.keys := rfl
@[simp] theorem State.atNow_dl (s : State) (t : Nat) : (s.atNow t).dl = s.dl := rfl
@[simp] theorem State.atNow_flt (s : State) (t : Nat) : (s.atNow t).flt = s.flt := rfl
@[simp] theorem State.atNow_chan (s : State) (t : Nat) : (s.atNow t).chan = s.chan := rfl
@[simp] theorem State.atNow_met (s : State) (t : Nat) : (s.atNow t).met = s.met := rfl
@[simp] theorem State.atNow_reg (s : State) (t : Nat) (g : Fld) (j : Nat) : (s.atNow t).reg g j = s.reg g j := rfl

@[simp] theorem State.updBoot_pending (s : State) (f : Boot → Boot) : (s.updBoot f).pending = s.pending := rfl
@[simp] theorem State.updBoot_now (s : State) (f : Boot → Boot) : (s.updBoot f).now = s.now := rfl
@[simp] theorem State.updBoot_draws (s : State) (f : Boot → Boot) : (s.updBoot f).draws = s.draws := rfl
@[simp] theorem State.updBoot_out (s : State) (f : Boot → Boot) : (s.updBoot f).out = s.out := rfl
@[simp] theorem State.updBoot_regs (s : State) (f : Boot → Boot) : (s.updBoot f).regs = s.regs := rfl
@[simp] theorem State.updBoot_staged (s : State) (f : Boot → Boot) : (s.updBoot f).staged = s.staged := rfl
@[simp] theorem State.updBoot_flash (s : State) (f : Boot → Boot) : (s.updBoot f).flash = s.flash := rfl
@[simp] theorem State.updBoot_part (s : State) (f : Boot → Boot) : (s.updBoot f).part = s.part := rfl
@[simp] theorem State.updBoot_boot (s : State) (f : Boot → Boot) : (s.updBoot f).boot = f s.boot := rfl
@[simp] theorem State.updBoot_isl (s : State) (f : Boot → Boot) : (s.updBoot f).isl = s.isl := rfl
@[simp] theorem State.updBoot_com (s : State) (f : Boot → Boot) : (s.updBoot f).com = s.com := rfl
@[simp] theorem State.updBoot_port (s : State) (f : Boot → Boot) : (s.updBoot f).port = s.port := rfl
@[simp] theorem State.updBoot_link (s : State) (f : Boot → Boot) : (s.updBoot f).link = s.link := rfl
@[simp] theorem State.updBoot_tr (s : State) (f : Boot → Boot) : (s.updBoot f).tr = s.tr := rfl
@[simp] theorem State.updBoot_pool (s : State) (f : Boot → Boot) : (s.updBoot f).pool = s.pool := rfl
@[simp] theorem State.updBoot_keys (s : State) (f : Boot → Boot) : (s.updBoot f).keys = s.keys := rfl
@[simp] theorem State.updBoot_dl (s : State) (f : Boot → Boot) : (s.updBoot f).dl = s.dl := rfl
@[simp] theorem State.updBoot_flt (s : State) (f : Boot → Boot) : (s.updBoot f).flt = s.flt := rfl
@[simp] theorem State.updBoot_chan (s : State) (f : Boot → Boot) : (s.updBoot f).chan = s.chan := rfl
@[simp] theorem State.updBoot_met (s : State) (f : Boot → Boot) : (s.updBoot f).met = s.met := rfl
@[simp] theorem State.updBoot_reg (s : State) (f : Boot → Boot) (g : Fld) (j : Nat) : (s.updBoot f).reg g j = s.reg g j := rfl

@[simp] theorem State.updIsl_pending (s : State) (f : Islands → Islands) : (s.updIsl f).pending = s.pending := rfl
@[simp] theorem State.updIsl_now (s : State) (f : Islands → Islands) : (s.updIsl f).now = s.now := rfl
@[simp] theorem State.updIsl_draws (s : State) (f : Islands → Islands) : (s.updIsl f).draws = s.draws := rfl
@[simp] theorem State.updIsl_out (s : State) (f : Islands → Islands) : (s.updIsl f).out = s.out := rfl
@[simp] theorem State.updIsl_regs (s : State) (f : Islands → Islands) : (s.updIsl f).regs = s.regs := rfl
@[simp] theorem State.updIsl_staged (s : State) (f : Islands → Islands) : (s.updIsl f).staged = s.staged := rfl
@[simp] theorem State.updIsl_flash (s : State) (f : Islands → Islands) : (s.updIsl f).flash = s.flash := rfl
@[simp] theorem State.updIsl_part (s : State) (f : Islands → Islands) : (s.updIsl f).part = s.part := rfl
@[simp] theorem State.updIsl_boot (s : State) (f : Islands → Islands) : (s.updIsl f).boot = s.boot := rfl
@[simp] theorem State.updIsl_isl (s : State) (f : Islands → Islands) : (s.updIsl f).isl = f s.isl := rfl
@[simp] theorem State.updIsl_com (s : State) (f : Islands → Islands) : (s.updIsl f).com = s.com := rfl
@[simp] theorem State.updIsl_port (s : State) (f : Islands → Islands) : (s.updIsl f).port = s.port := rfl
@[simp] theorem State.updIsl_link (s : State) (f : Islands → Islands) : (s.updIsl f).link = s.link := rfl
@[simp] theorem State.updIsl_tr (s : State) (f : Islands → Islands) : (s.updIsl f).tr = s.tr := rfl
@[simp] theorem State.updIsl_pool (s : State) (f : Islands → Islands) : (s.updIsl f).pool = s.pool := rfl
@[simp] theorem State.updIsl_keys (s : State) (f : Islands → Islands) : (s.updIsl f).keys = s.keys := rfl
@[simp] theorem State.updIsl_dl (s : State) (f : Islands → Islands) : (s.updIsl f).dl = s.dl := rfl
@[simp] theorem State.updIsl_flt (s : State) (f : Islands → Islands) : (s.updIsl f).flt = s.flt := rfl
@[simp] theorem State.updIsl_chan (s : State) (f : Islands → Islands) : (s.updIsl f).chan = s.chan := rfl
@[simp] theorem State.updIsl_met (s : State) (f : Islands → Islands) : (s.updIsl f).met = s.met := rfl
@[simp] theorem State.updIsl_reg (s : State) (f : Islands → Islands) (g : Fld) (j : Nat) : (s.updIsl f).reg g j = s.reg g j := rfl

@[simp] theorem State.updCom_pending (s : State) (f : Commits → Commits) : (s.updCom f).pending = s.pending := rfl
@[simp] theorem State.updCom_now (s : State) (f : Commits → Commits) : (s.updCom f).now = s.now := rfl
@[simp] theorem State.updCom_draws (s : State) (f : Commits → Commits) : (s.updCom f).draws = s.draws := rfl
@[simp] theorem State.updCom_out (s : State) (f : Commits → Commits) : (s.updCom f).out = s.out := rfl
@[simp] theorem State.updCom_regs (s : State) (f : Commits → Commits) : (s.updCom f).regs = s.regs := rfl
@[simp] theorem State.updCom_staged (s : State) (f : Commits → Commits) : (s.updCom f).staged = s.staged := rfl
@[simp] theorem State.updCom_flash (s : State) (f : Commits → Commits) : (s.updCom f).flash = s.flash := rfl
@[simp] theorem State.updCom_part (s : State) (f : Commits → Commits) : (s.updCom f).part = s.part := rfl
@[simp] theorem State.updCom_boot (s : State) (f : Commits → Commits) : (s.updCom f).boot = s.boot := rfl
@[simp] theorem State.updCom_isl (s : State) (f : Commits → Commits) : (s.updCom f).isl = s.isl := rfl
@[simp] theorem State.updCom_com (s : State) (f : Commits → Commits) : (s.updCom f).com = f s.com := rfl
@[simp] theorem State.updCom_port (s : State) (f : Commits → Commits) : (s.updCom f).port = s.port := rfl
@[simp] theorem State.updCom_link (s : State) (f : Commits → Commits) : (s.updCom f).link = s.link := rfl
@[simp] theorem State.updCom_tr (s : State) (f : Commits → Commits) : (s.updCom f).tr = s.tr := rfl
@[simp] theorem State.updCom_pool (s : State) (f : Commits → Commits) : (s.updCom f).pool = s.pool := rfl
@[simp] theorem State.updCom_keys (s : State) (f : Commits → Commits) : (s.updCom f).keys = s.keys := rfl
@[simp] theorem State.updCom_dl (s : State) (f : Commits → Commits) : (s.updCom f).dl = s.dl := rfl
@[simp] theorem State.updCom_flt (s : State) (f : Commits → Commits) : (s.updCom f).flt = s.flt := rfl
@[simp] theorem State.updCom_chan (s : State) (f : Commits → Commits) : (s.updCom f).chan = s.chan := rfl
@[simp] theorem State.updCom_met (s : State) (f : Commits → Commits) : (s.updCom f).met = s.met := rfl
@[simp] theorem State.updCom_reg (s : State) (f : Commits → Commits) (g : Fld) (j : Nat) : (s.updCom f).reg g j = s.reg g j := rfl

@[simp] theorem State.updLink_pending (s : State) (f : Links → Links) : (s.updLink f).pending = s.pending := rfl
@[simp] theorem State.updLink_now (s : State) (f : Links → Links) : (s.updLink f).now = s.now := rfl
@[simp] theorem State.updLink_draws (s : State) (f : Links → Links) : (s.updLink f).draws = s.draws := rfl
@[simp] theorem State.updLink_out (s : State) (f : Links → Links) : (s.updLink f).out = s.out := rfl
@[simp] theorem State.updLink_regs (s : State) (f : Links → Links) : (s.updLink f).regs = s.regs := rfl
@[simp] theorem State.updLink_staged (s : State) (f : Links → Links) : (s.updLink f).staged = s.staged := rfl
@[simp] theorem State.updLink_flash (s : State) (f : Links → Links) : (s.updLink f).flash = s.flash := rfl
@[simp] theorem State.updLink_part (s : State) (f : Links → Links) : (s.updLink f).part = s.part := rfl
@[simp] theorem State.updLink_boot (s : State) (f : Links → Links) : (s.updLink f).boot = s.boot := rfl
@[simp] theorem State.updLink_isl (s : State) (f : Links → Links) : (s.updLink f).isl = s.isl := rfl
@[simp] theorem State.updLink_com (s : State) (f : Links → Links) : (s.updLink f).com = s.com := rfl
@[simp] theorem State.updLink_port (s : State) (f : Links → Links) : (s.updLink f).port = s.port := rfl
@[simp] theorem State.updLink_link (s : State) (f : Links → Links) : (s.updLink f).link = f s.link := rfl
@[simp] theorem State.updLink_tr (s : State) (f : Links → Links) : (s.updLink f).tr = s.tr := rfl
@[simp] theorem State.updLink_pool (s : State) (f : Links → Links) : (s.updLink f).pool = s.pool := rfl
@[simp] theorem State.updLink_keys (s : State) (f : Links → Links) : (s.updLink f).keys = s.keys := rfl
@[simp] theorem State.updLink_dl (s : State) (f : Links → Links) : (s.updLink f).dl = s.dl := rfl
@[simp] theorem State.updLink_flt (s : State) (f : Links → Links) : (s.updLink f).flt = s.flt := rfl
@[simp] theorem State.updLink_chan (s : State) (f : Links → Links) : (s.updLink f).chan = s.chan := rfl
@[simp] theorem State.updLink_met (s : State) (f : Links → Links) : (s.updLink f).met = s.met := rfl
@[simp] theorem State.updLink_reg (s : State) (f : Links → Links) (g : Fld) (j : Nat) : (s.updLink f).reg g j = s.reg g j := rfl

@[simp] theorem State.setPkts_pending (s : State) (l : List Pkt) : (s.setPkts l).pending = s.pending := rfl
@[simp] theorem State.setPkts_now (s : State) (l : List Pkt) : (s.setPkts l).now = s.now := rfl
@[simp] theorem State.setPkts_draws (s : State) (l : List Pkt) : (s.setPkts l).draws = s.draws := rfl
@[simp] theorem State.setPkts_out (s : State) (l : List Pkt) : (s.setPkts l).out = s.out := rfl
@[simp] theorem State.setPkts_regs (s : State) (l : List Pkt) : (s.setPkts l).regs = s.regs := rfl
@[simp] theorem State.setPkts_staged (s : State) (l : List Pkt) : (s.setPkts l).staged = s.staged := rfl
@[simp] theorem State.setPkts_flash (s : State) (l : List Pkt) : (s.setPkts l).flash = s.flash := rfl
@[simp] theorem State.setPkts_part (s : State) (l : List Pkt) : (s.setPkts l).part = s.part := rfl
@[simp] theorem State.setPkts_boot (s : State) (l : List Pkt) : (s.setPkts l).boot = s.boot := rfl
@[simp] theorem State.setPkts_isl (s : State) (l : List Pkt) : (s.setPkts l).isl = s.isl := rfl
@[simp] theorem State.setPkts_com (s : State) (l : List Pkt) : (s.setPkts l).com = s.com := rfl
@[simp] theorem State.setPkts_port (s : State) (l : List Pkt) : (s.setPkts l).port = s.port := rfl
@[simp] theorem State.setPkts_link (s : State) (l : List Pkt) : (s.setPkts l).link = s.link := rfl
@[simp] theorem State.setPkts_tr (s : State) (l : List Pkt) : (s.setPkts l).tr = { s.tr with pkts := l } := rfl
@[simp] theorem State.setPkts_pool (s : State) (l : List Pkt) : (s.setPkts l).pool = s.pool := rfl
@[simp] theorem State.setPkts_keys (s : State) (l : List Pkt) : (s.setPkts l).keys = s.keys := rfl
@[simp] theorem State.setPkts_dl (s : State) (l : List Pkt) : (s.setPkts l).dl = s.dl := rfl
@[simp] theorem State.setPkts_flt (s : State) (l : List Pkt) : (s.setPkts l).flt = s.flt := rfl
@[simp] theorem State.setPkts_chan (s : State) (l : List Pkt) : (s.setPkts l).chan = s.chan := rfl
@[simp] theorem State.setPkts_met (s : State) (l : List Pkt) : (s.setPkts l).met = s.met := rfl
@[simp] theorem State.setPkts_reg (s : State) (l : List Pkt) (g : Fld) (j : Nat) : (s.setPkts l).reg g j = s.reg g j := rfl

@[simp] theorem State.updPool_pending (s : State) (f : Pool → Pool) : (s.updPool f).pending = s.pending := rfl
@[simp] theorem State.updPool_now (s : State) (f : Pool → Pool) : (s.updPool f).now = s.now := rfl
@[simp] theorem State.updPool_draws (s : State) (f : Pool → Pool) : (s.updPool f).draws = s.draws := rfl
@[simp] theorem State.updPool_out (s : State) (f : Pool → Pool) : (s.updPool f).out = s.out := rfl
@[simp] theorem State.updPool_regs (s : State) (f : Pool → Pool) : (s.updPool f).regs = s.regs := rfl
@[simp] theorem State.updPool_staged (s : State) (f : Pool → Pool) : (s.updPool f).staged = s.staged := rfl
@[simp] theorem State.updPool_flash (s : State) (f : Pool → Pool) : (s.updPool f).flash = s.flash := rfl
@[simp] theorem State.updPool_part (s : State) (f : Pool → Pool) : (s.updPool f).part = s.part := rfl
@[simp] theorem State.updPool_boot (s : State) (f : Pool → Pool) : (s.updPool f).boot = s.boot := rfl
@[simp] theorem State.updPool_isl (s : State) (f : Pool → Pool) : (s.updPool f).isl = s.isl := rfl
@[simp] theorem State.updPool_com (s : State) (f : Pool → Pool) : (s.updPool f).com = s.com := rfl
@[simp] theorem State.updPool_port (s : State) (f : Pool → Pool) : (s.updPool f).port = s.port := rfl
@[simp] theorem State.updPool_link (s : State) (f : Pool → Pool) : (s.updPool f).link = s.link := rfl
@[simp] theorem State.updPool_tr (s : State) (f : Pool → Pool) : (s.updPool f).tr = s.tr := rfl
@[simp] theorem State.updPool_pool (s : State) (f : Pool → Pool) : (s.updPool f).pool = f s.pool := rfl
@[simp] theorem State.updPool_keys (s : State) (f : Pool → Pool) : (s.updPool f).keys = s.keys := rfl
@[simp] theorem State.updPool_dl (s : State) (f : Pool → Pool) : (s.updPool f).dl = s.dl := rfl
@[simp] theorem State.updPool_flt (s : State) (f : Pool → Pool) : (s.updPool f).flt = s.flt := rfl
@[simp] theorem State.updPool_chan (s : State) (f : Pool → Pool) : (s.updPool f).chan = s.chan := rfl
@[simp] theorem State.updPool_met (s : State) (f : Pool → Pool) : (s.updPool f).met = s.met := rfl
@[simp] theorem State.updPool_reg (s : State) (f : Pool → Pool) (g : Fld) (j : Nat) : (s.updPool f).reg g j = s.reg g j := rfl

@[simp] theorem State.updKeys_pending (s : State) (f : Keys → Keys) : (s.updKeys f).pending = s.pending := rfl
@[simp] theorem State.updKeys_now (s : State) (f : Keys → Keys) : (s.updKeys f).now = s.now := rfl
@[simp] theorem State.updKeys_draws (s : State) (f : Keys → Keys) : (s.updKeys f).draws = s.draws := rfl
@[simp] theorem State.updKeys_out (s : State) (f : Keys → Keys) : (s.updKeys f).out = s.out := rfl
@[simp] theorem State.updKeys_regs (s : State) (f : Keys → Keys) : (s.updKeys f).regs = s.regs := rfl
@[simp] theorem State.updKeys_staged (s : State) (f : Keys → Keys) : (s.updKeys f).staged = s.staged := rfl
@[simp] theorem State.updKeys_flash (s : State) (f : Keys → Keys) : (s.updKeys f).flash = s.flash := rfl
@[simp] theorem State.updKeys_part (s : State) (f : Keys → Keys) : (s.updKeys f).part = s.part := rfl
@[simp] theorem State.updKeys_boot (s : State) (f : Keys → Keys) : (s.updKeys f).boot = s.boot := rfl
@[simp] theorem State.updKeys_isl (s : State) (f : Keys → Keys) : (s.updKeys f).isl = s.isl := rfl
@[simp] theorem State.updKeys_com (s : State) (f : Keys → Keys) : (s.updKeys f).com = s.com := rfl
@[simp] theorem State.updKeys_port (s : State) (f : Keys → Keys) : (s.updKeys f).port = s.port := rfl
@[simp] theorem State.updKeys_link (s : State) (f : Keys → Keys) : (s.updKeys f).link = s.link := rfl
@[simp] theorem State.updKeys_tr (s : State) (f : Keys → Keys) : (s.updKeys f).tr = s.tr := rfl
@[simp] theorem State.updKeys_pool (s : State) (f : Keys → Keys) : (s.updKeys f).pool = s.pool := rfl
@[simp] theorem State.updKeys_keys (s : State) (f : Keys → Keys) : (s.updKeys f).keys = f s.keys := rfl
@[simp] theorem State.updKeys_dl (s : State) (f : Keys → Keys) : (s.updKeys f).dl = s.dl := rfl
@[simp] theorem State.updKeys_flt (s : State) (f : Keys → Keys) : (s.updKeys f).flt = s.flt := rfl
@[simp] theorem State.updKeys_chan (s : State) (f : Keys → Keys) : (s.updKeys f).chan = s.chan := rfl
@[simp] theorem State.updKeys_met (s : State) (f : Keys → Keys) : (s.updKeys f).met = s.met := rfl
@[simp] theorem State.updKeys_reg (s : State) (f : Keys → Keys) (g : Fld) (j : Nat) : (s.updKeys f).reg g j = s.reg g j := rfl

@[simp] theorem State.updMet_pending (s : State) (f : Meter → Meter) : (s.updMet f).pending = s.pending := rfl
@[simp] theorem State.updMet_now (s : State) (f : Meter → Meter) : (s.updMet f).now = s.now := rfl
@[simp] theorem State.updMet_draws (s : State) (f : Meter → Meter) : (s.updMet f).draws = s.draws := rfl
@[simp] theorem State.updMet_out (s : State) (f : Meter → Meter) : (s.updMet f).out = s.out := rfl
@[simp] theorem State.updMet_regs (s : State) (f : Meter → Meter) : (s.updMet f).regs = s.regs := rfl
@[simp] theorem State.updMet_staged (s : State) (f : Meter → Meter) : (s.updMet f).staged = s.staged := rfl
@[simp] theorem State.updMet_flash (s : State) (f : Meter → Meter) : (s.updMet f).flash = s.flash := rfl
@[simp] theorem State.updMet_part (s : State) (f : Meter → Meter) : (s.updMet f).part = s.part := rfl
@[simp] theorem State.updMet_boot (s : State) (f : Meter → Meter) : (s.updMet f).boot = s.boot := rfl
@[simp] theorem State.updMet_isl (s : State) (f : Meter → Meter) : (s.updMet f).isl = s.isl := rfl
@[simp] theorem State.updMet_com (s : State) (f : Meter → Meter) : (s.updMet f).com = s.com := rfl
@[simp] theorem State.updMet_port (s : State) (f : Meter → Meter) : (s.updMet f).port = s.port := rfl
@[simp] theorem State.updMet_link (s : State) (f : Meter → Meter) : (s.updMet f).link = s.link := rfl
@[simp] theorem State.updMet_tr (s : State) (f : Meter → Meter) : (s.updMet f).tr = s.tr := rfl
@[simp] theorem State.updMet_pool (s : State) (f : Meter → Meter) : (s.updMet f).pool = s.pool := rfl
@[simp] theorem State.updMet_keys (s : State) (f : Meter → Meter) : (s.updMet f).keys = s.keys := rfl
@[simp] theorem State.updMet_dl (s : State) (f : Meter → Meter) : (s.updMet f).dl = s.dl := rfl
@[simp] theorem State.updMet_flt (s : State) (f : Meter → Meter) : (s.updMet f).flt = s.flt := rfl
@[simp] theorem State.updMet_chan (s : State) (f : Meter → Meter) : (s.updMet f).chan = s.chan := rfl
@[simp] theorem State.updMet_met (s : State) (f : Meter → Meter) : (s.updMet f).met = f s.met := rfl
@[simp] theorem State.updMet_reg (s : State) (f : Meter → Meter) (g : Fld) (j : Nat) : (s.updMet f).reg g j = s.reg g j := rfl

@[simp] theorem State.updRun_pending (s : State) (f : Running → Running) : (s.updRun f).pending = s.pending := rfl
@[simp] theorem State.updRun_now (s : State) (f : Running → Running) : (s.updRun f).now = s.now := rfl
@[simp] theorem State.updRun_draws (s : State) (f : Running → Running) : (s.updRun f).draws = s.draws := rfl
@[simp] theorem State.updRun_out (s : State) (f : Running → Running) : (s.updRun f).out = s.out := rfl
@[simp] theorem State.updRun_regs (s : State) (f : Running → Running) : (s.updRun f).regs = s.regs := rfl
@[simp] theorem State.updRun_staged (s : State) (f : Running → Running) : (s.updRun f).staged = s.staged := rfl
@[simp] theorem State.updRun_flash (s : State) (f : Running → Running) : (s.updRun f).flash = s.flash := rfl
@[simp] theorem State.updRun_part (s : State) (f : Running → Running) : (s.updRun f).part = s.part := rfl
@[simp] theorem State.updRun_boot (s : State) (f : Running → Running) : (s.updRun f).boot = s.boot := rfl
@[simp] theorem State.updRun_isl (s : State) (f : Running → Running) : (s.updRun f).isl = s.isl := rfl
@[simp] theorem State.updRun_com (s : State) (f : Running → Running) : (s.updRun f).com = s.com := rfl
@[simp] theorem State.updRun_port (s : State) (f : Running → Running) : (s.updRun f).port = { s.port with running := s.port.running.map f } := rfl
@[simp] theorem State.updRun_link (s : State) (f : Running → Running) : (s.updRun f).link = s.link := rfl
@[simp] theorem State.updRun_tr (s : State) (f : Running → Running) : (s.updRun f).tr = s.tr := rfl
@[simp] theorem State.updRun_pool (s : State) (f : Running → Running) : (s.updRun f).pool = s.pool := rfl
@[simp] theorem State.updRun_keys (s : State) (f : Running → Running) : (s.updRun f).keys = s.keys := rfl
@[simp] theorem State.updRun_dl (s : State) (f : Running → Running) : (s.updRun f).dl = s.dl := rfl
@[simp] theorem State.updRun_flt (s : State) (f : Running → Running) : (s.updRun f).flt = s.flt := rfl
@[simp] theorem State.updRun_chan (s : State) (f : Running → Running) : (s.updRun f).chan = s.chan := rfl
@[simp] theorem State.updRun_met (s : State) (f : Running → Running) : (s.updRun f).met = s.met := rfl
@[simp] theorem State.updRun_reg (s : State) (f : Running → Running) (g : Fld) (j : Nat) : (s.updRun f).reg g j = s.reg g j := rfl

theorem rget_rset_self (l : List RegCell) (f : Fld) (i v : Nat) : rget (rset l f i v) f i = v % 2 ^ f.width := by
  unfold rget rset
  dsimp only
  split <;> rename_i h
  · split at h <;> rename_i hw
    · simp at h
    · simpa using h.symm
  · split at h <;> rename_i hw
    · exact hw.symm
    · simp at h

theorem rget_rset_ne (l : List RegCell) {f g : Fld} {i j : Nat} (v : Nat) (h : ¬(g = f ∧ j = i)) : rget (rset l f i v) g j = rget l g j := by
  have hk : (⟨g, j⟩ : RegKey) ≠ ⟨f, i⟩ := fun he => h (by simpa using he)
  have hg : Sparse.get? (rset l f i v) ⟨g, j⟩ = Sparse.get? l ⟨g, j⟩ := by
    unfold rset
    dsimp only
    split
    · rw [Sparse.get?_erase_ne _ hk]
    · rw [Sparse.get?_set_ne _ _ hk]
  unfold rget
  rw [hg]

@[simp] theorem State.reg_setReg_self (s : State) (f : Fld) (i v : Nat) : (s.setReg f i v).reg f i = v % 2 ^ f.width :=
  rget_rset_self s.regs f i v

theorem State.reg_setReg_ne (s : State) {f g : Fld} {i j : Nat} (v : Nat) (h : ¬(g = f ∧ j = i)) : (s.setReg f i v).reg g j = s.reg g j :=
  rget_rset_ne s.regs v h

theorem State.reg_setReg (s : State) (f g : Fld) (i j v : Nat) :
    (s.setReg f i v).reg g j = if g = f ∧ j = i then v % 2 ^ f.width else s.reg g j := by
  split
  · rename_i h
    obtain ⟨rfl, rfl⟩ := h
    simp
  · rename_i h
    exact s.reg_setReg_ne v h

/-- The register file of a list of writes, one write at a time. -/
theorem State.setRegs_cons (s : State) (e : Fld × Nat × Nat) (l : List (Fld × Nat × Nat)) :
    s.setRegs (e :: l) = (s.setReg e.1 e.2.1 e.2.2).setRegs l := rfl

@[simp] theorem State.setRegs_nil (s : State) : s.setRegs [] = s := rfl

theorem State.reg_setRegs_notin (l : List (Fld × Nat × Nat)) : ∀ (s : State) (g : Fld) (j : Nat), (∀ e ∈ l, ¬(g = e.1 ∧ j = e.2.1)) →
    (s.setRegs l).reg g j = s.reg g j := by
  induction l with
  | nil => exact fun _ _ _ _ => rfl
  | cons e l ih =>
    intro s g j h
    rw [State.setRegs_cons, ih _ _ _ (fun d hd => h d (List.mem_cons_of_mem _ hd)), State.reg_setReg_ne _ _ (h e (by simp))]

theorem RegKey.code_injective : Function.Injective RegKey.code := by
  intro a b h
  have hb : ∀ f : Fld, f.ctorIdx < 512 := by
    intro f
    cases f <;> decide
  have ha := hb a.fld
  have hb' := hb b.fld
  simp only [RegKey.code] at h
  have h1 : a.idx = b.idx := by omega
  have h2 : a.fld.ctorIdx = b.fld.ctorIdx := by omega
  have hinj : ∀ f g : Fld, f.ctorIdx = g.ctorIdx → f = g := by
    intro f g hfg
    have := congrArg Fld.ofNat hfg
    rwa [Fld.ofNat_ctorIdx, Fld.ofNat_ctorIdx] at this
  have h3 := hinj _ _ h2
  cases a
  cases b
  simp_all

/-- A write keeps the register file canonical. -/
theorem rset_ok {l : List RegCell} (f : Fld) (i v : Nat) (h : regsOk l = true) : regsOk (rset l f i v) = true := by
  simp only [regsOk, Bool.and_eq_true, List.all_eq_true, decide_eq_true_eq] at h ⊢
  unfold rset
  dsimp only
  split
  · exact ⟨Sparse.sorted_erase _ h.1, fun e he => h.2 e (Sparse.mem_erase.1 he).1⟩
  · rename_i hw
    refine ⟨Sparse.sorted_set RegKey.code_injective _ _ h.1, fun e he => ?_⟩
    rcases Sparse.mem_set.1 he with rfl | ⟨he, -⟩
    · exact ⟨hw, Nat.mod_lt _ (Nat.pow_pos (by norm_num))⟩
    · exact h.2 e he

end Sys2Proof.Machine
end

