-- ==== Sys2Proof/Machine/Figures.lean ====
section
/-! DEFINITION. Figures that the spec gives for the part as a whole and that no command changes: latency floors, payload capacity and the
urgent write's bound (17_performance_envelope.md), supplies and balls (18_electrical_and_package.md). DESIGN CHOICE: log entry 112. -/

namespace Sys2Proof.Machine

/-! ### Floors and guarantees (R734 to R746) -/

/-- The formats that carry the latency guarantees (R735). -/
inductive LinkFormat where
  | flit
  | folio
  deriving DecidableEq, Repr

/-- Bytes of a format's unit (R734). -/
def LinkFormat.bytes : LinkFormat → Nat
  | .flit => 256
  | .folio => 320

/-- FEC decode time of a format in ps (R734). -/
def LinkFormat.decodePs : LinkFormat → Nat
  | .flit => 11000
  | .folio => 10500

/-- FEC encode time of a format in ps (R734). -/
def LinkFormat.encodePs : LinkFormat → Nat
  | .flit => 7000
  | .folio => 6500

/-- Fill time of one unit in ps at rate `r` in GT/s and width `w` (R734). -/
def LinkFormat.fillPs (f : LinkFormat) (r w : Nat) : Nat := f.bytes * 8000 / (r * w)

/-- The latency floor of a port pair in ps: ingress format, rate and width, then those of the egress (R734). -/
def floorPs (a : LinkFormat) (ra wa : Nat) (b : LinkFormat) (rb wb : Nat) : Nat := a.fillPs ra wa + a.decodePs + b.fillPs rb wb + b.encodePs

/-- The guaranteed port-to-port latency over a floor of `f` ps: 2.5 times on one quad, 3 times between quads (R737). -/
def latencyPs (sameQuad : Bool) (f : Nat) : Nat := if sameQuad then 5 * f / 2 else 3 * f

/-- Payload capacity of a flit port in GB/s for packets of `p` payload bytes and `h` others (R736). -/
def flitCapacity (r w p h : Nat) : ℚ := (r * w : ℚ) / 8 * (236 / 256) * (p / (p + h))

/-- Payload capacity of a fabric port in GB/s for packets of `p` payload bytes in `1 + len` slots (R736). -/
def folioCapacity (r w p len : Nat) : ℚ := (r * w : ℚ) / 8 * (288 / 320) * (p / (32 * (1 + len)))

/-- The terms of the urgent write's bound in ps, in the order of their steps (R745). -/
def urgentTerms : List Nat := [32500, 5500, 11000, 3750, 6000, 20000, 12000, 7500, 3000, 3750, 32500, 5500, 7000]

/-- What one lost flit adds to that bound, in ps (R744, R746). -/
def lostFlitTerms : List Nat := [36000, 600000, 1500, 5500, 7000]

/-! ### Supplies (R748) -/

/-- A supply: ball name, lowest and highest operating voltage in 0.1 mV, greatest current in mA. -/
structure Supply where
  name : String
  lo : Nat
  hi : Nat
  maxMa : Nat
  deriving DecidableEq, Repr

/-- The operating range of a nominal voltage in 0.1 mV with a tolerance in percent. -/
def Supply.about (name : String) (nom pct maxMa : Nat) : Supply :=
  { name, lo := nom * (100 - pct) / 100, hi := nom * (100 + pct) / 100, maxMa }

/-- The supplies; VDD_CORE at a setpoint of `set` in 0.1 mV (R748, R751). -/
def supplies (set : Nat) : List Supply :=
  [.about "VDD_CORE" set 3 320000, .about "VDDS" 8000 3 50000, .about "VDDA_090" 9000 2 80000, .about "VDDH_120" 12000 3 25000,
    .about "VDDC_HBM" 10500 3 40000, .about "VDDQ_HBM" 7500 3 55000, .about "VPP_HBM" 18000 5 5000, .about "VDDIO" 18000 5 2000,
    .about "VDDAON" 8000 3 1500, { name := "VBCD", lo := 108000, hi := 132000, maxMa := 500 }]

/-! ### Balls (R770 to R774) -/

/-- The groups of balls (R773). -/
inductive BallGroup where
  | serdes
  | refclk
  | sideband
  | sense
  | slot
  | vbcd
  | vdda
  | vddh
  | vddCore
  | vdds
  | vddcHbm
  | vddqHbm
  | vppHbm
  | vddio
  | vddaon
  | reserved
  | vss
  deriving DecidableEq, Repr

/-- Row and column of the ball at depth `d` of a lane's band (R771). -/
def laneBall (l d : Nat) : Nat × Nat :=
  let i := l % 32
  match l / 32 with
  | 0 => (d, 13 + i)
  | 1 => (d, 46 + i)
  | 2 => (13 + i, 90 - d)
  | 3 => (46 + i, 90 - d)
  | 4 => (90 - d, 46 + i)
  | 5 => (90 - d, 13 + i)
  | 6 => (46 + i, d)
  | _ => (13 + i, d)

/-- Depths of a lane's TX_P, TX_N, RX_P and RX_N (R771). -/
def laneDepths : List Nat := [1, 2, 4, 5]

/-- Whether `a ≤ x ≤ b`. -/
def within (a b x : Nat) : Bool := decide (a ≤ x) && decide (x ≤ b)

/-- Whether a row or column number is that of a lane of some quad: 13 to 44 or 46 to 77 (R771). -/
def inBand (x : Nat) : Bool := within 13 44 x || within 46 77 x

/-- Depth of a ball in a band of lanes, if it lies in one (R771). -/
def bandDepth (r c : Nat) : Option Nat :=
  if r ≤ 12 && inBand c then some r
  else if 78 ≤ r && inBand c then some (90 - r)
  else if c ≤ 12 && inBand r then some c
  else if 78 ≤ c && inBand r then some (90 - c)
  else none

/-- The group of a depth (R771). -/
def depthGroup (d : Nat) : BallGroup :=
  if laneDepths.contains d then .serdes else if d == 7 || d == 9 then .vdda else if d == 10 then .vddh else .vss

/-- Whether a ball of row 022 is a sideband ball (R772). -/
def sideband22 (c : Nat) : Bool :=
  within 13 16 c || within 18 19 c || within 21 25 c || c == 27 || within 29 31 c

/-- The balls that R772 and R773 name inside the bands. -/
def innerGroup (r c : Nat) : BallGroup :=
  if [(1, 1), (1, 89), (89, 1), (89, 89)].contains (r, c) then .reserved
  else if [14, 16, 18, 20].contains r && within 13 44 c then .sideband
  else if r == 22 && sideband22 c then .sideband
  else if r == 24 && within 13 42 c && (c - 13) % 4 ≤ 1 then .refclk
  else if r == 26 && [13, 14, 16, 17].contains c then .sense
  else if [64, 66, 68, 70, 72].contains r && within 46 77 c then .slot
  else if r == 74 && within 46 53 c then .vbcd
  else if within 29 44 r && within 13 44 c && (r + c) % 2 == 0 then .vdds
  else if ((within 29 44 r && within 46 77 c) || (within 46 77 r && within 13 44 c) || (within 46 63 r && within 46 77 c)) && (r + c) % 2 == 0 then .vddCore
  else if [13, 17, 21, 25].contains r && within 46 77 c then .vddcHbm
  else if [14, 18, 22, 26].contains r && within 46 77 c then .vddqHbm
  else if [16, 20].contains r && within 46 77 c then .vppHbm
  else if within 7 9 r && within 1 8 c then .vddio
  else if within 11 12 r && within 1 8 c then .vddaon
  else .vss

/-- The group of the ball in row `r` and column `c`, none where there is no ball (R770 to R773). -/
def ballGroup (r c : Nat) : Option BallGroup :=
  if within 1 89 r && within 1 89 c && r != 45 && c != 45 then
    some (match bandDepth r c with
      | some d => depthGroup d
      | none => innerGroup r c)
  else none

/-- How many balls of a row belong to a group. -/
def ballsIn (g : BallGroup) (r : Nat) : Nat := ((List.range 90).filter (fun c => decide (ballGroup r c = some g))).length

/-- How many balls belong to a group (R773). -/
def ballCount (g : BallGroup) : Nat := (List.range 90).foldl (fun n r => n + ballsIn g r) 0

end Sys2Proof.Machine
end

