-- ==== Sys2Proof/WellFormed.lean ====
section
/-! DEFINITION. Well-formed commands: operands in the ranges that the part's structure gives them (01_architecture.md,
16_composing_port.md). A command outside them names nothing of the part. -/

namespace Sys2Proof

/-- A requester of the part: host port index 0 to 31, device port 0 to 127 with a 12-bit requester ID, switch 0 to 63. -/
def sourceWf : Source → Bool
  | .host k => decide (k < 32)
  | .device p rid => decide (p < 128) && decide (rid < 65536)
  | .fabric sw p => decide (sw < 64) && decide (p < 128)

/-- A request as an ingress tile records it: its port and class exist, its data are as long as it says. -/
def reqWf (r : Req) : Bool :=
  sourceWf r.src && decide (r.inPort < 128) && decide (r.tc < 8) && decide (r.addr < 2 ^ 64) && decide (r.len ≤ 4096) &&
  decide (r.tag < 2 ^ 14) && decide (r.pre.length ≤ 4) &&
  (match r.kind with
    | .read => r.data.isEmpty
    | _ => r.data.length == r.len)

/-- An arbiter of the part (R439). -/
def arbWf : ArbId → Bool
  | .quadLocal q t => decide (q < 8) && decide (t < 4)
  | .quadSpine q i k => decide (q < 8) && decide (i < 2) && decide (k < 4)
  | .spineQuad i d k => decide (i < 2) && decide (d < 8) && decide (k < 4)
  | .spineMem i m k => decide (i < 2) && decide (m < 4) && decide (k < 4)

/-- A shaper of the part (R460). -/
def shaperWf : ShaperId → Bool
  | .sub i => decide (i < 16384)
  | .svc j => decide (j < 2048)
  | .port p => decide (p < 128)

/-- Well-formed commands. -/
def Instr.wf : Instr → Bool
  | .powerUp => true
  | .p0ClocksLocked => true
  | .firmwareVerified => true
  | .bankVerifyDone => true
  | .domainPowerGood d => decide (d < 90)
  | .domainSwitchSlot => true
  | .domainPgood d => decide (d < 90)
  | .islandsPowered => true
  | .p4End => true
  | .phaseTimeout => true
  | .essentialFailure _ _ => true
  | .nonEssentialFailure _ _ => true
  | .coldReset => true
  | .warmReset => true
  | .sysResetNRise => true
  | .meteringFlushDone => true
  | .flushTimeout => true
  | .recoveryLoad host _ => decide (host < 32)
  | .recoveryLoadDone => true
  | .recoveryReboot => true
  | .thermalSample _ _ => true
  | .thermalHoldRelease => true
  | .avsSample _ => true
  | .avsBusErr => true
  | .supplyExcursion _ => true
  | .refclkLoss => true
  | .refclkQLoss q => decide (q < 8)
  | .pwrLoss d => decide (d < 90)
  | .clkUnlock isl => decide (isl < 56)
  | .islandIsolated isl => decide (isl < 56)
  | .islandIdleStop isl => decide (isl < 56)
  | .wakeRequest isl => decide (isl < 56)
  | .wakeComplete isl => decide (isl < 56)
  | .fenceComplete isl => decide (isl < 56)
  | .fenceForced isl => decide (isl < 56)
  | .islandResetRelease isl => decide (isl < 56)
  | .mgmtRepairRetry => true
  | .mgmtRebuildDone => true
  | .resyncComplete isl => decide (isl < 56)
  | .replicaEccError quad _ _ _ => decide (quad < 8)
  | .replicaCompare quad _ => decide (quad < 8)
  | .arbCommit host => decide (host < 32)
  | .shFieldWrite host offset size _ => decide (host < 32) && decide (offset < 2 ^ 26) && (size == 4 || size == 8)
  | .registerWrite host offset size _ => decide (host < 32) && decide (offset < 2 ^ 26) && (size == 4 || size == 8)
  | .commitDeliveryAck isl => decide (isl < 56)
  | .commitRegistration _ => true
  | .commitInstant => true
  | .oldValueWindowClose => true
  | .replicaWriteDone => true
  | .killMarkSweepDone => true
  | .commitComplete => true
  | .hierarchyChange host _ _ _ => decide (host < 32)
  | .configRequest host _ _ _ _ => decide (host < 32)
  | .lockAcquire host token => decide (host < 32) && decide (token < 256)
  | .lockRelease host token => decide (host < 32) && decide (token < 256)
  | .lockBreak host token => decide (host < 32) && decide (token < 256)
  | .commit host token => decide (host < 32) && decide (token < 256)
  | .stageDiscard host token => decide (host < 32) && decide (token < 256)
  | .amendLoad host token _ => decide (host < 32) && decide (token < 256)
  | .formeWrite host token _ => decide (host < 32) && decide (token < 256)
  | .formeSelect host token => decide (host < 32) && decide (token < 256)
  | .devReset host token => decide (host < 32) && decide (token < 256)
  | .devResetStart => true
  | .impStageEntry host token => decide (host < 32) && decide (token < 256)
  | .impStageTarget host token => decide (host < 32) && decide (token < 256)
  | .impStageSource host token => decide (host < 32) && decide (token < 256)
  | .impStageRoute host token => decide (host < 32) && decide (token < 256)
  | .impStageGroup host token => decide (host < 32) && decide (token < 256)
  | .impInvalidate host token => decide (host < 32) && decide (token < 256)
  | .impRead host token => decide (host < 32) && decide (token < 256)
  | .shFill host token => decide (host < 32) && decide (token < 256)
  | .poolLease host token => decide (host < 32) && decide (token < 256)
  | .poolRelease host token => decide (host < 32) && decide (token < 256)
  | .poolQuery host token => decide (host < 32) && decide (token < 256)
  | .keyImport host token _ => decide (host < 32) && decide (token < 256)
  | .keyRevoke host token => decide (host < 32) && decide (token < 256)
  | .keyQuery host token => decide (host < 32) && decide (token < 256)
  | .islFence host token => decide (host < 32) && decide (token < 256)
  | .islUnfence host token => decide (host < 32) && decide (token < 256)
  | .islReset host token => decide (host < 32) && decide (token < 256)
  | .islPower host token => decide (host < 32) && decide (token < 256)
  | .linkWidth host token => decide (host < 32) && decide (token < 256)
  | .contain host token => decide (host < 32) && decide (token < 256)
  | .containRelease host token => decide (host < 32) && decide (token < 256)
  | .proofStart host token => decide (host < 32) && decide (token < 256)
  | .proofStop host token => decide (host < 32) && decide (token < 256)
  | .proofEnd handle _ rows => decide (handle < 8) && rows.all (fun r => decide (r.1 < 4))
  | .commandDone => true
  | .perstNRise k => decide (k < 32)
  | .hostPortReset k _ => decide (k < 32)
  | .functionLevelReset host vdsp fn => decide (host < 32) && decide (vdsp < 32) && decide (fn < 256)
  | .mgmtEndpointFlr k => decide (k < 32)
  | .busMasterEnableClear k => decide (k < 32)
  | .busMasterEnableSet k => decide (k < 32)
  | .dmaReadTimeout k tag => decide (k < 32) && decide (tag < 256)
  | .quarantineLateCompletion k tag _ => decide (k < 32) && decide (tag < 256)
  | .quarantineTimeout k tag => decide (k < 32) && decide (tag < 256)
  | .portTrained port _ => decide (port < 128)
  | .deviceEnumerated port _ => decide (port < 128)
  | .devicePortLinkDown port => decide (port < 128)
  | .l1Entry port => decide (port < 128)
  | .l1Exit port => decide (port < 128)
  | .ptmRequest port => decide (port < 128)
  | .ptmHostRequest k => decide (k < 32)
  | .ideKm host _ => decide (host < 32)
  | .deviceIdeSetup port _ _ => decide (port < 128)
  | .ideFail port => decide (port < 128)
  | .spdmRequest _ _ => true
  | .atsRequest _ host port _ msg => decide (host < 32) && decide (port < 128) && decide (msg.pre.length ≤ 4)
  | .loopbackRequest port => decide (port < 128)
  | .dpcTriggerStatusClear host vdsp => decide (host < 32) && decide (vdsp < 32)
  | .pcieReplayTimer port => decide (port < 128)
  | .completionTimeout _ => true
  | .completionReceived c => decide (c.tag < 2 ^ 14) && decide (c.pre.length ≤ 4)
  | .ioRequest src tag => sourceWf src && decide (tag < 2 ^ 14)
  | .bar0Access host offset size _ _ _ => decide (host < 32) && decide (offset < 2 ^ 26) && (size == 4 || size == 8)
  | .requestArrival r => reqWf r
  | .galleyUnblock _ => true
  | .galleyReadBack _ _ => true
  | .egressQueueArrival _ => true
  | .admissionRestore _ => true
  | .arbiterDraw arb => arbWf arb
  | .egressStart port => decide (port < 128)
  | .shaperRefill sh _ => shaperWf sh
  | .gateEntryChange port => decide (port < 128)
  | .leadinEnd port => decide (port < 128)
  | .guardBandUpdate port => decide (port < 128)
  | .queueSample => true
  | .sealedRmwReadDone _ _ _ => true
  | .poolRequest _ _ => true
  | .granuleFillDone stack _ => decide (stack < 4)
  | .poolRmwReadDone _ _ => true
  | .poolReadHoldRelease _ => true
  | .scrubStep stack _ _ _ _ => decide (stack < 4)
  | .rowCopyDone stack _ => decide (stack < 4)
  | .keystoreEcc isl _ _ => decide (isl < 56)
  | .keyRedelivery isl _ => decide (isl < 56)
  | .holderDeadline => true
  | .keyDestruction _ => true
  | .destructionComplete => true
  | .rngHealthFail => true
  | .entropyRecovery => true
  | .getColophon _ _ => true
  | .getReport _ _ _ _ _ => true
  | .getCert _ _ _ => true
  | .reportSigned => true
  | .heldResponseExpiry _ => true
  | .folioReceived port _ => decide (port < 128)
  | .fabricPacket port _ _ => decide (port < 128)
  | .replayWindowExpiry port => decide (port < 128)
  | .creditReturnSend port vc => decide (port < 128) && decide (vc < 16)
  | .alignMarkSend port => decide (port < 128)
  | .realign rx => decide (rx.port < 128)
  | .dlAlignLost port => decide (port < 128)
  | .dlSilent port => decide (port < 128)
  | .detectExit port _ => decide (port < 128)
  | .eqExit port usable _ => decide (port < 128) && decide (usable < 2 ^ 16)
  | .alignExit port => decide (port < 128)
  | .configExit port _ => decide (port < 128)
  | .retrainTimer port => decide (port < 128)
  | .fabricLinkDown port => decide (port < 128)
  | .transitRecordExpiry port _ => decide (port < 128)
  | .widthReq port _ _ mask => decide (port < 128) && decide (mask < 2 ^ 16)
  | .widthReady port mask => decide (port < 128) && decide (mask < 2 ^ 16)
  | .widthRefuse port _ _ => decide (port < 128)
  | .switchMark port _ _ => decide (port < 128)
  | .widthChangeTimeout port => decide (port < 128)
  | .autoDrop port lane => decide (port < 128) && decide (lane < 16)
  | .bucketRebind group map bucket => decide (group < 32) && decide (map < 2) && decide (bucket < 64)
  | .laneSleepDeep lane _ => decide (lane < 256)
  | .laneWake lane _ => decide (lane < 256)
  | .adaptationStep lane _ _ _ => decide (lane < 256)
  | .offsetCalibration lane => decide (lane < 256)
  | .tileLaneTestWrite host lane _ => decide (host < 32) && decide (lane < 256)
  | .injGo host lane => decide (host < 32) && decide (lane < 256)
  | .rateInjection lane => decide (lane < 256)
  | .chkSync r => decide (r.lane < 256)
  | .lockLoss r => decide (r.lane < 256)
  | .tilePrbsErrRead host lane => decide (host < 32) && decide (lane < 256)
  | .faultReport _ _ => true
  | .escalationExpiry e => decide (e < 256)
  | .functionReleaseDone n => decide (n < 256)
  | .fltFirstClear host => decide (host < 32)
  | .fltCausePendingClear host source => decide (host < 32) && decide (source < 128)
  | .ackAll host source => decide (host < 32) && decide (source < 128)
  | .fltEscAck host e => decide (host < 32) && decide (e < 256)
  | .safeModeClear host => decide (host < 32)
  | .fltInjectGo host _ => decide (host < 32)
  | .insertionRecognised k => decide (k < 32)
  | .removalRecognised k => decide (k < 32)
  | .slotEnAssert k => decide (k < 32)
  | .slotEnDeassert k => decide (k < 32)
  | .debounceEnd k => decide (k < 32)
  | .slotPowerGood k => decide (k < 32)
  | .gateEnhanced k => decide (k < 32)
  | .stoppingEnd k => decide (k < 32)
  | .settleEnd k => decide (k < 32)
  | .slotSample k iCode vCode _ => decide (k < 32) && decide (iCode < 4096) && decide (vCode < 4096)
  | .fastTrip k => decide (k < 32)
  | .sltCtlWrite host k en => decide (host < 32) && decide (k < 32) && decide (en < 2)
  | .slotPerstRelease k => decide (k < 32)
  | .slotLinkFail => true
  | .slotInterfaceResync => true
  | .countingRecord _ => true
  | .tickBoundary => true
  | .peakWindowEnd => true
  | .bankClose => true
  | .batchSigned => true
  | .batchWriteDone => true
  | .metRingArm host start => decide (host < 32) && decide (start < 4096)
  | .metRingTailWrite host tail => decide (host < 32) && decide (tail < 2 ^ 32)
  | .pmcSnap host => decide (host < 32)
  | .snapshotDone => true
  | .pmcCfgWrite host i _ => decide (host < 32) && decide (i < 476)
  | .pmcSampCfgWrite host _ => decide (host < 32)
  | .transactionSample _ => true
  | .clearOnRead host offset size => decide (host < 32) && decide (offset < 2 ^ 26) && (size == 4 || size == 8)
  | .vbcdRise => true
  | .hbmTrained => true
  | .serdesCalibrated => true
  | .messageReceived src msg _ => sourceWf src && decide (msg.pre.length ≤ 4)
  | .flitReceived port _ _ _ => decide (port < 128)
  | .slotLinkRestored => true
  | .laneMargining lane _ _ => decide (lane < 256)

end Sys2Proof
end

