-- ==== Sys2Proof/Tests/Slice0.lean ====
section
/-! SUPPORT. Tests of our own: ill-formed commands that the check of WellFormed refuses, worked examples of the spec, and for each
statement with hypotheses a state and operands that meet them. -/

namespace Sys2Proof.Tests

open Sys2Proof Sys2Proof.Machine

set_option Elab.async false
set_option linter.unusedVariables false

/-! ### Ill-formed commands are refused -/

theorem wf_refuses_1 : ∀ (ri : RecoveryImage) (ik : ItemKind) (b : Bool),
    (Instr.domainPowerGood 90).wf = false ∧
    (Instr.domainPgood 90).wf = false ∧
    (Instr.recoveryLoad 32 ri).wf = false ∧
    (Instr.refclkQLoss 8).wf = false ∧
    (Instr.pwrLoss 90).wf = false ∧
    (Instr.clkUnlock 56).wf = false ∧
    (Instr.islandIsolated 56).wf = false ∧
    (Instr.islandIdleStop 56).wf = false ∧
    (Instr.wakeRequest 56).wf = false ∧
    (Instr.wakeComplete 56).wf = false ∧
    (Instr.fenceComplete 56).wf = false ∧
    (Instr.fenceForced 56).wf = false ∧
    (Instr.islandResetRelease 56).wf = false ∧
    (Instr.resyncComplete 56).wf = false ∧
    (Instr.replicaEccError 8 ik 0 b).wf = false ∧
    (Instr.replicaCompare 8 b).wf = false ∧
    (Instr.arbCommit 32).wf = false ∧
    (Instr.shFieldWrite 32 0 4 0).wf = false ∧
    (Instr.shFieldWrite 0 67108864 4 0).wf = false ∧
    (Instr.shFieldWrite 0 0 3 0).wf = false ∧
    (Instr.registerWrite 32 0 4 0).wf = false ∧
    (Instr.registerWrite 0 67108864 4 0).wf = false ∧
    (Instr.registerWrite 0 0 3 0).wf = false ∧
    (Instr.commitDeliveryAck 56).wf = false :=
  fun _ _ _ => ⟨rfl, rfl, rfl, rfl, rfl, rfl, rfl, rfl, rfl, rfl, rfl, rfl, rfl, rfl, rfl, rfl, rfl, rfl, rfl, rfl, rfl, rfl, rfl, rfl⟩

theorem wf_refuses_2 : ∀ (b : Bool) (ct : CfgTarget) (cr : CfgReg) (im : Image),
    (Instr.hierarchyChange 32 ct cr 0).wf = false ∧
    (Instr.configRequest 32 ct cr b 0).wf = false ∧
    (Instr.lockAcquire 32 0).wf = false ∧
    (Instr.lockAcquire 0 256).wf = false ∧
    (Instr.lockRelease 32 0).wf = false ∧
    (Instr.lockRelease 0 256).wf = false ∧
    (Instr.lockBreak 32 0).wf = false ∧
    (Instr.lockBreak 0 256).wf = false ∧
    (Instr.commit 32 0).wf = false ∧
    (Instr.commit 0 256).wf = false ∧
    (Instr.stageDiscard 32 0).wf = false ∧
    (Instr.stageDiscard 0 256).wf = false ∧
    (Instr.amendLoad 32 0 im).wf = false ∧
    (Instr.amendLoad 0 256 im).wf = false ∧
    (Instr.formeWrite 32 0 im).wf = false ∧
    (Instr.formeWrite 0 256 im).wf = false ∧
    (Instr.formeSelect 32 0).wf = false ∧
    (Instr.formeSelect 0 256).wf = false ∧
    (Instr.devReset 32 0).wf = false ∧
    (Instr.devReset 0 256).wf = false ∧
    (Instr.impStageEntry 32 0).wf = false ∧
    (Instr.impStageEntry 0 256).wf = false ∧
    (Instr.impStageTarget 32 0).wf = false ∧
    (Instr.impStageTarget 0 256).wf = false :=
  fun _ _ _ _ => ⟨rfl, rfl, rfl, rfl, rfl, rfl, rfl, rfl, rfl, rfl, rfl, rfl, rfl, rfl, rfl, rfl, rfl, rfl, rfl, rfl, rfl, rfl, rfl, rfl⟩

theorem wf_refuses_3 : ∀ (kb : KeyBlob),
    (Instr.impStageSource 32 0).wf = false ∧
    (Instr.impStageSource 0 256).wf = false ∧
    (Instr.impStageRoute 32 0).wf = false ∧
    (Instr.impStageRoute 0 256).wf = false ∧
    (Instr.impStageGroup 32 0).wf = false ∧
    (Instr.impStageGroup 0 256).wf = false ∧
    (Instr.impInvalidate 32 0).wf = false ∧
    (Instr.impInvalidate 0 256).wf = false ∧
    (Instr.impRead 32 0).wf = false ∧
    (Instr.impRead 0 256).wf = false ∧
    (Instr.shFill 32 0).wf = false ∧
    (Instr.shFill 0 256).wf = false ∧
    (Instr.poolLease 32 0).wf = false ∧
    (Instr.poolLease 0 256).wf = false ∧
    (Instr.poolRelease 32 0).wf = false ∧
    (Instr.poolRelease 0 256).wf = false ∧
    (Instr.poolQuery 32 0).wf = false ∧
    (Instr.poolQuery 0 256).wf = false ∧
    (Instr.keyImport 32 0 kb).wf = false ∧
    (Instr.keyImport 0 256 kb).wf = false ∧
    (Instr.keyRevoke 32 0).wf = false ∧
    (Instr.keyRevoke 0 256).wf = false ∧
    (Instr.keyQuery 32 0).wf = false ∧
    (Instr.keyQuery 0 256).wf = false :=
  fun _ => ⟨rfl, rfl, rfl, rfl, rfl, rfl, rfl, rfl, rfl, rfl, rfl, rfl, rfl, rfl, rfl, rfl, rfl, rfl, rfl, rfl, rfl, rfl, rfl, rfl⟩

theorem wf_refuses_4 : ∀ (hr : HostReset),
    (Instr.islFence 32 0).wf = false ∧
    (Instr.islFence 0 256).wf = false ∧
    (Instr.islUnfence 32 0).wf = false ∧
    (Instr.islUnfence 0 256).wf = false ∧
    (Instr.islReset 32 0).wf = false ∧
    (Instr.islReset 0 256).wf = false ∧
    (Instr.islPower 32 0).wf = false ∧
    (Instr.islPower 0 256).wf = false ∧
    (Instr.linkWidth 32 0).wf = false ∧
    (Instr.linkWidth 0 256).wf = false ∧
    (Instr.contain 32 0).wf = false ∧
    (Instr.contain 0 256).wf = false ∧
    (Instr.containRelease 32 0).wf = false ∧
    (Instr.containRelease 0 256).wf = false ∧
    (Instr.proofStart 32 0).wf = false ∧
    (Instr.proofStart 0 256).wf = false ∧
    (Instr.proofStop 32 0).wf = false ∧
    (Instr.proofStop 0 256).wf = false ∧
    (Instr.perstNRise 32).wf = false ∧
    (Instr.hostPortReset 32 hr).wf = false ∧
    (Instr.functionLevelReset 32 0 0).wf = false ∧
    (Instr.functionLevelReset 0 32 0).wf = false ∧
    (Instr.functionLevelReset 0 0 256).wf = false ∧
    (Instr.mgmtEndpointFlr 32).wf = false :=
  fun _ => ⟨rfl, rfl, rfl, rfl, rfl, rfl, rfl, rfl, rfl, rfl, rfl, rfl, rfl, rfl, rfl, rfl, rfl, rfl, rfl, rfl, rfl, rfl, rfl, rfl⟩

theorem wf_refuses_5 : ∀ (b : Bool) (tr : Training) (fns : List DevFn) (ak : AtsKind) (xListNat : List Nat),
    (Instr.busMasterEnableClear 32).wf = false ∧
    (Instr.busMasterEnableSet 32).wf = false ∧
    (Instr.dmaReadTimeout 32 0).wf = false ∧
    (Instr.dmaReadTimeout 0 256).wf = false ∧
    (Instr.quarantineLateCompletion 32 0 b).wf = false ∧
    (Instr.quarantineLateCompletion 0 256 b).wf = false ∧
    (Instr.quarantineTimeout 32 0).wf = false ∧
    (Instr.quarantineTimeout 0 256).wf = false ∧
    (Instr.portTrained 128 tr).wf = false ∧
    (Instr.deviceEnumerated 128 fns).wf = false ∧
    (Instr.devicePortLinkDown 128).wf = false ∧
    (Instr.l1Entry 128).wf = false ∧
    (Instr.l1Exit 128).wf = false ∧
    (Instr.ptmRequest 128).wf = false ∧
    (Instr.ptmHostRequest 32).wf = false ∧
    (Instr.ideKm 32 ⟨0, b, b⟩).wf = false ∧
    (Instr.deviceIdeSetup 128 b 0).wf = false ∧
    (Instr.ideFail 128).wf = false ∧
    (Instr.atsRequest b 32 0 0 ⟨ak, xListNat⟩).wf = false ∧
    (Instr.atsRequest b 0 128 0 ⟨ak, xListNat⟩).wf = false ∧
    (Instr.loopbackRequest 128).wf = false ∧
    (Instr.dpcTriggerStatusClear 32 0).wf = false ∧
    (Instr.dpcTriggerStatusClear 0 32).wf = false ∧
    (Instr.pcieReplayTimer 128).wf = false :=
  fun _ _ _ _ _ => ⟨rfl, rfl, rfl, rfl, rfl, rfl, rfl, rfl, rfl, rfl, rfl, rfl, rfl, rfl, rfl, rfl, rfl, rfl, rfl, rfl, rfl, rfl, rfl, rfl⟩

theorem wf_refuses_6 : ∀ (b : Bool),
    (Instr.ioRequest (.host 0) 16384).wf = false ∧
    (Instr.ioRequest (.host 32) 0).wf = false ∧
    (Instr.bar0Access 32 0 4 b 0 b).wf = false ∧
    (Instr.bar0Access 0 67108864 4 b 0 b).wf = false ∧
    (Instr.bar0Access 0 0 3 b 0 b).wf = false ∧
    (Instr.requestArrival { src := .host 0, inPort := 128, kind := .write, addr := 0, len := 1, data := [0], ts := 0 }).wf = false ∧
    (Instr.requestArrival { src := .device 128 0, inPort := 0, kind := .write, addr := 0, len := 1, data := [0], ts := 0 }).wf = false ∧
    (Instr.requestArrival { src := .device 0 65536, inPort := 0, kind := .write, addr := 0, len := 1, data := [0], ts := 0 }).wf = false ∧
    (Instr.requestArrival { src := .fabric 64 0, inPort := 0, kind := .write, addr := 0, len := 1, data := [0], ts := 0 }).wf = false ∧
    (Instr.requestArrival { src := .fabric 0 128, inPort := 0, kind := .write, addr := 0, len := 1, data := [0], ts := 0 }).wf = false ∧
    (Instr.requestArrival { src := .host 0, inPort := 0, kind := .write, addr := 0, len := 1, data := [0], ts := 0, tc := 8 }).wf = false ∧
    (Instr.requestArrival { src := .host 0, inPort := 0, kind := .write, addr := 18446744073709551616, len := 1, data := [0], ts := 0 }).wf = false ∧
    (Instr.requestArrival { src := .host 0, inPort := 0, kind := .write, addr := 0, len := 1, data := [], ts := 0 }).wf = false ∧
    (Instr.requestArrival { src := .host 0, inPort := 0, kind := .read, addr := 0, len := 1, data := [0], ts := 0 }).wf = false ∧
    (Instr.requestArrival { src := .host 0, inPort := 0, kind := .write, addr := 0, len := 4097, data := List.replicate 4097 0, ts := 0 }).wf = false ∧
    (Instr.arbiterDraw (.quadLocal 8 0)).wf = false ∧
    (Instr.arbiterDraw (.quadLocal 0 4)).wf = false ∧
    (Instr.arbiterDraw (.quadSpine 8 0 0)).wf = false ∧
    (Instr.arbiterDraw (.quadSpine 0 2 0)).wf = false ∧
    (Instr.arbiterDraw (.quadSpine 0 0 4)).wf = false ∧
    (Instr.arbiterDraw (.spineQuad 2 0 0)).wf = false ∧
    (Instr.arbiterDraw (.spineQuad 0 8 0)).wf = false ∧
    (Instr.arbiterDraw (.spineQuad 0 0 4)).wf = false ∧
    (Instr.arbiterDraw (.spineMem 2 0 0)).wf = false :=
  fun _ => ⟨rfl, rfl, rfl, rfl, rfl, rfl, rfl, rfl, rfl, rfl, rfl, rfl, rfl, rfl, rfl, rfl, rfl, rfl, rfl, rfl, rfl, rfl, rfl, rfl⟩

theorem wf_refuses_7 : ∀ (b : Bool) (er : EccResult) (kr : KeyRef) (fp : FabPkt) (xLaneTune : LaneTune),
    (Instr.arbiterDraw (.spineMem 0 4 0)).wf = false ∧
    (Instr.arbiterDraw (.spineMem 0 0 4)).wf = false ∧
    (Instr.egressStart 128).wf = false ∧
    (Instr.shaperRefill (.sub 16384) 0).wf = false ∧
    (Instr.shaperRefill (.svc 2048) 0).wf = false ∧
    (Instr.shaperRefill (.port 128) 0).wf = false ∧
    (Instr.gateEntryChange 128).wf = false ∧
    (Instr.leadinEnd 128).wf = false ∧
    (Instr.guardBandUpdate 128).wf = false ∧
    (Instr.granuleFillDone 4 0).wf = false ∧
    (Instr.scrubStep 4 0 0 0 er).wf = false ∧
    (Instr.rowCopyDone 4 0).wf = false ∧
    (Instr.keystoreEcc 56 kr b).wf = false ∧
    (Instr.keyRedelivery 56 kr).wf = false ∧
    (Instr.fabricPacket 128 fp 0).wf = false ∧
    (Instr.replayWindowExpiry 128).wf = false ∧
    (Instr.creditReturnSend 128 0).wf = false ∧
    (Instr.creditReturnSend 0 16).wf = false ∧
    (Instr.alignMarkSend 128).wf = false ∧
    (Instr.dlAlignLost 128).wf = false ∧
    (Instr.dlSilent 128).wf = false ∧
    (Instr.detectExit 128 0).wf = false ∧
    (Instr.eqExit 128 0 ⟨[], xLaneTune⟩).wf = false ∧
    (Instr.eqExit 0 65536 ⟨[], xLaneTune⟩).wf = false :=
  fun _ _ _ _ _ => ⟨rfl, rfl, rfl, rfl, rfl, rfl, rfl, rfl, rfl, rfl, rfl, rfl, rfl, rfl, rfl, rfl, rfl, rfl, rfl, rfl, rfl, rfl, rfl, rfl⟩

theorem wf_refuses_8 : ∀ (b : Bool) (xLaneTune : LaneTune) (ti : TrainInfo) (d : Dir),
    (Instr.atsRequest b 0 0 0 ⟨.translation, [1, 2, 3, 4, 5]⟩).wf = false ∧
    (Instr.messageReceived (.host 0) ⟨none, [1, 2, 3, 4, 5]⟩ b).wf = false ∧
    (Instr.alignExit 128).wf = false ∧
    (Instr.configExit 128 ti).wf = false ∧
    (Instr.retrainTimer 128).wf = false ∧
    (Instr.fabricLinkDown 128).wf = false ∧
    (Instr.transitRecordExpiry 128 0).wf = false ∧
    (Instr.widthReq 128 b 0 0).wf = false ∧
    (Instr.widthReq 0 b 0 65536).wf = false ∧
    (Instr.widthReady 128 0).wf = false ∧
    (Instr.widthReady 0 65536).wf = false ∧
    (Instr.widthRefuse 128 b 0).wf = false ∧
    (Instr.widthChangeTimeout 128).wf = false ∧
    (Instr.autoDrop 128 0).wf = false ∧
    (Instr.autoDrop 0 16).wf = false ∧
    (Instr.bucketRebind 32 0 0).wf = false ∧
    (Instr.bucketRebind 0 2 0).wf = false ∧
    (Instr.bucketRebind 0 0 64).wf = false ∧
    (Instr.laneSleepDeep 256 d).wf = false ∧
    (Instr.laneWake 256 d).wf = false ∧
    (Instr.adaptationStep 256 0 0 0).wf = false ∧
    (Instr.offsetCalibration 256).wf = false ∧
    (Instr.tileLaneTestWrite 32 0 0).wf = false ∧
    (Instr.tileLaneTestWrite 0 256 0).wf = false ∧
    (Instr.injGo 32 0).wf = false :=
  fun _ _ _ _ => ⟨rfl, rfl, rfl, rfl, rfl, rfl, rfl, rfl, rfl, rfl, rfl, rfl, rfl, rfl, rfl, rfl, rfl, rfl, rfl, rfl, rfl, rfl, rfl, rfl, rfl⟩

theorem wf_refuses_9 : ∀ (xListNat : List Nat),
    (Instr.injGo 0 256).wf = false ∧
    (Instr.rateInjection 256).wf = false ∧
    (Instr.chkSync ⟨256, xListNat⟩).wf = false ∧
    (Instr.lockLoss ⟨256, xListNat⟩).wf = false ∧
    (Instr.tilePrbsErrRead 32 0).wf = false ∧
    (Instr.tilePrbsErrRead 0 256).wf = false ∧
    (Instr.escalationExpiry 256).wf = false ∧
    (Instr.functionReleaseDone 256).wf = false ∧
    (Instr.fltFirstClear 32).wf = false ∧
    (Instr.fltCausePendingClear 32 0).wf = false ∧
    (Instr.fltCausePendingClear 0 128).wf = false ∧
    (Instr.ackAll 32 0).wf = false ∧
    (Instr.ackAll 0 128).wf = false ∧
    (Instr.fltEscAck 32 0).wf = false ∧
    (Instr.fltEscAck 0 256).wf = false ∧
    (Instr.safeModeClear 32).wf = false ∧
    (Instr.fltInjectGo 32 0).wf = false ∧
    (Instr.insertionRecognised 32).wf = false ∧
    (Instr.removalRecognised 32).wf = false ∧
    (Instr.slotEnAssert 32).wf = false ∧
    (Instr.slotEnDeassert 32).wf = false ∧
    (Instr.debounceEnd 32).wf = false ∧
    (Instr.slotPowerGood 32).wf = false ∧
    (Instr.gateEnhanced 32).wf = false :=
  fun _ => ⟨rfl, rfl, rfl, rfl, rfl, rfl, rfl, rfl, rfl, rfl, rfl, rfl, rfl, rfl, rfl, rfl, rfl, rfl, rfl, rfl, rfl, rfl, rfl, rfl⟩

theorem wf_refuses_10 : ∀ (b : Bool) (on : Option Nat),
    (Instr.stoppingEnd 32).wf = false ∧
    (Instr.settleEnd 32).wf = false ∧
    (Instr.slotSample 32 0 0 b).wf = false ∧
    (Instr.slotSample 0 4096 0 b).wf = false ∧
    (Instr.slotSample 0 0 4096 b).wf = false ∧
    (Instr.fastTrip 32).wf = false ∧
    (Instr.sltCtlWrite 32 0 0).wf = false ∧
    (Instr.sltCtlWrite 0 32 0).wf = false ∧
    (Instr.sltCtlWrite 0 0 2).wf = false ∧
    (Instr.slotPerstRelease 32).wf = false ∧
    (Instr.metRingArm 32 0).wf = false ∧
    (Instr.metRingArm 0 4096).wf = false ∧
    (Instr.metRingTailWrite 32 0).wf = false ∧
    (Instr.metRingTailWrite 0 4294967296).wf = false ∧
    (Instr.pmcSnap 32).wf = false ∧
    (Instr.pmcCfgWrite 32 0 0).wf = false ∧
    (Instr.pmcCfgWrite 0 476 0).wf = false ∧
    (Instr.pmcSampCfgWrite 32 0).wf = false ∧
    (Instr.clearOnRead 32 0 4).wf = false ∧
    (Instr.clearOnRead 0 67108864 4).wf = false ∧
    (Instr.clearOnRead 0 0 3).wf = false ∧
    (Instr.messageReceived (.host 32) {} b).wf = false ∧
    (Instr.flitReceived 128 on on b).wf = false ∧
    (Instr.laneMargining 256 0 0).wf = false :=
  fun _ _ => ⟨rfl, rfl, rfl, rfl, rfl, rfl, rfl, rfl, rfl, rfl, rfl, rfl, rfl, rfl, rfl, rfl, rfl, rfl, rfl, rfl, rfl, rfl, rfl, rfl⟩

theorem wf_refuses_lists : ∀ (f : Bool) (rx : List (List Nat)) (bs : List (List Byte)),
    (Instr.proofEnd 8 f []).wf = false ∧ (Instr.proofEnd 0 f [(4, 0, 0)]).wf = false ∧ (Instr.folioReceived 128 rx).wf = false ∧ (Instr.realign ⟨128, bs⟩).wf = false ∧ (Instr.switchMark 128 bs bs).wf = false :=
  fun _ _ _ => ⟨rfl, rfl, rfl, rfl, rfl⟩

/-! ### Small states -/

/-- A forme: an operator host port on tile 0, a device port on tile 1 with slot-power channel 0, a fabric port on tile 4, a
second device port on tile 8 and a tenant host port on tile 9. -/
def forme0 : Image :=
  let tile := fun t => { tile := t, mode := if [0, 1, 4, 8, 9].contains t then 0 else 5, ports := if [0, 1, 4, 8, 9].contains t then [{ maxRate := 7 }] else [] }
  { magic := 0x46444C48, imageLen := 6432, sectionCount := 13, sigOffset := 1792, rollbackVer := 3,
    dir := ([336, 1408, 1520, 1552, 1568, 1600, 1616, 1632, 1648, 1664, 1696, 1728, 1744].zip [1072, 112, 32, 16, 32, 16, 16, 16, 16, 24, 32, 16, 48]).mapIdx
      (fun n e => { id := n + 1, fmt := 1, flags := flag (sectionAmendable (n + 1)), offset := e.1, length := e.2 }),
    laneTiles := (List.range 32).map tile, refSsc := [false], signedOnly := [false],
    ports := [{ tile := 0, slot := 0, role := 1, hostIndex := 0, operator := true }, { tile := 1, slot := 0, role := 2, channel := 0 },
      { tile := 4, slot := 0, role := 3 }, { tile := 8, slot := 0, role := 2 }, { tile := 9, slot := 0, role := 1, hostIndex := 1 }],
    hier := [{ host := 0, vdsp := 1, kind := 1, devTile := 1, devSlot := 0, imprint := 5 }],
    pool := [{ typ := 1 }], flts := [{ typ := 1 }], meter := [{}], keys := [{ typ := 2, slot := 1 }] }

/-- `forme0` with a signature block over its bytes. -/
def formeS : Image := { forme0 with sigOver := imageBody forme0 }

/-- Bring-up in a phase, with PWROK high. -/
def inPhase (p : Nat) : State :=
  ({ now := 1000000, boot := { stage := .none, pwrok := true } } : State).setRegs [(.SUP_COL_PHASE_PHASE, 0, p)]

/-- P5 with `forme0` running: every island runs, both host links and the device links are up. -/
def p5 : State :=
  { now := 1000000, boot := { stage := .none, pwrok := true, timeBase := some 0, running := some forme0 },
    com := { hier := forme0.hier, faults := forme0.flts, pool := forme0.pool },
    regs := ((List.range 56).map (fun i => (if i == 0 then [(⟨.SUP_COL_PHASE_PHASE, 0⟩, 5)] else []) ++
      (if i == 50 || i == 51 then [] else [(⟨.SUP_ISL_STATUS_STATE, i⟩, 2)]) ++
      (if [0, 4, 16, 32, 36].contains i then [(⟨.TILE_PORT_STATUS_LINK_UP, i⟩, 1)] else []))).flatten }

/-- `n` NRZ symbols of a test pattern after its register `reg`. -/
def prbsSymbols (pat : Nat) : Nat → Nat → List Nat
  | 0, _ => []
  | n + 1, reg => Folio.prbsBit pat reg :: prbsSymbols pat n (Folio.shiftIn pat reg (Folio.prbsBit pat reg))

/-- The first `n` of a list of bits inverted. -/
def flipFirst (n : Nat) (l : List Nat) : List Nat := (l.take n).map (fun b => 1 - b) ++ l.drop n
/-! ### Three folios, written out from R296, R303 and R304: an IDLE folio, a TRAIN folio and one of the reserved type -/

/-- A folio without errors is received as it is. -/
theorem receive_clean {f : List Byte} (hl : f.length = 320) (h0 : Folio.correct (Folio.codeword f 0) = some (Folio.codeword f 0, 0))
    (h1 : Folio.correct (Folio.codeword f 1) = some (Folio.codeword f 1, 0))
    (hb : (List.range 304).map (fun i => BitVec.ofNat 8 (Folio.coef (if i % 2 == 0 then Folio.codeword f 0 else Folio.codeword f 1) (i / 2))) = f.take 304)
    (hc : Folio.crc64 ((f.take 304).take 296) = leNat ((f.take 304).drop 296)) : Folio.receive f = some (f.take 304, 0) := by
  simp only [Folio.receive, hl, h0, h1, hb, hc]; rfl

theorem crcBytes_append (c : Nat) (a b : List Byte) : Folio.crcBytes c (a ++ b) = Folio.crcBytes (Folio.crcBytes c a) b := List.foldl_append

def idleFolio : List Byte := (List.replicate 296 0 ++ [3, 158, 130, 232, 15, 201, 232, 191, 201, 90, 129, 198, 14, 107, 117, 32, 102, 139, 44, 107, 99, 176, 124, 135] : List Byte)

theorem idleFolio_crc : Folio.crc64 ((idleFolio.take 304).take 296) = leNat ((idleFolio.take 304).drop 296) := by
  have hb : (idleFolio.take 304).take 296 = (([0] ++ List.replicate 29 0) ++ ((List.replicate 30 0) ++ ((List.replicate 30 0) ++ ((List.replicate 30 0) ++ ((List.replicate 30 0) ++ ((List.replicate 30 0) ++ ((List.replicate 30 0) ++ ((List.replicate 30 0) ++ ((List.replicate 30 0) ++ (List.replicate 26 0)))))))))) := by decide +kernel
  have h0 : Folio.crcBytes 18446744073709551615 (([0] ++ List.replicate 29 0) : List Byte) = 12564996758669105295 := by decide +kernel
  have h1 : Folio.crcBytes 12564996758669105295 ((List.replicate 30 0) : List Byte) = 799235814165603253 := by decide +kernel
  have h2 : Folio.crcBytes 799235814165603253 ((List.replicate 30 0) : List Byte) = 2404292799407749857 := by decide +kernel
  have h3 : Folio.crcBytes 2404292799407749857 ((List.replicate 30 0) : List Byte) = 13173441861480854773 := by decide +kernel
  have h4 : Folio.crcBytes 13173441861480854773 ((List.replicate 30 0) : List Byte) = 14935632599551738478 := by decide +kernel
  have h5 : Folio.crcBytes 14935632599551738478 ((List.replicate 30 0) : List Byte) = 8989849705594875474 := by decide +kernel
  have h6 : Folio.crcBytes 8989849705594875474 ((List.replicate 30 0) : List Byte) = 15244858413638148430 := by decide +kernel
  have h7 : Folio.crcBytes 15244858413638148430 ((List.replicate 30 0) : List Byte) = 4692626552769106915 := by decide +kernel
  have h8 : Folio.crcBytes 4692626552769106915 ((List.replicate 30 0) : List Byte) = 1703025516518344858 := by decide +kernel
  have h9 : Folio.crcBytes 1703025516518344858 ((List.replicate 26 0) : List Byte) = 4618220347705876988 := by decide +kernel
  rw [Folio.crc64, hb, show (0xFFFFFFFFFFFFFFFF : Nat) = 18446744073709551615 from rfl, crcBytes_append, h0, crcBytes_append, h1, crcBytes_append, h2, crcBytes_append, h3, crcBytes_append, h4, crcBytes_append, h5, crcBytes_append, h6, crcBytes_append, h7, crcBytes_append, h8, h9]
  decide +kernel

theorem idleFolio_received : Folio.receive idleFolio = some (idleFolio.take 304, 0) :=
  receive_clean (by decide +kernel) (by decide +kernel) (by decide +kernel) (by decide +kernel) idleFolio_crc

/-- The folio over eight lanes (R306, R307). -/
theorem idleFolio_wired : Folio.receive (Folio.fromWire 255 (Folio.toWire 255 idleFolio)) = some (idleFolio.take 304, 0) := by
  rw [show Folio.fromWire 255 (Folio.toWire 255 idleFolio) = idleFolio by decide +kernel]; exact idleFolio_received

def trainFolio : List Byte := ([2] ++ List.replicate 295 0 ++ [137, 28, 42, 228, 231, 82, 99, 32, 54, 212, 88, 227, 162, 160, 178, 149, 165, 198, 239, 32, 204, 45, 221, 67] : List Byte)

theorem trainFolio_crc : Folio.crc64 ((trainFolio.take 304).take 296) = leNat ((trainFolio.take 304).drop 296) := by
  have hb : (trainFolio.take 304).take 296 = (([2] ++ List.replicate 29 0) ++ ((List.replicate 30 0) ++ ((List.replicate 30 0) ++ ((List.replicate 30 0) ++ ((List.replicate 30 0) ++ ((List.replicate 30 0) ++ ((List.replicate 30 0) ++ ((List.replicate 30 0) ++ ((List.replicate 30 0) ++ (List.replicate 26 0)))))))))) := by decide +kernel
  have h0 : Folio.crcBytes 18446744073709551615 (([2] ++ List.replicate 29 0) : List Byte) = 17704770714419819967 := by decide +kernel
  have h1 : Folio.crcBytes 17704770714419819967 ((List.replicate 30 0) : List Byte) = 4081810830267329727 := by decide +kernel
  have h2 : Folio.crcBytes 4081810830267329727 ((List.replicate 30 0) : List Byte) = 10973184786626160349 := by decide +kernel
  have h3 : Folio.crcBytes 10973184786626160349 ((List.replicate 30 0) : List Byte) = 10068094857322587376 := by decide +kernel
  have h4 : Folio.crcBytes 10068094857322587376 ((List.replicate 30 0) : List Byte) = 13762382096189292400 := by decide +kernel
  have h5 : Folio.crcBytes 13762382096189292400 ((List.replicate 30 0) : List Byte) = 14879350396343865949 := by decide +kernel
  have h6 : Folio.crcBytes 14879350396343865949 ((List.replicate 30 0) : List Byte) = 109605045271113791 := by decide +kernel
  have h7 : Folio.crcBytes 109605045271113791 ((List.replicate 30 0) : List Byte) = 2055896832261873385 := by decide +kernel
  have h8 : Folio.crcBytes 2055896832261873385 ((List.replicate 30 0) : List Byte) = 14542934126728754008 := by decide +kernel
  have h9 : Folio.crcBytes 14542934126728754008 ((List.replicate 26 0) : List Byte) = 16112943885882614646 := by decide +kernel
  rw [Folio.crc64, hb, show (0xFFFFFFFFFFFFFFFF : Nat) = 18446744073709551615 from rfl, crcBytes_append, h0, crcBytes_append, h1, crcBytes_append, h2, crcBytes_append, h3, crcBytes_append, h4, crcBytes_append, h5, crcBytes_append, h6, crcBytes_append, h7, crcBytes_append, h8, h9]
  decide +kernel

theorem trainFolio_received : Folio.receive trainFolio = some (trainFolio.take 304, 0) :=
  receive_clean (by decide +kernel) (by decide +kernel) (by decide +kernel) (by decide +kernel) trainFolio_crc

/-- The folio over eight lanes (R306, R307). -/
theorem trainFolio_wired : Folio.receive (Folio.fromWire 255 (Folio.toWire 255 trainFolio)) = some (trainFolio.take 304, 0) := by
  rw [show Folio.fromWire 255 (Folio.toWire 255 trainFolio) = trainFolio by decide +kernel]; exact trainFolio_received

def typeThreeFolio : List Byte := ([3] ++ List.replicate 295 0 ++ [204, 93, 126, 226, 19, 159, 166, 111, 249, 53, 166, 249, 22, 145, 47, 54, 3, 175, 99, 47, 200, 160, 202, 4] : List Byte)

theorem typeThreeFolio_crc : Folio.crc64 ((typeThreeFolio.take 304).take 296) = leNat ((typeThreeFolio.take 304).drop 296) := by
  have hb : (typeThreeFolio.take 304).take 296 = (([3] ++ List.replicate 29 0) ++ ((List.replicate 30 0) ++ ((List.replicate 30 0) ++ ((List.replicate 30 0) ++ ((List.replicate 30 0) ++ ((List.replicate 30 0) ++ ((List.replicate 30 0) ++ ((List.replicate 30 0) ++ ((List.replicate 30 0) ++ (List.replicate 26 0)))))))))) := by decide +kernel
  have h0 : Folio.crcBytes 18446744073709551615 (([3] ++ List.replicate 29 0) : List Byte) = 15584121848761336615 := by decide +kernel
  have h1 : Folio.crcBytes 15584121848761336615 ((List.replicate 30 0) : List Byte) = 2413080186835012410 := by decide +kernel
  have h2 : Folio.crcBytes 2413080186835012410 ((List.replicate 30 0) : List Byte) = 14177962826781870275 := by decide +kernel
  have h3 : Folio.crcBytes 14177962826781870275 ((List.replicate 30 0) : List Byte) = 6656713629747610544 := by decide +kernel
  have h4 : Folio.crcBytes 6656713629747610544 ((List.replicate 30 0) : List Byte) = 9664768844082364927 := by decide +kernel
  have h5 : Folio.crcBytes 9664768844082364927 ((List.replicate 30 0) : List Byte) = 6794914473386787608 := by decide +kernel
  have h6 : Folio.crcBytes 6794914473386787608 ((List.replicate 30 0) : List Byte) = 11665394784301815749 := by decide +kernel
  have h7 : Folio.crcBytes 11665394784301815749 ((List.replicate 30 0) : List Byte) = 3621955797960235116 := by decide +kernel
  have h8 : Folio.crcBytes 3621955797960235116 ((List.replicate 30 0) : List Byte) = 12027635875008196281 := by decide +kernel
  have h9 : Folio.crcBytes 12027635875008196281 ((List.replicate 26 0) : List Byte) = 10401451381612454451 := by decide +kernel
  rw [Folio.crc64, hb, show (0xFFFFFFFFFFFFFFFF : Nat) = 18446744073709551615 from rfl, crcBytes_append, h0, crcBytes_append, h1, crcBytes_append, h2, crcBytes_append, h3, crcBytes_append, h4, crcBytes_append, h5, crcBytes_append, h6, crcBytes_append, h7, crcBytes_append, h8, h9]
  decide +kernel

theorem typeThreeFolio_received : Folio.receive typeThreeFolio = some (typeThreeFolio.take 304, 0) :=
  receive_clean (by decide +kernel) (by decide +kernel) (by decide +kernel) (by decide +kernel) typeThreeFolio_crc

/-- The folio over eight lanes (R306, R307). -/
theorem typeThreeFolio_wired : Folio.receive (Folio.fromWire 255 (Folio.toWire 255 typeThreeFolio)) = some (typeThreeFolio.take 304, 0) := by
  rw [show Folio.fromWire 255 (Folio.toWire 255 typeThreeFolio) = typeThreeFolio by decide +kernel]; exact typeThreeFolio_received

/-! ### Worked examples and tables of the spec -/

/-- R446, and the example of 09_quads_spine_arbitration.md: one advance of the LFSR. -/
theorem test_lfsr : lfsrStep 0xC0200619 = 0x80000C35 := by decide +kernel

/-- An arbiter before step 2 of that example: the LFSR one advance back; slot 13 has lost nine draws. -/
def arbBefore : Arb := { lfsr := 0xE030030F, loss := (List.replicate 16 0).set 13 9, forced := List.replicate 16 false }

/-- The three tenants' bids. -/
def exampleBids (t : Nat) : List Bid := [⟨4, t, false, true, 1⟩, ⟨9, 20, false, true, 2⟩, ⟨13, 20, false, true, 3⟩]

/-- Step 2: r = 60 of T = 80: slot 13 wins, its losses return to 0, slots 4 and 9 each lose once (R447, R448). -/
theorem test_draw_old_tickets : (arbBefore.draw 16 (exampleBids 40)).1 = some (13, .lottery) ∧ (arbBefore.draw 16 (exampleBids 40)).2.lfsr = 0xC0200619 ∧
    (arbBefore.draw 16 (exampleBids 40)).2.loss = ((List.replicate 16 0).set 4 1).set 9 1 := by decide +kernel

/-- Step 4: with 60 tickets r = 50 of T = 100 and slot 4 wins; with the old tickets slot 9 would have won. -/
theorem test_draw_new_tickets :
    (Arb.draw { lfsr := 0xC0200619, loss := List.replicate 16 0, forced := List.replicate 16 false } 16 (exampleBids 60)).1 = some (4, .lottery) ∧
    (Arb.draw { lfsr := 0xC0200619, loss := List.replicate 16 0, forced := List.replicate 16 false } 16 (exampleBids 40)).1 = some (9, .lottery) := by
  decide +kernel

/-- The gates example of 10_scheduling_and_gates.md: an x8 port in flit mode at 128 GT/s has a guard band of 38 ns (R491). -/
theorem test_guard_band : guardOf (bMax 1 true false 7) 7 8 = 38 := by decide +kernel

/-- The BAR2 of 32 GiB of 06_host_and_device_ports.md: the words that software reads back (R241). -/
theorem test_bar_sizing : (barMask (2 ^ 26) false + barType true false, barMask (2 ^ 26) true, barMask (2 ^ 35) false + barType true true,
    barMask (2 ^ 35) true) = (0xFC000004, 0xFFFFFFFF, 0xC, 0xFFFFFFF8) := by decide +kernel

/-- The window of 08_imposition_table.md: domain 0xC7D, its entry holds the address, and where the write goes (R369, R371). -/
theorem test_window : assignDomain 4 2 = 0xC7D ∧
    eHolds (mkEntry 0xC7D 8 0x0A040000 0x0300 0x02A true true false false 0 0 true) 0xA040032040 = true ∧
    outAddr (mkEntry 0xC7D 8 0x0A040000 0x0300 0x02A true true false false 0 0 true) (mkTarget 0 true 117 0x100 0x00180000) 0xA040032040 =
      0x180032040 := by decide +kernel

/-- The example of 11_memory_pool.md: sheet 17, offset 0x0800_1240, WAY4, no galley sheets: stack 2, local 0x4600_0440. -/
theorem test_pool_place : p5.locate (17 * 2 ^ 28 + 0x08001240) = (2, 0x46000440) ∧ p5.locate (17 * 2 ^ 28 + 0x08002000) = (0, 0x46000800) := by
  decide +kernel

/-- The partial lines of a 96-byte write at 0x1020 (R401): line 0x1000 only. -/
theorem test_part_lines :
    Pkt.partLines { id := 0, req := { src := .host 0, inPort := 0, kind := .write, addr := 0x1020, len := 96, ts := 0 }, cls := .posted, q := .egress 0 0, addr := 0x1020 } =
      [0x1000] := by decide +kernel

/-- A bucket at 8,000 Mb/s gains 40 bytes in 40 ns (10_scheduling_and_gates.md, R472). -/
theorem test_shaper_refill : ∃ t, exec (.shaperRefill (.sub 5) 40)
    ((p5.setRegs [(.SHP_SUB_RATE_RATE, 5, 8000), (.SHP_SUB_CFG_BURST, 5, 8192), (.SHP_SUB_CFG_ENABLE, 5, 1)]).setBucket (.sub 5) (4080 * 1024)) = .next t ∧
    t.bucket (.sub 5) = 4120 * 1024 := ⟨_, rfl, by decide +kernel⟩

/-- R679: a breaker point of 12,500 mA counts a sample at it, and falls by one at the fourth sample below it. -/
theorem test_breaker_counts : ((Chan.breaker { k := 0, prof := (List.replicate 10 0) ++ [12500], cnt := [5], sub := [3] } 12500).cnt,
    (Chan.breaker { k := 0, prof := (List.replicate 10 0) ++ [12500], cnt := [5], sub := [3] } 12499).cnt) = ([6], [4]) := by decide +kernel

/-- The floors of R734's table and example, and the bounds of R745 and R746 (17_performance_envelope.md). -/
theorem test_latency_floors : floorPs .flit 128 8 .flit 128 8 = 22000 ∧ floorPs .folio 128 8 .folio 128 8 = 22000 ∧
    floorPs .flit 64 4 .folio 128 16 = 26750 ∧ urgentTerms.sum = 150000 ∧ urgentTerms.sum + lostFlitTerms.sum = 800000 := by decide

/-- R736's example: 4,096-byte writes at x8 and 128 GT/s carry 117.54 and 114.31 GB/s (17_performance_envelope.md). -/
theorem test_payload_capacity : (117535 / 1000 < flitCapacity 128 8 4096 16 ∧ flitCapacity 128 8 4096 16 < 117545 / 1000) ∧
    (114305 / 1000 < folioCapacity 128 8 4096 128 ∧ folioCapacity 128 8 4096 128 < 114315 / 1000) := by
  norm_num [flitCapacity, folioCapacity]

/-- The balls of lane 163 (R771's example) and balls that R770, R772 and R773 name (18_electrical_and_package.md). -/
theorem test_balls : laneDepths.map (laneBall 163) = [(89, 16), (88, 16), (86, 16), (85, 16)] ∧
    ballGroup 45 1 = none ∧ ballGroup 1 1 = some .reserved ∧ ballGroup 83 16 = some .vdda ∧ ballGroup 22 27 = some .sideband ∧
    ballGroup 24 41 = some .refclk ∧ ballsIn .vddCore 50 = 32 ∧ ballsIn .slot 72 = 32 := by decide +kernel

/-! ### The hypotheses of the statements can be met -/

theorem witness_StepRunsTheCommandInFront :
    ∃ (c : Instr) (rest : List Instr) (s : State), (s.pending = c :: rest) :=
  ⟨.perstNRise 31, [.coldReset], { p5 with pending := [.perstNRise 31, .coldReset] }, by decide +kernel⟩

theorem witness_IdleStepIsOneNanosecond :
    ∃ (s : State), (s.pending = []) :=
  ⟨p5, by decide +kernel⟩

theorem witness_EveryStepKeepsTheOneWayFacts :
    ∃ (t : Nat) (r : Nat) (m : Nat) (p : Part) (s : State) (s' : State), (Kept t r m p s) ∧ (step s = .next s') :=
  ⟨1000000, 3, 1, { signerRevoked := 1 }, { p5 with part := { signerRevoked := 1 }, flash := { rollback := 3 } }, { p5 with now := 1000001, part := { signerRevoked := 1 }, flash := { rollback := 3 } }, ⟨⟨by decide +kernel, by decide +kernel, by decide +kernel, fun n h => h, rfl⟩, rfl⟩⟩

theorem witness_UnalignedRegisterAccessesChangeNothing :
    ∃ (k : Nat) (off : Nat) (size : Nat) (v : Nat) (s : State), (s.cfgHost k = true) ∧ (off < 2 ^ 26) ∧ (¬((size = 4 ∨ size = 8) ∧ off % size = 0)) :=
  ⟨0, 0x4002, 4, 1, p5, by decide +kernel⟩

theorem witness_TenantsReachOnlyTheirBlocks :
    ∃ (k : Nat) (a : Nat) (size : Nat) (v : Nat) (s : State), (s.cfgHost k = true) ∧ (s.phase = 5) ∧ (s.operator k = false) ∧ (a < 2 ^ 26) ∧ ((size = 4 ∨ size = 8)) ∧ (a % size = 0) ∧ (0x1000 ≤ a) ∧ (¬(0x2000 ≤ a ∧ a < 0x5000)) :=
  ⟨1, 0x5000, 4, 1, p5, by decide +kernel⟩

theorem witness_BeforeP5OnlyTheColophonPageAnswersAndNoAtomicOpDoes :
    (∃ (k : Nat) (a : Nat) (size : Nat) (v : Nat) (s : State), (s.cfgHost k = true) ∧ (s.phase < 5) ∧ (a < 2 ^ 26) ∧ ((size = 4 ∨ size = 8)) ∧ (a % size = 0) ∧ (0x1000 ≤ a)) ∧
    (∃ (k : Nat) (a : Nat) (size : Nat) (v : Nat) (write : Bool) (s : State), (s.cfgHost k = true) ∧ (a < 2 ^ 26)) :=
  ⟨⟨0, 0x1000, 8, 1, p5.setReg .SUP_COL_PHASE_PHASE 0 4, by decide +kernel⟩,
    ⟨0, 0x3FFFFFF, 8, 1, true, p5, by decide +kernel⟩⟩

theorem witness_ComposingPortWritesAreTakenOrDropped :
    (∃ (k : Nat) (a : Nat) (size : Nat) (v : Nat) (s : State), (s.cfgHost k = true) ∧ (s.phase = 5) ∧ (s.busy = true) ∧ (s.islState 52 ≠ 3) ∧ ((size = 4 ∨ size = 8)) ∧ (a % size = 0) ∧ (0x4000 ≤ a) ∧ (a < 0x5000) ∧ (a ≠ 0x4000) ∧ (a ≠ 0x4004)) ∧
    (∃ (k : Nat) (n : Nat) (v : Nat) (s : State), (s.cfgHost k = true) ∧ (s.phase = 5) ∧ (s.busy = false) ∧ (s.isl.mgmt = none) ∧ (s.running 52 = true) ∧ (n < 32) ∧ (v < 2 ^ 32)) ∧
    (∃ (k : Nat) (n : Nat) (v : Nat) (s : State), (s.cfgHost k = true) ∧ (s.phase = 5) ∧ (s.running 52 = true) ∧ (n < 32) ∧ (s.reg .CMP_ARG_VALUE (32 * k + n) < 2 ^ 32)) :=
  ⟨⟨0, 0x4FF8, 8, 1, p5.setReg .CMP_STATUS_BUSY 0 1, by decide +kernel⟩,
    ⟨1, 31, 0xFFFFFFFF, p5, by decide +kernel⟩,
    ⟨1, 31, 7, p5.setReg .CMP_ARG_VALUE 63 0xFFFFFFFF, by decide +kernel⟩⟩

theorem witness_UnlistedEncodingsLeaveAFieldUnchanged :
    (∃ (k : Nat) (i : Nat) (v : Nat) (f : Fld) (s : State), (f.listed v = false) ∧ ((f.acc = .rw ∨ f.acc = .rws))) ∧
    (∃ (i : Nat) (v : Nat) (f : Fld) (s : State), (f.listed (v % 2 ^ f.width) = false)) ∧
    (∃ (i : Nat) (v : Nat) (f : Fld) (s : State), (f.listed (v % 2 ^ f.width) = true)) :=
  ⟨⟨0, 0, 3, Fld.FLT_INJECT_MODE, p5, by decide +kernel⟩,
    ⟨0, 0, Fld.ARB_TICKET_TICKETS, p5, by decide +kernel⟩,
    ⟨0, 1, Fld.ARB_TICKET_TICKETS, p5, by decide +kernel⟩⟩

theorem witness_ShFieldWritesGoToTheStagedCopy :
    (∃ (k : Nat) (n : Nat) (v : Nat) (s : State), (s.cfgHost k = true) ∧ (s.phase = 5) ∧ (s.operator k = true) ∧ (s.busy = false) ∧ (s.mgmtUp = true) ∧ (n < 8192) ∧ (v < 2 ^ 17) ∧ (v % 2 ^ 16 ≠ 0) ∧ (s.holdsLock k = true) ∧ (s.signedOnly = false)) ∧
    (∃ (k : Nat) (n : Nat) (v : Nat) (s : State), (s.cfgHost k = true) ∧ (s.phase = 5) ∧ (s.operator k = true) ∧ (s.busy = false) ∧ (s.mgmtUp = true) ∧ (n < 8192) ∧ ((s.holdsLock k = false ∨ s.signedOnly = true))) :=
  ⟨⟨0, 8191, 0x10001, p5.setReg .CMP_LOCK_HELD 0 1, by decide +kernel⟩,
    ⟨0, 0, 0, p5, by decide +kernel⟩⟩

theorem witness_ClearOnReadClearsWhatItShows :
    (∃ (f : Fld) (i : Nat) (s : State), (s.reg f i < 2 ^ f.width)) ∧
    (∃ (k : Nat) (a : Nat) (i : Nat) (b : Nat) (r : RegAt) (s : State), (s.cfgHost k = true) ∧ (s.reaches k a = true) ∧ (s.busy = false) ∧ (a % 4 = 0) ∧ (regAt a = some (r, i, b)) ∧ ((∀ n, s.metIsland a = some n → s.running n = true)) ∧ ((∀ e ∈ r.fields, e.fld ≠ .TILE_PRBS_ERR_COUNT ∧ isSlt e.fld = false))) :=
  ⟨⟨Fld.SUP_XING_DROP_COUNT, 0, p5.setReg .SUP_XING_DROP_COUNT 0 (2 ^ Fld.SUP_XING_DROP_COUNT.width - 1), by decide +kernel⟩,
    ⟨0, 0x3F3020, 31, 0, ⟨0x203020, [(32, 0x10000)], false, false, [⟨.TILE_DL_DROP_COUNT, 0⟩]⟩, p5.setReg .TILE_DL_DROP_COUNT 31 7, by decide +kernel⟩⟩

theorem witness_PowerUpAndReleaseStartP1 :
    (∃ (s : State), (s.boot.pwrok = false) ∧ (s.boot.stage = .powerLow)) ∧
    (∃ (s : State), (s.boot.pwrok = false) ∧ (s.boot.stage ≠ .powerLow)) ∧
    (∃ (s : State), (s.boot.pwrok = true)) ∧
    (∃ (s : State), (s.booting 0 = true) ∧ (s.boot.sysResetN = true)) ∧
    (∃ (s : State), ((s.booting 0 = false ∨ s.boot.sysResetN = false))) ∧
    (∃ (s : State), (s.boot.sysResetN = false) ∧ (s.boot.stage = .heldWarm)) ∧
    (∃ (s : State), (s.boot.sysResetN = false) ∧ (s.boot.stage ≠ .heldWarm) ∧ (s.phase = 0)) ∧
    (∃ (s : State), (s.boot.sysResetN = true)) :=
  ⟨⟨State.reset, by decide +kernel⟩,
    ⟨(inPhase 0).updBoot (fun b => { b with pwrok := false, stage := .thermalHold }), by decide +kernel⟩,
    ⟨inPhase 0, by decide +kernel⟩,
    ⟨inPhase 0, by decide +kernel⟩,
    ⟨State.reset, by decide +kernel⟩,
    ⟨(inPhase 1).updBoot (fun b => { b with sysResetN := false, stage := .heldWarm }), by decide +kernel⟩,
    ⟨(inPhase 0).updBoot (fun b => { b with sysResetN := false }), by decide +kernel⟩,
    ⟨p5, by decide +kernel⟩⟩

theorem witness_FirmwareCopiesAndBanksAreChosen :
    (∃ (s : State), (s.booting 1 = true) ∧ (fwVersion s.flash.fw1 ≤ fwVersion s.flash.fw0) ∧ (fwGood s.flash.fw0 = true)) ∧
    (∃ (s : State), (s.booting 1 = true) ∧ (fwVersion s.flash.fw0 < fwVersion s.flash.fw1) ∧ (fwGood s.flash.fw1 = true)) ∧
    (∃ (s : State), (s.booting 1 = true) ∧ (fwVersion s.flash.fw0 < fwVersion s.flash.fw1) ∧ (fwGood s.flash.fw1 = false) ∧ (fwGood s.flash.fw0 = true)) ∧
    (∃ (s : State), (s.booting 1 = true) ∧ (fwVersion s.flash.fw1 ≤ fwVersion s.flash.fw0) ∧ (fwGood s.flash.fw0 = false) ∧ (fwGood s.flash.fw1 = true)) ∧
    (∃ (s : State) (b : Bool) (im : Image), (s.booting 2 = true) ∧ (b = (s.boot.prefAtP2B != (s.reg .SUP_COL_PROGRESS_CODE 0 == 0x0202))) ∧ (((s.bank b).state = .trial ∨ (s.bank b).state = .confirmed)) ∧ ((s.bank b).image = some im) ∧ (s.formeResult im = 1)) ∧
    (∃ (s : State), (s.booting 2 = true) ∧ (s.reg .SUP_COL_PROGRESS_CODE 0 = 0x0201) ∧ (((s.bank s.boot.prefAtP2B).state = .empty ∨ (s.bank s.boot.prefAtP2B).state = .bad))) ∧
    (∃ (s : State) (im : Image), (s.booting 2 = true) ∧ (s.reg .SUP_COL_PROGRESS_CODE 0 = 0x0201) ∧ (((s.bank s.boot.prefAtP2B).state = .trial ∨ (s.bank s.boot.prefAtP2B).state = .confirmed)) ∧ ((s.bank s.boot.prefAtP2B).image = some im) ∧ (s.formeResult im ≠ 1)) ∧
    (∃ (s : State), (s.booting 2 = true) ∧ (s.reg .SUP_COL_PROGRESS_CODE 0 = 0x0202) ∧ (((s.bank (!s.boot.prefAtP2B)).state = .empty ∨ (s.bank (!s.boot.prefAtP2B)).state = .bad))) :=
  ⟨⟨inPhase 1, by decide +kernel⟩,
    ⟨{ inPhase 1 with flash := { fw1 := { version := 1 } } }, by decide +kernel⟩,
    ⟨{ inPhase 1 with flash := { fw1 := { version := 1, balOk := false } } }, by decide +kernel⟩,
    ⟨{ inPhase 1 with flash := { fw0 := { supOk := false } } }, by decide +kernel⟩,
    ⟨{ (inPhase 2).setReg .SUP_COL_PROGRESS_CODE 0 0x0201 with flash := { bankA := { state := .confirmed, image := some formeS } } }, false, formeS, by decide +kernel⟩,
    ⟨(inPhase 2).setReg .SUP_COL_PROGRESS_CODE 0 0x0201, by decide +kernel⟩,
    ⟨{ (inPhase 2).setReg .SUP_COL_PROGRESS_CODE 0 0x0201 with flash := { bankA := { state := .trial, image := some forme0 } } }, forme0, by decide +kernel⟩,
    ⟨(inPhase 2).setReg .SUP_COL_PROGRESS_CODE 0 0x0202, by decide +kernel⟩⟩

theorem witness_DomainsAreSwitchedAndIslandsRun :
    (∃ (s : State) (d : Nat) (rest : List SwitchOp), (s.isl.switchQ = { dom := d, on := true } :: rest) ∧ (s.on .SUP_DOM_STATUS_PGOOD d = false) ∧ (s.isl.heldRegs = [])) ∧
    (∃ (s : State) (d : Nat) (rest : List SwitchOp), (s.isl.switchQ = { dom := d, on := false } :: rest) ∧ (domIsland d ≠ 52) ∧ (s.isl.heldRegs = [])) ∧
    (∃ (s : State), (s.isl.switchQ = []) ∧ (s.isl.heldRegs = []) ∧ ((∀ e, e < 90 → (s.on .SUP_DOM_STATUS_SWITCHING e && !s.on .SUP_DOM_STATUS_ON e) = false))) ∧
    (∃ (s : State) (d : Nat), (d < 90) ∧ (s.booting 3 = true) ∧ (s.on .SUP_DOM_STATUS_ON d = true) ∧ (s.on .SUP_DOM_STATUS_PGOOD d = false) ∧ (s.on .SUP_DOM_STATUS_SWITCHING d = true) ∧ (s.goesOff d = false) ∧ (s.isl.bootFenced.contains (domIsland d) = false) ∧ ((∀ e ∈ islDomains (domIsland d), e ≠ d → s.on .SUP_DOM_STATUS_PGOOD e = true))) ∧
    (∃ (s : State) (d : Nat), (d < 90) ∧ (4 ≤ s.phase) ∧ (s.on .SUP_DOM_STATUS_ON d = true) ∧ (s.on .SUP_DOM_STATUS_PGOOD d = false) ∧ (s.on .SUP_DOM_STATUS_SWITCHING d = true) ∧ (s.goesOff d = false) ∧ ((∀ e ∈ islDomains (domIsland d), e ≠ d → s.on .SUP_DOM_STATUS_PGOOD e = true))) ∧
    (∃ (s : State) (d : Nat), (d < 90) ∧ (s.on .SUP_DOM_STATUS_ON d = true) ∧ (s.on .SUP_DOM_STATUS_PGOOD d = false) ∧ (s.on .SUP_DOM_STATUS_SWITCHING d = false)) ∧
    (∃ (s : State) (d : Nat), (d < 90) ∧ (s.booting 3 = false) ∧ (domIsland d ≠ 52) ∧ (s.on .SUP_DOM_STATUS_ON d = true) ∧ (s.on .SUP_DOM_STATUS_PGOOD d = false) ∧ (s.on .SUP_DOM_STATUS_SWITCHING d = true) ∧ (s.goesOff d = false)) ∧
    (∃ (s : State) (d : Nat) (rest : List SwitchOp), (s.isl.switchQ = { dom := d, on := false, failed := true } :: rest) ∧ (s.isl.heldRegs = [])) ∧
    (∃ (s : State) (d : Nat), (s.on .SUP_DOM_STATUS_ON d = false)) :=
  ⟨⟨(inPhase 3).updIsl (fun i => { i with switchQ := [{ dom := 89, on := true }], lastSwitch := some 1000000 }), 89, [], by decide +kernel⟩,
    ⟨p5.updIsl (fun i => { i with switchQ := [{ dom := 89, on := false }] }), 89, [], by decide +kernel⟩,
    ⟨p5, by decide +kernel⟩,
    ⟨(inPhase 3).setRegs [(.SUP_DOM_STATUS_ON, 31, 1), (.SUP_DOM_STATUS_SWITCHING, 31, 1), (.SUP_DOM_STATUS_ON, 63, 1), (.SUP_DOM_STATUS_PGOOD, 63, 1)], 31, by decide +kernel⟩,
    ⟨p5.setRegs [(.SUP_DOM_STATUS_ON, 31, 1), (.SUP_DOM_STATUS_SWITCHING, 31, 1), (.SUP_DOM_STATUS_PGOOD, 63, 1)], 31, by decide +kernel⟩,
    ⟨p5.setRegs [(.SUP_DOM_STATUS_ON, 0, 1)], 0, by decide +kernel⟩,
    ⟨{ p5.setRegs [(.SUP_DOM_STATUS_ON, 89, 1), (.SUP_DOM_STATUS_SWITCHING, 89, 1)] with port := { running := some { host := 0, opcode := 0x43, token := 0, args := [], since := 0, wait := .power 89 } } }, 89, by decide +kernel⟩,
    ⟨p5.updIsl (fun i => { i with switchQ := [{ dom := 0, on := false, failed := true }] }), 0, [], by decide +kernel⟩,
    ⟨p5, 0, by decide +kernel⟩⟩

theorem witness_P3AndP4End :
    (∃ (s : State), (s.booting 3 = true)) ∧
    (∃ (s : State), (s.booting 3 = true)) ∧
    (∃ (s : State) (im : Image), (s.boot.running = some im) ∧ (s.p3Over = true)) ∧
    (∃ (s : State) (im : Image), (s.boot.running = some im) ∧ (s.booting 4 = true)) ∧
    (∃ (s : State), (s.booting 3 = false)) :=
  ⟨⟨inPhase 3, by decide +kernel⟩,
    ⟨inPhase 3, by decide +kernel⟩,
    ⟨(((inPhase 3).setReg .BAL_STATUS_RNG_OK 0 1).updBoot (fun b => { b with timeBase := some 0, running := some forme0, hbmDone := true, serdesDone := true })), forme0, by decide +kernel⟩,
    ⟨(inPhase 4).updBoot (fun b => { b with timeBase := some 0, running := some forme0 }), forme0, by decide +kernel⟩,
    ⟨p5, by decide +kernel⟩⟩

theorem witness_BringupFailuresEndTheAttempt :
    (∃ (s : State) (code : Nat) (detail : Nat), (s.essential code detail = true)) ∧
    (∃ (s : State) (p : Nat), (1 ≤ p) ∧ (p ≤ 4) ∧ (s.booting p = true)) ∧
    (∃ (s : State) (code : Nat) (detail : Nat) (n : Nat), (n < 56) ∧ (s.nonEssentialIsl code detail = some n) ∧ (s.booting 3 = true) ∧ ((powerRec s.com.power n).state = 2) ∧ (s.isl.bootFenced.contains n = false)) ∧
    (∃ (s : State) (code : Nat) (detail : Nat), (s.essential code detail = false)) :=
  ⟨⟨(inPhase 3).setReg .SUP_COL_PHASE_ATTEMPT 0 1, 0x1303, 42, by decide +kernel⟩,
    ⟨inPhase 4, 4, by decide +kernel⟩,
    ⟨inPhase 3, 0x1302, 31, 31, by decide +kernel⟩,
    ⟨p5, 0x1101, 0, by decide +kernel⟩⟩

theorem witness_ResetsOfTheWholeSwitch :
    (∃ (s : State), (s.boot.pwrok = true) ∧ (s.boot.sysResetN = true) ∧ (s.boot.stage = .none) ∧ (s.phase = 5) ∧ (s.metRuns = true)) ∧
    (∃ (s : State), (s.boot.pwrok = true) ∧ (s.boot.sysResetN = true) ∧ (s.boot.stage = .none) ∧ (1 ≤ s.phase) ∧ (s.phase < 5)) ∧
    (∃ (s : State) (t0 : Nat), (s.boot.stage = .flush t0)) ∧
    (∃ (s : State) (t0 : Nat), (s.boot.stage = .flush t0) ∧ (s.met.batches = [])) ∧
    (∃ (s : State) (t0 : Nat), (s.port.resetAt = some t0) ∧ (s.port.running = none) ∧ (s.boot.stage = .none) ∧ (s.phase = 5) ∧ (s.metRuns = true)) :=
  ⟨⟨p5, by decide +kernel⟩,
    ⟨(inPhase 1), by decide +kernel⟩,
    ⟨p5.updBoot (fun b => { b with stage := .flush 5 }), 5, by decide +kernel⟩,
    ⟨p5.updBoot (fun b => { b with stage := .flush 5 }), 5, by decide +kernel⟩,
    ⟨{ p5 with port := { resetAt := some 7 } }, 7, by decide +kernel⟩⟩

theorem witness_RecoveryLoadsAnImage :
    (∃ (s : State) (img : RecoveryImage), (s.on .TILE_PORT_STATUS_LINK_UP s.recovPort = true) ∧ (s.stalled = true) ∧ (s.reg .SUP_COL_RECOV_STATUS_STATE 0 ≠ 1)) ∧
    (∃ (s : State) (img : RecoveryImage) (k : Nat), (k ≠ 0)) ∧
    (∃ (s : State) (im : Image), (s.boot.recov = some (.forme im)) ∧ (s.recovResult (.forme im) = 0)) ∧
    (∃ (s : State) (f : FwBundle), (s.boot.recov = some (.firmware f)) ∧ (s.recovResult (.firmware f) = 0)) ∧
    (∃ (s : State) (img : RecoveryImage), (s.boot.recov = some img) ∧ (s.recovResult img ≠ 0)) ∧
    (∃ (s : State), (s.stalled = true) ∧ (s.boot.rebootAt ≠ none)) :=
  ⟨⟨(((inPhase 3).setRegs [(.SUP_COL_PHASE_STALLED, 0, 1), (.TILE_PORT_STATUS_LINK_UP, 0, 1), (.SUP_COL_RECOV_LEN_LEN, 0, 0x1920)]).updLink (fun l => { l with vregs := [(⟨0, .mep, .command⟩, 4)] })), RecoveryImage.forme forme0, by decide +kernel⟩,
    ⟨(((inPhase 3).setRegs [(.SUP_COL_PHASE_STALLED, 0, 1), (.TILE_PORT_STATUS_LINK_UP, 0, 1), (.SUP_COL_RECOV_LEN_LEN, 0, 0x1920)]).updLink (fun l => { l with vregs := [(⟨0, .mep, .command⟩, 4)] })), .forme forme0, 1, by decide +kernel⟩,
    ⟨(((inPhase 3).setRegs [(.SUP_COL_PHASE_STALLED, 0, 1), (.TILE_PORT_STATUS_LINK_UP, 0, 1), (.SUP_COL_RECOV_LEN_LEN, 0, 0x1920)]).updLink (fun l => { l with vregs := [(⟨0, .mep, .command⟩, 4)] })).updBoot (fun b => { b with recov := some (.forme formeS) }), formeS, by decide +kernel⟩,
    ⟨((((inPhase 3).setRegs [(.SUP_COL_PHASE_STALLED, 0, 1), (.TILE_PORT_STATUS_LINK_UP, 0, 1), (.SUP_COL_RECOV_LEN_LEN, 0, 0x1920)]).updLink (fun l => { l with vregs := [(⟨0, .mep, .command⟩, 4)] })).setReg .SUP_COL_RECOV_CTL_TARGET 0 2).updBoot (fun b => { b with recov := some (.firmware {}) }), {}, by decide +kernel⟩,
    ⟨(((inPhase 3).setRegs [(.SUP_COL_PHASE_STALLED, 0, 1), (.TILE_PORT_STATUS_LINK_UP, 0, 1), (.SUP_COL_RECOV_LEN_LEN, 0, 0x1920)]).updLink (fun l => { l with vregs := [(⟨0, .mep, .command⟩, 4)] })).updBoot (fun b => { b with recov := some (.firmware {}) }), RecoveryImage.firmware {}, by decide +kernel⟩,
    ⟨(((inPhase 3).setRegs [(.SUP_COL_PHASE_STALLED, 0, 1), (.TILE_PORT_STATUS_LINK_UP, 0, 1), (.SUP_COL_RECOV_LEN_LEN, 0, 0x1920)]).updLink (fun l => { l with vregs := [(⟨0, .mep, .command⟩, 4)] })).updBoot (fun b => { b with rebootAt := some 5 }), by decide +kernel⟩⟩

theorem witness_ThermalAndSupplySampling :
    (∃ (s : State) (temps : List Nat) (hbm : List Nat) (n : Nat), (s.boot.pwrok = true) ∧ ((∀ v ∈ temps, v < 174)) ∧ ((∀ v ∈ hbm, v < 174)) ∧ (n < 56) ∧ (s.islState n = 2) ∧ ((∀ i, i < 56 → s.reg .SUP_ISL_HEALTH_TEMP i < 174))) ∧
    (∃ (s : State) (hbm : List Nat) (v : Nat), (s.boot.pwrok = true) ∧ (s.boot.stage ≠ .thermalHold) ∧ (184 ≤ v)) ∧
    (∃ (s : State) (temps : List Nat) (hbm : List Nat) (n : Nat), (s.boot.pwrok = true) ∧ (s.boot.stage ≠ .thermalHold) ∧ (n < 56) ∧ (s.islState n = 2) ∧ (184 ≤ nth temps n)) ∧
    (∃ (s : State), (s.boot.stage = .thermalHold) ∧ (s.boot.pwrok = true) ∧ ((∀ n, n < 56 → s.reg .SUP_ISL_HEALTH_TEMP n < 164))) ∧
    (∃ (s : State) (n : Nat) (margins : List Int), (4 ≤ s.phase) ∧ (s.isl.avsStopped = false) ∧ (n < 56) ∧ (s.islState n ≠ 0) ∧ ((margins[n]?).getD 30 < 20) ∧ (s.reg .SUP_AVS_STATUS_SETPOINT 0 < 40)) ∧
    (∃ (s : State) (margins : List Int), (4 ≤ s.phase) ∧ (s.isl.avsStopped = false) ∧ ((∀ n, n < 56 → 40 < (margins[n]?).getD 30)) ∧ (0 < s.reg .SUP_AVS_STATUS_SETPOINT 0) ∧ (s.reg .SUP_AVS_STATUS_SETPOINT 0 ≤ 40)) ∧
    (∃ (s : State) (margins : List Int), (s.isl.avsStopped = true)) :=
  ⟨⟨p5, List.replicate 56 173, [173], 55, by decide +kernel⟩,
    ⟨p5, [], 184, by decide +kernel⟩,
    ⟨p5, List.replicate 55 0 ++ [184], [], 55, by decide +kernel⟩,
    ⟨p5.updBoot (fun b => { b with stage := .thermalHold }), by decide +kernel⟩,
    ⟨p5, 55, List.replicate 55 50 ++ [19], by decide +kernel⟩,
    ⟨p5.setReg .SUP_AVS_STATUS_SETPOINT 0 40, List.replicate 56 41, by decide +kernel⟩,
    ⟨p5.updIsl (fun i => { i with avsStopped := true }), [], by decide +kernel⟩⟩

theorem witness_IslandsLosePowerOrClock :
    (∃ (s : State) (d : Nat), (d < 90) ∧ (s.on .SUP_DOM_STATUS_PGOOD d = true) ∧ (s.islState (domIsland d) ≠ 5)) ∧
    (∃ (s : State) (n : Nat), (n < 56) ∧ (n ≠ 50) ∧ (n ≠ 51) ∧ (s.on .SUP_ISL_STATUS_CLK_LOCK n = true) ∧ (s.islState n ≠ 5)) ∧
    (∃ (s : State) (r : Running) (b : Bool), (s.on .SUP_ISL_STATUS_CLK_LOCK 52 = true) ∧ (s.islState 52 ≠ 5) ∧ (s.isl.mgmt = none) ∧ (s.port.running = some r) ∧ (r.opcode = 0x13) ∧ (r.result = none) ∧ (b = (nth r.args 3 == 1))) ∧
    (∃ (s : State) (q : Nat) (n : Nat), (1 ≤ q) ∧ (q ≤ 7) ∧ ((n = 32 + q ∨ (4 * q ≤ n ∧ n ≤ 4 * q + 3))) ∧ (s.on .SUP_ISL_STATUS_CLK_LOCK n = true) ∧ (s.islState n ≠ 5)) ∧
    (∃ (s : State) (n : Nat), (1 ≤ s.phase) ∧ ((n = 32 ∨ n ≤ 3 ∨ (40 ≤ n ∧ n ≤ 49) ∨ (53 ≤ n ∧ n ≤ 55))) ∧ (s.on .SUP_ISL_STATUS_CLK_LOCK n = true) ∧ (s.islState n ≠ 5)) ∧
    (∃ (s : State) (n : Nat), ((n = 50 ∨ n = 51)) ∧ (s.on .SUP_ISL_STATUS_CLK_LOCK n = true)) ∧
    (∃ (s : State), (s.phase = 0)) ∧
    (∃ (s : State) (n : Nat), (s.on .SUP_ISL_STATUS_CLK_LOCK n = false)) ∧
    (∃ (s : State) (d : Nat), (s.on .SUP_DOM_STATUS_PGOOD d = false)) :=
  ⟨⟨p5.setReg .SUP_DOM_STATUS_PGOOD 89 1, 89, by decide +kernel⟩,
    ⟨p5.setReg .SUP_ISL_STATUS_CLK_LOCK 55 1, 55, by decide +kernel⟩,
    ⟨{ p5.setReg .SUP_ISL_STATUS_CLK_LOCK 52 1 with port := { running := some { host := 0, opcode := 0x13, token := 1, since := 0, wait := .dma, args := [0, 0, 6432, 1] } } }, { host := 0, opcode := 0x13, token := 1, since := 0, wait := .dma, args := [0, 0, 6432, 1] }, true, by decide +kernel⟩,
    ⟨p5.setReg .SUP_ISL_STATUS_CLK_LOCK 31 1, 7, 31, by decide +kernel⟩,
    ⟨p5.setReg .SUP_ISL_STATUS_CLK_LOCK 53 1, 53, by decide +kernel⟩,
    ⟨p5.setReg .SUP_ISL_STATUS_CLK_LOCK 51 1, 51, by decide +kernel⟩,
    ⟨State.reset, by decide +kernel⟩,
    ⟨p5, 0, by decide +kernel⟩,
    ⟨p5, 0, by decide +kernel⟩⟩

theorem witness_LostIslandsAreIsolated :
    (∃ (s : State) (n : Nat), (s.isl.isolating.any (fun e => e.1 == n) = true) ∧ (s.islState n = 5) ∧ (s.isl.waking.any (fun e => e.1 == n) = false) ∧ (s.isl.heldRegs.any (fun e => e.1 == n) = false) ∧ (s.com.cur ≠ none)) ∧
    (∃ (s : State) (n : Nat), ((s.isl.isolating.any (fun e => e.1 == n) = false ∨ s.islState n ≠ 5)) ∧ (s.isl.heldRegs.any (fun e => e.1 == n) = false)) :=
  ⟨⟨(p5.updCom (fun m => { m with cur := some { origin := .command, mask := 255, tc := 2000000, phase := .window } })).updIsl (fun i => { i with isolating := [(53, 5)] }) |>.setReg .SUP_ISL_STATUS_STATE 53 5, 53, by decide +kernel⟩,
    ⟨p5, 53, by decide +kernel⟩⟩

theorem witness_IslandsStopWakeAndFence :
    (∃ (s : State) (n : Nat), (mayStop n = true) ∧ ((powerRec s.com.power n).stopOk = true) ∧ (s.running n = true) ∧ (s.fencing n = false) ∧ (s.idle n = true) ∧ (s.isl.waking.any (fun e => e.1 == n) = false)) ∧
    (∃ (s : State) (n : Nat), ((mayStop n = false ∨ (powerRec s.com.power n).stopOk = false ∨ s.running n = false ∨ s.fencing n = true ∨ s.idle n = false))) ∧
    (∃ (s : State) (n : Nat), (s.islState n = 3) ∧ (s.fencing n = false)) ∧
    (∃ (s : State) (n : Nat), (s.islState n = 3) ∧ (s.on .SUP_ISL_STATUS_WAKE_PEND n = true) ∧ (s.isl.waking.any (fun e => e.1 == n) = false) ∧ (s.isl.heldRegs.any (fun e => e.1 == n) = false)) ∧
    (∃ (s : State) (n : Nat), (s.fencing n = true) ∧ (s.drained n = true) ∧ (s.isl.waking.any (fun e => e.1 == n) = false) ∧ (s.isl.heldRegs.any (fun e => e.1 == n) = false)) ∧
    (∃ (s : State) (n : Nat), ((s.fencing n = false ∨ s.drained n = false)) ∧ (s.isl.heldRegs.any (fun e => e.1 == n) = false)) ∧
    (∃ (s : State) (n : Nat) (since : Nat), (s.isl.fences.find? (fun f => f.island == n) = some { island := n, since }) ∧ (s.drained n = false) ∧ (s.isl.waking.any (fun e => e.1 == n) = false) ∧ (s.isl.heldRegs.any (fun e => e.1 == n) = false)) ∧
    (∃ (s : State) (n : Nat), (s.fencing n = false) ∧ (s.isl.heldRegs.any (fun e => e.1 == n) = false)) :=
  ⟨⟨p5.updCom (fun m => { m with power := [{ island := 55, state := 2, stopOk := true }] }), 55, by decide +kernel⟩,
    ⟨p5, 54, by decide +kernel⟩,
    ⟨(p5.setReg .SUP_ISL_STATUS_STATE 39 3), 39, by decide +kernel⟩,
    ⟨(p5.setReg .SUP_ISL_STATUS_STATE 55 3).setReg .SUP_ISL_STATUS_WAKE_PEND 55 1, 55, by decide +kernel⟩,
    ⟨p5.updIsl (fun i => { i with fences := [{ island := 41, since := 5 }] }), 41, by decide +kernel⟩,
    ⟨p5, 0, by decide +kernel⟩,
    ⟨{ p5.updIsl (fun i => { i with fences := [{ island := 40, since := 5 }] }) with tr := { pkts := [{ id := 0, req := { src := .host 0, inPort := 0, kind := .write, addr := 0, len := 4, ts := 0 }, cls := .posted, q := .ingress 0 0 32 0, dest := 32, place := .spine }] } }, 40, 5, by decide +kernel⟩,
    ⟨p5, 0, by decide +kernel⟩⟩

theorem witness_ResetAndResynchronisationOfIslands :
    (∃ (s : State) (n : Nat) (t0 : Nat), (n ≠ 52) ∧ (s.isl.resets.find? (fun e => e.1 == n) = some (n, t0)) ∧ (s.isl.heldRegs.any (fun e => e.1 == n) = false)) ∧
    (∃ (s : State) (t0 : Nat), (s.isl.resets.find? (fun e => e.1 == 52) = some (52, t0)) ∧ (s.isl.heldRegs.any (fun e => e.1 == 52) = false)) ∧
    (∃ (s : State) (n : Nat), (s.isl.resync.contains n = true) ∧ (s.islState n = 4) ∧ (s.mgmtUp = true) ∧ ((n < 32 ∨ 40 ≤ n ∨ s.isl.stale.contains n = false ∨ s.sourceQuad.isSome = true))) ∧
    (∃ (s : State) (m : MgmtRepair), (s.isl.mgmt = some m) ∧ (m.rebuilding = false) ∧ (m.attempts < 3)) ∧
    (∃ (s : State) (m : MgmtRepair), (s.isl.mgmt = some m) ∧ (m.rebuilding = false) ∧ (m.attempts = 3)) ∧
    (∃ (s : State) (m : MgmtRepair), (s.isl.mgmt = some m) ∧ (m.rebuilding = true) ∧ ((s.com.cur ≠ none ∨ (s.com.waiting = none ∧ s.com.hierQ = [] ∧ s.com.redo = [])))) ∧
    (∃ (s : State), (s.isl.mgmt = none)) :=
  ⟨⟨p5.updIsl (fun i => { i with resets := [(55, 9)] }), 55, 9, by decide +kernel⟩,
    ⟨p5.updIsl (fun i => { i with resets := [(52, 9)] }), 9, by decide +kernel⟩,
    ⟨(p5.setReg .SUP_ISL_STATUS_STATE 39 4).updIsl (fun i => { i with resync := [39], stale := [39] }), 39, by decide +kernel⟩,
    ⟨p5.updIsl (fun i => { i with mgmt := some { attempts := 2, rebuilding := false } }), { attempts := 2 }, by decide +kernel⟩,
    ⟨p5.updIsl (fun i => { i with mgmt := some { attempts := 3, rebuilding := false } }), { attempts := 3 }, by decide +kernel⟩,
    ⟨p5.updIsl (fun i => { i with mgmt := some { attempts := 3, rebuilding := true } }), { attempts := 3, rebuilding := true }, by decide +kernel⟩,
    ⟨p5, by decide +kernel⟩⟩

theorem witness_ReplicaErrorsAreCountedAndRepaired :
    (∃ (s : State) (q : Nat) (i : Nat) (k : ItemKind), (q < 8) ∧ (s.running (32 + q) = true) ∧ ((Sparse.get? s.com.active (itemKey k i)).isSome = true)) ∧
    (∃ (s : State) (q : Nat), (q < 8) ∧ (s.running (32 + q) = true)) ∧
    (∃ (s : State) (q : Nat) (i : Nat) (k : ItemKind) (c : Bool) (d : Bool), (8 ≤ q)) :=
  ⟨⟨p5.updCom (fun m => { m with active := [(targetKey 5, 1)] }), 7, 5, .target, by decide +kernel⟩,
    ⟨p5.updCom (fun m => { m with active := [(targetKey 5, 1)] }), 0, by decide +kernel⟩,
    ⟨p5, 8, 0, .entry, true, false, by decide +kernel⟩⟩

theorem witness_CommitsRunToCompletion :
    (∃ (s : State) (c : Commit) (i : Nat), (s.com.cur = some c) ∧ (c.phase = .delivering) ∧ (c.waitAck.contains i = true) ∧ (s.running i = true)) ∧
    (∃ (s : State) (c : Commit) (i : Nat), (s.com.cur = some c) ∧ (c.phase = .delivering) ∧ (c.waitAck.contains i = true) ∧ (s.running i = false) ∧ (s.islState i ≠ 3)) ∧
    (∃ (s : State) (c : Commit) (x : Nat) (b : Nat), (s.com.cur = some c) ∧ (c.phase = .delivering) ∧ (c.waitAck = []) ∧ (s.running 52 = true) ∧ (s.boot.timeBase = some b) ∧ (s.now ≤ b + x) ∧ (x + 500 ≤ c.tc)) ∧
    (∃ (s : State) (c : Commit) (x : Nat) (b : Nat), (s.com.cur = some c) ∧ (c.phase = .delivering) ∧ (c.waitAck = []) ∧ (s.running 52 = true) ∧ (s.boot.timeBase = some b) ∧ (s.now ≤ b + x) ∧ (c.tc < x + 500) ∧ (c.origin = .command) ∧ (s.com.waiting = none) ∧ (s.com.hierQ = []) ∧ (s.com.redo = [])) ∧
    (∃ (s : State) (c : Commit), (s.com.cur = some c) ∧ (c.phase = .confirmed)) ∧
    (∃ (s : State) (c : Commit), (s.com.cur = some c) ∧ (c.phase = .window) ∧ (c.imps = []) ∧ (c.writes = []) ∧ (bit c.mask 4 = false)) ∧
    (∃ (s : State) (c : Commit), (s.com.cur = some c) ∧ (c.phase = .window) ∧ ((c.imps ≠ [] ∨ c.writes ≠ [] ∨ bit c.mask 4 = true))) ∧
    (∃ (s : State) (c : Commit), (s.com.cur = some c) ∧ (c.phase = .writing) ∧ (s.flt.armed = none)) ∧
    (∃ (s : State) (c : Commit), (s.com.cur = some c) ∧ (c.phase = .writing)) ∧
    (∃ (s : State) (c : Commit), (s.com.cur = some c) ∧ (c.phase = .sweeping)) ∧
    (∃ (s : State) (c : Commit), (s.com.cur = some c) ∧ (c.phase = .finished) ∧ (c.origin = .command) ∧ (s.com.waiting = none) ∧ (s.com.hierQ = []) ∧ (s.com.redo = []) ∧ (s.mgmtUp = true)) ∧
    (∃ (s : State) (c : Commit) (mask : Nat) (o : Origin), (s.com.cur = some c) ∧ (c.phase = .finished) ∧ (s.com.waiting = some (mask, o, false)) ∧ (s.mgmtUp = true)) ∧
    (∃ (s : State), (s.com.cur = none)) :=
  ⟨⟨p5.updCom (fun m => { m with cur := some { origin := .command, mask := 255, tc := 2000000, phase := .delivering, waitAck := [32] } }), { origin := .command, mask := 255, tc := 2000000, phase := .delivering, waitAck := [32] }, 32, by decide +kernel⟩,
    ⟨(p5.updCom (fun m => { m with cur := some { origin := .command, mask := 255, tc := 2000000, phase := .delivering, waitAck := [32] } })).setReg .SUP_ISL_STATUS_STATE 32 4, { origin := .command, mask := 255, tc := 2000000, phase := .delivering, waitAck := [32] }, 32, by decide +kernel⟩,
    ⟨p5.updCom (fun m => { m with cur := some { origin := .command, mask := 255, tc := 2000000, phase := .delivering } }), { origin := .command, mask := 255, tc := 2000000, phase := .delivering }, 1999500, 0, by decide +kernel⟩,
    ⟨{ p5.updCom (fun m => { m with cur := some { origin := .command, mask := 255, tc := 2000000, phase := .delivering } }) with port := { running := some { host := 0, opcode := 16, token := 1, args := [], since := 0, wait := .commit } } }, { origin := .command, mask := 255, tc := 2000000, phase := .delivering }, 1999501, 0, by decide +kernel⟩,
    ⟨p5.updCom (fun m => { m with cur := some { origin := .command, mask := 255, tc := 2000000, phase := .confirmed } }), { origin := .command, mask := 255, tc := 2000000, phase := .confirmed }, by decide +kernel⟩,
    ⟨p5.updCom (fun m => { m with cur := some { origin := .command, mask := 15, tc := 2000000, phase := .window } }), { origin := .command, mask := 15, tc := 2000000, phase := .window }, by decide +kernel⟩,
    ⟨p5.updCom (fun m => { m with cur := some { origin := .command, mask := 255, tc := 2000000, phase := .window, imps := [{ key := entryKey 0, val := none }] } }), { origin := .command, mask := 255, tc := 2000000, phase := .window, imps := [{ key := entryKey 0, val := none }] }, by decide +kernel⟩,
    ⟨p5.updCom (fun m => { m with cur := some { origin := .command, mask := 255, tc := 2000000, phase := .writing } }), { origin := .command, mask := 255, tc := 2000000, phase := .writing }, by decide +kernel⟩,
    ⟨p5.updCom (fun m => { m with cur := some { origin := .command, mask := 255, tc := 2000000, phase := .writing } }), { origin := .command, mask := 255, tc := 2000000, phase := .writing }, by decide +kernel⟩,
    ⟨p5.updCom (fun m => { m with cur := some { origin := .command, mask := 255, tc := 2000000, phase := .sweeping } }), { origin := .command, mask := 255, tc := 2000000, phase := .sweeping }, by decide +kernel⟩,
    ⟨{ p5.updCom (fun m => { m with cur := some { origin := .command, mask := 255, tc := 2000000, phase := .finished } }) with port := { running := some { host := 0, opcode := 16, token := 1, args := [], since := 0, wait := .commit } } }, { origin := .command, mask := 255, tc := 2000000, phase := .finished }, by decide +kernel⟩,
    ⟨(p5.updCom (fun m => { m with cur := some { origin := .command, mask := 255, tc := 2000000, phase := .finished } })).updCom (fun m => { m with waiting := some (255, .arb, false) }), { origin := .command, mask := 255, tc := 2000000, phase := .finished }, 255, .arb, by decide +kernel⟩,
    ⟨p5, by decide +kernel⟩⟩

theorem witness_CommitInstantAdvancesTheEpoch :
    (∃ (s : State) (c : Commit), (s.com.cur = some c) ∧ (c.phase = .confirmed) ∧ ((∀ e ∈ c.cells, e.1.fld.scope ≠ 0))) ∧
    (∃ (s : State) (c : Commit), (s.com.cur = some c) ∧ (c.phase = .confirmed) ∧ (c.parts = []) ∧ (c.writes = []) ∧ (c.origin = .command) ∧ ((∀ e ∈ c.cells, e.1.fld.scope ≠ 0)) ∧ ((c.cells.map (·.1)).Nodup)) :=
  ⟨⟨p5.updCom (fun m => { m with cur := some { origin := .command, mask := 255, tc := 2000000, phase := .confirmed, cells := [(⟨.ARB_TICKET_TICKETS, 3⟩, 7)], imps := [{ key := entryKey 0, val := some 1 }] } }), { origin := .command, mask := 255, tc := 2000000, phase := .confirmed, cells := [(⟨.ARB_TICKET_TICKETS, 3⟩, 7)], imps := [{ key := entryKey 0, val := some 1 }] }, by decide +kernel⟩,
    ⟨p5.updCom (fun m => { m with cur := some { origin := .command, mask := 255, tc := 2000000, phase := .confirmed, cells := [(⟨.ARB_TICKET_TICKETS, 3⟩, 7)], imps := [{ key := entryKey 0, val := some 1 }] } }), { origin := .command, mask := 255, tc := 2000000, phase := .confirmed, cells := [(⟨.ARB_TICKET_TICKETS, 3⟩, 7)], imps := [{ key := entryKey 0, val := some 1 }] }, by decide +kernel⟩⟩

theorem witness_AcceptedCommandsShowThemselves :
    ∃ (s : State) (k : Nat) (token : Nat) (op : Nat), (k < 32) ∧ (token < 256) ∧ (op < 256) :=
  ⟨p5, 31, 255, 255, by decide +kernel⟩

theorem witness_RefusedCommandsEndWithTheirCode :
    (∃ (s : State) (k : Nat) (token : Nat) (e : Nat), (s.canIssue k = true) ∧ (s.portFree = true) ∧ (s.refusal k 0x26 (s.argWords k) = some e)) ∧
    (∃ (s : State) (k : Nat) (token : Nat) (e : Nat), (s.canIssue k = true) ∧ (s.portFree = true) ∧ (s.refusal k 0x10 (s.argWords k) = some e)) ∧
    (∃ (s : State) (k : Nat) (token : Nat) (e : Nat), (s.canIssue k = true) ∧ (s.portFree = true) ∧ (s.refusal k 0x50 (s.argWords k) = some e)) ∧
    (∃ (s : State) (k : Nat) (a : List Nat), (s.operator k = false)) ∧
    (∃ (s : State) (k : Nat) (a : List Nat), (s.operator k = true) ∧ (s.halted = false) ∧ (s.holdsLock k = false)) ∧
    (∃ (s : State) (k : Nat) (token : Nat), (s.canIssue k = true) ∧ (s.portFree = false)) :=
  ⟨⟨p5, 1, 1, 3, by decide +kernel⟩,
    ⟨p5, 0, 1, 4, by decide +kernel⟩,
    ⟨(p5).setRegs [(.CMP_ARG_VALUE, 0, 4)], 0, 1, 2, by decide +kernel⟩,
    ⟨p5, 1, [], by decide +kernel⟩,
    ⟨p5, 0, [], by decide +kernel⟩,
    ⟨p5.setReg .CMP_STATUS_BUSY 0 1, 0, 0, by decide +kernel⟩⟩

theorem witness_TheComposingLock :
    (∃ (s : State) (k : Nat) (token : Nat), (k < 32) ∧ (s.accepts k 0x01 = true) ∧ (s.on .CMP_LOCK_HELD = false)) ∧
    (∃ (s : State) (k : Nat) (token : Nat), (s.accepts k 0x01 = true) ∧ (s.holdsLock k = true)) ∧
    (∃ (s : State) (k : Nat) (token : Nat), (s.accepts k 0x01 = true) ∧ (s.on .CMP_LOCK_HELD = true) ∧ (s.holdsLock k = false)) ∧
    (∃ (s : State) (k : Nat) (token : Nat), (s.accepts k 0x02 = true)) ∧
    (∃ (s : State) (k : Nat) (token : Nat), (s.accepts k 0x03 = true) ∧ (s.on .CMP_LOCK_HELD = true) ∧ (s.holdsLock k = false)) ∧
    (∃ (s : State) (k : Nat) (token : Nat), (s.accepts k 0x03 = true) ∧ (s.on .CMP_LOCK_HELD = false)) :=
  ⟨⟨p5.setReg .CMP_LOCK_SEQ 0 65535, 0, 255, by decide +kernel⟩,
    ⟨p5.setReg .CMP_LOCK_HELD 0 1, 0, 1, by decide +kernel⟩,
    ⟨p5.setRegs [(.CMP_LOCK_HELD, 0, 1), (.CMP_LOCK_HOST_INDEX, 0, 7)], 0, 1, by decide +kernel⟩,
    ⟨p5.setReg .CMP_LOCK_HELD 0 1, 0, 1, by decide +kernel⟩,
    ⟨p5.setRegs [(.CMP_LOCK_HELD, 0, 1), (.CMP_LOCK_HOST_INDEX, 0, 7)], 0, 1, by decide +kernel⟩,
    ⟨p5, 0, 1, by decide +kernel⟩⟩

theorem witness_CommitsAndDiscards :
    (∃ (s : State) (k : Nat) (token : Nat) (e : Nat), (s.accepts k 0x10 = true) ∧ ((s.accepted k token 0x10).commitRefusal (nth (s.argWords k) 0) = some e)) ∧
    (∃ (s : State) (k : Nat) (token : Nat) (c : Commit), (s.accepts k 0x10 = true) ∧ ((s.accepted k token 0x10).commitRefusal (nth (s.argWords k) 0) = none) ∧ (s.com.cur = some c)) ∧
    (∃ (s : State) (k : Nat) (token : Nat), (s.accepts k 0x10 = true) ∧ ((s.accepted k token 0x10).commitRefusal (nth (s.argWords k) 0) = none) ∧ (s.com.cur = none)) ∧
    (∃ (s : State) (k : Nat), (k < 32) ∧ (s.operator k = true) ∧ (s.canIssue k = true) ∧ (s.portFree = true) ∧ (s.halted = false) ∧ (s.holdsLock k = true) ∧ (s.com.cur ≠ none) ∧ (({ s with out := [] }.begin_ k 0 0x10 (2 :: List.replicate 31 0)).commitRefusal 2 = none)) ∧
    (∃ (s : State) (k : Nat), (k < 32) ∧ (s.operator k = true) ∧ (s.canIssue k = true) ∧ (s.portFree = true) ∧ (s.halted = false) ∧ (s.holdsLock k = true) ∧ (s.com.cur = none) ∧ (({ s with out := [] }.begin_ k 0 0x10 (2 :: List.replicate 31 0)).commitRefusal 2 = none)) ∧
    (∃ (s : State) (k : Nat) (e : Nat), (s.operator k = true) ∧ (s.canIssue k = true) ∧ (s.portFree = true) ∧ (s.halted = false) ∧ (s.holdsLock k = true) ∧ (({ s with out := [] }.begin_ k 0 0x10 (2 :: List.replicate 31 0)).commitRefusal 2 = some e)) ∧
    (∃ (s : State) (k : Nat), (s.operator k = false) ∧ ((s.canIssue k = false ∨ (s.busy = false ∧ s.mgmtUp = true)))) ∧
    (∃ (s : State) (k : Nat), (s.canIssue k = true) ∧ (s.busy = true)) ∧
    (∃ (s : State) (k : Nat) (token : Nat), (s.accepts k 0x11 = true)) :=
  ⟨⟨((p5.setReg .CMP_LOCK_HELD 0 1).setReg .FLT_STATUS_SAFE_MODE 0 1).setRegs [(.CMP_ARG_VALUE, 0, 16)], 0, 1, 0x0C, by decide +kernel⟩,
    ⟨((p5.setReg .CMP_LOCK_HELD 0 1).updCom (fun m => { m with cur := some { origin := .command, mask := 1, tc := 2000000, phase := .window } })).setRegs [(.CMP_ARG_VALUE, 0, 2)], 0, 1, { origin := .command, mask := 1, tc := 2000000, phase := .window }, by decide +kernel⟩,
    ⟨(p5.setReg .CMP_LOCK_HELD 0 1).setRegs [(.CMP_ARG_VALUE, 0, 2)], 0, 1, by decide +kernel⟩,
    ⟨(p5.setReg .CMP_LOCK_HELD 0 1).updCom (fun m => { m with cur := some { origin := .command, mask := 1, tc := 2000000, phase := .window } }), 0, by decide +kernel⟩,
    ⟨p5.setReg .CMP_LOCK_HELD 0 1, 0, by decide +kernel⟩,
    ⟨(p5.setReg .CMP_LOCK_HELD 0 1).updIsl (fun i => { i with resync := [40] }), 0, 0x0B, by decide +kernel⟩,
    ⟨p5, 1, by decide +kernel⟩,
    ⟨p5.setReg .CMP_STATUS_BUSY 0 1, 1, by decide +kernel⟩,
    ⟨((p5.setReg .CMP_LOCK_HELD 0 1).stage .ARB_TICKET_TICKETS 3 9).setRegs [(.CMP_ARG_VALUE, 0, 253)], 0, 1, by decide +kernel⟩⟩

theorem witness_ImagesAreReadByDma :
    (∃ (s : State) (k : Nat) (token : Nat) (im : Image), (s.accepts k 0x12 = true) ∧ (arg64 (s.argWords k) 0 % 16 ≠ 0)) ∧
    (∃ (s : State) (k : Nat) (token : Nat) (im : Image), (s.accepts k 0x12 = true) ∧ (arg64 (s.argWords k) 0 % 16 = 0) ∧ (20 * 2 ^ 20 < nth (s.argWords k) 2)) ∧
    (∃ (s : State) (k : Nat) (token : Nat) (im : Image), (s.accepts k 0x12 = true) ∧ (arg64 (s.argWords k) 0 % 16 = 0) ∧ (nth (s.argWords k) 2 ≤ 20 * 2 ^ 20) ∧ (s.reg .CMP_DMA_STATUS_STATE k = 2)) ∧
    (∃ (s : State) (k : Nat) (token : Nat) (im : Image), (s.accepts k 0x12 = true) ∧ (arg64 (s.argWords k) 0 % 16 = 0) ∧ (nth (s.argWords k) 2 ≤ 20 * 2 ^ 20) ∧ (s.reg .CMP_DMA_STATUS_STATE k ≠ 2)) ∧
    (∃ (s : State) (k : Nat) (token : Nat) (im : Image), (s.accepts k 0x13 = true) ∧ ((nth (s.argWords k) 3 == 1) = s.boot.runB)) ∧
    (∃ (s : State) (k : Nat) (token : Nat) (im : Image), (s.accepts k 0x13 = true) ∧ ((nth (s.argWords k) 3 == 1) ≠ s.boot.runB) ∧ (40 * 2 ^ 20 < nth (s.argWords k) 2)) ∧
    (∃ (s : State) (k : Nat) (token : Nat) (im : Image), (s.accepts k 0x13 = true) ∧ ((nth (s.argWords k) 3 == 1) ≠ s.boot.runB) ∧ (nth (s.argWords k) 2 ≤ 40 * 2 ^ 20) ∧ (s.reg .CMP_DMA_STATUS_STATE k = 2)) ∧
    (∃ (s : State) (k : Nat) (token : Nat) (im : Image), (s.accepts k 0x13 = true) ∧ ((nth (s.argWords k) 3 == 1) ≠ s.boot.runB) ∧ (nth (s.argWords k) 2 ≤ 40 * 2 ^ 20) ∧ (s.reg .CMP_DMA_STATUS_STATE k ≠ 2)) ∧
    (∃ (s : State) (k : Nat) (token : Nat), (s.accepts k 0x14 = true) ∧ (((s.bank (nth (s.argWords k) 0 == 1)).state = .trial ∨ (s.bank (nth (s.argWords k) 0 == 1)).state = .confirmed))) ∧
    (∃ (s : State) (k : Nat) (token : Nat), (s.accepts k 0x14 = true) ∧ (((s.bank (nth (s.argWords k) 0 == 1)).state = .empty ∨ (s.bank (nth (s.argWords k) 0 == 1)).state = .bad))) ∧
    (∃ (s : State) (k : Nat) (token : Nat) (b : KeyBlob), (s.accepts k 0x38 = true) ∧ (s.reg .CMP_DMA_STATUS_STATE k = 2)) ∧
    (∃ (s : State) (k : Nat) (token : Nat) (b : KeyBlob), (s.accepts k 0x38 = true) ∧ (s.reg .CMP_DMA_STATUS_STATE k ≠ 2)) ∧
    (∃ (s : State) (r : Running) (im : Image), (s.port.running = some r) ∧ (r.wait = .dma) ∧ (r.result = none) ∧ (r.discard = false) ∧ (r.host < 32) ∧ (r.opcode = 0x12) ∧ (r.image = some im) ∧ (s.port.lockDrop = false)) ∧
    (∃ (s : State) (r : Running) (im : Image), (s.port.running = some r) ∧ (r.wait = .dma) ∧ (r.result = none) ∧ (r.discard = false) ∧ (r.host < 32) ∧ (r.opcode = 0x13) ∧ (r.image = some im)) ∧
    (∃ (s : State) (r : Running) (b : KeyBlob) (i : Nat), (s.port.running = some r) ∧ (r.wait = .dma) ∧ (r.result = none) ∧ (r.discard = false) ∧ (r.host < 32) ∧ (r.opcode = 0x38) ∧ (r.image = none) ∧ (r.blob = some b) ∧ (i < 1024) ∧ (nth r.args 0 = i) ∧ (s.reg .BAL_KEY_SLOT_POLICY i = 2) ∧ (s.reg .BAL_KEY_SLOT_STATE i = 0) ∧ (s.part.factoryTest = false) ∧ (s.rngOk = true) ∧ (b.magic = 0x4B444C48) ∧ (b.version = 1) ∧ (b.reservedZero = true) ∧ (b.imprint = i)) :=
  ⟨⟨(p5.setReg .CMP_LOCK_HELD 0 1).setRegs [(.CMP_ARG_VALUE, 0, 8)], 0, 1, forme0, by decide +kernel⟩,
    ⟨(p5.setReg .CMP_LOCK_HELD 0 1).setRegs [(.CMP_ARG_VALUE, 2, 20971521)], 0, 1, forme0, by decide +kernel⟩,
    ⟨((p5.setReg .CMP_LOCK_HELD 0 1).setRegs [(.CMP_ARG_VALUE, 2, 20971520)]).setReg .CMP_DMA_STATUS_STATE 0 2, 0, 1, forme0, by decide +kernel⟩,
    ⟨((p5.setReg .CMP_LOCK_HELD 0 1).setReg .CMP_DMA_STATUS_STATE 0 0).setRegs [(.CMP_ARG_VALUE, 2, 256)], 0, 1, forme0, by decide +kernel⟩,
    ⟨(p5).setRegs [(.CMP_ARG_VALUE, 3, 0)], 0, 1, forme0, by decide +kernel⟩,
    ⟨(p5).setRegs [(.CMP_ARG_VALUE, 3, 1), (.CMP_ARG_VALUE, 2, 41943041)], 0, 1, forme0, by decide +kernel⟩,
    ⟨(p5.setReg .CMP_DMA_STATUS_STATE 0 2).setRegs [(.CMP_ARG_VALUE, 3, 1), (.CMP_ARG_VALUE, 2, 41943040)], 0, 1, forme0, by decide +kernel⟩,
    ⟨(p5.setReg .CMP_DMA_STATUS_STATE 0 0).setRegs [(.CMP_ARG_VALUE, 3, 1), (.CMP_ARG_VALUE, 2, 256)], 0, 1, forme0, by decide +kernel⟩,
    ⟨{ (p5).setRegs [(.CMP_ARG_VALUE, 0, 1)] with flash := { bankB := { state := .trial } } }, 0, 1, by decide +kernel⟩,
    ⟨(p5).setRegs [(.CMP_ARG_VALUE, 0, 1)], 0, 1, by decide +kernel⟩,
    ⟨p5.setReg .CMP_DMA_STATUS_STATE 0 2, 0, 1, { magic := 0x4B444C48, version := 1, imprint := 1023, kexId := 0, nonce := 0, kemCt := 0, wrapped := 0 }, by decide +kernel⟩,
    ⟨p5.setReg .CMP_DMA_STATUS_STATE 0 0, 0, 1, { magic := 0x4B444C48, version := 1, imprint := 1023, kexId := 0, nonce := 0, kemCt := 0, wrapped := 0 }, by decide +kernel⟩,
    ⟨{ p5 with port := { running := some { host := 0, opcode := 0x12, token := 1, since := 0, wait := .dma, args := [0, 0, 6432], image := some formeS } } }, { host := 0, opcode := 0x12, token := 1, since := 0, wait := .dma, args := [0, 0, 6432], image := some formeS }, formeS, by decide +kernel⟩,
    ⟨{ p5 with port := { running := some { host := 0, opcode := 0x13, token := 1, since := 0, wait := .dma, args := [0, 0, 6432, 1], image := some formeS } } }, { host := 0, opcode := 0x13, token := 1, since := 0, wait := .dma, args := [0, 0, 6432, 1], image := some formeS }, formeS, by decide +kernel⟩,
    ⟨{ p5.setRegs [(.BAL_STATUS_RNG_OK, 0, 1), (.BAL_KEY_SLOT_POLICY, 1023, 2)] with port := { running := some { host := 0, opcode := 0x38, token := 1, since := 0, wait := .dma, args := [1023], blob := some { magic := 0x4B444C48, version := 1, imprint := 1023, kexId := 0, nonce := 0, kemCt := 0, wrapped := 0 } } } }, { host := 0, opcode := 0x38, token := 1, since := 0, wait := .dma, args := [1023], blob := some { magic := 0x4B444C48, version := 1, imprint := 1023, kexId := 0, nonce := 0, kemCt := 0, wrapped := 0 } }, { magic := 0x4B444C48, version := 1, imprint := 1023, kexId := 0, nonce := 0, kemCt := 0, wrapped := 0 }, 1023, by decide +kernel⟩⟩

theorem witness_StagingTheImpositionTable :
    (∃ (s : State) (k : Nat) (token : Nat) (o : Nat), (s.accepts k 0x20 = true) ∧ (bits (nth (s.argWords k) 1) 1 0 = o) ∧ ((o = 1 ∨ o = 2)) ∧ (stageable (s.accepted k token 0x20) [{ key := ⟨1, nth (s.argWords k) 0, 0⟩, val := if o = 1 then some (payloadOf (s.argWords k)) else none }] = true) ∧ ((o = 1 → payloadRanges 1 (payloadOf (s.argWords k)) = true)) ∧ (impPolicyOk 1 (nth (s.argWords k) 0) (if o = 1 then payloadOf (s.argWords k) else 0) = true)) ∧
    (∃ (s : State) (k : Nat) (token : Nat) (o : Nat), (s.accepts k 0x21 = true) ∧ (bits (nth (s.argWords k) 1) 1 0 = o) ∧ ((o = 1 ∨ o = 2)) ∧ (stageable (s.accepted k token 0x21) [{ key := ⟨2, nth (s.argWords k) 0, 0⟩, val := if o = 1 then some (payloadOf (s.argWords k)) else none }] = true) ∧ ((o = 1 → payloadRanges 2 (payloadOf (s.argWords k)) = true)) ∧ (impPolicyOk 2 (nth (s.argWords k) 0) (if o = 1 then payloadOf (s.argWords k) else 0) = true)) ∧
    (∃ (s : State) (k : Nat) (token : Nat) (o : Nat), (s.accepts k 0x22 = true) ∧ (bits (nth (s.argWords k) 1) 1 0 = o) ∧ ((o = 1 ∨ o = 2)) ∧ (stageable (s.accepted k token 0x22) [{ key := ⟨3, nth (s.argWords k) 0, 0⟩, val := if o = 1 then some (payloadOf (s.argWords k)) else none }] = true) ∧ ((o = 1 → payloadRanges 3 (payloadOf (s.argWords k)) = true)) ∧ (impPolicyOk 3 (nth (s.argWords k) 0) (if o = 1 then payloadOf (s.argWords k) else 0) = true)) ∧
    (∃ (s : State) (k : Nat) (token : Nat) (o : Nat), (s.accepts k 0x23 = true) ∧ (bits (nth (s.argWords k) 1) 1 0 = o) ∧ ((o = 1 ∨ o = 2)) ∧ ((o = 1 → nth (s.argWords k) 4 ≤ 63 ∨ nth (s.argWords k) 4 = 255)) ∧ (stageable (s.accepted k token 0x23) [{ key := ⟨4, nth (s.argWords k) 0, 0⟩, val := if o = 1 then some (payloadOf (s.argWords k)) else none }] = true) ∧ ((o = 1 → payloadRanges 4 (payloadOf (s.argWords k)) = true)) ∧ (impPolicyOk 4 (nth (s.argWords k) 0) (if o = 1 then payloadOf (s.argWords k) else 0) = true)) ∧
    (∃ (s : State) (k : Nat) (token : Nat), (s.accepts k 0x24 = true) ∧ (4 < bits (nth (s.argWords k) 1) 10 8)) ∧
    (∃ (s : State) (k : Nat) (token : Nat) (o : Nat), (s.accepts k 0x24 = true) ∧ (bits (nth (s.argWords k) 1) 1 0 = o) ∧ ((o = 1 ∨ o = 2)) ∧ (bits (nth (s.argWords k) 1) 10 8 ≤ 4) ∧ (stageable (s.accepted k token 0x24) [{ key := ⟨5, nth (s.argWords k) 0, bits (nth (s.argWords k) 1) 10 8⟩, val := if o = 1 then some (payloadOf (s.argWords k)) else none }, { key := ⟨7, nth (s.argWords k) 0, 0⟩, val := some (nth (s.argWords k) 2) }] = true) ∧ ((o = 1 → payloadRanges 5 (payloadOf (s.argWords k)) = true)) ∧ (impPolicyOk 5 (nth (s.argWords k) 0) (if o = 1 then payloadOf (s.argWords k) else 0) = true)) ∧
    (∃ (s : State) (k : Nat) (token : Nat), (s.accepts k 0x25 = true) ∧ (52 < nth (s.argWords k) 1)) ∧
    (∃ (s : State) (k : Nat) (token : Nat) (l : List ImpChange), (s.accepts k 0x25 = true) ∧ (nth (s.argWords k) 1 ≤ 52) ∧ (nth (s.argWords k) 0 ≠ 4095) ∧ (arg64 (s.argWords k) 2 % 2 ^ (nth (s.argWords k) 1 + 12) = 0) ∧ (s.signedOnly = false) ∧ (¬(32 ≤ nth (s.argWords k) 0 ∧ nth (s.argWords k) 0 ≤ 63)) ∧ (l = ((s.stagedImp.filter (fun e => e.1.typ == 1 && softIndex 1 e.1.index && eValid e.2 && eDomain e.2 == nth (s.argWords k) 0 && decide (arg64 (s.argWords k) 2 ≤ eBase e.2 * 4096) && decide (eBase e.2 * 4096 + 2 ^ (eSize e.2 + 12) ≤ arg64 (s.argWords k) 2 + 2 ^ (nth (s.argWords k) 1 + 12)))).map (fun e => { key := e.1, val := some (e.2 / 2 * 2) }))) ∧ (impCount (addChanges s.com.staged l) ≤ 16384) ∧ (viewOk (s.accepted k token 0x25).portView (applyImp s.com.active (addChanges s.com.staged l)) = true) ∧ ((s.accepted k token 0x25).sealBarsOk (applyImp s.com.active (addChanges s.com.staged l)) = true)) ∧
    (∃ (s : State) (k : Nat) (token : Nat), (s.accepts k 0x26 = true) ∧ (impSpace (bits (nth (s.argWords k) 0) 7 0) ≤ nth (s.argWords k) 1)) ∧
    (∃ (s : State) (k : Nat) (token : Nat) (typ : Nat) (p : Nat), (s.accepts k 0x26 = true) ∧ (bits (nth (s.argWords k) 0) 7 0 = typ) ∧ (1 ≤ typ) ∧ (typ ≤ 4) ∧ (bits (nth (s.argWords k) 0) 18 16 = 0) ∧ (nth (s.argWords k) 1 < impSpace typ) ∧ (p = (Sparse.get? (if bit (nth (s.argWords k) 0) 8 then s.stagedImp else s.com.active) ⟨typ, nth (s.argWords k) 1, 0⟩).getD 0)) ∧
    (∃ (s : State) (k : Nat) (token : Nat) (part : Nat) (p : Nat) (x : Nat) (v : Imp), (s.accepts k 0x26 = true) ∧ (bits (nth (s.argWords k) 0) 7 0 = 5) ∧ (bits (nth (s.argWords k) 0) 18 16 = part) ∧ (part ≤ 4) ∧ (nth (s.argWords k) 1 < 64) ∧ (v = (if bit (nth (s.argWords k) 0) 8 then s.stagedImp else s.com.active)) ∧ (p = (Sparse.get? v ⟨5, nth (s.argWords k) 1, part⟩).getD 0) ∧ (x = (Sparse.get? v ⟨7, nth (s.argWords k) 1, 0⟩).getD 0)) ∧
    (∃ (s : State) (k : Nat) (token : Nat), (s.signedOnly = true) ∧ ((bits (nth (s.argWords k) 1) 1 0 = 1 ∨ bits (nth (s.argWords k) 1) 1 0 = 2))) ∧
    (∃ (s : State) (k : Nat) (token : Nat), (s.accepts k 0x20 = true) ∧ (bits (nth (s.argWords k) 1) 1 0 = 1) ∧ (payloadRanges 1 (payloadOf (s.argWords k)) = false)) ∧
    (∃ (s : State) (k : Nat) (token : Nat), (bits (nth (s.argWords k) 1) 1 0 = 1)) :=
  ⟨⟨(p5.setReg .CMP_LOCK_HELD 0 1).setRegs [(.CMP_ARG_VALUE, 0, 982015), (.CMP_ARG_VALUE, 1, 2)], 0, 1, 2, by decide +kernel⟩,
    ⟨(p5.setReg .CMP_LOCK_HELD 0 1).setRegs [(.CMP_ARG_VALUE, 0, 57343), (.CMP_ARG_VALUE, 1, 1), (.CMP_ARG_VALUE, 4, 2)], 0, 1, 1, by decide +kernel⟩,
    ⟨(p5.setReg .CMP_LOCK_HELD 0 1).setRegs [(.CMP_ARG_VALUE, 0, 4095), (.CMP_ARG_VALUE, 1, 1), (.CMP_ARG_VALUE, 4, 4195329), (.CMP_ARG_VALUE, 5, 4194368)], 0, 1, 1, by decide +kernel⟩,
    ⟨(p5.setReg .CMP_LOCK_HELD 0 1).setRegs [(.CMP_ARG_VALUE, 0, 63), (.CMP_ARG_VALUE, 1, 2)], 0, 1, 2, by decide +kernel⟩,
    ⟨(p5.setReg .CMP_LOCK_HELD 0 1).setRegs [(.CMP_ARG_VALUE, 0, 63), (.CMP_ARG_VALUE, 1, 1281)], 0, 1, by decide +kernel⟩,
    ⟨(p5.setReg .CMP_LOCK_HELD 0 1).setRegs [(.CMP_ARG_VALUE, 0, 63), (.CMP_ARG_VALUE, 1, 1026)], 0, 1, 2, by decide +kernel⟩,
    ⟨(p5.setReg .CMP_LOCK_HELD 0 1).setRegs [(.CMP_ARG_VALUE, 0, 63), (.CMP_ARG_VALUE, 1, 53)], 0, 1, by decide +kernel⟩,
    ⟨(p5.setReg .CMP_LOCK_HELD 0 1).setRegs [(.CMP_ARG_VALUE, 0, 4094), (.CMP_ARG_VALUE, 1, 52)], 0, 1, [], by decide +kernel⟩,
    ⟨(p5.setReg .CMP_LOCK_HELD 0 1).setRegs [(.CMP_ARG_VALUE, 0, 1), (.CMP_ARG_VALUE, 1, 1048576)], 0, 1, by decide +kernel⟩,
    ⟨(p5.setReg .CMP_LOCK_HELD 0 1).setRegs [(.CMP_ARG_VALUE, 0, 257), (.CMP_ARG_VALUE, 1, 1048575)], 0, 1, 1, 0, by decide +kernel⟩,
    ⟨(p5.setReg .CMP_LOCK_HELD 0 1).setRegs [(.CMP_ARG_VALUE, 0, 262149), (.CMP_ARG_VALUE, 1, 63)], 0, 1, 4, 0, 0, [], by decide +kernel⟩,
    ⟨((p5.setReg .CMP_LOCK_HELD 0 1).updBoot (fun b => { b with running := some { forme0 with signedOnly := [true] } })).setRegs [(.CMP_ARG_VALUE, 0, 1), (.CMP_ARG_VALUE, 1, 1)], 0, 1, by decide +kernel⟩,
    ⟨(p5.setReg .CMP_LOCK_HELD 0 1).setRegs [(.CMP_ARG_VALUE, 0, 4095), (.CMP_ARG_VALUE, 1, 1), (.CMP_ARG_VALUE, 4, 434176)], 0, 1, by decide +kernel⟩,
    ⟨(p5.setReg .CMP_LOCK_HELD 0 1).setRegs [(.CMP_ARG_VALUE, 0, 4095), (.CMP_ARG_VALUE, 1, 1), (.CMP_ARG_VALUE, 4, 8192)], 0, 1, by decide +kernel⟩⟩

theorem witness_FillsAndDeviceResets :
    (∃ (s : State) (k : Nat) (token : Nat), (s.accepts k 0x27 = true) ∧ (s.signedOnly = false) ∧ ((nth (s.argWords k) 2 = 0 ∨ 16384 < nth (s.argWords k) 2 ∨ fillCountOf (nth (s.argWords k) 0) < nth (s.argWords k) 1 + nth (s.argWords k) 2))) ∧
    (∃ (s : State) (k : Nat) (token : Nat) (n : Nat), (s.accepts k 0x27 = true) ∧ (s.signedOnly = false) ∧ (n < 8) ∧ (nth (s.argWords k) 0 = 2) ∧ (nth (s.argWords k) 1 = n) ∧ (nth (s.argWords k) 2 = 1) ∧ (nth (s.argWords k) 4 < 2 ^ 17) ∧ (nth (s.argWords k) 4 % 2 ^ 16 ≠ 0)) ∧
    (∃ (s : State) (k : Nat) (token : Nat) (n : Nat) (m : Nat), (s.accepts k 0x27 = true) ∧ (s.signedOnly = false) ∧ (nth (s.argWords k) 0 = 2) ∧ (nth (s.argWords k) 1 = n) ∧ (nth (s.argWords k) 2 = m) ∧ (1 ≤ m) ∧ (n + m ≤ 8) ∧ (nth (s.argWords k) 4 % 2 ^ 16 ≠ 0)) ∧
    (∃ (s : State) (k : Nat) (token : Nat) (q : Nat) (n : Nat) (m : Nat), (s.accepts k 0x27 = true) ∧ (s.signedOnly = false) ∧ (nth (s.argWords k) 0 = q) ∧ (nth (s.argWords k) 1 = n) ∧ (nth (s.argWords k) 2 = m) ∧ (1 ≤ m) ∧ (m ≤ 16384) ∧ (n + m ≤ fillCountOf q)) ∧
    (∃ (s : State) (k : Nat) (token : Nat), (s.accepts k 0x15 = true) ∧ (s.port.resetAt = none)) ∧
    (∃ (s : State) (k : Nat) (token : Nat), (s.accepts k 0x27 = true) ∧ (s.signedOnly = true)) ∧
    (∃ (s : State) (k : Nat) (token : Nat) (r : Running), (k < 32) ∧ (token < 256) ∧ (s.canIssue k = true) ∧ (s.operator k = true) ∧ (s.mgmtUp = true) ∧ (s.busy = true) ∧ (s.port.running = some r) ∧ (s.refusal k 0x15 (s.argWords k) = none) ∧ (r.opcode ≠ 0x12) ∧ (r.opcode ≠ 0x13) ∧ (s.port.resetAt = none)) ∧
    (∃ (s : State) (k : Nat) (token : Nat) (r : Running), (k < 32) ∧ (s.canIssue k = true) ∧ (s.operator k = true) ∧ (s.mgmtUp = true) ∧ (s.busy = true) ∧ (s.port.running = some r) ∧ (s.refusal k 0x15 (s.argWords k) = none) ∧ ((r.opcode = 0x12 ∨ r.opcode = 0x13))) :=
  ⟨⟨(p5.setReg .CMP_LOCK_HELD 0 1).setRegs [(.CMP_ARG_VALUE, 0, 2), (.CMP_ARG_VALUE, 1, 7), (.CMP_ARG_VALUE, 2, 2)], 0, 1, by decide +kernel⟩,
    ⟨(p5.setReg .CMP_LOCK_HELD 0 1).setRegs [(.CMP_ARG_VALUE, 0, 2), (.CMP_ARG_VALUE, 1, 7), (.CMP_ARG_VALUE, 2, 1), (.CMP_ARG_VALUE, 4, 65537)], 0, 1, 7, by decide +kernel⟩,
    ⟨(p5.setReg .CMP_LOCK_HELD 0 1).setRegs [(.CMP_ARG_VALUE, 0, 2), (.CMP_ARG_VALUE, 1, 6), (.CMP_ARG_VALUE, 2, 2), (.CMP_ARG_VALUE, 4, 65537)], 0, 1, 6, 2, by decide +kernel⟩,
    ⟨(p5.setReg .CMP_LOCK_HELD 0 1).setRegs [(.CMP_ARG_VALUE, 0, 2), (.CMP_ARG_VALUE, 1, 6), (.CMP_ARG_VALUE, 2, 2), (.CMP_ARG_VALUE, 4, 65537)], 0, 1, 2, 6, 2, by decide +kernel⟩,
    ⟨p5, 0, 1, by decide +kernel⟩,
    ⟨((p5.setReg .CMP_LOCK_HELD 0 1).updBoot (fun b => { b with running := some { forme0 with signedOnly := [true] } })).setRegs [(.CMP_ARG_VALUE, 0, 2), (.CMP_ARG_VALUE, 1, 7), (.CMP_ARG_VALUE, 2, 1)], 0, 1, by decide +kernel⟩,
    ⟨{ p5.setReg .CMP_STATUS_BUSY 0 1 with port := { running := some { host := 0, opcode := 0x10, token := 1, since := 0, wait := .dma, args := [] } } }, 0, 255, { host := 0, opcode := 0x10, token := 1, since := 0, wait := .dma, args := [] }, by decide +kernel⟩,
    ⟨{ p5.setReg .CMP_STATUS_BUSY 0 1 with port := { running := some { host := 0, opcode := 0x13, token := 1, since := 0, wait := .dma, args := [] } } }, 0, 1, { host := 0, opcode := 0x13, token := 1, since := 0, wait := .dma, args := [] }, by decide +kernel⟩⟩

theorem witness_LeasesOfPoolMemory :
    (∃ (s : State) (k : Nat) (token : Nat) (e : Nat), (s.accepts k 0x30 = true) ∧ (bits (nth (s.argWords k) 1) 22 16 ≠ 0) ∧ (bits (nth (s.argWords k) 1) 22 16 ≤ 64) ∧ ((s.accepted k token 0x30).leaseRefusal (bits (nth (s.argWords k) 0) 9 0) (bits (nth (s.argWords k) 0) 20 16) (bits (nth (s.argWords k) 1) 9 0) (bits (nth (s.argWords k) 1) 22 16) = some e)) ∧
    (∃ (s : State) (k : Nat) (token : Nat) (c : Commit), (s.accepts k 0x30 = true) ∧ (bits (nth (s.argWords k) 1) 22 16 ≠ 0) ∧ (bits (nth (s.argWords k) 1) 22 16 ≤ 64) ∧ (s.com.cur = some c) ∧ ((s.accepted k token 0x30).leaseRefusal (bits (nth (s.argWords k) 0) 9 0) (bits (nth (s.argWords k) 0) 20 16) (bits (nth (s.argWords k) 1) 9 0) (bits (nth (s.argWords k) 1) 22 16) = none)) ∧
    (∃ (s : State) (k : Nat) (token : Nat), (s.accepts k 0x30 = true) ∧ ((bits (nth (s.argWords k) 1) 22 16 = 0 ∨ 64 < bits (nth (s.argWords k) 1) 22 16))) ∧
    (∃ (s : State) (k : Nat) (token : Nat), (s.accepts k 0x30 = true) ∧ (bits (nth (s.argWords k) 1) 22 16 ≠ 0) ∧ (bits (nth (s.argWords k) 1) 22 16 ≤ 64) ∧ (s.com.cur = none) ∧ ((s.accepted k token 0x30).leaseRefusal (bits (nth (s.argWords k) 0) 9 0) (bits (nth (s.argWords k) 0) 20 16) (bits (nth (s.argWords k) 1) 9 0) (bits (nth (s.argWords k) 1) 22 16) = none)) ∧
    (∃ (s : State) (k : Nat) (token : Nat), (s.accepts k 0x31 = true) ∧ (s.namedLease false (nth (s.argWords k) 0) = none)) ∧
    (∃ (s : State) (k : Nat) (token : Nat) (l : Lease) (c : Commit), (s.accepts k 0x31 = true) ∧ (s.namedLease false (nth (s.argWords k) 0) = some l) ∧ (s.resyncing 1 = false) ∧ (s.com.cur = some c)) ∧
    (∃ (s : State) (k : Nat) (token : Nat) (l : Lease), (s.accepts k 0x31 = true) ∧ (s.namedLease false (nth (s.argWords k) 0) = some l) ∧ (s.resyncing 1 = true)) ∧
    (∃ (s : State) (k : Nat) (token : Nat), (s.accepts k 0x32 = true) ∧ (s.namedLease (bit (nth (s.argWords k) 0) 16) (bits (nth (s.argWords k) 0) 9 0) = none)) ∧
    (∃ (s : State) (k : Nat) (token : Nat) (l : Lease), (s.accepts k 0x32 = true) ∧ (s.namedLease (bit (nth (s.argWords k) 0) 16) (bits (nth (s.argWords k) 0) 9 0) = some l)) :=
  ⟨⟨(p5).setRegs [(.CMP_ARG_VALUE, 0, 5), (.CMP_ARG_VALUE, 1, 65536)], 0, 1, 0x20, by decide +kernel⟩,
    ⟨(((({ p5 with regs := [(⟨.SUP_COL_PHASE_PHASE, 0⟩, 5), (⟨.SUP_ISL_STATUS_STATE, 52⟩, 2), (⟨.TILE_PORT_STATUS_LINK_UP, 0⟩, 1)] } : State).updBoot (fun b => { b with running := some { forme0 with ports := forme0.ports.map (fun r => if r.hostIndex == 0 then { r with bar2Log2 := 28 } else r) } })).setReg .BAL_KEY_SLOT_STATE 5 1).updCom (fun m => { m with cur := some { origin := .command, mask := 1, tc := 2000000, phase := .window } })).setRegs [(.CMP_ARG_VALUE, 0, 5), (.CMP_ARG_VALUE, 1, 65536)], 0, 1, { origin := .command, mask := 1, tc := 2000000, phase := .window }, by decide +kernel⟩,
    ⟨(p5).setRegs [(.CMP_ARG_VALUE, 0, 5), (.CMP_ARG_VALUE, 1, 4259840)], 0, 1, by decide +kernel⟩,
    ⟨((({ p5 with regs := [(⟨.SUP_COL_PHASE_PHASE, 0⟩, 5), (⟨.SUP_ISL_STATUS_STATE, 52⟩, 2), (⟨.TILE_PORT_STATUS_LINK_UP, 0⟩, 1)] } : State).updBoot (fun b => { b with running := some { forme0 with ports := forme0.ports.map (fun r => if r.hostIndex == 0 then { r with bar2Log2 := 28 } else r) } })).setReg .BAL_KEY_SLOT_STATE 5 1).setRegs [(.CMP_ARG_VALUE, 0, 5), (.CMP_ARG_VALUE, 1, 65536)], 0, 1, by decide +kernel⟩,
    ⟨(p5).setRegs [(.CMP_ARG_VALUE, 0, 5)], 0, 1, by decide +kernel⟩,
    ⟨(({ p5 with pool := { leases := [{ handle := 9, imprint := 5, host := 0, slot := 0, count := 1, epoch := 1, readOnly := false, sub := 0, gen := 1, sheets := [9], live := true }] } }).updCom (fun m => { m with cur := some { origin := .command, mask := 1, tc := 2000000, phase := .window } })).setRegs [(.CMP_ARG_VALUE, 0, 9)], 0, 1, { handle := 9, imprint := 5, host := 0, slot := 0, count := 1, epoch := 1, readOnly := false, sub := 0, gen := 1, sheets := [9], live := true }, { origin := .command, mask := 1, tc := 2000000, phase := .window }, by decide +kernel⟩,
    ⟨(({ p5 with pool := { leases := [{ handle := 9, imprint := 5, host := 0, slot := 0, count := 1, epoch := 1, readOnly := false, sub := 0, gen := 1, sheets := [9], live := true }] } }).updIsl (fun i => { i with resync := [32] })).setRegs [(.CMP_ARG_VALUE, 0, 9)], 0, 1, { handle := 9, imprint := 5, host := 0, slot := 0, count := 1, epoch := 1, readOnly := false, sub := 0, gen := 1, sheets := [9], live := true }, by decide +kernel⟩,
    ⟨(p5).setRegs [(.CMP_ARG_VALUE, 0, 9)], 0, 1, by decide +kernel⟩,
    ⟨({ p5 with pool := { leases := [{ handle := 9, imprint := 5, host := 0, slot := 0, count := 1, epoch := 1, readOnly := false, sub := 0, gen := 1, sheets := [9], live := true }] } }).setRegs [(.CMP_ARG_VALUE, 0, 65545)], 0, 1, { handle := 9, imprint := 5, host := 0, slot := 0, count := 1, epoch := 1, readOnly := false, sub := 0, gen := 1, sheets := [9], live := true }, by decide +kernel⟩⟩

theorem witness_OwnerKeysAreRevokedAndQueried :
    (∃ (s : State) (k : Nat) (token : Nat) (c : Commit), (nth (s.argWords k) 0 < 1024) ∧ (s.accepts k 0x39 = true) ∧ (s.reg .BAL_KEY_SLOT_STATE (nth (s.argWords k) 0) = 1) ∧ (s.com.cur = some c)) ∧
    (∃ (s : State) (k : Nat) (token : Nat), (nth (s.argWords k) 0 < 1024) ∧ (s.accepts k 0x39 = true) ∧ (s.reg .BAL_KEY_SLOT_STATE (nth (s.argWords k) 0) = 1) ∧ (s.com.cur = none)) ∧
    (∃ (s : State) (k : Nat) (token : Nat), (s.accepts k 0x39 = true) ∧ (s.reg .BAL_KEY_SLOT_STATE (nth (s.argWords k) 0) = 2)) ∧
    (∃ (s : State) (k : Nat) (token : Nat), (s.accepts k 0x39 = true) ∧ ((s.reg .BAL_KEY_SLOT_STATE (nth (s.argWords k) 0) = 0 ∨ s.reg .BAL_KEY_SLOT_STATE (nth (s.argWords k) 0) = 3))) ∧
    (∃ (s : State) (k : Nat) (token : Nat), (s.accepts k 0x3A = true)) :=
  ⟨⟨((p5.setReg .BAL_KEY_SLOT_STATE 1023 1).updCom (fun m => { m with cur := some { origin := .command, mask := 1, tc := 2000000, phase := .window } })).setRegs [(.CMP_ARG_VALUE, 0, 1023)], 0, 1, { origin := .command, mask := 1, tc := 2000000, phase := .window }, by decide +kernel⟩,
    ⟨(p5.setReg .BAL_KEY_SLOT_STATE 1023 1).setRegs [(.CMP_ARG_VALUE, 0, 1023)], 0, 1, by decide +kernel⟩,
    ⟨(p5.setReg .BAL_KEY_SLOT_STATE 1023 2).setRegs [(.CMP_ARG_VALUE, 0, 1023)], 0, 1, by decide +kernel⟩,
    ⟨(p5).setRegs [(.CMP_ARG_VALUE, 0, 1023)], 0, 1, by decide +kernel⟩,
    ⟨(p5).setRegs [(.CMP_ARG_VALUE, 0, 1023)], 0, 1, by decide +kernel⟩⟩

theorem witness_IslandCommands :
    (∃ (s : State) (k : Nat) (token : Nat), (s.accepts k 0x40 = true) ∧ ((55 < nth (s.argWords k) 0 ∨ nth (s.argWords k) 0 = 50 ∨ nth (s.argWords k) 0 = 51 ∨ nth (s.argWords k) 0 = 52))) ∧
    (∃ (s : State) (k : Nat) (token : Nat) (n : Nat), (s.accepts k 0x40 = true) ∧ (nth (s.argWords k) 0 = n) ∧ (n < 56) ∧ (n ≠ 50) ∧ (n ≠ 51) ∧ (n ≠ 52) ∧ ((s.islState n = 2 ∨ s.islState n = 3)) ∧ (s.fencing n = false) ∧ (s.com.cur ≠ none)) ∧
    (∃ (s : State) (k : Nat) (token : Nat) (n : Nat), (s.accepts k 0x40 = true) ∧ (nth (s.argWords k) 0 = n) ∧ (n < 56) ∧ (n ≠ 50) ∧ (n ≠ 51) ∧ (n ≠ 52) ∧ (s.fencing n = true)) ∧
    (∃ (s : State) (k : Nat) (token : Nat) (n : Nat), (s.accepts k 0x41 = true) ∧ (nth (s.argWords k) 0 = n) ∧ (n ≤ 55) ∧ ((s.islState n = 2 ∨ s.islState n = 3))) ∧
    (∃ (s : State) (k : Nat) (token : Nat) (n : Nat), (s.accepts k 0x41 = true) ∧ (nth (s.argWords k) 0 = n) ∧ (n ≤ 55) ∧ (s.islState n = 4) ∧ ((∀ p ∈ s.port.proofs, p.typ = 5 → 32 + p.target ≠ n)) ∧ ((32 ≤ n → n ≤ 41 → s.rngOk = true))) ∧
    (∃ (s : State) (k : Nat) (token : Nat) (n : Nat), (s.accepts k 0x41 = true) ∧ (nth (s.argWords k) 0 = n) ∧ ((n ≤ 55 ∧ n ≠ 52 ∧ (s.islState n = 0 ∨ s.islState n = 1 ∨ s.islState n = 5)))) ∧
    (∃ (s : State) (k : Nat) (token : Nat), (s.accepts k 0x42 = true) ∧ ((setBits 56 (arg64 (s.argWords k) 0) = [] ∨ (∃ n ∈ setBits 56 (arg64 (s.argWords k) 0), 50 ≤ n ∧ n ≤ 52)))) ∧
    (∃ (s : State) (k : Nat) (token : Nat) (n : Nat), (s.accepts k 0x42 = true) ∧ ((n < 50 ∨ 52 < n)) ∧ (setBits 56 (arg64 (s.argWords k) 0) = [n]) ∧ (s.islState n = 4)) ∧
    (∃ (s : State) (k : Nat) (token : Nat) (n : Nat) (p : Nat), (s.accepts k 0x42 = true) ∧ ((n < 50 ∨ 52 < n)) ∧ (setBits 56 (arg64 (s.argWords k) 0) = [n]) ∧ (s.islState n = 2) ∧ ((partners n).contains p = true) ∧ (p ≠ n) ∧ (s.islState p ≠ 0) ∧ (s.islState p ≠ 5)) ∧
    (∃ (s : State) (k : Nat) (token : Nat), (s.accepts k 0x43 = true) ∧ ((bits (nth (s.argWords k) 0) 6 0 = 86 ∨ 89 < bits (nth (s.argWords k) 0) 6 0))) ∧
    (∃ (s : State) (k : Nat) (token : Nat) (d : Nat), (s.accepts k 0x43 = true) ∧ (bits (nth (s.argWords k) 0) 6 0 = d) ∧ (d < 90) ∧ (d ≠ 86) ∧ (bit (nth (s.argWords k) 0) 8 = true) ∧ (s.on .SUP_DOM_STATUS_PGOOD d = false)) ∧
    (∃ (s : State) (k : Nat) (token : Nat) (d : Nat), (s.accepts k 0x43 = true) ∧ (bits (nth (s.argWords k) 0) 6 0 = d) ∧ (d < 90) ∧ (d ≠ 86) ∧ (bit (nth (s.argWords k) 0) 8 = false) ∧ (s.islState (domIsland d) = 4) ∧ (s.on .SUP_DOM_STATUS_ON d = true)) ∧
    (∃ (s : State) (k : Nat) (token : Nat) (d : Nat), (s.accepts k 0x43 = true) ∧ (bits (nth (s.argWords k) 0) 6 0 = d) ∧ (d < 90) ∧ (d ≠ 86) ∧ (bit (nth (s.argWords k) 0) 8 = false) ∧ (32 ≤ domIsland d) ∧ (domIsland d ≠ 52) ∧ (s.islState (domIsland d) = 2)) :=
  ⟨⟨(p5).setRegs [(.CMP_ARG_VALUE, 0, 52)], 0, 1, by decide +kernel⟩,
    ⟨((p5).updCom (fun m => { m with cur := some { origin := .command, mask := 1, tc := 2000000, phase := .window } })).setRegs [(.CMP_ARG_VALUE, 0, 49)], 0, 1, 49, by decide +kernel⟩,
    ⟨(p5.updIsl (fun i => { i with fences := [{ island := 55, since := 0 }] })).setRegs [(.CMP_ARG_VALUE, 0, 55)], 0, 1, 55, by decide +kernel⟩,
    ⟨(p5.setReg .SUP_ISL_STATUS_STATE 55 3).setRegs [(.CMP_ARG_VALUE, 0, 55)], 0, 1, 55, by decide +kernel⟩,
    ⟨(p5.setReg .SUP_ISL_STATUS_STATE 31 4).setRegs [(.CMP_ARG_VALUE, 0, 31)], 0, 1, 31, by decide +kernel⟩,
    ⟨(p5.setReg .SUP_ISL_STATUS_STATE 31 5).setRegs [(.CMP_ARG_VALUE, 0, 31)], 0, 1, 31, by decide +kernel⟩,
    ⟨p5, 0, 1, by decide +kernel⟩,
    ⟨(p5.setReg .SUP_ISL_STATUS_STATE 49 4).setRegs [(.CMP_ARG_VALUE, 1, 131072)], 0, 1, 49, by decide +kernel⟩,
    ⟨(p5).setRegs [(.CMP_ARG_VALUE, 0, 1)], 0, 1, 0, 32, by decide +kernel⟩,
    ⟨(p5).setRegs [(.CMP_ARG_VALUE, 0, 86)], 0, 1, by decide +kernel⟩,
    ⟨(p5).setRegs [(.CMP_ARG_VALUE, 0, 341)], 0, 1, 85, by decide +kernel⟩,
    ⟨((p5.setReg .SUP_ISL_STATUS_STATE 0 4).setRegs [(.SUP_DOM_STATUS_ON, 0, 1), (.SUP_DOM_STATUS_ON, 32, 1)]).setRegs [(.CMP_ARG_VALUE, 0, 0)], 0, 1, 0, by decide +kernel⟩,
    ⟨(p5).setRegs [(.CMP_ARG_VALUE, 0, 89)], 0, 1, 89, by decide +kernel⟩⟩

theorem witness_LinksContainmentAndProofs :
    (∃ (s : State) (k : Nat) (token : Nat), (s.accepts k 0x48 = true) ∧ (s.role (bits (nth (s.argWords k) 0) 6 0) ≠ 3)) ∧
    (∃ (s : State) (k : Nat) (token : Nat) (p : Nat), (s.accepts k 0x48 = true) ∧ (bits (nth (s.argWords k) 0) 6 0 = p) ∧ (s.role p = 3) ∧ (widthCode (popCount 16 (nth (s.argWords k) 1)) ≠ 0) ∧ (nth (s.argWords k) 1 < 2 ^ (s.lanes p).length) ∧ (s.fabActive p = false)) ∧
    (∃ (s : State) (k : Nat) (token : Nat) (p : Nat), (s.accepts k 0x48 = true) ∧ (bits (nth (s.argWords k) 0) 6 0 = p) ∧ (bit (nth (s.argWords k) 0) 8 = false) ∧ (widthCode (popCount 16 (nth (s.argWords k) 1)) ≠ 0) ∧ (nth (s.argWords k) 1 < 2 ^ (s.lanes p).length) ∧ (s.fabActive p = true) ∧ ((s.dlink p).chTx.isSome = true)) ∧
    (∃ (s : State) (k : Nat) (token : Nat) (p : Nat) (m : Nat), (s.accepts k 0x48 = true) ∧ (bits (nth (s.argWords k) 0) 6 0 = p) ∧ (p < 128) ∧ (bit (nth (s.argWords k) 0) 8 = false) ∧ (nth (s.argWords k) 1 = m) ∧ (widthCode (popCount 16 m) ≠ 0) ∧ (m < 2 ^ (s.lanes p).length) ∧ (m < 2 ^ 16) ∧ (s.fabActive p = true) ∧ ((s.dlink p).chTx = none) ∧ (m &&& s.reg .TILE_DL_MASK_TX_MASK (p / 4) = m)) ∧
    (∃ (s : State) (k : Nat) (token : Nat) (p : Nat) (m : Nat), (s.accepts k 0x48 = true) ∧ (bits (nth (s.argWords k) 0) 6 0 = p) ∧ (p < 128) ∧ (bit (nth (s.argWords k) 0) 8 = false) ∧ (nth (s.argWords k) 1 = m) ∧ (widthCode (popCount 16 m) ≠ 0) ∧ (m < 2 ^ (s.lanes p).length) ∧ (s.fabActive p = true) ∧ ((s.dlink p).chTx = none) ∧ (m &&& s.reg .TILE_DL_MASK_TX_MASK (p / 4) ≠ m)) ∧
    (∃ (s : State) (k : Nat) (token : Nat) (p : Nat) (m : Nat), (s.accepts k 0x48 = true) ∧ (bits (nth (s.argWords k) 0) 6 0 = p) ∧ (p < 128) ∧ (bit (nth (s.argWords k) 0) 8 = true) ∧ (nth (s.argWords k) 1 = m) ∧ (widthCode (popCount 16 m) ≠ 0) ∧ (m < 2 ^ (s.lanes p).length) ∧ (s.fabActive p = true) ∧ ((s.dlink p).chRx = none)) ∧
    (∃ (s : State) (k : Nat) (token : Nat), (s.accepts k 0x50 = true) ∧ (s.scopeOk (nth (s.argWords k) 0) (nth (s.argWords k) 1) = false)) ∧
    (∃ (s : State) (k : Nat) (token : Nat) (i : Nat), (s.accepts k 0x50 = true) ∧ (nth (s.argWords k) 0 = 2) ∧ (nth (s.argWords k) 1 = i) ∧ (i < 1024)) ∧
    (∃ (s : State) (k : Nat) (token : Nat) (i : Nat), (s.accepts k 0x51 = true) ∧ (nth (s.argWords k) 0 = 2) ∧ (nth (s.argWords k) 1 = i) ∧ (i < 1024) ∧ (s.flt.causes.any (fun c => c.kind == 2 && c.scope == i) = false)) ∧
    (∃ (s : State) (k : Nat) (token : Nat), (s.accepts k 0x51 = true) ∧ (s.scopeOk (nth (s.argWords k) 0) (nth (s.argWords k) 1) = false)) ∧
    (∃ (s : State) (k : Nat) (token : Nat), (s.accepts k 0x51 = true) ∧ (s.scopeOk (nth (s.argWords k) 0) (nth (s.argWords k) 1) = true) ∧ (s.flt.causes.any (fun c => c.kind == nth (s.argWords k) 0 && c.scope == nth (s.argWords k) 1) = true)) ∧
    (∃ (s : State) (k : Nat) (token : Nat) (h : Nat), (k < 32) ∧ (s.accepts k 0x58 = true) ∧ (nth (s.argWords k) 0 = 6) ∧ (nth (s.argWords k) 1 < 8) ∧ (nth (s.argWords k) 2 = 0) ∧ ((List.range 8).find? (fun i => s.reg .CMP_PROOF_STATE i == 0) = some h)) ∧
    (∃ (s : State) (k : Nat) (token : Nat) (h : Nat) (a : Nat) (n : Nat), (k < 32) ∧ (s.accepts k 0x58 = true) ∧ (nth (s.argWords k) 0 = 2) ∧ (nth (s.argWords k) 1 = a) ∧ (nth (s.argWords k) 2 = n) ∧ (1 ≤ n) ∧ (a + n ≤ 1024) ∧ ((∀ i, i < 1024 → a ≤ i → i < a + n → s.reg .MEM_SHEET_STATE i = 0)) ∧ ((List.range 8).find? (fun i => s.reg .CMP_PROOF_STATE i == 0) = some h)) ∧
    (∃ (s : State) (k : Nat) (token : Nat), (s.accepts k 0x58 = true) ∧ (s.proofArgs (nth (s.argWords k) 0) (nth (s.argWords k) 1) (nth (s.argWords k) 2) = true) ∧ ((List.range 8).any (fun i => s.reg .CMP_PROOF_STATE i == 0) = true) ∧ (s.proofBlocked (nth (s.argWords k) 0) (nth (s.argWords k) 1) (nth (s.argWords k) 2) = true)) ∧
    (∃ (s : State) (k : Nat) (token : Nat) (h : Nat), (s.accepts k 0x59 = true) ∧ (nth (s.argWords k) 0 = h) ∧ (s.reg .CMP_PROOF_STATE h = 1) ∧ (s.port.proofs.any (fun p => p.handle == h) = true)) ∧
    (∃ (s : State) (k : Nat) (token : Nat) (h : Nat), (s.accepts k 0x59 = true) ∧ (nth (s.argWords k) 0 = h) ∧ (s.reg .CMP_PROOF_STATE h = 2)) ∧
    (∃ (s : State) (h : Nat) (fail : Bool) (rows : List (Nat × Nat × Nat)) (p : Proof), (s.port.proofs.find? (fun p => p.handle == h) = some p) ∧ (p.typ ≠ 1)) ∧
    (∃ (s : State) (h : Nat) (fail : Bool) (rows : List (Nat × Nat × Nat)) (p : Proof), (s.port.proofs.find? (fun p => p.handle == h) = some p) ∧ (p.typ = 1)) :=
  ⟨⟨(p5).setRegs [(.CMP_ARG_VALUE, 0, 4), (.CMP_ARG_VALUE, 1, 1)], 0, 1, by decide +kernel⟩,
    ⟨(p5).setRegs [(.CMP_ARG_VALUE, 0, 16), (.CMP_ARG_VALUE, 1, 255)], 0, 1, 16, by decide +kernel⟩,
    ⟨((p5.setRegs [(.TILE_DL_STATUS_STATE, 4, 5), (.TILE_DL_MASK_TX_MASK, 4, 255), (.TILE_DL_MASK_RX_MASK, 4, 255)]).updDlink 16 (fun d => { d with chTx := some { mask := 3, widening := true, since := 0, byCommand := true } })).setRegs [(.CMP_ARG_VALUE, 0, 16), (.CMP_ARG_VALUE, 1, 15)], 0, 1, 16, by decide +kernel⟩,
    ⟨(p5.setRegs [(.TILE_DL_STATUS_STATE, 4, 5), (.TILE_DL_MASK_TX_MASK, 4, 255), (.TILE_DL_MASK_RX_MASK, 4, 255)]).setRegs [(.CMP_ARG_VALUE, 0, 16), (.CMP_ARG_VALUE, 1, 15)], 0, 1, 16, 15, by decide +kernel⟩,
    ⟨(p5.setRegs [(.TILE_DL_STATUS_STATE, 4, 5), (.TILE_DL_MASK_TX_MASK, 4, 15), (.TILE_DL_MASK_RX_MASK, 4, 15)]).setRegs [(.CMP_ARG_VALUE, 0, 16), (.CMP_ARG_VALUE, 1, 255)], 0, 1, 16, 255, by decide +kernel⟩,
    ⟨(p5.setRegs [(.TILE_DL_STATUS_STATE, 4, 5), (.TILE_DL_MASK_TX_MASK, 4, 255), (.TILE_DL_MASK_RX_MASK, 4, 255)]).setRegs [(.CMP_ARG_VALUE, 0, 272), (.CMP_ARG_VALUE, 1, 15)], 0, 1, 16, 15, by decide +kernel⟩,
    ⟨(p5).setRegs [(.CMP_ARG_VALUE, 0, 1), (.CMP_ARG_VALUE, 1, 5)], 0, 1, by decide +kernel⟩,
    ⟨(p5).setRegs [(.CMP_ARG_VALUE, 0, 2), (.CMP_ARG_VALUE, 1, 1023)], 0, 1, 1023, by decide +kernel⟩,
    ⟨(p5.contain 2 1023).setRegs [(.CMP_ARG_VALUE, 0, 2), (.CMP_ARG_VALUE, 1, 1023)], 0, 1, 1023, by decide +kernel⟩,
    ⟨(p5).setRegs [(.CMP_ARG_VALUE, 0, 1), (.CMP_ARG_VALUE, 1, 5)], 0, 1, by decide +kernel⟩,
    ⟨(p5.causeOn 0x2A 2 1023).setRegs [(.CMP_ARG_VALUE, 0, 2), (.CMP_ARG_VALUE, 1, 1023)], 0, 1, by decide +kernel⟩,
    ⟨(p5).setRegs [(.CMP_ARG_VALUE, 0, 6), (.CMP_ARG_VALUE, 1, 7)], 0, 1, 0, by decide +kernel⟩,
    ⟨(p5).setRegs [(.CMP_ARG_VALUE, 0, 2), (.CMP_ARG_VALUE, 1, 1023), (.CMP_ARG_VALUE, 2, 1)], 0, 1, 0, 1023, 1, by decide +kernel⟩,
    ⟨(p5).setRegs [(.CMP_ARG_VALUE, 0, 1), (.CMP_ARG_VALUE, 1, 0), (.CMP_ARG_VALUE, 2, 1)], 0, 1, by decide +kernel⟩,
    ⟨(({ p5 with port := { proofs := [{ handle := 7, typ := 6, target := 0, param := 0 }] } } : State).setReg .CMP_PROOF_STATE 7 1).setRegs [(.CMP_ARG_VALUE, 0, 7)], 0, 1, 7, by decide +kernel⟩,
    ⟨(p5.setReg .CMP_PROOF_STATE 7 2).setRegs [(.CMP_ARG_VALUE, 0, 7)], 0, 1, 7, by decide +kernel⟩,
    ⟨{ p5 with port := { proofs := [{ handle := 7, typ := 6, target := 0, param := 0 }] } }, 7, true, [], { handle := 7, typ := 6, target := 0, param := 0 }, by decide +kernel⟩,
    ⟨{ p5 with port := { proofs := [{ handle := 7, typ := 1, target := 0, param := 1 }] } }, 7, true, [], { handle := 7, typ := 1, target := 0, param := 1 }, by decide +kernel⟩⟩

theorem witness_CommandsEnd :
    (∃ (s : State) (r : Running) (code : Nat) (ret : List Nat), (s.port.running = some r) ∧ (r.result = some (code, ret)) ∧ (r.discard = false) ∧ (r.host < 32) ∧ (code < 256) ∧ (r.opcode < 256) ∧ (r.token < 256) ∧ ((∀ x ∈ ret, x < 2 ^ 32)) ∧ (s.port.lockDrop = false) ∧ (s.on .CMP_STATUS_RESET_PEND = false) ∧ (s.com.cur = none) ∧ (s.com.waiting = none) ∧ (s.com.hierQ = []) ∧ (s.com.redo = []) ∧ (s.mgmtUp = true)) ∧
    (∃ (s : State) (r : Running) (code : Nat) (ret : List Nat), (s.port.running = some r) ∧ (r.result = some (code, ret)) ∧ (r.discard = true) ∧ (s.port.lockDrop = false) ∧ (s.on .CMP_STATUS_RESET_PEND = false) ∧ (s.com.cur = none) ∧ (s.com.waiting = none) ∧ (s.com.hierQ = []) ∧ (s.com.redo = []) ∧ (s.mgmtUp = true)) ∧
    (∃ (s : State), (s.port.running = none)) ∧
    (∃ (s : State) (r : Running), (s.port.running = some r) ∧ (r.result = none) ∧ (r.wait ≠ .dma)) :=
  ⟨⟨{ p5.setReg .CMP_STATUS_BUSY 0 1 with port := { running := some { host := 31, opcode := 255, token := 255, args := [], since := 0, discard := false, result := some (255, [1, 4294967295]) } } }, { host := 31, opcode := 255, token := 255, args := [], since := 0, discard := false, result := some (255, [1, 4294967295]) }, 255, [1, 4294967295], by decide +kernel⟩,
    ⟨{ p5.setReg .CMP_STATUS_BUSY 0 1 with port := { running := some { host := 31, opcode := 255, token := 255, args := [], since := 0, discard := true, result := some (255, [1, 4294967295]) } } }, { host := 31, opcode := 255, token := 255, args := [], since := 0, discard := true, result := some (255, [1, 4294967295]) }, 255, [1, 4294967295], by decide +kernel⟩,
    ⟨p5, by decide +kernel⟩,
    ⟨{ p5 with port := { running := some { host := 0, opcode := 16, token := 1, args := [], since := 0, wait := .commit } } }, { host := 0, opcode := 16, token := 1, args := [], since := 0, wait := .commit }, by decide +kernel⟩⟩

theorem witness_HostPortsAndFunctionsAreReset :
    (∃ (s : State) (k : Nat) (p : Nat), (s.link.perstLow.contains k = true) ∧ (s.stalled = false) ∧ (s.hostPort k = some p) ∧ (s.role p = 1) ∧ ((∀ r, s.portRec p = some r → r.hostIndex = k)) ∧ (4 ≤ s.phase) ∧ (s.reg .FLT_PORT_STATE p ≠ 1) ∧ (s.running (p / 4) = true) ∧ (s.fencing (p / 4) = false) ∧ ((∀ l ∈ s.lanes p, s.inTest l = false))) ∧
    (∃ (s : State) (k : Nat), (s.link.perstLow.contains k = false)) ∧
    (∃ (s : State) (k : Nat) (p : Nat) (c : HostReset) (r : PortRec), (s.stalled = false) ∧ (s.hostPort k = some p) ∧ (s.portRec p = some r) ∧ (r.hostIndex = k) ∧ (s.on .TILE_PORT_STATUS_LINK_UP p = true) ∧ (s.phase = 5) ∧ (s.com.cur ≠ none)) ∧
    (∃ (s : State) (k : Nat) (p : Nat) (c : HostReset) (r : PortRec), (s.stalled = false) ∧ (s.hostPort k = some p) ∧ (s.portRec p = some r) ∧ (r.hostIndex = k) ∧ (s.on .TILE_PORT_STATUS_LINK_UP p = true) ∧ (s.phase < 5) ∧ (s.com.cur ≠ none)) ∧
    (∃ (s : State) (k : Nat), (s.stalled = false) ∧ (s.hostPort k = none) ∧ (k < 32)) ∧
    (∃ (s : State) (k : Nat) (v : Nat) (f : Nat) (rid : Nat) (i : Nat) (h : HierRec), (s.assignAt k v = some h) ∧ (s.fnRid h f = some rid) ∧ (s.fnIx h f = some i) ∧ (s.com.cur ≠ none)) ∧
    (∃ (s : State) (k : Nat) (v : Nat) (f : Nat), (s.assignAt k v = none)) ∧
    (∃ (s : State) (k : Nat), (s.hasMep k = true)) :=
  ⟨⟨((p5.setReg .TILE_PORT_STATUS_LINK_UP 36 0).updLink (fun l => { l with perstLow := [1] })), 1, 36, by decide +kernel⟩,
    ⟨p5, 31, by decide +kernel⟩,
    ⟨({ ((p5).updLink (fun l => { l with vregs := [(⟨0, .usp, .devCtl⟩, 7), (⟨1, .usp, .devCtl⟩, 7)] })).updCom (fun m => { m with cur := some { origin := .command, mask := 1, tc := 2000000, phase := .window } }) with tr := { outs := [{ id := 0, src := .host 0, tag := 1, inPort := 0, port := 4, rid := 256, kind := .read, addr := 0, len := 4 }] } }), 0, 0, .linkDown, { tile := 0, slot := 0, role := 1, hostIndex := 0, operator := true }, by decide +kernel⟩,
    ⟨((((p5.setReg .SUP_COL_PHASE_PHASE 0 4)).updLink (fun l => { l with vregs := [(⟨0, .usp, .devCtl⟩, 7)] })).updCom (fun m => { m with cur := some { origin := .command, mask := 1, tc := 2000000, phase := .window } })), 0, 0, .removed, { tile := 0, slot := 0, role := 1, hostIndex := 0, operator := true }, by decide +kernel⟩,
    ⟨p5, 31, by decide +kernel⟩,
    ⟨((p5).updLink (fun l => { l with devices := [{ port := 4, fns := [{ rid := 0x100 }, { rid := 0x1FF }] }], vregs := [(⟨0, .fn 1 1, .devCtl⟩, 7)] })).updCom (fun m => { m with cur := some { origin := .command, mask := 1, tc := 2000000, phase := .window } }), 0, 1, 255, 0x1FF, 1, { host := 0, vdsp := 1, kind := 1, devTile := 1, devSlot := 0, imprint := 5 }, by decide +kernel⟩,
    ⟨p5, 0, 31, 0, by decide +kernel⟩,
    ⟨(p5).updLink (fun l => { l with dma := [{ host := 0, tag := 255, due := 5000000 }] }), 0, by decide +kernel⟩⟩

theorem witness_ConfigurationRequestsAreAnswered :
    (∃ (s : State) (k : Nat) (v : Nat) (t : CfgTarget) (r : CfgReg) (w : Bool), (s.cfgHost k = true) ∧ (s.findTarget k t = .nothing)) ∧
    (∃ (s : State) (k : Nat) (v : Nat) (t : CfgTarget) (r : CfgReg), (s.cfgHost k = true) ∧ (s.findTarget k t = .lost)) ∧
    (∃ (s : State) (k : Nat) (v : Nat), (s.cfgHost k = true)) ∧
    (∃ (s : State) (k : Nat) (v : Nat), (s.cfgHost k = true)) ∧
    (∃ (s : State) (k : Nat) (v : Nat) (t : CfgTarget) (r : CfgReg) (w : Bool), (s.cfgHost k = false)) ∧
    (∃ (s : State) (k : Nat) (p : Nat) (v : Nat) (w : Nat) (g : CfgTarget) (r : CfgReg), (s.hostPort k = some p) ∧ (s.decodeKeep k g r v = some w) ∧ (s.phase = 5) ∧ (s.on .TILE_PORT_STATUS_LINK_UP p = true) ∧ (s.movesDecode k g r v = true) ∧ (s.safeMode = false) ∧ (s.isl.mgmt = none) ∧ (s.com.cur ≠ none)) ∧
    (∃ (s : State) (k : Nat) (v : Nat) (g : CfgTarget) (r : CfgReg), (s.hostPort k = none)) :=
  ⟨⟨p5, 0, 4294967295, .vdsp 32, .vendorDevice, true, by decide +kernel⟩,
    ⟨p5, 0, 4294967295, .fn 31 255, .vendorDevice, by decide +kernel⟩,
    ⟨p5, 1, 4294967295, by decide +kernel⟩,
    ⟨p5, 1, 4294967295, by decide +kernel⟩,
    ⟨p5, 31, 0, .mep, .vendorDevice, false, by decide +kernel⟩,
    ⟨(p5).updCom (fun m => { m with cur := some { origin := .command, mask := 1, tc := 2000000, phase := .window } }), 0, 0, 0xFFF0FFF0, 0xFFF0FFF0, .vdsp 31, .memWindow, by decide +kernel⟩,
    ⟨p5, 31, 0, .usp, .memWindow, by decide +kernel⟩⟩

theorem witness_DmaEnginesStopAndRecover :
    (∃ (s : State) (k : Nat), (s.hasMep k = true) ∧ (s.mayMaster k = true)) ∧
    (∃ (s : State) (k : Nat), (s.hasMep k = true) ∧ (s.vreg k .mep .pmcsr % 4 ≠ 3) ∧ (s.reg .CMP_DMA_STATUS_STATE k = 2)) ∧
    (∃ (s : State) (k : Nat), (s.hasMep k = false)) ∧
    (∃ (s : State) (k : Nat) (n : Nat) (e : DmaTag), (s.dmaTag k n = some e) ∧ (e.quarantined = false)) ∧
    (∃ (s : State) (k : Nat) (n : Nat) (e : DmaTag), (s.dmaTag k n = some e) ∧ (e.quarantined = true)) ∧
    (∃ (s : State) (k : Nat) (n : Nat) (b : Bool), (s.dmaTag k n = none)) :=
  ⟨⟨(p5).updLink (fun l => { l with vregs := [(⟨0, .mep, .command⟩, 4)], dma := [{ host := 0, tag := 255, due := 5000000 }] }), 0, by decide +kernel⟩,
    ⟨p5.setReg .CMP_DMA_STATUS_STATE 0 2, 0, by decide +kernel⟩,
    ⟨p5, 31, by decide +kernel⟩,
    ⟨(p5).updLink (fun l => { l with dma := [{ host := 0, tag := 255, due := 5000000 }, { host := 0, tag := 3, due := 7 }] }), 0, 255, { host := 0, tag := 255, due := 5000000 }, by decide +kernel⟩,
    ⟨((p5).updLink (fun l => { l with dma := [{ host := 0, tag := 255, quarantined := true, due := 5000000 }] })).setReg .CMP_DMA_LATE_COUNT 0 (2 ^ Fld.CMP_DMA_LATE_COUNT.width - 1), 0, 255, { host := 0, tag := 255, quarantined := true, due := 5000000 }, by decide +kernel⟩,
    ⟨p5, 0, 255, true, by decide +kernel⟩⟩

theorem witness_PortLinksComeAndGo :
    (∃ (s : State) (p : Nat) (x : Training) (sl : LanePort) (tile : LaneTile) (r : PortRec), (s.stalled = false) ∧ ((s.role p = 1 ∨ s.role p = 2)) ∧ ((s.link.training.contains p = true ∨ s.link.follow.contains p = true)) ∧ (s.mayTrain p = true) ∧ (s.slotRec p = some sl) ∧ (s.tileRec (p / 4) = some tile) ∧ (s.portRec p = some r) ∧ (s.trainWidth p (s.lanes p).length x.width = true) ∧ (1 ≤ trainRate sl.maxRate x.partnerRate (r.cxl && x.cxl))) ∧
    (∃ (s : State) (p : Nat) (fns : List DevFn), (s.role p = 2) ∧ (s.on .TILE_PORT_STATUS_LINK_UP p = true) ∧ (s.reg .FLT_PORT_STATE p = 0) ∧ (fns.all busesOk = true) ∧ ((s.phase < 5 ∨ s.com.cur ≠ none))) ∧
    (∃ (s : State) (p : Nat), (s.role p = 2) ∧ (p < 128) ∧ (s.on .TILE_PORT_STATUS_LINK_UP p = true)) ∧
    (∃ (s : State) (p : Nat), (s.pcieUp p = true) ∧ (s.link.quiet.contains p = false)) ∧
    (∃ (s : State) (p : Nat), (s.link.quiet.contains p = true)) ∧
    (∃ (s : State) (p : Nat) (sl : LanePort), (s.slotRec p = some sl) ∧ (sl.feAllow = true) ∧ ((s.role p = 1 ∨ s.role p = 2)) ∧ ((s.on .TILE_PORT_STATUS_LINK_UP p = true ∨ s.link.training.contains p = true))) ∧
    (∃ (s : State) (p : Nat) (sl : LanePort), (s.slotRec p = some sl) ∧ (sl.feAllow = false) ∧ ((s.role p = 1 ∨ s.role p = 2)) ∧ (p < 128) ∧ ((s.on .TILE_PORT_STATUS_LINK_UP p = true ∨ s.link.training.contains p = true)) ∧ ((s.flt.reportQ.filter (fun r => r.isl == p / 4)).length < 63)) ∧
    (∃ (s : State) (k : Nat) (v : Nat), (s.phase = 5) ∧ (s.hostPort k ≠ none)) ∧
    (∃ (s : State) (p : Nat) (n : Nat) (l : List Nat) (f : FlitTx), (s.link.flits.find? (fun f => f.port == p) = some f) ∧ (f.unacked = n :: l) ∧ (s.on .TILE_PORT_STATUS_FLIT p = true)) ∧
    (∃ (s : State) (p : Nat) (a : Option Nat) (n : Option Nat), (s.on .TILE_PORT_STATUS_FLIT p = true) ∧ ((s.role p = 1 ∨ s.role p = 2))) ∧
    (∃ (s : State) (p : Nat), ((s.role p ≠ 2 ∨ s.on .TILE_PORT_STATUS_LINK_UP p = false))) :=
  ⟨⟨(p5.setReg .TILE_PORT_STATUS_LINK_UP 4 0).updLink (fun l => { l with training := [4] }), 4, { partnerRate := 7, width := 8 }, { maxRate := 7 }, { tile := 1, mode := 0, ports := [{ maxRate := 7 }] }, { tile := 1, slot := 0, role := 2, channel := 0 }, by decide +kernel⟩,
    ⟨(p5).updCom (fun m => { m with cur := some { origin := .command, mask := 1, tc := 2000000, phase := .window } }), 4, [{ rid := 0x100, bars := [{ index := 0, sizeLog2 := 12 }] }], by decide +kernel⟩,
    ⟨p5, 32, by decide +kernel⟩,
    ⟨p5.setReg .TILE_LANE_STATUS_TX_STATE 8 1, 4, by decide +kernel⟩,
    ⟨(p5.setReg .TILE_LANE_STATUS_TX_STATE 8 2).updLink (fun l => { l with quiet := [4] }), 4, by decide +kernel⟩,
    ⟨(p5.updBoot (fun b => { b with running := some { forme0 with laneTiles := forme0.laneTiles.map (fun t => { t with ports := t.ports.map (fun x => { x with feAllow := true }) }) } })), 0, { maxRate := 7, feAllow := true }, by decide +kernel⟩,
    ⟨p5, 0, { maxRate := 7 }, by decide +kernel⟩,
    ⟨(p5).updLink (fun l => { l with vregs := [(⟨0, .vdsp 31, .dpcStatus⟩, 0x27)] }), 0, 31, by decide +kernel⟩,
    ⟨(p5.setReg .TILE_PORT_STATUS_FLIT 4 1).updLink (fun l => { l with flits := [{ port := 4, unacked := [1023, 0], lastAdv := 999999 }] }), 4, 1023, [0], { port := 4, unacked := [1023, 0], lastAdv := 999999 }, by decide +kernel⟩,
    ⟨p5.setReg .TILE_PORT_STATUS_FLIT 4 1, 4, some 0, some 1023, by decide +kernel⟩,
    ⟨p5, 16, by decide +kernel⟩⟩

theorem witness_MessagesTimeAndSecurityOfLinks :
    (∃ (s : State) (p : Nat), (s.role p = 2) ∧ (s.on .TILE_PORT_STATUS_LINK_UP p = true)) ∧
    (∃ (s : State) (k : Nat) (p : Nat), (s.hostPort k = some p) ∧ (s.on .TILE_PORT_STATUS_LINK_UP p = true)) ∧
    (∃ (s : State) (k : Nat) (p : Nat) (key : Nat), (s.hostPort k = some p) ∧ (s.on .TILE_PORT_STATUS_LINK_UP p = true)) ∧
    (∃ (s : State) (k : Nat) (p : Nat) (key : Nat) (mem : Bool), (s.hostPort k = some p) ∧ (s.on .TILE_PORT_STATUS_LINK_UP p = true)) ∧
    (∃ (s : State) (k : Nat) (p : Nat) (key : Nat), (s.hostPort k = some p) ∧ (s.on .TILE_PORT_STATUS_LINK_UP p = true) ∧ (s.on .TILE_PORT_STATUS_CXL p = true)) ∧
    (∃ (s : State) (p : Nat) (x : Nat), (s.role p = 2) ∧ (s.on .TILE_PORT_STATUS_LINK_UP p = true)) ∧
    (∃ (s : State) (p : Nat) (x : Nat), (s.role p = 2) ∧ (s.on .TILE_PORT_STATUS_LINK_UP p = true) ∧ (s.ideRequired p = false)) ∧
    (∃ (s : State) (p : Nat) (x : Nat), (s.role p = 2) ∧ (s.on .TILE_PORT_STATUS_LINK_UP p = true) ∧ (s.ideRequired p = true) ∧ (s.reg .FLT_PORT_STATE p = 0)) ∧
    (∃ (s : State) (p : Nat), ((s.on .TILE_PORT_STATUS_IDE p = true ∨ (Sparse.get? s.link.ideMem p).isSome = true))) ∧
    (∃ (s : State) (k : Nat) (i : Nat), (2 ≤ s.phase) ∧ (1 ≤ i) ∧ (i ≤ 5)) ∧
    (∃ (s : State) (k : Nat) (q : SpdmReq), (s.phase < 2)) ∧
    (∃ (s : State) (k : Nat) (p : Nat) (q : Nat) (rid : Nat) (h : HierRec) (a : AtsKind) (pre : List Nat), (s.ownerOf p rid = some h) ∧ (s.hostPort h.host = some q) ∧ (s.portUp q = true) ∧ ((a = .translation ∨ a = .pageRequest))) ∧
    (∃ (s : State) (p : Nat) (rid : Nat) (h : HierRec) (a : AtsKind) (pre : List Nat), (s.ownerOf p rid = some h) ∧ (s.portUp p = true) ∧ (s.funcClosed p rid = false) ∧ ((a = .invalidation ∨ a = .pageResponse))) ∧
    (∃ (s : State) (p : Nat) (q : Nat) (rid : Nat) (h : HierRec) (m : MsgRoute) (w : Bool), (s.ownerOf p rid = some h) ∧ (s.hostPort h.host = some q) ∧ (s.portUp q = true) ∧ (s.reg .FLT_PORT_STATE p = 0)) ∧
    (∃ (s : State) (k : Nat) (pre : List Nat), ((∀ h ∈ s.com.hier, isAssign h = true → h.host = k → s.shutPort (hierPort h) = false))) ∧
    (∃ (s : State) (k : Nat) (id : Nat) (p : Nat) (rid : Nat) (pre : List Nat) (w : Bool), (s.fnOfId k id = some (p, rid)) ∧ (s.portUp p = true) ∧ (s.funcClosed p rid = false)) ∧
    (∃ (s : State) (p : Nat) (rid : Nat) (k : Nat) (m : MsgRoute) (w : Bool) (a : AtsKind) (pre : List Nat), (s.ownerOf p rid = none)) ∧
    (∃ (s : State) (l : Nat) (p : Nat) (x : Nat) (v : Nat), (s.lanePort l = some p) ∧ (s.role p ≠ 3) ∧ (s.reg .TILE_LANE_STATUS_RX_STATE l = 1) ∧ (4 ≤ s.reg .TILE_LANE_STATUS_RATE l) ∧ (x ≤ 32) ∧ (v ≤ 64)) ∧
    (∃ (s : State) (l : Nat) (x : Nat) (v : Nat), (s.lanePort l = none)) :=
  ⟨⟨p5, 4, by decide +kernel⟩,
    ⟨p5, 1, 36, by decide +kernel⟩,
    ⟨p5, 1, 36, 7, by decide +kernel⟩,
    ⟨p5, 1, 36, 7, true, by decide +kernel⟩,
    ⟨p5.setReg .TILE_PORT_STATUS_CXL 36 1, 1, 36, 7, by decide +kernel⟩,
    ⟨p5, 4, 7, by decide +kernel⟩,
    ⟨p5, 4, 7, by decide +kernel⟩,
    ⟨({ p5 with boot := { p5.boot with running := some { forme0 with ports := forme0.ports.map (fun r => if r.tile == 1 then { r with ideRequired := true } else r) } } }), 4, 7, by decide +kernel⟩,
    ⟨p5.updLink (fun l => { l with ideMem := [(4, 7)] }), 4, by decide +kernel⟩,
    ⟨inPhase 2, 31, 5, by decide +kernel⟩,
    ⟨inPhase 1, 0, .getDigests, by decide +kernel⟩,
    ⟨p5, 0, 4, 0, 0x1FF, { host := 0, vdsp := 1, kind := 1, devTile := 1, devSlot := 0, imprint := 5 }, .pageRequest, [1], by decide +kernel⟩,
    ⟨p5, 4, 0x1FF, { host := 0, vdsp := 1, kind := 1, devTile := 1, devSlot := 0, imprint := 5 }, .pageResponse, [1], by decide +kernel⟩,
    ⟨p5, 4, 0, 0x100, { host := 0, vdsp := 1, kind := 1, devTile := 1, devSlot := 0, imprint := 5 }, { pre := [1] }, true, by decide +kernel⟩,
    ⟨p5, 0, [1], by decide +kernel⟩,
    ⟨(p5).updLink (fun l => { l with devices := [{ port := 4, fns := [{ rid := 0x100 }, { rid := 0x1FF }] }] }), 0, p5.hostFnRid 0 1 0, 4, 0x100, [1], false, by decide +kernel⟩,
    ⟨p5, 32, 0x100, 0, {}, true, .translation, [], by decide +kernel⟩,
    ⟨p5.setRegs [(.TILE_LANE_STATUS_RX_STATE, 15, 1), (.TILE_LANE_STATUS_RATE, 15, 4)], 15, 4, 32, 64, by decide +kernel⟩,
    ⟨p5, 255, 0, 0, by decide +kernel⟩⟩

theorem witness_RequestsAndCompletionsFindTheirWay :
    (∃ (s : State) (r : Req) (p : Nat) (rid : Nat) (ent : Nat) (des : Nat), (r.src = .device p rid) ∧ (r.kind = .write) ∧ (r.poison = false) ∧ (r.bufUe = false) ∧ (s.canArrive r = true) ∧ (s.halted = false) ∧ (s.reg .FLT_PORT_STATE p = 0) ∧ (s.funcClosed p rid = false) ∧ (s.running (32 + quadOf r.inPort) = true) ∧ (s.fencing (32 + quadOf r.inPort) = false) ∧ (s.metHeld = false) ∧ (s.com.flips = []) ∧ ((s.atTile r).policerOf r ((s.atTile r).domainOf r).1 = none) ∧ ((s.atTile r).check (quadOf r.inPort) r ((s.atTile r).domainOf r).1 ((s.atTile r).domainOf r).2 = .ok ent des) ∧ (s.quarantined (eImprint ent) = false) ∧ (dKind des = 1) ∧ (s.portUp (dDestA des) = true) ∧ (s.funcClosed (dDestA des) (dDestB des) = false) ∧ (outAddr ent des ((s.atTile r).domainOf r).2 % s.pieceUnit 1 (dDestA des) true + max 1 r.len ≤ s.pieceUnit 1 (dDestA des) true)) ∧
    (∃ (s : State) (r : Req) (p : Nat) (rid : Nat) (i : Nat), (r.src = .device p rid) ∧ (r.kind = .read) ∧ (r.poison = false) ∧ (s.canArrive r = true) ∧ (s.halted = false) ∧ (s.reg .FLT_PORT_STATE p = 0) ∧ (s.funcClosed p rid = false) ∧ (s.running (32 + quadOf r.inPort) = true) ∧ (s.fencing (32 + quadOf r.inPort) = false) ∧ (s.metHeld = false) ∧ (s.com.flips = []) ∧ ((s.atTile r).policerOf r ((s.atTile r).domainOf r).1 = none) ∧ ((s.atTile r).check (quadOf r.inPort) r ((s.atTile r).domainOf r).1 ((s.atTile r).domainOf r).2 = .perm i)) ∧
    (∃ (s : State) (c : Cpl), (s.role c.inPort = 2) ∧ (s.on .TILE_PORT_STATUS_LINK_UP c.inPort = true) ∧ (s.hasCredit c.inPort c.data.length = true) ∧ (c.poison = false) ∧ (s.running (32 + quadOf c.inPort) = true) ∧ (s.metHeld = false) ∧ (s.matchOut c = none)) ∧
    (∃ (s : State) (c : Cpl) (o : OutReq) (h : Nat) (q : Nat), (s.role c.inPort = 2) ∧ (s.on .TILE_PORT_STATUS_LINK_UP c.inPort = true) ∧ (s.hasCredit c.inPort c.data.length = true) ∧ (c.poison = false) ∧ (s.running (32 + quadOf c.inPort) = true) ∧ (s.metHeld = false) ∧ (s.matchOut c = some o) ∧ (o.sealed = false) ∧ (o.answered = false) ∧ (o.fails = []) ∧ (o.poisonAt = []) ∧ (o.kind = .read) ∧ (o.got = []) ∧ (c.status = .sc) ∧ (c.offset = 0) ∧ (c.data ≠ []) ∧ (o.len ≤ c.data.length) ∧ (o.src = .host h) ∧ (s.hostPort h = some q) ∧ (s.on .TILE_PORT_STATUS_LINK_UP q = true)) ∧
    (∃ (s : State) (i : Nat) (d : Nat) (o : OutReq), (s.outReq i = some o) ∧ (o.due = some d)) ∧
    (∃ (s : State) (i : Nat) (d : Nat) (h : Nat) (o : OutReq), (s.outReq i = some o) ∧ (o.due = some d) ∧ (o.answered = false) ∧ (o.src = .host h) ∧ (o.kind = .read)) ∧
    (∃ (s : State) (i : Nat) (d : Nat) (p : Nat) (rid : Nat) (o : OutReq), (s.outReq i = some o) ∧ (o.due = some d) ∧ (o.answered = false) ∧ (o.src = .device p rid)) ∧
    (∃ (s : State) (i : Nat) (p : Pkt), (s.pkt i = some p) ∧ (p.place = .arrived) ∧ (p.dest < 128) ∧ ((p.kind ≠ 3 ∨ p.cls ≠ .completion)) ∧ (p.sealedReq = false) ∧ (s.mustFollow p = false)) ∧
    (∃ (s : State) (i : Nat), (s.pkt i = none)) :=
  ⟨⟨(p5.updCom (fun m => { m with active := [({ typ := 1, index := 0 }, mkEntry 3072 0 5 0 5 true true false false 0 0 true), ({ typ := 2, index := 0 }, mkTarget 1 false 32 0x100 0)] })), { src := .device 4 0x100, inPort := 4, kind := .write, addr := 5 * 4096, len := 4096, data := List.replicate 4096 7, ts := 900000 }, 4, 0x100, mkEntry 3072 0 5 0 5 true true false false 0 0 true, mkTarget 1 false 32 0x100 0, by decide +kernel⟩,
    ⟨((p5.updCom (fun m => { m with active := [({ typ := 1, index := 0 }, mkEntry 3072 0 5 0 5 false true false false 0 0 true), ({ typ := 2, index := 0 }, mkTarget 1 false 32 0x100 0)] }))).setReg .IMP_Q_COUNT_PERM 0 (2 ^ Fld.IMP_Q_COUNT_PERM.width - 1), { src := .device 4 0x100, inPort := 4, kind := .read, addr := 5 * 4096 + 4095, len := 1, tag := 9, ts := 900000 }, 4, 0x100, 5, by decide +kernel⟩,
    ⟨p5, { inPort := 4, tag := 0, rid := 0, status := .sc, ts := 0 }, by decide +kernel⟩,
    ⟨{ p5 with tr := { outs := [{ id := 3, src := .host 0, tag := 1023, inPort := 0, port := 4, rid := 0x100, kind := .read, addr := 0, len := 2, sent := true, due := some 2000000 }], nextId := 4 } }, { inPort := 4, tag := 1023, rid := 0, status := .sc, data := [8, 9], ts := 0 }, { id := 3, src := .host 0, tag := 1023, inPort := 0, port := 4, rid := 0x100, kind := .read, addr := 0, len := 2, sent := true, due := some 2000000 }, 0, 0, by decide +kernel⟩,
    ⟨{ p5 with tr := { outs := [{ id := 3, src := .host 0, tag := 1023, inPort := 0, port := 4, rid := 0x100, kind := .read, addr := 0, len := 2, sent := true, due := some 2000000 }], nextId := 4 } }, 3, 2000000, { id := 3, src := .host 0, tag := 1023, inPort := 0, port := 4, rid := 0x100, kind := .read, addr := 0, len := 2, sent := true, due := some 2000000 }, by decide +kernel⟩,
    ⟨{ p5 with tr := { outs := [{ id := 3, src := .host 0, tag := 1023, inPort := 0, port := 4, rid := 0x100, kind := .read, addr := 0, len := 2, sent := true, due := some 2000000 }], nextId := 4 } }, 3, 2000000, 0, { id := 3, src := .host 0, tag := 1023, inPort := 0, port := 4, rid := 0x100, kind := .read, addr := 0, len := 2, sent := true, due := some 2000000 }, by decide +kernel⟩,
    ⟨{ p5 with tr := { outs := [{ id := 3, src := .device 32 0x100, tag := 1023, inPort := 0, port := 4, rid := 0x100, kind := .read, addr := 0, len := 2, sent := true, due := some 2000000 }], nextId := 4 } }, 3, 2000000, 32, 0x100, { id := 3, src := .device 32 0x100, tag := 1023, inPort := 0, port := 4, rid := 0x100, kind := .read, addr := 0, len := 2, sent := true, due := some 2000000 }, by decide +kernel⟩,
    ⟨{ p5 with tr := { pkts := [{ id := 3, req := { src := .device 4 0x100, inPort := 4, kind := .write, addr := 0, len := 4, data := [1, 2, 3, 4], tc := 7, ts := 0 }, cls := .posted, kind := 1, dest := 127, q := .ingress 4 0 127 7, place := .arrived }], nextId := 4 } }, 3, { id := 3, req := { src := .device 4 0x100, inPort := 4, kind := .write, addr := 0, len := 4, data := [1, 2, 3, 4], tc := 7, ts := 0 }, cls := .posted, kind := 1, dest := 127, q := .ingress 4 0 127 7, place := .arrived }, by decide +kernel⟩,
    ⟨p5, 3, by decide +kernel⟩⟩

theorem witness_QueuesGalleyAndArbiters :
    (∃ (s : State) (n : Nat) (p : Pkt) (ps : List Pkt) (u : State), (s.inQ (QId.ofNat n) .blocked = p :: ps) ∧ ({ s with out := [] }.toGalley p.id = some u)) ∧
    (∃ (s : State) (n : Nat) (p : Pkt) (ps : List Pkt), (s.inQ (QId.ofNat n) .blocked = p :: ps) ∧ (s.toGalley p.id = none) ∧ (s.inQ (QId.ofNat n) .galley = []) ∧ (s.spills (QId.ofNat n) p.cells = false)) ∧
    (∃ (s : State) (n : Nat), (s.inQ (QId.ofNat n) .blocked = [])) ∧
    (∃ (s : State) (n : Nat) (p : Pkt) (ps : List Pkt) (b : Bool), (s.inQ (QId.ofNat n) .galley = p :: ps) ∧ ((s.keys.dead.contains p.key = true ∨ p.dead = true))) ∧
    (∃ (s : State) (n : Nat) (p : Pkt) (ps : List Pkt), (s.inQ (QId.ofNat n) .galley = p :: ps) ∧ (s.keys.dead.contains p.key = false) ∧ (p.dead = false) ∧ (cellSum (s.sharedQ (QId.ofNat n)) < s.reg .QD_SPILL_PROF_REFILL (s.profile (QId.ofNat n))) ∧ (p.cells ≤ s.sharedFree (QId.ofNat n).quad) ∧ (s.pagesRun p = true) ∧ ((∀ pg ∈ p.pages, s.keys.redeliver.contains (46 + pg % 4, p.key) = false))) ∧
    (∃ (s : State) (n : Nat), ((s.queue (QId.ofNat n)).taking = false) ∧ (s.canTake (QId.ofNat n) = true)) ∧
    (∃ (s : State) (n : Nat), ((s.queue (QId.ofNat n)).taking = true)) ∧
    (∃ (s : State) (a : ArbId), (arbOk a = true) ∧ (s.halted = false) ∧ ((s.running (arbIsland a) = true ∨ s.fencing (arbIsland a) = true))) ∧
    (∃ (s : State) (si : Nat) (m : Nat) (k : Nat) (i : Nat) (how : Won) (b : Bid) (p : Pkt), (si < 2) ∧ (m < 4) ∧ (k < 4) ∧ (s.halted = false) ∧ (s.running (40 + si) = true) ∧ (s.closed (46 + m) = false) ∧ (s.closed (42 + m) = false) ∧ (((s.arb (.spineMem si m k)).draw 8 (s.spineBids (.spineMem si m k))).1 = some (i, how)) ∧ ((s.spineBids (.spineMem si m k)).find? (fun b => b.slot == i) = some b) ∧ (s.pkt b.pkt = some p)) ∧
    (∃ (s : State) (a : ArbId), ((arbOk a = false ∨ s.halted = true))) :=
  ⟨⟨({ ((p5.setRegs [(.QD_SPILL_PROF_GALLEY_MAX, 0, 100), (.QD_SPILL_PROF_THRESH, 0, 100), (.QD_SPILL_PROF_REFILL, 0, 1)]).updCom (fun m => { m with pool := [{ typ := 1, galleySheets := 1 }] })) with tr := { pkts := [{ id := 3, req := { src := .device 4 0x100, inPort := 4, kind := .write, addr := 0, len := 4, data := [1, 2, 3, 4], tc := 7, ts := 0 }, cls := .posted, kind := 1, dest := 4, q := .egress 4 7, place := .blocked }], nextId := 9 } }), 270375, { id := 3, req := { src := .device 4 0x100, inPort := 4, kind := .write, addr := 0, len := 4, data := [1, 2, 3, 4], tc := 7, ts := 0 }, cls := .posted, kind := 1, dest := 4, q := .egress 4 7, place := .blocked }, [], (({ ({ ((p5.setRegs [(.QD_SPILL_PROF_GALLEY_MAX, 0, 100), (.QD_SPILL_PROF_THRESH, 0, 100), (.QD_SPILL_PROF_REFILL, 0, 1)]).updCom (fun m => { m with pool := [{ typ := 1, galleySheets := 1 }] })) with tr := { pkts := [{ id := 3, req := { src := .device 4 0x100, inPort := 4, kind := .write, addr := 0, len := 4, data := [1, 2, 3, 4], tc := 7, ts := 0 }, cls := .posted, kind := 1, dest := 4, q := .egress 4 7, place := .blocked }], nextId := 9 } }) with out := [] } : State).toGalley 3).getD p5, by decide +kernel⟩,
    ⟨{ ((p5.setRegs [(.QD_SPILL_PROF_GALLEY_MAX, 0, 100), (.QD_SPILL_PROF_THRESH, 0, 100), (.QD_SPILL_PROF_REFILL, 0, 1)]).updCom (fun m => { m with pool := [{ typ := 1, galleySheets := 0 }] })) with tr := { pkts := [{ id := 3, req := { src := .device 4 0x100, inPort := 4, kind := .write, addr := 0, len := 4, data := [1, 2, 3, 4], tc := 7, ts := 0 }, cls := .posted, kind := 1, dest := 4, q := .egress 4 7, place := .blocked }], nextId := 9 } }, 270375, { id := 3, req := { src := .device 4 0x100, inPort := 4, kind := .write, addr := 0, len := 4, data := [1, 2, 3, 4], tc := 7, ts := 0 }, cls := .posted, kind := 1, dest := 4, q := .egress 4 7, place := .blocked }, [], by decide +kernel⟩,
    ⟨p5, 270375, by decide +kernel⟩,
    ⟨{ p5 with tr := { pkts := [{ id := 3, req := { src := .device 4 0x100, inPort := 4, kind := .write, addr := 0, len := 4, data := [1, 2, 3, 4], tc := 7, ts := 0 }, cls := .posted, kind := 1, dest := 4, q := .egress 4 7, place := .galley, dead := true }], nextId := 9 } }, 270375, { id := 3, req := { src := .device 4 0x100, inPort := 4, kind := .write, addr := 0, len := 4, data := [1, 2, 3, 4], tc := 7, ts := 0 }, cls := .posted, kind := 1, dest := 4, q := .egress 4 7, place := .galley, dead := true }, [], true, by decide +kernel⟩,
    ⟨{ ((p5.setRegs [(.QD_SPILL_PROF_GALLEY_MAX, 0, 100), (.QD_SPILL_PROF_THRESH, 0, 100), (.QD_SPILL_PROF_REFILL, 0, 1)]).updCom (fun m => { m with pool := [{ typ := 1, galleySheets := 1 }] })) with tr := { pkts := [{ id := 3, req := { src := .device 4 0x100, inPort := 4, kind := .write, addr := 0, len := 4, data := [1, 2, 3, 4], tc := 7, ts := 0 }, cls := .posted, kind := 1, dest := 4, q := .egress 4 7, place := .galley, pages := [4] }], nextId := 9 } }, 270375, { id := 3, req := { src := .device 4 0x100, inPort := 4, kind := .write, addr := 0, len := 4, data := [1, 2, 3, 4], tc := 7, ts := 0 }, cls := .posted, kind := 1, dest := 4, q := .egress 4 7, place := .galley, pages := [4] }, [], by decide +kernel⟩,
    ⟨{ ((p5.setRegs [(.QD_SPILL_PROF_GALLEY_MAX, 0, 100), (.QD_SPILL_PROF_THRESH, 0, 100), (.QD_SPILL_PROF_REFILL, 0, 1)]).updCom (fun m => { m with pool := [{ typ := 1, galleySheets := 0 }] })) with tr := { queues := [(.egress 4 7, { taking := false })], nextId := 9 } }, 270375, by decide +kernel⟩,
    ⟨p5, 270375, by decide +kernel⟩,
    ⟨p5, .spineMem 1 3 3, by decide +kernel⟩,
    ⟨({ p5 with tr := { pkts := [{ id := 3, req := { src := .host 0, inPort := 0, kind := .write, addr := 0, len := 4, data := [1, 2, 3, 4], ts := 0 }, cls := .posted, kind := 3, dest := 131, route := 7, q := .ingress 0 0 131 0, place := .spine }], spineQ := [3], arbs := [(.spineMem 1 3 3, { lfsr := 0xC0200619, loss := List.replicate 8 0, forced := List.replicate 8 false })], nextId := 9 } } : State).setReg .ARB_TRANSIT_TICKETS 0 4, 1, 3, 3, 0, .lottery, { slot := 0, tickets := 4, urgent := false, ok := true, pkt := 3 }, { id := 3, req := { src := .host 0, inPort := 0, kind := .write, addr := 0, len := 4, data := [1, 2, 3, 4], ts := 0 }, cls := .posted, kind := 3, dest := 131, route := 7, q := .ingress 0 0 131 0, place := .spine }, by decide +kernel⟩,
    ⟨p5, .spineMem 2 0 0, by decide +kernel⟩⟩

theorem witness_EgressSchedulingAndGates :
    (∃ (s : State) (p : Nat) (k : Pkt), (p < 128) ∧ (s.canSend p = true) ∧ ((∀ c, c < 8 → (s.egressHead p c).all (fun x => (s.badHead x).isNone) = true)) ∧ (s.keys.flips = []) ∧ (¬(s.role p = 3 ∧ 1024 ≤ (s.dlink p).replay.length)) ∧ (s.egressHead p 7 = some k) ∧ (s.ready p k = true)) ∧
    (∃ (s : State) (p : Nat), ((128 ≤ p ∨ s.canSend p = false))) ∧
    (∃ (s : State) (sh : ShaperId) (dt : Nat), (shOk sh = true) ∧ (1 ≤ dt) ∧ (dt ≤ 40)) ∧
    (∃ (s : State) (sh : ShaperId) (dt : Nat), ((dt = 0 ∨ 40 < dt))) ∧
    (∃ (s : State) (p : Nat) (b : Nat) (x : Nat), (p < 128) ∧ (s.reg .GATE_STATUS_STATE p = 2) ∧ ((s.gateNow p s.dev).2.2 = some x) ∧ (s.boot.timeBase = some b) ∧ (s.now ≤ b + x)) ∧
    (∃ (s : State) (p : Nat), (s.reg .GATE_STATUS_STATE p ≠ 2)) ∧
    (∃ (s : State) (p : Nat) (b : Nat), (p < 128) ∧ (s.reg .GATE_STATUS_STATE p = 1) ∧ ((Sparse.get? s.tr.gateFrom p).isSome = true) ∧ (s.reg .GATE_CTL_ENTRY_COUNT p ≠ 0) ∧ (s.boot.timeBase = some b) ∧ (s.now ≤ b + s.reg .GATE_START_START p)) ∧
    (∃ (s : State) (p : Nat) (g : Nat), (Sparse.get? s.tr.guardNew p = some g)) ∧
    (∃ (s : State) (p : Nat), (Sparse.get? s.tr.guardNew p = none)) ∧
    (∃ (s : State) (b : Nat), (s.boot.timeBase = some b) ∧ (b ≤ s.now) ∧ (0 < s.reg .SHP_SAMPLE_CTL_PERIOD 0)) ∧
    (∃ (s : State), (s.boot.timeBase = none)) ∧
    (∃ (s : State) (i : Nat) (x : SealRmw) (k : Pkt) (b : Bool), (s.tr.seals.find? (fun x => x.pkt == i && !x.ready) = some x) ∧ (s.pkt i = some k) ∧ (s.keys.dead.contains (.seal (k.imprint.getD 0) k.gen) = false)) ∧
    (∃ (s : State) (i : Nat) (x : SealRmw) (k : Pkt), (s.tr.seals.find? (fun x => x.pkt == i && !x.ready) = some x) ∧ (s.pkt i = some k) ∧ (s.keys.dead.contains (.seal (k.imprint.getD 0) k.gen) = false)) ∧
    (∃ (s : State) (i : Nat) (g : Bool) (b : Bool), (s.tr.seals.find? (fun x => x.pkt == i && !x.ready) = none)) :=
  ⟨⟨{ p5 with tr := { pkts := [{ id := 3, req := { src := .device 4 0x100, inPort := 0, kind := .read, addr := 0, len := 4, data := [1, 2, 3, 4], tc := 7, ts := 0 }, cls := .completion, dest := 4, q := .egress 4 7 }], nextId := 9 } }, 4, { id := 3, req := { src := .device 4 0x100, inPort := 0, kind := .read, addr := 0, len := 4, data := [1, 2, 3, 4], tc := 7, ts := 0 }, cls := .completion, dest := 4, q := .egress 4 7 }, by decide +kernel⟩,
    ⟨p5, 128, by decide +kernel⟩,
    ⟨p5, .sub 16383, 40, by decide +kernel⟩,
    ⟨p5, .port 127, 41, by decide +kernel⟩,
    ⟨({ p5 with tr := { gateFrom := [(127, 0)] } } : State).setRegs [(.GATE_STATUS_STATE, 127, 2), (.GATE_CTL_ENTRY_COUNT, 127, 2), (.GATE_START_START, 127, 1000000), (.GATE_CYCLE_CYCLE, 127, 1000), (.GATE_ENTRY_INTERVAL, 256 * 127, 400), (.GATE_ENTRY_GATES, 256 * 127 + 1, 127)], 127, 0, 1000400, by decide +kernel⟩,
    ⟨p5, 127, by decide +kernel⟩,
    ⟨({ p5 with tr := { gateFrom := [(127, 0)] } } : State).setRegs [(.GATE_STATUS_STATE, 127, 1), (.GATE_CTL_ENTRY_COUNT, 127, 2), (.GATE_START_START, 127, 1000000), (.GATE_CYCLE_CYCLE, 127, 1000), (.GATE_ENTRY_INTERVAL, 256 * 127, 400), (.GATE_ENTRY_GATES, 256 * 127 + 1, 127)], 127, 0, by decide +kernel⟩,
    ⟨{ p5 with tr := { guardNew := [(127, 2 ^ 20)] } }, 127, 2 ^ 20, by decide +kernel⟩,
    ⟨p5, 127, by decide +kernel⟩,
    ⟨p5.setReg .SHP_SAMPLE_CTL_PERIOD 0 1, 0, by decide +kernel⟩,
    ⟨inPhase 2, by decide +kernel⟩,
    ⟨{ p5 with tr := { pkts := [{ id := 3, req := { src := .device 4 0x100, inPort := 4, kind := .write, addr := 60, len := 4, data := [1, 2, 3, 4], tc := 7, ts := 0 }, cls := .posted, kind := 1, imprint := some 5, sealed := true, dest := 32, addr := 60, q := .egress 32 7, place := .rmw }], seals := [{ pkt := 3, port := 32, line := 0, quad := 2 }], nextId := 9 } }, 3, { pkt := 3, port := 32, line := 0, quad := 2 }, { id := 3, req := { src := .device 4 0x100, inPort := 4, kind := .write, addr := 60, len := 4, data := [1, 2, 3, 4], tc := 7, ts := 0 }, cls := .posted, kind := 1, imprint := some 5, sealed := true, dest := 32, addr := 60, q := .egress 32 7, place := .rmw }, false, by decide +kernel⟩,
    ⟨{ p5 with tr := { pkts := [{ id := 3, req := { src := .device 4 0x100, inPort := 4, kind := .write, addr := 60, len := 4, data := [1, 2, 3, 4], tc := 7, ts := 0 }, cls := .posted, kind := 1, imprint := some 5, sealed := true, dest := 32, addr := 60, q := .egress 32 7, place := .rmw }], seals := [{ pkt := 3, port := 32, line := 0, quad := 2 }, { pkt := 3, port := 32, line := 64, quad := 2 }], nextId := 9 } }, 3, { pkt := 3, port := 32, line := 0, quad := 2 }, { id := 3, req := { src := .device 4 0x100, inPort := 4, kind := .write, addr := 60, len := 4, data := [1, 2, 3, 4], tc := 7, ts := 0 }, cls := .posted, kind := 1, imprint := some 5, sealed := true, dest := 32, addr := 60, q := .egress 32 7, place := .rmw }, by decide +kernel⟩,
    ⟨p5, 3, true, true, by decide +kernel⟩⟩

theorem witness_PoolRequestsAreServed :
    (∃ (s : State) (i : Nat) (k : Pkt) (e : EccResult), (s.atStack i k) ∧ (s.leaseOf k.destB = none)) ∧
    (∃ (s : State) (i : Nat) (k : Pkt) (l : Lease) (e : EccResult), (s.atStack i k) ∧ (s.neverWritten k l) ∧ (k.req.kind = .read) ∧ (i < s.tr.nextId)) ∧
    (∃ (s : State) (i : Nat) (k : Pkt) (l : Lease) (e : EccResult), (s.atStack i k) ∧ (s.neverWritten k l) ∧ (k.req.kind = .write) ∧ (k.cls = .posted) ∧ (k.req.len = 64) ∧ (k.req.data.length = 64) ∧ (k.addr % 64 = 0)) ∧
    (∃ (s : State) (i : Nat) (e : EccResult), (s.pkt i = none)) ∧
    (∃ (s : State) (m : Nat) (g : Nat), (s.pool.filling.contains (m, g) = true)) ∧
    (∃ (s : State) (m : Nat) (g : Nat), (s.pool.filling.contains (m, g) = false)) ∧
    (∃ (s : State) (i : Nat) (ln : Nat) (k : Pkt) (l : Lease), (s.pool.rmw.find? (fun e => e.1 == i) = some (i, ln)) ∧ (s.pkt i = some k) ∧ (s.leaseOf k.destB = some l) ∧ (s.keys.dead.contains l.key = false) ∧ (s.running (42 + (k.dest - 128)) = true) ∧ (s.running (46 + (k.dest - 128)) = true) ∧ (((s.tag ln).map (·.corr)).getD false = false)) ∧
    (∃ (s : State) (i : Nat) (ln : Nat) (k : Pkt) (l : Lease), (s.pool.rmw.find? (fun e => e.1 == i) = some (i, ln)) ∧ (s.pkt i = some k) ∧ (s.leaseOf k.destB = some l) ∧ (s.keys.dead.contains l.key = false) ∧ (s.running (42 + (k.dest - 128)) = true) ∧ (s.running (46 + (k.dest - 128)) = true) ∧ (((s.tag ln).map (fun x => x.corr || x.ue)).getD false = false)) ∧
    (∃ (s : State) (i : Nat) (k : Pkt), (s.pkt i = some k) ∧ (k.hold = true) ∧ (s.readHeld k.req.src (k.destB * 2 ^ 28 + k.addr) (k.destB * 2 ^ 28 + k.addr + k.req.len - 1) k.req.ts = false)) ∧
    (∃ (s : State) (m : Nat) (ln : Nat) (row : Nat) (bank : Nat), (m < 4) ∧ (s.running (42 + m) = true) ∧ ((s.locate (64 * ln)).1 = m) ∧ (ln < 2 ^ 32) ∧ (s.scrubs ln = true) ∧ (s.lastScrub m ln = false) ∧ ((∀ x, s.tag ln = some x → x.corr = false ∧ x.ue = false))) ∧
    (∃ (s : State) (m : Nat) (ln : Nat) (row : Nat) (bank : Nat) (e : EccResult), (s.scrubs ln = false)) :=
  ⟨⟨{ p5 with tr := { pkts := [{ id := 3, req := { src := .host 0, inPort := 0, kind := .read, addr := 0, len := 64, data := List.replicate 64 7, ts := 0 }, cls := .nonposted, kind := 3, dest := 131, destB := 1023, addr := 192 * 4, quad := some 0, q := .ingress 0 0 131 0, place := .cipher }], nextId := 9 } }, 3, { id := 3, req := { src := .host 0, inPort := 0, kind := .read, addr := 0, len := 64, data := List.replicate 64 7, ts := 0 }, cls := .nonposted, kind := 3, dest := 131, destB := 1023, addr := 192 * 4, quad := some 0, q := .ingress 0 0 131 0, place := .cipher }, .clean, by decide +kernel⟩,
    ⟨{ p5 with pool := { leases := [{ handle := 9, imprint := 5, host := 0, slot := 0, count := 1, epoch := 1, readOnly := false, sub := 0, gen := 0, sheets := [1023], live := true }], mem := [(1023 * 2 ^ 28 + 1, 5), (1023 * 2 ^ 28 + 2048, 6)] }, tr := { pkts := [{ id := 3, req := { src := .host 0, inPort := 0, kind := .read, addr := 0, len := 64, data := List.replicate 64 7, ts := 0 }, cls := .nonposted, kind := 3, dest := 131, destB := 1023, addr := 192 * 4, quad := some 0, q := .ingress 0 0 131 0, place := .cipher, outId := some 0 }], nextId := 4, outs := [{ id := 0, src := .host 0, tag := 1, inPort := 0, port := 131, rid := 1023, kind := .read, addr := 768, len := 64 }] } }, 3, { id := 3, req := { src := .host 0, inPort := 0, kind := .read, addr := 0, len := 64, data := List.replicate 64 7, ts := 0 }, cls := .nonposted, kind := 3, dest := 131, destB := 1023, addr := 192 * 4, quad := some 0, q := .ingress 0 0 131 0, place := .cipher, outId := some 0 }, { handle := 9, imprint := 5, host := 0, slot := 0, count := 1, epoch := 1, readOnly := false, sub := 0, gen := 0, sheets := [1023], live := true }, .bad, by decide +kernel⟩,
    ⟨{ p5 with pool := { leases := [{ handle := 9, imprint := 5, host := 0, slot := 0, count := 1, epoch := 1, readOnly := false, sub := 0, gen := 0, sheets := [1023], live := true }], mem := [(1023 * 2 ^ 28 + 1, 5), (1023 * 2 ^ 28 + 2048, 6)] }, tr := { pkts := [{ id := 3, req := { src := .host 0, inPort := 0, kind := .write, addr := 0, len := 64, data := List.replicate 64 7, ts := 0 }, cls := .posted, kind := 3, dest := 131, destB := 1023, addr := 192 * 4, quad := some 0, q := .ingress 0 0 131 0, place := .cipher }], nextId := 4, outs := [{ id := 0, src := .host 0, tag := 1, inPort := 0, port := 131, rid := 1023, kind := .read, addr := 768, len := 64 }] } }, 3, { id := 3, req := { src := .host 0, inPort := 0, kind := .write, addr := 0, len := 64, data := List.replicate 64 7, ts := 0 }, cls := .posted, kind := 3, dest := 131, destB := 1023, addr := 192 * 4, quad := some 0, q := .ingress 0 0 131 0, place := .cipher }, { handle := 9, imprint := 5, host := 0, slot := 0, count := 1, epoch := 1, readOnly := false, sub := 0, gen := 0, sheets := [1023], live := true }, .clean, by decide +kernel⟩,
    ⟨p5, 3, .bad, by decide +kernel⟩,
    ⟨{ p5 with pool := { filling := [(3, 1)] } }, 3, 1, by decide +kernel⟩,
    ⟨p5, 3, 1, by decide +kernel⟩,
    ⟨{ p5 with pool := { leases := [{ handle := 9, imprint := 5, host := 0, slot := 0, count := 1, epoch := 1, readOnly := false, sub := 0, gen := 0, sheets := [1023], live := true }], mem := [(1023 * 2 ^ 28 + 1, 5), (1023 * 2 ^ 28 + 2048, 6)], rmw := [(3, 4290773004)] }, tr := { pkts := [{ id := 3, req := { src := .host 0, inPort := 0, kind := .write, addr := 0, len := 64, data := List.replicate 64 7, ts := 0 }, cls := .posted, kind := 3, dest := 131, destB := 1023, addr := 192 * 4, quad := some 0, q := .ingress 0 0 131 0, place := .cipher }], nextId := 4, outs := [{ id := 0, src := .host 0, tag := 1, inPort := 0, port := 131, rid := 1023, kind := .read, addr := 768, len := 64 }] } }, 3, 4290773004, { id := 3, req := { src := .host 0, inPort := 0, kind := .write, addr := 0, len := 64, data := List.replicate 64 7, ts := 0 }, cls := .posted, kind := 3, dest := 131, destB := 1023, addr := 192 * 4, quad := some 0, q := .ingress 0 0 131 0, place := .cipher }, { handle := 9, imprint := 5, host := 0, slot := 0, count := 1, epoch := 1, readOnly := false, sub := 0, gen := 0, sheets := [1023], live := true }, by decide +kernel⟩,
    ⟨{ p5 with pool := { leases := [{ handle := 9, imprint := 5, host := 0, slot := 0, count := 1, epoch := 1, readOnly := false, sub := 0, gen := 0, sheets := [1023], live := true }], mem := [(1023 * 2 ^ 28 + 1, 5), (1023 * 2 ^ 28 + 2048, 6)], rmw := [(3, 4290773004)] }, tr := { pkts := [{ id := 3, req := { src := .host 0, inPort := 0, kind := .write, addr := 0, len := 64, data := List.replicate 64 7, ts := 0 }, cls := .posted, kind := 3, dest := 131, destB := 1023, addr := 192 * 4, quad := some 0, q := .ingress 0 0 131 0, place := .cipher }], nextId := 4, outs := [{ id := 0, src := .host 0, tag := 1, inPort := 0, port := 131, rid := 1023, kind := .read, addr := 768, len := 64 }] } }, 3, 4290773004, { id := 3, req := { src := .host 0, inPort := 0, kind := .write, addr := 0, len := 64, data := List.replicate 64 7, ts := 0 }, cls := .posted, kind := 3, dest := 131, destB := 1023, addr := 192 * 4, quad := some 0, q := .ingress 0 0 131 0, place := .cipher }, { handle := 9, imprint := 5, host := 0, slot := 0, count := 1, epoch := 1, readOnly := false, sub := 0, gen := 0, sheets := [1023], live := true }, by decide +kernel⟩,
    ⟨{ p5 with tr := { pkts := [{ id := 3, req := { src := .host 0, inPort := 0, kind := .read, addr := 0, len := 64, data := List.replicate 64 7, ts := 0 }, cls := .nonposted, kind := 3, dest := 131, destB := 1023, addr := 192 * 4, quad := some 0, q := .ingress 0 0 131 0, place := .cipher, hold := true }], nextId := 9 } }, 3, { id := 3, req := { src := .host 0, inPort := 0, kind := .read, addr := 0, len := 64, data := List.replicate 64 7, ts := 0 }, cls := .nonposted, kind := 3, dest := 131, destB := 1023, addr := 192 * 4, quad := some 0, q := .ingress 0 0 131 0, place := .cipher, hold := true }, by decide +kernel⟩,
    ⟨({ p5 with pool := { granules := [3 * 2 ^ 24 + 1023 * 2 ^ 14] } } : State).setReg .MEM_SHEET_STATE 1023 1, 3, 4290773004, 0, 63, by decide +kernel⟩,
    ⟨p5, 3, 0, 0, 0, .bad, by decide +kernel⟩⟩

theorem witness_KeyStoresRevocationAndEntropy :
    (∃ (s : State) (n : Nat) (r : KeyRef) (c : Bool), (s.storeHas n r = true)) ∧
    (∃ (s : State) (n : Nat) (r : KeyRef) (c : Bool), (s.storeHas n r = false)) ∧
    (∃ (s : State) (n : Nat) (r : KeyRef), (s.isl.waking.any (fun e => e.1 == n) = false)) ∧
    (∃ (s : State) (v : Revocation) (T : Nat), (s.keys.revs.find? (fun v => v.tf.isSome && !v.swept) = some v) ∧ (v.tf = some T)) ∧
    (∃ (s : State) (v : Revocation) (T : Nat) (r : KeyRef), (s.keys.revs.find? (fun v => v.tf.isSome && v.refs.contains r && !v.destroyed.contains r) = some v) ∧ (v.tf = some T) ∧ (s.holders r = 0)) ∧
    (∃ (s : State) (r : KeyRef), (s.keys.revs = [])) ∧
    (∃ (s : State) (v : Revocation), (s.keys.revs.find? (fun v => v.tf.isSome && v.refs.all v.destroyed.contains) = some v) ∧ (v.handle = none) ∧ (s.reg .BAL_KEY_SLOT_STATE v.imprint = 2) ∧ (s.reg .BAL_KEY_SLOT_POLICY v.imprint ≠ 1)) ∧
    (∃ (s : State) (v : Revocation) (h : Nat), (s.keys.revs.find? (fun v => v.tf.isSome && v.refs.all v.destroyed.contains) = some v) ∧ (v.handle = some h)) ∧
    (∃ (s : State), (s.flt.causes.any (fun c => c.source == 0x0D) = false)) ∧
    (∃ (s : State), (s.flt.causes.any (fun c => c.source == 0x0D) = true)) ∧
    (∃ (s : State), (s.flt.causes.any (fun c => c.source == 0x0D) = true)) ∧
    (∃ (s : State), (s.flt.causes.any (fun c => c.source == 0x0D) = false)) :=
  ⟨⟨(p5.setRegs [(.BAL_KEY_SLOT_STATE, 1023, 1), (.BAL_KEY_SLOT_GEN, 1023, 255)]), 39, .seal 1023 255, true, by decide +kernel⟩,
    ⟨(p5.setRegs [(.BAL_KEY_SLOT_STATE, 1023, 1), (.BAL_KEY_SLOT_GEN, 1023, 255)]), 40, .seal 1023 255, true, by decide +kernel⟩,
    ⟨(p5.updKeys (fun k => { k with redeliver := [(39, .seal 1023 255)] })), 39, .seal 1023 255, by decide +kernel⟩,
    ⟨(p5.updKeys (fun k => { k with revs := [{ imprint := 1023, handle := none, refs := [.seal 1023 255], tf := some 2000000 }] })), { imprint := 1023, handle := none, refs := [.seal 1023 255], tf := some 2000000 }, 2000000, by decide +kernel⟩,
    ⟨(p5.updKeys (fun k => { k with revs := [{ imprint := 1023, handle := none, refs := [.seal 1023 255], tf := some 2000000 }], redeliver := [(39, .seal 1023 255)] })), { imprint := 1023, handle := none, refs := [.seal 1023 255], tf := some 2000000 }, 2000000, .seal 1023 255, by decide +kernel⟩,
    ⟨p5, .seal 1023 255, by decide +kernel⟩,
    ⟨{ ((p5.setRegs [(.BAL_KEY_SLOT_STATE, 1023, 2), (.BAL_KEY_SLOT_GEN, 1023, 255)]).updKeys (fun k => { k with revs := [{ imprint := 1023, handle := none, refs := [.seal 1023 255], tf := some 2000000, destroyed := [.seal 1023 255] }], owner := [(1023, 7)] })) with port := { running := some { host := 0, opcode := 0x31, token := 1, args := [], since := 0, wait := .revoke 1023 } } }, { imprint := 1023, handle := none, refs := [.seal 1023 255], tf := some 2000000, destroyed := [.seal 1023 255] }, by decide +kernel⟩,
    ⟨({ (p5.updKeys (fun k => { k with revs := [{ imprint := 5, handle := some 9, refs := [.sheet 9 1 5 0], tf := some 900000, destroyed := [.sheet 9 1 5 0] }] })) with pool := { leases := [{ handle := 9, imprint := 5, host := 0, slot := 0, count := 1, epoch := 1, readOnly := false, sub := 0, gen := 0, sheets := [1023], live := true }] }, port := { running := some { host := 0, opcode := 0x31, token := 1, args := [], since := 0, wait := .release 9 } } } : State).setReg .MEM_SHEET_STATE 1023 3, { imprint := 5, handle := some 9, refs := [.sheet 9 1 5 0], tf := some 900000, destroyed := [.sheet 9 1 5 0] }, 9, by decide +kernel⟩,
    ⟨p5.setRegs [(.BAL_STATUS_RNG_OK, 0, 1), (.BAL_STATUS_RNG_FAIL, 0, 2 ^ Fld.BAL_STATUS_RNG_FAIL.width - 1)], by decide +kernel⟩,
    ⟨p5.causeOn 0x0D 0 0, by decide +kernel⟩,
    ⟨p5.causeOn 0x0D 0 0, by decide +kernel⟩,
    ⟨p5, by decide +kernel⟩⟩

theorem witness_ReportsAreQueuedAndAnswered :
    (∃ (s : State) (w : Requester), (1 ≤ s.phase)) ∧
    (∃ (s : State) (w : Requester) (i : Nat), (s.phase = 0)) ∧
    (∃ (s : State) (w : Requester) (y : Nat) (i : Nat) (x : Nat), (s.phase = 5) ∧ (i < 1024) ∧ ((y = 1 ∨ (y = 2 ∧ s.tenant w = false))) ∧ (s.keys.reports.length < 8)) ∧
    (∃ (s : State) (k : Nat) (i : Nat) (x : Nat), (s.phase = 5) ∧ (i < 1024) ∧ (s.operator k = false) ∧ ((s.ownImprints k).contains i = false)) ∧
    (∃ (s : State) (w : Requester) (i : Nat) (x : Nat), (s.phase = 5) ∧ (i < 1024) ∧ (8 ≤ s.keys.reports.length)) ∧
    (∃ (s : State) (w : Requester) (t : Nat) (i : Nat) (x : Nat) (n : Nat), (n ≠ 0) ∧ (s.keys.held.find? (fun h => decide (h.who = w)) = none)) ∧
    (∃ (s : State) (w : Requester) (t : Nat) (i : Nat) (x : Nat) (n : Nat) (h : HeldResp), (n ≠ 0) ∧ (s.keys.held.find? (fun h => decide (h.who = w)) = some h) ∧ (1024 * n < h.body.length)) ∧
    (∃ (s : State) (w : Requester) (c : Nat), (2 ≤ s.phase) ∧ (1 ≤ c) ∧ (c ≤ 5)) ∧
    (∃ (s : State) (q : ReportReq) (rest : List ReportReq), (s.keys.reports = q :: rest) ∧ (s.keyCommand = false)) ∧
    (∃ (s : State), ((s.keys.reports = [] ∨ s.keyCommand = true))) ∧
    (∃ (s : State) (w : Requester) (h : HeldResp), (s.keys.held.find? (fun h => decide (h.who = w)) = some h)) ∧
    (∃ (s : State) (w : Requester), (s.keys.held.find? (fun h => decide (h.who = w)) = none)) :=
  ⟨⟨inPhase 1, .doe 31, by decide +kernel⟩,
    ⟨inPhase 0, .i3c 0, 1, by decide +kernel⟩,
    ⟨(p5.updKeys (fun k => { k with held := [{ who := .doe 31, body := List.replicate 1025 7, since := 5 }] })), .doe 0, 2, 1023, 9, by decide +kernel⟩,
    ⟨p5, 1, 1023, 9, by decide +kernel⟩,
    ⟨(p5.updKeys (fun k => { k with reports := List.replicate 8 { who := .i3c 7, typ := 1, imprint := 1023, nonce := 5 } })), .doe 31, 1023, 9, by decide +kernel⟩,
    ⟨p5, .doe 31, 1, 0, 0, 1, by decide +kernel⟩,
    ⟨(p5.updKeys (fun k => { k with held := [{ who := .doe 31, body := List.replicate 1025 7, since := 5 }] })), .doe 31, 1, 0, 0, 1, { who := .doe 31, body := List.replicate 1025 7, since := 5 }, by decide +kernel⟩,
    ⟨inPhase 2, .vdm 31 0, 5, by decide +kernel⟩,
    ⟨(p5.updKeys (fun k => { k with reports := [{ who := .i3c 7, typ := 1, imprint := 1023, nonce := 5 }] })), { who := .i3c 7, typ := 1, imprint := 1023, nonce := 5 }, [], by decide +kernel⟩,
    ⟨p5, by decide +kernel⟩,
    ⟨(p5.updKeys (fun k => { k with held := [{ who := .doe 31, body := List.replicate 1025 7, since := 5 }] })), .doe 31, { who := .doe 31, body := List.replicate 1025 7, since := 5 }, by decide +kernel⟩,
    ⟨p5, .i3c 255, by decide +kernel⟩⟩

theorem witness_FaultsAreCollectedAndCleared :
    (∃ (s : State) (r : Report), (s.flt.reportQ = [r]) ∧ (s.flt.counted = []) ∧ (r.source < 128) ∧ (r.scope < 2 ^ 20) ∧ (r.kind < 4) ∧ (s.effSev r.source r.sev ≤ 1) ∧ (s.fltGlobal.notifyMin = 4) ∧ ((r.source < 0x18 ∨ 0x22 < r.source)) ∧ (s.on .FLT_FIRST_VALID = false)) ∧
    (∃ (s : State) (r : Report), (s.flt.reportQ = [r]) ∧ (s.effSev r.source r.sev = 4)) ∧
    (∃ (s : State) (n : Nat), (s.flt.reportQ = []) ∧ (s.flt.counted = [])) ∧
    (∃ (s : State) (e : Nat), (224 ≤ e) ∧ (e < 256) ∧ (s.escOn e = true)) ∧
    (∃ (s : State) (e : Nat), (e < 224) ∧ (s.escOn e = true)) ∧
    (∃ (s : State) (e : Nat), (s.escOn e = false)) ∧
    (∃ (s : State) (n : Nat), (s.reg .FLT_FUNC_STATE n = 2)) ∧
    (∃ (s : State) (n : Nat), (s.reg .FLT_FUNC_STATE n ≠ 2)) ∧
    (∃ (s : State) (k : Nat), (s.operator k = true)) ∧
    (∃ (s : State) (k : Nat) (c : Nat), (s.operator k = true) ∧ (c < 128) ∧ (s.active c = false)) ∧
    (∃ (s : State) (k : Nat) (c : Nat), (s.operator k = true) ∧ (c < 128) ∧ (s.active c = true)) ∧
    (∃ (s : State) (k : Nat) (c : Nat), (s.operator k = true)) ∧
    (∃ (s : State) (k : Nat) (e : Nat), (s.operator k = true) ∧ (e < 256) ∧ (s.escOn e = true)) ∧
    (∃ (s : State) (k : Nat), (s.operator k = true) ∧ (s.pendSev 3 = false)) ∧
    (∃ (s : State) (k : Nat), (s.operator k = true) ∧ (s.pendSev 3 = true)) ∧
    (∃ (s : State) (k : Nat) (v : Nat), (s.operator k = true) ∧ (s.holdsLock k = true) ∧ (s.flt.armed = none) ∧ (sourceInv (bits v 6 0) = true) ∧ (1 ≤ bits v 29 28) ∧ (bits v 29 28 ≤ 2)) ∧
    (∃ (s : State) (k : Nat) (c : Nat) (e : Nat) (v : Nat), (s.operator k = false)) :=
  ⟨⟨{ (p5.updCom (fun m => { m with faults := [{ typ := 1, notifyMin := 4 }] })) with flt := { reportQ := [{ source := 0x51, kind := 3, scope := 2 ^ 20 - 1 }] } }, { source := 0x51, kind := 3, scope := 2 ^ 20 - 1 }, by decide +kernel⟩,
    ⟨{ (p5.updCom (fun m => { m with faults := [{ typ := 1, notifyMin := 4 }] })) with flt := { reportQ := [{ source := 2, kind := 3, scope := 2 ^ 20 - 1 }] } }, { source := 2, kind := 3, scope := 2 ^ 20 - 1 }, by decide +kernel⟩,
    ⟨p5, 65535, by decide +kernel⟩,
    ⟨(p5.setRegs [(.FLT_ESC_VALID, 255, 1), (.FLT_ESC_SOURCE, 255, 0x2A)]), 255, by decide +kernel⟩,
    ⟨(p5.setRegs [(.FLT_ESC_VALID, 223, 1), (.FLT_ESC_SOURCE, 223, 0x2A)]), 223, by decide +kernel⟩,
    ⟨p5, 256, by decide +kernel⟩,
    ⟨p5.setReg .FLT_FUNC_STATE 255 2, 255, by decide +kernel⟩,
    ⟨p5, 255, by decide +kernel⟩,
    ⟨p5.setReg .FLT_FIRST_VALID 0 1, 0, by decide +kernel⟩,
    ⟨p5.setReg .FLT_CAUSE_PENDING 127 1, 0, 127, by decide +kernel⟩,
    ⟨p5.causeOn 0x1A 0 0, 0, 0x1A, by decide +kernel⟩,
    ⟨(p5.setRegs [(.FLT_ESC_VALID, 255, 1), (.FLT_ESC_SOURCE, 255, 0x2A)]), 0, 0x2A, by decide +kernel⟩,
    ⟨(p5.setRegs [(.FLT_ESC_VALID, 255, 1), (.FLT_ESC_SOURCE, 255, 0x2A)]), 0, 255, by decide +kernel⟩,
    ⟨p5.setReg .FLT_STATUS_SAFE_MODE 0 1, 0, by decide +kernel⟩,
    ⟨(p5.setReg .FLT_CAUSE_PENDING 8 1), 0, by decide +kernel⟩,
    ⟨p5.setReg .CMP_LOCK_HELD 0 1, 0, 0x46 + (2 ^ 20 - 1) * 256 + 2 * 2 ^ 28, by decide +kernel⟩,
    ⟨p5, 1, 0, 0, 0, by decide +kernel⟩⟩

theorem witness_FabricFoliosAndPackets :
    (∃ (s : State) (p : Nat) (rx : List (List Nat)), (s.fabActive p = true) ∧ ((s.dlink p).lostAt = none) ∧ (Folio.receive (Folio.fromWire (s.reg .TILE_DL_MASK_RX_MASK (p / 4)) rx) = none)) ∧
    (∃ (s : State) (p : Nat) (n : Nat) (k : Nat) (rx : List (List Nat)) (f : List Byte), (s.fabActive p = true) ∧ ((s.dlink p).lostAt = none) ∧ (Folio.receive (Folio.fromWire (s.reg .TILE_DL_MASK_RX_MASK (p / 4)) rx) = some (f, n)) ∧ ((Folio.header f).ftype = 0) ∧ ((Folio.header f).nak = false) ∧ ((Folio.header f).crValid = false) ∧ (k = ((Folio.header f).ack + 4096 - ((s.dlink p).oldest + 4095) % 4096) % 4096) ∧ (k ≤ ((s.dlink p).nextTx + 4096 - (s.dlink p).oldest) % 4096) ∧ ((s.dlink p).replays = 0) ∧ ((s.dlink p).cmdQ = []) ∧ ((s.dlink p).due = false)) ∧
    (∃ (s : State) (p : Nat) (n : Nat) (rx : List (List Nat)) (f : List Byte), (s.fabActive p = true) ∧ ((s.dlink p).lostAt = none) ∧ (Folio.receive (Folio.fromWire (s.reg .TILE_DL_MASK_RX_MASK (p / 4)) rx) = some (f, n)) ∧ ((Folio.header f).ftype = 3)) ∧
    (∃ (s : State) (p : Nat) (n : Nat) (rx : List (List Nat)) (f : List Byte), (s.role p = 3) ∧ (s.dlState p = 4) ∧ (Folio.receive (Folio.fromWire (s.reg .TILE_DL_MASK_RX_MASK (p / 4)) rx) = some (f, n)) ∧ ((Folio.header f).ftype = 2)) ∧
    (∃ (s : State) (p : Nat) (n : Nat) (rx : List (List Nat)) (f : List Byte), (s.role p = 3) ∧ (s.dlState p = 3) ∧ (Folio.receive (Folio.fromWire (s.reg .TILE_DL_MASK_RX_MASK (p / 4)) rx) = some (f, n)) ∧ ((Folio.header f).ftype = 0)) ∧
    (∃ (s : State) (p : Nat) (rx : List (List Nat)), (s.fabActive p = true) ∧ ((s.dlink p).lostAt ≠ none)) ∧
    (∃ (s : State) (p : Nat) (rx : List (List Nat)), (s.fabActive p = false) ∧ (s.dlState p ≠ 3) ∧ (s.dlState p ≠ 4)) ∧
    (∃ (s : State) (p : Nat) (ts : Nat) (e : Nat) (f : FabPkt) (g : FabPkt), ((s.dlink p).left.any (fun g => chanOf g == chanOf f) = false) ∧ (inboxHead (s.dlink p).inbox f = some g) ∧ (f.ptype = 1) ∧ (f.poison = false) ∧ (f.dstSw ≠ ownSw s.com.active) ∧ (s.halted = false) ∧ (s.running (32 + quadOf p) = true) ∧ (s.fencing (32 + quadOf p) = false) ∧ (s.metHeld = false) ∧ (2 ≤ f.hops) ∧ (s.routePort f.dstSw f.vc f.srcSw f.srcPort f.tc = some e)) ∧
    (∃ (s : State) (p : Nat) (ts : Nat) (f : FabPkt), (inboxHead (s.dlink p).left f = none) ∧ (inboxHead (s.dlink p).inbox f = none)) ∧
    (∃ (s : State) (p : Nat), (s.fabActive p = true) ∧ ((s.dlink p).replay ≠ []) ∧ ((s.dlink p).replays < 7) ∧ ((s.dlink p).sent + (s.dlink p).replay.length < 16384)) ∧
    (∃ (s : State) (p : Nat) (v : Nat) (m : Nat) (d : Dlink) (h : Folio.Header), (s.fabActive p = true) ∧ (v < 16) ∧ (s.dlink p = d) ∧ (d.crTurn % 16 = v) ∧ (d.owed = []) ∧ (d.sent < 16383) ∧ (m = s.reg .TILE_DL_MASK_TX_MASK (p / 4)) ∧ (h = { ftype := 0, seq := 0, ack := (if d.episode then d.nextRx else (d.nextRx + 4095) % 4096), nak := d.episode, fhp := 0, crVc := v, crHdr := nth d.freedHdr v, crData := nth d.freedData v, crValid := true })) ∧
    (∃ (s : State) (p : Nat) (v : Nat), (s.fabActive p = true) ∧ (v < 16) ∧ ((s.dlink p).sent < 16367)) ∧
    (∃ (s : State) (p : Nat) (m : Nat), (s.fabActive p = true) ∧ (m = s.reg .TILE_DL_MASK_TX_MASK (p / 4))) ∧
    (∃ (s : State) (p : Nat) (bs : List (List Byte)), (s.fabActive p = true) ∧ ((s.heardMark p 2 bs).isSome = true) ∧ ((Folio.marksOn (65535 ^^^ s.reg .TILE_DL_MASK_RX_MASK (p / 4)) 2 bs).findSome? id = none)) ∧
    (∃ (s : State) (p : Nat) (w : Nat) (m : Nat) (old : Nat) (bs : List (List Byte)), (s.fabActive p = true) ∧ (s.heardMark p 2 bs = none) ∧ (old = s.reg .TILE_DL_MASK_RX_MASK (p / 4)) ∧ ((Folio.marksOn (65535 ^^^ old) 2 bs).findSome? id = some (w, m)) ∧ (m &&& (65535 ^^^ old) ≠ 0) ∧ (maskFits ((s.dlink p).usable ||| m &&& (65535 ^^^ old)) w m = true) ∧ (m &&& (65535 ^^^ old) &&& (s.dlink p).usable = m &&& (65535 ^^^ old)) ∧ ((s.dlink p).chRx = none)) ∧
    (∃ (s : State) (p : Nat) (x : Nat), (s.fabActive p = true) ∧ ((s.dlink p).lostAt = some x)) ∧
    (∃ (s : State) (p : Nat), (s.fabActive p = true)) ∧
    (∃ (s : State) (p : Nat) (v : Nat) (bs : List (List Byte)), (s.fabActive p = false)) :=
  ⟨⟨(p5.setRegs [(.TILE_DL_STATUS_STATE, 4, 5), (.TILE_DL_MASK_TX_MASK, 4, 255), (.TILE_DL_MASK_RX_MASK, 4, 255)]), 16, [], by decide +kernel⟩,
    ⟨((p5.setRegs [(.TILE_DL_STATUS_STATE, 4, 5), (.TILE_DL_MASK_TX_MASK, 4, 255), (.TILE_DL_MASK_RX_MASK, 4, 255)]).updDlink 16 (fun d => { d with replay := [{ seq := 0, fhp := 0, area := [], pkts := [] }], nextTx := 1 })), 16, 0, 1, Folio.toWire 255 idleFolio, (idleFolio.take 304), ⟨by decide +kernel, by decide +kernel, idleFolio_wired, by decide +kernel⟩⟩,
    ⟨(p5.setRegs [(.TILE_DL_STATUS_STATE, 4, 5), (.TILE_DL_MASK_TX_MASK, 4, 255), (.TILE_DL_MASK_RX_MASK, 4, 255)]), 16, 0, Folio.toWire 255 typeThreeFolio, (typeThreeFolio.take 304), ⟨by decide +kernel, by decide +kernel, typeThreeFolio_wired, by decide +kernel⟩⟩,
    ⟨(((p5.setRegs [(.TILE_DL_STATUS_STATE, 4, 4), (.TILE_PORT_STATUS_LINK_UP, 16, 0)]).updDlink 16 (fun d => { d with usable := 127 })).setReg .TILE_DL_MASK_RX_MASK 4 255), 16, 0, Folio.toWire 255 trainFolio, (trainFolio.take 304), ⟨by decide +kernel, by decide +kernel, trainFolio_wired, by decide +kernel⟩⟩,
    ⟨(((p5.setRegs [(.TILE_DL_STATUS_STATE, 4, 3), (.TILE_PORT_STATUS_LINK_UP, 16, 0)]).updDlink 16 (fun d => { d with usable := 127 })).setReg .TILE_DL_MASK_RX_MASK 4 255), 16, 0, Folio.toWire 255 idleFolio, (idleFolio.take 304), ⟨by decide +kernel, by decide +kernel, idleFolio_wired, by decide +kernel⟩⟩,
    ⟨((p5.setRegs [(.TILE_DL_STATUS_STATE, 4, 5), (.TILE_DL_MASK_TX_MASK, 4, 255), (.TILE_DL_MASK_RX_MASK, 4, 255)]).updDlink 16 (fun d => { d with lostAt := some 5 })), 16, [], by decide +kernel⟩,
    ⟨p5, 16, [], by decide +kernel⟩,
    ⟨(((p5.setRegs [(.TILE_DL_STATUS_STATE, 4, 5), (.TILE_DL_MASK_TX_MASK, 4, 255), (.TILE_DL_MASK_RX_MASK, 4, 255)]).updCom (fun m => { m with active := [({ typ := 4, index := 63 }, 0), ({ typ := 5, index := 0, part := 0 }, 16), ({ typ := 5, index := 0, part := 1 }, 0), ({ typ := 5, index := 0, part := 2 }, 0), ({ typ := 5, index := 0, part := 3 }, 0), ({ typ := 5, index := 0, part := 4 }, 0), ({ typ := 7, index := 0 }, 1)] })).updDlink 16 (fun d => { d with inbox := [{ ptype := 1, dstSw := 63, srcSw := 62, srcPort := 127, hops := 2, tc := 7 }] })), 16, 900000, 16, { ptype := 1, dstSw := 63, srcSw := 62, srcPort := 127, hops := 2, tc := 7 }, { ptype := 1, dstSw := 63, srcSw := 62, srcPort := 127, hops := 2, tc := 7 }, by decide +kernel⟩,
    ⟨(p5.setRegs [(.TILE_DL_STATUS_STATE, 4, 5), (.TILE_DL_MASK_TX_MASK, 4, 255), (.TILE_DL_MASK_RX_MASK, 4, 255)]), 16, 0, { ptype := 4, dstSw := 0, srcSw := 0, srcPort := 0 }, by decide +kernel⟩,
    ⟨((p5.setRegs [(.TILE_DL_STATUS_STATE, 4, 5), (.TILE_DL_MASK_TX_MASK, 4, 255), (.TILE_DL_MASK_RX_MASK, 4, 255)]).updDlink 16 (fun d => { d with replay := [{ seq := 4095, fhp := 0, area := [], pkts := [] }, { seq := 0, fhp := 0, area := [], pkts := [] }], replays := 6, lastAdv := 5 })), 16, by decide +kernel⟩,
    ⟨((p5.setRegs [(.TILE_DL_STATUS_STATE, 4, 5), (.TILE_DL_MASK_TX_MASK, 4, 255), (.TILE_DL_MASK_RX_MASK, 4, 255)]).updDlink 16 (fun d => { d with crTurn := 15, freedHdr := List.replicate 16 4095 })), 16, 15, 255, { port := 16, crTurn := 15, freedHdr := List.replicate 16 4095 }, { ftype := 0, seq := 0, ack := 4095, nak := false, fhp := 0, crVc := 15, crHdr := 4095, crData := 0, crValid := true }, by decide +kernel⟩,
    ⟨((p5.setRegs [(.TILE_DL_STATUS_STATE, 4, 5), (.TILE_DL_MASK_TX_MASK, 4, 255), (.TILE_DL_MASK_RX_MASK, 4, 255)]).updDlink 16 (fun d => { d with crTurn := 3 })), 16, 1, by decide +kernel⟩,
    ⟨(p5.setRegs [(.TILE_DL_STATUS_STATE, 4, 5), (.TILE_DL_MASK_TX_MASK, 4, 255), (.TILE_DL_MASK_RX_MASK, 4, 255)]), 16, 255, by decide +kernel⟩,
    ⟨((p5.setRegs [(.TILE_DL_STATUS_STATE, 4, 5), (.TILE_DL_MASK_TX_MASK, 4, 255), (.TILE_DL_MASK_RX_MASK, 4, 255)]).updDlink 16 (fun d => { d with lostAt := some 5 })), 16, List.replicate 8 (Folio.widthMark 2 3 255), by decide +kernel⟩,
    ⟨(((p5.setRegs [(.TILE_DL_STATUS_STATE, 4, 5), (.TILE_DL_MASK_TX_MASK, 4, 255), (.TILE_DL_MASK_RX_MASK, 4, 255)]).updDlink 16 (fun d => { d with usable := 255 })).setReg .TILE_DL_MASK_RX_MASK 4 15), 16, 3, 255, 15, (List.replicate 5 [] ++ List.replicate 3 (Folio.widthMark 2 3 255)), by decide +kernel⟩,
    ⟨((p5.setRegs [(.TILE_DL_STATUS_STATE, 4, 5), (.TILE_DL_MASK_TX_MASK, 4, 255), (.TILE_DL_MASK_RX_MASK, 4, 255)]).updDlink 16 (fun d => { d with lostAt := some 1950000 })), 16, 1950000, by decide +kernel⟩,
    ⟨((p5.setRegs [(.TILE_DL_STATUS_STATE, 4, 5), (.TILE_DL_MASK_TX_MASK, 4, 255), (.TILE_DL_MASK_RX_MASK, 4, 255)]).updDlink 16 (fun d => { d with goodAt := 995000 })), 16, by decide +kernel⟩,
    ⟨p5, 127, 0, [], by decide +kernel⟩⟩

theorem witness_FabricLinksTrainAndGoDown :
    (∃ (s : State) (p : Nat) (x : Nat), (s.role p = 3) ∧ (s.dlState p = 1) ∧ (s.mayTrain p = true) ∧ (2 ≤ popCount (s.lanes p).length (x % 2 ^ (s.lanes p).length))) ∧
    (∃ (s : State) (p : Nat) (x : Nat), (s.dlState p ≠ 1)) ∧
    (∃ (s : State) (p : Nat) (x : Nat) (m : Nat) (u : EqFound), (s.role p = 3) ∧ (s.dlState p = 2) ∧ (m = x % 2 ^ (s.lanes p).length &&& (s.dlink p).usable &&& (u.rounds.getLast?.map eqReady).getD 0) ∧ (widthFit (popCount (s.lanes p).length m) = 0)) ∧
    (∃ (s : State) (p : Nat) (x : Nat) (n : Nat) (m : Nat) (u : EqFound), (s.role p = 3) ∧ (s.dlState p = 2) ∧ (m = x % 2 ^ (s.lanes p).length &&& (s.dlink p).usable &&& (u.rounds.getLast?.map eqReady).getD 0) ∧ (n = widthFit (popCount (s.lanes p).length m)) ∧ (n ≠ 0)) ∧
    (∃ (s : State) (p : Nat) (x : Nat) (u : EqFound), (s.dlState p ≠ 2)) ∧
    (∃ (s : State) (p : Nat), (s.role p = 3) ∧ (s.dlState p = 3) ∧ (64 ≤ (s.dlink p).run) ∧ ((s.dlink p).sent < 16383)) ∧
    (∃ (s : State) (p : Nat), ((s.dlState p ≠ 3 ∨ (s.dlink p).run < 64))) ∧
    (∃ (s : State) (p : Nat) (x : TrainInfo), (s.role p = 3) ∧ (s.dlState p = 4) ∧ (8 ≤ (s.dlink p).run) ∧ ((s.dlink p).heard = some x) ∧ (x.dir ≠ s.ownDir p) ∧ (creditsOk x = true)) ∧
    (∃ (s : State) (p : Nat) (c : Nat) (x : TrainInfo), (s.role p = 3) ∧ (s.dlState p = 4) ∧ (8 ≤ (s.dlink p).run) ∧ ((s.dlink p).heard = some x) ∧ (((x.dir = s.ownDir p ∧ c = 0x28) ∨ (x.dir ≠ s.ownDir p ∧ creditsOk x = false ∧ c = 0x24)))) ∧
    (∃ (s : State) (p : Nat) (x : TrainInfo), ((s.dlState p ≠ 4 ∨ (s.dlink p).run < 8 ∨ (s.dlink p).heard ≠ some x))) ∧
    (∃ (s : State) (p : Nat) (x : Nat), ((s.dlink p).retryAt = some x) ∧ (s.role p = 3) ∧ (s.dlState p = 0) ∧ ((s.portTiles p).all (fun t => !s.closed t) = true) ∧ ((s.lanes p).any s.inTest = false)) ∧
    (∃ (s : State) (p : Nat), ((s.dlink p).retryAt = none)) ∧
    (∃ (s : State) (p : Nat), (s.role p = 3) ∧ (s.dlState p ≠ 0) ∧ (s.dlState p ≠ 6)) ∧
    (∃ (s : State) (p : Nat), (s.role p ≠ 3)) ∧
    (∃ (s : State) (p : Nat) (i : Nat) (x : Transit), (s.tr.transits.find? (fun t => t.id == i && t.port == p) = some x)) ∧
    (∃ (s : State) (p : Nat) (i : Nat), (s.tr.transits.find? (fun t => t.id == i && t.port == p) = none)) :=
  ⟨⟨((p5.setRegs [(.TILE_DL_STATUS_STATE, 4, 1), (.TILE_PORT_STATUS_LINK_UP, 16, 0)]).updDlink 16 (fun d => { d with usable := 127 })), 16, 0x1C0, by decide +kernel⟩,
    ⟨p5, 16, 255, by decide +kernel⟩,
    ⟨((p5.setRegs [(.TILE_DL_STATUS_STATE, 4, 2), (.TILE_PORT_STATUS_LINK_UP, 16, 0)]).updDlink 16 (fun d => { d with usable := 127 })), 16, 0x101, 1, { rounds := [{ blocks := List.replicate 16 (Folio.mark 3 0 4 0) }] }, by decide +kernel⟩,
    ⟨((p5.setRegs [(.TILE_DL_STATUS_STATE, 4, 2), (.TILE_PORT_STATUS_LINK_UP, 16, 0)]).updDlink 16 (fun d => { d with usable := 127 })), 16, 3, 2, 3, { rounds := [{ blocks := List.replicate 16 (Folio.mark 3 0 4 0) }] }, by decide +kernel⟩,
    ⟨p5, 16, 255, { rounds := [{ blocks := List.replicate 16 (Folio.mark 3 0 0 0) }] }, by decide +kernel⟩,
    ⟨(((p5.setRegs [(.TILE_DL_STATUS_STATE, 4, 3), (.TILE_PORT_STATUS_LINK_UP, 16, 0)]).updDlink 16 (fun d => { d with usable := 127 })).updDlink 16 (fun d => { d with run := 64 })), 16, by decide +kernel⟩,
    ⟨(((p5.setRegs [(.TILE_DL_STATUS_STATE, 4, 3), (.TILE_PORT_STATUS_LINK_UP, 16, 0)]).updDlink 16 (fun d => { d with usable := 127 })).updDlink 16 (fun d => { d with run := 63 })), 16, by decide +kernel⟩,
    ⟨(((p5.setRegs [(.TILE_DL_STATUS_STATE, 4, 4), (.TILE_PORT_STATUS_LINK_UP, 16, 0)]).updDlink 16 (fun d => { d with usable := 127 })).updDlink 16 (fun d => { d with run := 8, heard := some { switchId := 63, port := 127, dir := 2, lanes := 8, hdrCredits := List.replicate 16 1, dataCredits := List.replicate 16 130 } })), 16, { switchId := 63, port := 127, dir := 2, lanes := 8, hdrCredits := List.replicate 16 1, dataCredits := List.replicate 16 130 }, by decide +kernel⟩,
    ⟨(((p5.setRegs [(.TILE_DL_STATUS_STATE, 4, 4), (.TILE_PORT_STATUS_LINK_UP, 16, 0)]).updDlink 16 (fun d => { d with usable := 127 })).updDlink 16 (fun d => { d with run := 8, heard := some { switchId := 63, port := 127, dir := 2, lanes := 8, hdrCredits := List.replicate 16 1, dataCredits := List.replicate 16 129 } })), 16, 0x24, { switchId := 63, port := 127, dir := 2, lanes := 8, hdrCredits := List.replicate 16 1, dataCredits := List.replicate 16 129 }, by decide +kernel⟩,
    ⟨(((p5.setRegs [(.TILE_DL_STATUS_STATE, 4, 4), (.TILE_PORT_STATUS_LINK_UP, 16, 0)]).updDlink 16 (fun d => { d with usable := 127 })).updDlink 16 (fun d => { d with run := 7, heard := some { switchId := 63, port := 127, dir := 2, lanes := 8, hdrCredits := List.replicate 16 1, dataCredits := List.replicate 16 130 } })), 16, { switchId := 63, port := 127, dir := 2, lanes := 8, hdrCredits := List.replicate 16 1, dataCredits := List.replicate 16 130 }, by decide +kernel⟩,
    ⟨(p5.updDlink 16 (fun d => { d with retryAt := some 2000000 })), 16, 2000000, by decide +kernel⟩,
    ⟨p5, 16, by decide +kernel⟩,
    ⟨(p5.setRegs [(.TILE_DL_STATUS_STATE, 4, 5), (.TILE_DL_MASK_TX_MASK, 4, 255), (.TILE_DL_MASK_RX_MASK, 4, 255)]), 16, by decide +kernel⟩,
    ⟨p5, 4, by decide +kernel⟩,
    ⟨{ p5 with tr := { transits := [{ id := 3, port := 16, rid := 0, tag := 0, srcSw := 0, srcPort := 0, due := 51000000 }] } }, 16, 3, { id := 3, port := 16, rid := 0, tag := 0, srcSw := 0, srcPort := 0, due := 51000000 }, by decide +kernel⟩,
    ⟨p5, 16, 3, by decide +kernel⟩⟩

theorem witness_FabricWidthsAndBuckets :
    (∃ (s : State) (p : Nat) (w : Nat) (m : Nat), (s.fabActive p = true) ∧ ((s.dlink p).chTx.isSome = true)) ∧
    (∃ (s : State) (p : Nat) (w : Nat) (m : Nat), (s.fabActive p = true) ∧ ((s.dlink p).chTx = none) ∧ (maskFits (s.dlink p).usable w (m % 65536) = false)) ∧
    (∃ (s : State) (p : Nat) (w : Nat) (m : Nat), (s.fabActive p = true) ∧ ((s.dlink p).chRx = none) ∧ (maskFits (s.dlink p).live w (m % 65536) = true)) ∧
    (∃ (s : State) (p : Nat) (m : Nat) (c : WidthChange), (s.fabActive p = true) ∧ ((s.dlink p).chTx = some c) ∧ (c.mask = m % 65536)) ∧
    (∃ (s : State) (p : Nat) (m : Nat), ((s.dlink p).chTx = none)) ∧
    (∃ (s : State) (p : Nat) (r : Nat) (c : WidthChange), (s.fabActive p = true) ∧ ((s.dlink p).chTx = some c) ∧ (c.byCommand = false)) ∧
    (∃ (s : State) (p : Nat) (r : Nat) (c : WidthChange), (s.fabActive p = true) ∧ ((s.dlink p).chTx = some c) ∧ (c.byCommand = true) ∧ (s.waitsFor = some (.width p)) ∧ (s.resultCode = none)) ∧
    (∃ (s : State) (p : Nat) (r : Nat) (b : Bool), (s.fabActive p = false)) ∧
    (∃ (s : State) (p : Nat) (w : Nat) (m : Nat) (lo : List (List Byte)) (hi : List (List Byte)), (s.fabActive p = true) ∧ (s.heardMark p 1 (lo ++ hi) = some (w, m)) ∧ (widthCode (popCount 16 m) = w) ∧ (w ≠ 0) ∧ (m < 2 ^ (s.lanes p).length) ∧ ((s.on .TILE_DL_CTL_AUTO_DROP (p / 4) = false ∨ (s.dlink p).failed = 0))) ∧
    (∃ (s : State) (p : Nat) (lo : List (List Byte)) (hi : List (List Byte)), (s.heardMark p 1 (lo ++ hi) = none)) ∧
    (∃ (s : State) (p : Nat) (c : WidthChange), (s.fabActive p = true) ∧ ((s.dlink p).chTx = some c)) ∧
    (∃ (s : State) (p : Nat) (l : Nat) (v : Nat) (r : Nat), (s.fabActive p = true) ∧ (l < 16) ∧ (bit (s.reg .TILE_DL_MASK_RX_MASK (p / 4)) l = true) ∧ (s.reg .TILE_DL_CTL_AUTO_DROP (p / 4) = 1) ∧ ((s.dlink p).chRx = none) ∧ (v = (s.dlink p).usable &&& (65535 ^^^ putBit (s.dlink p).failed l true)) ∧ (r = s.reg .TILE_DL_MASK_RX_MASK (p / 4) &&& v) ∧ (2 ≤ popCount 16 v)) ∧
    (∃ (s : State) (p : Nat) (l : Nat), (s.fabActive p = true) ∧ (l < 16) ∧ (bit (s.reg .TILE_DL_MASK_RX_MASK (p / 4)) l = true) ∧ (popCount 16 ((s.dlink p).usable &&& (65535 ^^^ putBit (s.dlink p).failed l true)) < 2)) ∧
    (∃ (s : State) (p : Nat) (l : Nat), (bit (s.reg .TILE_DL_MASK_RX_MASK (p / 4)) l = false)) ∧
    (∃ (s : State) (g : Nat) (c : Nat) (b : Nat), (c < 2) ∧ (b < 64) ∧ (Sparse.get? s.tr.lastBucket (bucketKey g c b) = none) ∧ (s.tr.pkts.any (fun p => s.pktBucket p == some (bucketKey g c b)) = false)) ∧
    (∃ (s : State) (g : Nat) (c : Nat) (b : Nat), (s.tr.pkts.any (fun p => s.pktBucket p == some (bucketKey g c b)) = true)) :=
  ⟨⟨((p5.setRegs [(.TILE_DL_STATUS_STATE, 4, 5), (.TILE_DL_MASK_TX_MASK, 4, 255), (.TILE_DL_MASK_RX_MASK, 4, 255)]).updDlink 16 (fun d => { d with chTx := some { mask := 15, widening := true, since := 950000 } })), 16, 0, 65536, by decide +kernel⟩,
    ⟨((p5.setRegs [(.TILE_DL_STATUS_STATE, 4, 5), (.TILE_DL_MASK_TX_MASK, 4, 255), (.TILE_DL_MASK_RX_MASK, 4, 255)]).updDlink 16 (fun d => { d with usable := 127 })), 16, 3, 255, by decide +kernel⟩,
    ⟨((p5.setRegs [(.TILE_DL_STATUS_STATE, 4, 5), (.TILE_DL_MASK_TX_MASK, 4, 255), (.TILE_DL_MASK_RX_MASK, 4, 255)]).updDlink 16 (fun d => { d with usable := 127 })), 16, 1, 65536 + 0x60, by decide +kernel⟩,
    ⟨((p5.setRegs [(.TILE_DL_STATUS_STATE, 4, 5), (.TILE_DL_MASK_TX_MASK, 4, 255), (.TILE_DL_MASK_RX_MASK, 4, 255)]).updDlink 16 (fun d => { d with chTx := some { mask := 255, widening := true, since := 950000 } })), 16, 255, { mask := 255, widening := true, since := 950000 }, by decide +kernel⟩,
    ⟨p5, 16, 0, by decide +kernel⟩,
    ⟨((p5.setRegs [(.TILE_DL_STATUS_STATE, 4, 5), (.TILE_DL_MASK_TX_MASK, 4, 255), (.TILE_DL_MASK_RX_MASK, 4, 255)]).updDlink 16 (fun d => { d with chTx := some { mask := 255, widening := true, since := 950000 } })), 16, 255, { mask := 255, widening := true, since := 950000 }, by decide +kernel⟩,
    ⟨{ ((p5.setRegs [(.TILE_DL_STATUS_STATE, 4, 5), (.TILE_DL_MASK_TX_MASK, 4, 255), (.TILE_DL_MASK_RX_MASK, 4, 255)]).updDlink 16 (fun d => { d with chTx := some { mask := 255, widening := true, byCommand := true, since := 950000 } })) with port := { running := some { host := 0, opcode := 0x48, token := 1, args := [], since := 0, wait := .width 16 } } }, 16, 255, { mask := 255, widening := true, byCommand := true, since := 950000 }, by decide +kernel⟩,
    ⟨p5, 16, 0, true, by decide +kernel⟩,
    ⟨(p5.setRegs [(.TILE_DL_STATUS_STATE, 4, 5), (.TILE_DL_MASK_TX_MASK, 4, 255), (.TILE_DL_MASK_RX_MASK, 4, 255)]), 16, 3, 255, List.replicate 8 (Folio.widthMark 1 3 255), [], by decide +kernel⟩,
    ⟨p5, 16, [[]], [], by decide +kernel⟩,
    ⟨((p5.setRegs [(.TILE_DL_STATUS_STATE, 4, 5), (.TILE_DL_MASK_TX_MASK, 4, 255), (.TILE_DL_MASK_RX_MASK, 4, 255)]).updDlink 16 (fun d => { d with chTx := some { mask := 255, widening := true, since := 950000 } })), 16, { mask := 255, widening := true, since := 950000 }, by decide +kernel⟩,
    ⟨(((p5.setRegs [(.TILE_DL_STATUS_STATE, 4, 5), (.TILE_DL_MASK_TX_MASK, 4, 255), (.TILE_DL_MASK_RX_MASK, 4, 255)]).updDlink 16 (fun d => { d with usable := 0x83 })).setRegs [(.TILE_DL_CTL_AUTO_DROP, 4, 1), (.TILE_DL_MASK_RX_MASK, 4, 0x83)]), 16, 7, 3, 3, by decide +kernel⟩,
    ⟨((p5.setRegs [(.TILE_DL_STATUS_STATE, 4, 5), (.TILE_DL_MASK_TX_MASK, 4, 255), (.TILE_DL_MASK_RX_MASK, 4, 255)]).updDlink 16 (fun d => { d with usable := 0x83, failed := 2 })), 16, 7, by decide +kernel⟩,
    ⟨p5, 16, 16, by decide +kernel⟩,
    ⟨{ ((p5.setRegs [(.TILE_DL_STATUS_STATE, 4, 5), (.TILE_DL_MASK_TX_MASK, 4, 255), (.TILE_DL_MASK_RX_MASK, 4, 255)]).updCom (fun m => { m with active := [({ typ := 4, index := 63 }, 0), ({ typ := 5, index := 0, part := 0 }, 16), ({ typ := 5, index := 0, part := 1 }, 0), ({ typ := 5, index := 0, part := 2 }, 0), ({ typ := 5, index := 0, part := 3 }, 0), ({ typ := 5, index := 0, part := 4 }, 0), ({ typ := 7, index := 0 }, 1)] })) with tr := { buckets := [(bucketKey 0 1 63, 5, 0)] } }, 0, 1, 63, by decide +kernel⟩,
    ⟨{ ((p5.setRegs [(.TILE_DL_STATUS_STATE, 4, 5), (.TILE_DL_MASK_TX_MASK, 4, 255), (.TILE_DL_MASK_RX_MASK, 4, 255)]).updCom (fun m => { m with active := [({ typ := 4, index := 63 }, 0), ({ typ := 5, index := 0, part := 0 }, 16), ({ typ := 5, index := 0, part := 1 }, 0), ({ typ := 5, index := 0, part := 2 }, 0), ({ typ := 5, index := 0, part := 3 }, 0), ({ typ := 5, index := 0, part := 4 }, 0), ({ typ := 7, index := 0 }, 1)] })) with tr := { pkts := [{ id := 3, req := { src := .host 0, inPort := 0, kind := .write, addr := 0, len := 4, ts := 0 }, cls := .posted, q := .egress 16 0, fab := some { ptype := 1, dstSw := 63, srcSw := 62, srcPort := 127, hops := 2, tc := 7 } }] } }, 0, 0, bucketOf 127 7 62 63, by decide +kernel⟩⟩

theorem witness_LanesSleepAdaptAndTest :
    (∃ (s : State) (l : Nat) (d : Dir), (l < 256) ∧ (s.reg (laneField d) l = 2)) ∧
    (∃ (s : State) (l : Nat) (d : Dir), (s.reg (laneField d) l ≠ 2)) ∧
    (∃ (s : State) (l : Nat) (d : Dir), (l < 256) ∧ ((s.reg (laneField d) l = 2 ∨ s.reg (laneField d) l = 3)) ∧ (s.wakes l d = true)) ∧
    (∃ (s : State) (l : Nat) (d : Dir), ((s.wakes l d = false ∨ (s.reg (laneField d) l ≠ 2 ∧ s.reg (laneField d) l ≠ 3)))) ∧
    (∃ (s : State) (l : Nat) (h : Nat) (w : Nat) (c : Nat) (e : Nat), (l < 256) ∧ (s.adapts l = true) ∧ (Sparse.get? s.link.trainedEye l = some e) ∧ (e ≤ 4 * s.reg .TILE_LANE_ADAPT_EYE_H l)) ∧
    (∃ (s : State) (l : Nat) (h : Nat) (w : Nat) (c : Nat), (s.adapts l = false)) ∧
    (∃ (s : State) (l : Nat), (l < 256) ∧ (s.adapts l = true)) ∧
    (∃ (s : State) (k : Nat) (l : Nat) (v : Nat), (l < 256) ∧ (s.operator k = true) ∧ (s.regOpen (l / 8) = true) ∧ (s.regWaits (l / 8) = false) ∧ (s.inTest l = true) ∧ (bit v 19 = false)) ∧
    (∃ (s : State) (k : Nat) (l : Nat) (v : Nat), (l < 256) ∧ (s.operator k = true) ∧ (s.regWaits (l / 8) = true)) ∧
    (∃ (s : State) (k : Nat) (l : Nat) (v : Nat), ((s.operator k = false ∨ (s.regOpen (l / 8) = true ∧ s.regWaits (l / 8) = false ∧ s.inTest l = false)))) ∧
    (∃ (s : State) (k : Nat) (l : Nat), (l < 256) ∧ (s.operator k = true) ∧ (s.regOpen (l / 8) = true) ∧ (s.regWaits (l / 8) = false) ∧ (s.reg .TILE_LANE_TEST_INJ_MODE l = 1) ∧ (s.inTest l = true) ∧ (s.nearEnd l = true) ∧ (s.reg .TILE_LANE_TEST_LPBK l ≠ 3) ∧ (s.reg .TILE_LANE_STATUS_RATE l < 6) ∧ (s.reg .TILE_LANE_TEST_CHK_SYNC l = 1) ∧ (s.reg .TILE_LANE_TEST_GEN_PAT l = s.reg .TILE_LANE_TEST_CHK_PAT l) ∧ (Sparse.get? s.link.gens l = some (s.checker l).reg) ∧ ((s.checker l).errs = [])) ∧
    (∃ (s : State) (k : Nat) (l : Nat) (d : Nat), (l < 256) ∧ (s.operator k = true) ∧ (s.regOpen (l / 8) = true) ∧ (s.regWaits (l / 8) = false) ∧ (s.inTest l = true) ∧ (s.reg .TILE_LANE_TEST_INJ_MODE l = 2) ∧ (d = max 1 (rate2 (s.reg .TILE_LANE_STATUS_RATE l)))) ∧
    (∃ (s : State) (l : Nat) (x : Nat) (r : Nat) (n : Nat) (d : Nat), (Sparse.get? s.link.injecting l = some (x, r)) ∧ (s.reg .TILE_LANE_TEST_INJ_MODE l = 2) ∧ (n = 2 ^ (s.reg .TILE_LANE_TEST_INJ_EXP l + 1) + r) ∧ (d = max 1 (rate2 (s.reg .TILE_LANE_STATUS_RATE l))) ∧ (s.inTest l = true) ∧ (s.nearEnd l = true) ∧ (s.reg .TILE_LANE_TEST_LPBK l ≠ 3) ∧ (s.reg .TILE_LANE_STATUS_RATE l < 6) ∧ (s.reg .TILE_LANE_TEST_CHK_SYNC l = 1) ∧ (s.reg .TILE_LANE_TEST_GEN_PAT l = s.reg .TILE_LANE_TEST_CHK_PAT l) ∧ (Sparse.get? s.link.gens l = some (s.checker l).reg) ∧ ((s.checker l).errs = [])) ∧
    (∃ (s : State) (l : Nat), (Sparse.get? s.link.injecting l = none)) ∧
    (∃ (s : State) (l : Nat) (p : Nat) (rx : List Nat) (bs : List Nat), (s.inTest l = true) ∧ (p = s.reg .TILE_LANE_TEST_CHK_PAT l) ∧ (p ≠ 0) ∧ (s.reg .TILE_LANE_TEST_CHK_SYNC l = 0) ∧ (bs = (s.received ⟨l, rx⟩).1) ∧ (Folio.patDegree p + 256 ≤ bs.length) ∧ ((checkRun p { lane := l, reg := (bs.take (Folio.patDegree p)).foldl (Folio.shiftIn p) 0 } (bs.drop (Folio.patDegree p))).1 = 0)) ∧
    (∃ (s : State) (l : Nat) (n : Nat) (c : Checker) (rx : List Nat) (bs : List Nat), (s.inTest l = true) ∧ (s.reg .TILE_LANE_TEST_CHK_SYNC l = 1) ∧ (bs = (s.received ⟨l, rx⟩).1) ∧ (bs.length ≤ 1024) ∧ (checkRun (s.reg .TILE_LANE_TEST_CHK_PAT l) (s.checker l) bs = (n, c, true))) ∧
    (∃ (s : State) (l : Nat) (n : Nat) (c : Checker) (rx : List Nat) (bs : List Nat), (s.inTest l = true) ∧ (s.reg .TILE_LANE_TEST_CHK_SYNC l = 1) ∧ (bs = (s.received ⟨l, rx⟩).1) ∧ (bs.length ≤ 1024) ∧ (checkRun (s.reg .TILE_LANE_TEST_CHK_PAT l) (s.checker l) bs = (n, c, false))) ∧
    (∃ (s : State) (l : Nat) (rx : List Nat), (s.inTest l = false)) ∧
    (∃ (s : State) (k : Nat) (l : Nat), (l < 256) ∧ (s.operator k = true) ∧ (s.regOpen (l / 8) = true) ∧ (s.regWaits (l / 8) = false)) ∧
    (∃ (s : State) (k : Nat) (l : Nat), (l < 256) ∧ (s.operator k = true) ∧ (s.islState (l / 8) = 0)) :=
  ⟨⟨p5.setReg .TILE_LANE_STATUS_RX_STATE 255 2, 255, .rx, by decide +kernel⟩,
    ⟨p5, 256, .tx, by decide +kernel⟩,
    ⟨p5.setReg .TILE_LANE_STATUS_RX_STATE 15 3, 15, .rx, by decide +kernel⟩,
    ⟨p5, 255, .tx, by decide +kernel⟩,
    ⟨(p5.updLink (fun l => { l with trainedEye := [(255, 200)] })).setRegs [(.TILE_LANE_STATUS_RX_STATE, 255, 1), (.TILE_LANE_ADAPT_EYE_H, 255, 50)], 255, 49, 255, 255, 200, by decide +kernel⟩,
    ⟨p5, 255, 0, 0, 0, by decide +kernel⟩,
    ⟨p5.setReg .TILE_LANE_STATUS_RX_STATE 255 1, 255, by decide +kernel⟩,
    ⟨(p5.setRegs [(.TILE_LANE_STATUS_TX_STATE, 255, 4), (.TILE_LANE_STATUS_RX_STATE, 255, 4), (.TILE_LANE_TEST_LPBK, 255, 0), (.TILE_LANE_TEST_GEN_PAT, 255, 6), (.TILE_LANE_TEST_CHK_PAT, 255, 6), (.TILE_LANE_TEST_CHK_SYNC, 255, 1), (.TILE_LANE_TEST_INJ_MODE, 255, 0), (.TILE_LANE_STATUS_RATE, 255, 5)]), 0, 255, 3 + 15 * 8 + 3 * 2048, by decide +kernel⟩,
    ⟨p5.setReg .SUP_ISL_STATUS_STATE 31 3, 0, 255, 1 + 2 ^ 19, by decide +kernel⟩,
    ⟨p5, 0, 0, 0, by decide +kernel⟩,
    ⟨((p5.setRegs [(.TILE_LANE_STATUS_TX_STATE, 255, 4), (.TILE_LANE_STATUS_RX_STATE, 255, 4), (.TILE_LANE_TEST_LPBK, 255, 1), (.TILE_LANE_TEST_GEN_PAT, 255, 6), (.TILE_LANE_TEST_CHK_PAT, 255, 6), (.TILE_LANE_TEST_CHK_SYNC, 255, 1), (.TILE_LANE_TEST_INJ_MODE, 255, 1), (.TILE_LANE_STATUS_RATE, 255, 5)]).updLink (fun l => { l with checkers := [{ lane := 255, reg := 5 }], gens := [(255, 5)] })), 0, 255, by decide +kernel⟩,
    ⟨(p5.setRegs [(.TILE_LANE_STATUS_TX_STATE, 255, 4), (.TILE_LANE_STATUS_RX_STATE, 255, 4), (.TILE_LANE_TEST_LPBK, 255, 1), (.TILE_LANE_TEST_GEN_PAT, 255, 6), (.TILE_LANE_TEST_CHK_PAT, 255, 6), (.TILE_LANE_TEST_CHK_SYNC, 255, 1), (.TILE_LANE_TEST_INJ_MODE, 255, 2), (.TILE_LANE_STATUS_RATE, 255, 5)]), 0, 255, max 1 (rate2 5), by decide +kernel⟩,
    ⟨((p5.setRegs [(.TILE_LANE_STATUS_TX_STATE, 255, 4), (.TILE_LANE_STATUS_RX_STATE, 255, 4), (.TILE_LANE_TEST_LPBK, 255, 2), (.TILE_LANE_TEST_GEN_PAT, 255, 6), (.TILE_LANE_TEST_CHK_PAT, 255, 6), (.TILE_LANE_TEST_CHK_SYNC, 255, 1), (.TILE_LANE_TEST_INJ_MODE, 255, 2), (.TILE_LANE_STATUS_RATE, 255, 5)]).updLink (fun l => { l with checkers := [{ lane := 255, reg := 5 }], gens := [(255, 5)], injecting := [(255, 1, 0)] })), 255, 1, 0, 512, max 1 (rate2 5), by decide +kernel⟩,
    ⟨p5, 0, by decide +kernel⟩,
    ⟨(p5.setRegs [(.TILE_LANE_STATUS_TX_STATE, 255, 4), (.TILE_LANE_STATUS_RX_STATE, 255, 4), (.TILE_LANE_TEST_LPBK, 255, 0), (.TILE_LANE_TEST_GEN_PAT, 255, 6), (.TILE_LANE_TEST_CHK_PAT, 255, 6), (.TILE_LANE_TEST_CHK_SYNC, 255, 0), (.TILE_LANE_TEST_INJ_MODE, 255, 0), (.TILE_LANE_STATUS_RATE, 255, 5)]), 255, 6, prbsSymbols 6 (31 + 256) 5, symBits 5 (prbsSymbols 6 (31 + 256) 5), by decide +kernel⟩,
    ⟨((p5.setRegs [(.TILE_LANE_STATUS_TX_STATE, 255, 4), (.TILE_LANE_STATUS_RX_STATE, 255, 4), (.TILE_LANE_TEST_LPBK, 255, 0), (.TILE_LANE_TEST_GEN_PAT, 255, 6), (.TILE_LANE_TEST_CHK_PAT, 255, 6), (.TILE_LANE_TEST_CHK_SYNC, 255, 1), (.TILE_LANE_TEST_INJ_MODE, 255, 0), (.TILE_LANE_STATUS_RATE, 255, 5)]).updLink (fun l => { l with checkers := [{ lane := 255, reg := 5 }] })), 255, 32, (checkRun 6 { lane := 255, reg := 5 } (flipFirst 32 (prbsSymbols 6 64 5))).2.1, flipFirst 32 (prbsSymbols 6 64 5), symBits 5 (flipFirst 32 (prbsSymbols 6 64 5)), by decide +kernel⟩,
    ⟨((p5.setRegs [(.TILE_LANE_STATUS_TX_STATE, 255, 4), (.TILE_LANE_STATUS_RX_STATE, 255, 4), (.TILE_LANE_TEST_LPBK, 255, 0), (.TILE_LANE_TEST_GEN_PAT, 255, 6), (.TILE_LANE_TEST_CHK_PAT, 255, 6), (.TILE_LANE_TEST_CHK_SYNC, 255, 1), (.TILE_LANE_TEST_INJ_MODE, 255, 0), (.TILE_LANE_STATUS_RATE, 255, 5)]).updLink (fun l => { l with checkers := [{ lane := 255, reg := 5 }] })), 255, 31, (checkRun 6 { lane := 255, reg := 5 } (flipFirst 31 (prbsSymbols 6 64 5))).2.1, flipFirst 31 (prbsSymbols 6 64 5), symBits 5 (flipFirst 31 (prbsSymbols 6 64 5)), by decide +kernel⟩,
    ⟨p5, 255, [1], by decide +kernel⟩,
    ⟨(p5.setRegs [(.TILE_LANE_STATUS_TX_STATE, 255, 4), (.TILE_LANE_STATUS_RX_STATE, 255, 4), (.TILE_LANE_TEST_LPBK, 255, 0), (.TILE_LANE_TEST_GEN_PAT, 255, 6), (.TILE_LANE_TEST_CHK_PAT, 255, 6), (.TILE_LANE_TEST_CHK_SYNC, 255, 1), (.TILE_LANE_TEST_INJ_MODE, 255, 0), (.TILE_LANE_STATUS_RATE, 255, 5)]).setReg .TILE_PRBS_ERR_COUNT 255 (2 ^ Fld.TILE_PRBS_ERR_COUNT.width - 1), 0, 255, by decide +kernel⟩,
    ⟨p5.setReg .SUP_ISL_STATUS_STATE 31 0, 0, 255, by decide +kernel⟩⟩

theorem witness_SlotChannelsSwitchAndLatch :
    (∃ (s : State) (k : Nat), (k < 32) ∧ (s.on .SLT_STATUS_PRSNT k = false) ∧ (s.chState k = 0) ∧ ((s.ch k).settleAt = none)) ∧
    (∃ (s : State) (k : Nat), (s.on .SLT_STATUS_PRSNT k = true)) ∧
    (∃ (s : State) (k : Nat), (k < 32) ∧ (s.on .SLT_STATUS_PRSNT k = true) ∧ (s.chState k = 4) ∧ (s.chanPort k = none)) ∧
    (∃ (s : State) (k : Nat) (p : Nat), (k < 32) ∧ (s.on .SLT_STATUS_PRSNT k = true) ∧ (s.chanPort k = some p)) ∧
    (∃ (s : State) (k : Nat), (s.on .SLT_STATUS_PRSNT k = false)) ∧
    (∃ (s : State) (k : Nat), (k < 32) ∧ (s.on .SLT_STATUS_EN_PIN k = false) ∧ (s.chState k = 0) ∧ (({ s with out := [] }.setReg .SLT_STATUS_EN_PIN k 1).mayTurnOn k = true)) ∧
    (∃ (s : State) (k : Nat), (k < 32) ∧ (s.on .SLT_STATUS_EN_PIN k = true) ∧ (s.chState k = 4)) ∧
    (∃ (s : State) (k : Nat), (s.on .SLT_STATUS_EN_PIN k = true)) ∧
    (∃ (s : State) (k : Nat), (s.on .SLT_STATUS_EN_PIN k = false)) ∧
    (∃ (s : State) (k : Nat) (p : Nat) (x : Nat), (k < 32) ∧ ((s.ch k).debounceAt = some x) ∧ (s.chState k = 1) ∧ (s.sltUp = true) ∧ (s.chanPort k = some p) ∧ (s.on .SLT_CTL_EN k = false)) ∧
    (∃ (s : State) (k : Nat), ((s.ch k).debounceAt = none)) ∧
    (∃ (s : State) (k : Nat), (k < 32) ∧ (s.chState k = 2)) ∧
    (∃ (s : State) (k : Nat), (k < 32) ∧ (s.chState k = 3)) ∧
    (∃ (s : State) (k : Nat), (k < 32) ∧ (s.chState k = 5)) ∧
    (∃ (s : State) (k : Nat), (s.chState k ≠ 2)) ∧
    (∃ (s : State) (k : Nat), (s.chState k ≠ 3)) ∧
    (∃ (s : State) (k : Nat), (s.chState k ≠ 5)) ∧
    (∃ (s : State) (k : Nat) (x : Nat), ((s.ch k).settleAt = some x) ∧ (s.chState k = 6)) ∧
    (∃ (s : State) (k : Nat), ((s.ch k).settleAt = none)) ∧
    (∃ (s : State) (k : Nat) (i : Nat) (v : Nat) (g : Bool), (k < 32) ∧ (s.chState k = 0) ∧ ((s.ch k).fetHigh (millivolt v) = false) ∧ (1 < (s.ch k).capWin - (s.ch k).capN)) ∧
    (∃ (s : State) (k : Nat) (i : Nat) (v : Nat) (g : Bool), (32 ≤ k)) ∧
    (∃ (s : State) (k : Nat), (k < 32) ∧ (gateOn (s.chState k) = true)) ∧
    (∃ (s : State) (k : Nat), (gateOn (s.chState k) = false)) :=
  ⟨⟨(p5.setRegs [(.SLT_SUMMARY_LINK_OK, 0, 1), (.SLT_GEN_GEN, 31, 2 ^ Fld.SLT_GEN_GEN.width - 1)]), 31, by decide +kernel⟩,
    ⟨(p5.setRegs [(.SLT_SUMMARY_LINK_OK, 0, 1), (.SLT_STATUS_PRSNT, 31, 1)]), 31, by decide +kernel⟩,
    ⟨(p5.setRegs [(.SLT_SUMMARY_LINK_OK, 0, 1), (.SLT_STATUS_PRSNT, 31, 1), (.SLT_STATUS_STATE, 31, 4)]), 31, by decide +kernel⟩,
    ⟨(p5.setRegs [(.SLT_SUMMARY_LINK_OK, 0, 1), (.SLT_STATUS_PRSNT, 0, 1)]), 0, 4, by decide +kernel⟩,
    ⟨p5, 31, by decide +kernel⟩,
    ⟨(p5.setRegs [(.SLT_SUMMARY_LINK_OK, 0, 1), (.TILE_PORT_STATUS_PRESENT, 4, 1), (.SLT_CTL_EN, 0, 1), (.SLT_CFG_PROFILE, 0, 7), (.SLT_PROF_V_NOM, 7, 12000)]), 0, by decide +kernel⟩,
    ⟨(p5.setRegs [(.SLT_SUMMARY_LINK_OK, 0, 1), (.SLT_STATUS_EN_PIN, 31, 1), (.SLT_STATUS_STATE, 31, 4)]), 31, by decide +kernel⟩,
    ⟨(p5.setRegs [(.SLT_SUMMARY_LINK_OK, 0, 1), (.SLT_STATUS_EN_PIN, 31, 1)]), 31, by decide +kernel⟩,
    ⟨p5, 32, by decide +kernel⟩,
    ⟨((p5.setRegs [(.SLT_SUMMARY_LINK_OK, 0, 1), (.SLT_STATUS_STATE, 0, 1)]).updCh 0 (fun (c : Chan) => { c with debounceAt := some 2000000 })), 0, 4, 2000000, by decide +kernel⟩,
    ⟨p5, 0, by decide +kernel⟩,
    ⟨(p5.setRegs [(.SLT_SUMMARY_LINK_OK, 0, 1), (.SLT_STATUS_STATE, 31, 2)]), 31, by decide +kernel⟩,
    ⟨(p5.setRegs [(.SLT_SUMMARY_LINK_OK, 0, 1), (.SLT_STATUS_STATE, 31, 3)]), 31, by decide +kernel⟩,
    ⟨((p5.setRegs [(.SLT_SUMMARY_LINK_OK, 0, 1), (.SLT_STATUS_STATE, 31, 5)]).updCh 31 (fun (c : Chan) => { c with stateAt := 999999 })), 31, by decide +kernel⟩,
    ⟨p5, 31, by decide +kernel⟩,
    ⟨p5, 31, by decide +kernel⟩,
    ⟨p5, 31, by decide +kernel⟩,
    ⟨((p5.setRegs [(.SLT_SUMMARY_LINK_OK, 0, 1), (.SLT_STATUS_STATE, 31, 6), (.SLT_STATUS_PRSNT, 31, 1)]).updCh 31 (fun (c : Chan) => { c with settleAt := some 5 })), 31, 5, by decide +kernel⟩,
    ⟨p5, 31, by decide +kernel⟩,
    ⟨(p5.updCh 31 (fun (c : Chan) => { c with prof := [12000, 1, 1, 1, 1, 1, 90, 0, 1, 2], lowV := some 100 })), 31, 4095, 70, true, by decide +kernel⟩,
    ⟨p5, 32, 0, 0, false, by decide +kernel⟩,
    ⟨(p5.setRegs [(.SLT_SUMMARY_LINK_OK, 0, 1), (.SLT_STATUS_STATE, 31, 2)]), 31, by decide +kernel⟩,
    ⟨p5, 31, by decide +kernel⟩⟩

theorem witness_SlotPowerCommandsAndInterface :
    (∃ (s : State) (h : Nat) (k : Nat) (en : Nat), (k < 32) ∧ (s.operator h = true) ∧ (s.sltUp = true) ∧ (en % 2 = 0) ∧ (s.chState k = 4)) ∧
    (∃ (s : State) (h : Nat) (k : Nat) (en : Nat), (k < 32) ∧ (s.operator h = true) ∧ (s.sltUp = true) ∧ (en % 2 = 0) ∧ (s.chState k = 7)) ∧
    (∃ (s : State) (h : Nat) (k : Nat), (k < 32) ∧ (s.operator h = true) ∧ (s.chState k = 0) ∧ (s.sltUp = true) ∧ (({ s with out := [] }.setReg .SLT_CTL_EN k 1).mayTurnOn k = true)) ∧
    (∃ (s : State) (h : Nat) (k : Nat) (en : Nat), ((s.operator h = false ∨ s.sltUp = false))) ∧
    (∃ (s : State) (k : Nat) (p : Nat), (k < 32) ∧ (s.boot.stage = .none) ∧ (s.chanPort k = some p) ∧ (s.portChan p = some k) ∧ (s.chState k = 4) ∧ (s.on .TILE_PORT_STATUS_LINK_UP p = true) ∧ (s.reg .FLT_PORT_STATE p ≠ 1) ∧ ((∀ l ∈ s.lanes p, s.inTest l = false))) ∧
    (∃ (s : State) (k : Nat), (s.chState k ≠ 4)) ∧
    (∃ (s : State), (s.on .SLT_SUMMARY_LINK_OK = true)) ∧
    (∃ (s : State), (s.on .SLT_SUMMARY_LINK_OK = false)) ∧
    (∃ (s : State), (s.on .SLT_SUMMARY_LINK_OK = false)) ∧
    (∃ (s : State), (s.on .SLT_SUMMARY_LINK_OK = true)) ∧
    (∃ (s : State), (s.running 54 = true) ∧ (s.flt.causes.any (fun c => c.source == 0x0F) = false)) ∧
    (∃ (s : State), (s.running 54 = false)) :=
  ⟨⟨(p5.setRegs [(.SLT_SUMMARY_LINK_OK, 0, 1), (.SLT_STATUS_STATE, 31, 4), (.SLT_CTL_EN, 31, 1)]), 0, 31, 2, by decide +kernel⟩,
    ⟨(p5.setRegs [(.SLT_SUMMARY_LINK_OK, 0, 1), (.SLT_STATUS_STATE, 31, 7), (.SLT_CTL_EN, 31, 1)]), 0, 31, 0, by decide +kernel⟩,
    ⟨(p5.setRegs [(.SLT_SUMMARY_LINK_OK, 0, 1), (.TILE_PORT_STATUS_PRESENT, 4, 1), (.SLT_STATUS_EN_PIN, 0, 1), (.SLT_CFG_PROFILE, 0, 0)]), 0, 0, by decide +kernel⟩,
    ⟨p5, 1, 0, 1, by decide +kernel⟩,
    ⟨((p5.setRegs [(.SLT_SUMMARY_LINK_OK, 0, 1), (.SLT_STATUS_STATE, 0, 4), (.SLT_STATUS_PERST, 0, 1)]).updCh 0 (fun (c : Chan) => { c with stateAt := 5 })), 0, 4, by decide +kernel⟩,
    ⟨p5, 0, by decide +kernel⟩,
    ⟨p5.setReg .SLT_SUMMARY_LINK_OK 0 1, by decide +kernel⟩,
    ⟨p5.setReg .SLT_SUMMARY_LINK_OK 0 0, by decide +kernel⟩,
    ⟨(p5.setReg .SLT_SUMMARY_LINK_OK 0 0), by decide +kernel⟩,
    ⟨p5.setReg .SLT_SUMMARY_LINK_OK 0 1, by decide +kernel⟩,
    ⟨p5, by decide +kernel⟩,
    ⟨inPhase 0, by decide +kernel⟩⟩

theorem witness_MeteringCountersAndSamples :
    (∃ (s : State) (c : CountRec), (s.metRuns = true) ∧ (s.met.sent.find? (fun x => x.src == c.src) = some c) ∧ (s.met.closing = none) ∧ (s.met.start ≤ c.ts)) ∧
    (∃ (s : State) (c : CountRec), ((s.metRuns = false ∨ s.met.sent.find? (fun x => x.src == c.src) ≠ some c))) ∧
    (∃ (s : State), (s.phase = 5) ∧ (s.metRuns = true) ∧ (s.met.closing = none) ∧ (s.met.sent = []) ∧ (s.com.meterNext = none)) ∧
    (∃ (s : State), ((s.phase < 5 ∨ s.metRuns = false))) ∧
    (∃ (s : State), (s.met.sent = [])) ∧
    (∃ (s : State) (l : List MetRec) (a : Nat) (b : Nat), (s.met.closing = some (l, a, b)) ∧ (s.met.sent = []) ∧ (s.met.batches.length < 16) ∧ (s.on .MET_STATUS_MERGING = false)) ∧
    (∃ (s : State), (s.met.closing = none)) ∧
    (∃ (s : State) (x : Batch) (rest : List Batch), (s.keyCommand = false) ∧ (s.met.batches = x :: rest) ∧ (x.digest = none)) ∧
    (∃ (s : State), (s.keyCommand = true)) ∧
    (∃ (s : State) (x : Batch) (rest : List Batch), (s.met.batches = x :: rest) ∧ (x.digest.isSome = true) ∧ (s.heldBack x = false)) ∧
    (∃ (s : State), ((s.met.batches = [] ∨ ∃ x rest, s.met.batches = x :: rest ∧ s.heldBack x = true))) ∧
    (∃ (s : State) (k : Nat) (v : Nat), (s.metRuns = true) ∧ (s.billing k = true)) ∧
    (∃ (s : State) (k : Nat) (v : Nat), (s.metRuns = true) ∧ (s.billing k = false)) ∧
    (∃ (s : State) (k : Nat) (v : Nat), (s.regOpen 53 = false)) ∧
    (∃ (s : State) (k : Nat), (s.operator k = true) ∧ (s.running 55 = true) ∧ (s.on .PMC_CTL_BUSY = false)) ∧
    (∃ (s : State) (x : Nat) (b : Nat), (s.met.snapAt = some x) ∧ (s.boot.timeBase = some b)) ∧
    (∃ (s : State), (s.met.snapAt = none)) ∧
    (∃ (s : State) (k : Nat) (i : Nat) (v : Nat), (i < 476) ∧ (s.operator k = true) ∧ (s.running 55 = true)) ∧
    (∃ (s : State) (k : Nat) (v : Nat), (s.operator k = true) ∧ (s.running 55 = true) ∧ (bit v 24 = true)) ∧
    (∃ (s : State) (k : Nat) (i : Nat) (v : Nat), (s.operator k = false)) ∧
    (∃ (s : State) (i : Nat) (j : Nat) (x : Sample), (s.met.sampPend.find? (fun e => e.1 == i) = some (j, x)) ∧ (s.met.samples.length < 4096)) ∧
    (∃ (s : State) (i : Nat), (s.met.sampPend.find? (fun e => e.1 == i) = none)) :=
  ⟨⟨(p5.updMet (fun m => { m with start := 900000, recQ := [{ imprint := some 1023, kind := .req, bytes := 4096, tc := 7, ts := 900000, src := 7 }] })), { imprint := some 1023, kind := .req, bytes := 4096, tc := 7, ts := 900000, src := 7 }, by decide +kernel⟩,
    ⟨inPhase 0, { imprint := some 1023, kind := .req, bytes := 4096, tc := 7, ts := 900000, src := 7 }, by decide +kernel⟩,
    ⟨(p5.updMet (fun m => { m with nextEnd := 1000000000 })), by decide +kernel⟩,
    ⟨inPhase 4, by decide +kernel⟩,
    ⟨((p5.updCom (fun m => { m with meter := { peakWindow := 1000 } })).updMet (fun m => { m with winAt := 5 })), by decide +kernel⟩,
    ⟨(p5.updMet (fun m => { m with closing := some ([], 0, 1000), batches := List.replicate 15 { flags := 0, start := 0, stop := 0, bootId := 0, epoch := 0, plan := {}, records := [] } })), [], 0, 1000, by decide +kernel⟩,
    ⟨p5, by decide +kernel⟩,
    ⟨(p5.updMet (fun m => { m with batches := [{ flags := 0, start := 0, stop := 0, bootId := 0, epoch := 0, plan := {}, records := [] }] })), { flags := 0, start := 0, stop := 0, bootId := 0, epoch := 0, plan := {}, records := [] }, [], by decide +kernel⟩,
    ⟨{ p5 with port := { running := some { host := 0, opcode := 0x39, token := 1, args := [], since := 0 } } }, by decide +kernel⟩,
    ⟨(((p5.updCom (fun m => { m with meter := { ringSlots := 1 } })).setRegs [(.MET_STATUS_ARMED, 0, 1), (.MET_RING_HEAD_HEAD, 0, 2 ^ 32 - 1), (.MET_RING_TAIL_TAIL, 0, 2 ^ 32 - 1), (.CMP_DMA_STATUS_STATE, 0, 0)]).updMet (fun m => { m with batches := [{ flags := 0, start := 0, stop := 0, bootId := 0, epoch := 0, plan := { ringSlots := 1 }, records := [], seq := 2 ^ 64, digest := some 7 }] })), { flags := 0, start := 0, stop := 0, bootId := 0, epoch := 0, plan := { ringSlots := 1 }, records := [], seq := 2 ^ 64, digest := some 7 }, [], by decide +kernel⟩,
    ⟨p5, .inl rfl⟩,
    ⟨p5, 0, 8191, by decide +kernel⟩,
    ⟨p5, 1, 0, by decide +kernel⟩,
    ⟨p5.setReg .SUP_ISL_STATUS_STATE 53 5, 0, 7, by decide +kernel⟩,
    ⟨p5, 0, by decide +kernel⟩,
    ⟨((p5.setReg .PMC_CFG_ENABLE 475 1).updMet (fun m => { m with snapAt := some 5, snapSet := [475], snapKept := [(475, 9, 2)] })), 5, 0, by decide +kernel⟩,
    ⟨p5, by decide +kernel⟩,
    ⟨p5, 0, 475, 0x3FFF71, by decide +kernel⟩,
    ⟨p5, 0, 2 ^ 53 - 1, by decide +kernel⟩,
    ⟨p5, 1, 0, 0, by decide +kernel⟩,
    ⟨(p5.updMet (fun m => { m with sampPend := [(9, { seq := 0, hdr := 0, addr := 0, ingress := 0, egress := 0, imprint := 0, domain := 0, inPort := 0, dest := 0, outcome := 0, epoch := 0 })] })), 9, 9, { seq := 0, hdr := 0, addr := 0, ingress := 0, egress := 0, imprint := 0, domain := 0, inPort := 0, dest := 0, outcome := 0, epoch := 0 }, by decide +kernel⟩,
    ⟨p5, 9, by decide +kernel⟩⟩

theorem witness_FlashFusesAndPoolBytesChangeByFewCommands :
    (∃ (c : Instr) (s t : State), changesFlash c = false ∧ exec c s = .next t) ∧
    (∃ (c : Instr) (s t : State), changesPool c = false ∧ exec c s = .next t) :=
  ⟨⟨.perstNRise 31, p5, _, rfl, rfl⟩, ⟨.perstNRise 31, p5, _, rfl, rfl⟩⟩

theorem witness_CommandsChangeOnlyTheirRegisters : ∃ (c : Instr) (l : List Fld) (_ : State), changedFields c = some l :=
  ⟨.ideFail 0, _, p5, rfl⟩

end Sys2Proof.Tests
end

section
/-! SUPPORT. BAR0's register map: which register an offset names, found past the registers that end below it (R12, R701). -/

namespace Sys2Proof

/-- A register and its repetitions lie below offset `a`. -/
def RegAt.endsBy (r : RegAt) (a : Nat) : Bool :=
  match r.dims with
  | [] => decide (r.offset + 8 ≤ a)
  | (n, st) :: _ => decide (0 < st) && decide (r.offset + n * st ≤ a)

theorem regAtIn_cons_of_endsBy {r : RegAt} {b a : Nat} (rs : List RegAt) (h : r.endsBy b = true) (hb : b ≤ a) :
    regAtIn (r :: rs) a = regAtIn rs a := by
  obtain ⟨off, dims, wide, own, fields⟩ := r
  cases dims with
  | nil =>
    have hoff : off + 8 ≤ b := by simpa [RegAt.endsBy] using h
    have hw : ¬ a - off < if wide then 8 else 4 := by split <;> omega
    simp [regAtIn, instOf, hw]
  | cons d ds =>
    obtain ⟨n, st⟩ := d
    obtain ⟨hst, hoff⟩ : 0 < st ∧ off + n * st ≤ b := by simpa [RegAt.endsBy] using h
    have hn : ¬ (a - off) / st < n := by
      rw [Nat.div_lt_iff_lt_mul hst]
      omega
    simp [regAtIn, instOf, hn]

theorem regAtIn_append_of_endsBy {b a : Nat} (rs : List RegAt) (hb : b ≤ a) :
    ∀ l : List RegAt, l.all (·.endsBy b) = true → regAtIn (l ++ rs) a = regAtIn rs a := by
  intro l
  induction l with
  | nil => exact fun _ => rfl
  | cons r l ih =>
    intro h
    obtain ⟨hr, hl⟩ : r.endsBy b = true ∧ l.all (·.endsBy b) = true := by simpa using h
    rw [List.cons_append, regAtIn_cons_of_endsBy _ hr hb, ih hl]

/-- Whether a field has a bit among the `n` bits of its register from bit `lo` on. -/
def FieldAt.meets (e : FieldAt) (lo n : Nat) : Bool := decide (e.lo < lo + n) && decide (lo < e.lo + e.fld.width)

/-- The ticket registers of the quad spine arbiters. -/
def arbTicketReg : RegAt :=
  ⟨0x20000, [(8, 0x1000), (1024, 0x4)], false, false, [⟨.ARB_TICKET_TICKETS, 0⟩, ⟨.ARB_TICKET_URGENT_OK, 16⟩]⟩

/-- The registers whose blocks stand before the arbiters'. -/
def regsBelowArb : List RegAt := regsCol ++ regsSup ++ regsCmp ++ regsCmp2 ++ regsFlt ++ regsSlt ++ regsSlt2 ++ regsMet ++ regsImp

theorem regTable_eq_arb : ∃ rs, regTable = regsBelowArb ++ (arbTicketReg :: rs) := ⟨_, rfl⟩

theorem regsBelowArb_endsBy : regsBelowArb.all (·.endsBy 0x20000) = true := by decide

theorem regAt_of_split {l rs : List RegAt} {a b : Nat} (h : regTable = l ++ rs) (hl : l.all (·.endsBy b) = true) (hb : b ≤ a) :
    regAt a = regAtIn rs a := by
  rw [regAt, h, regAtIn_append_of_endsBy rs hb l hl]

/-- The distance from the base offset is a variable of its own here: the kernel would count a numeral offset down from it. -/
theorem regAtIn_cons_of_instOf {r : RegAt} {d i b : Nat} (rs : List RegAt) (h : instOf r.dims d = some (i, b))
    (hb : b < if r.wide then 8 else 4) : regAtIn (r :: rs) (r.offset + d) = some (r, i, b) := by
  simp [regAtIn, h, hb]

theorem instOf_arbTicket {n : Nat} (h : n < 8192) : instOf arbTicketReg.dims (4 * n) = some (n, 0) := by
  have hquad : 4 * n / 4096 < 8 := by omega
  have hslot : 4 * n % 4096 / 4 < 1024 := by omega
  have hinst : 4 * n / 4096 * 1024 + 4 * n % 4096 / 4 = n := by omega
  have hbyte : 4 * n % 4096 % 4 = 0 := by omega
  simp [arbTicketReg, instOf, hquad, hslot, hinst, hbyte]

theorem regAt_arbTicket {n : Nat} (h : n < 8192) : regAt (0x20000 + 4 * n) = some (arbTicketReg, n, 0) := by
  obtain ⟨rs, hrs⟩ := regTable_eq_arb
  exact (regAt_of_split hrs regsBelowArb_endsBy (Nat.le_add_right _ _)).trans
    (regAtIn_cons_of_instOf (r := arbTicketReg) rs (instOf_arbTicket h) (by decide))

/-- No island of its own holds the ticket registers. -/
theorem regIsland_arbTicket {n : Nat} (h : n < 8192) : Machine.regIsland (0x20000 + 4 * n) = none := by
  unfold Machine.regIsland
  grind

end Sys2Proof
end

section
/-! SUPPORT. One register access of a host: the state in which `exec` answers it, and what a field, a counter and a staged copy
hold behind it (R5, R9, R11, R94, R96, R702 to R705). -/

namespace Sys2Proof.Machine

/-! ### Counters and staged copies -/

theorem KeepsRegs.setReg (s : State) (f : Fld) (i v : Nat) : KeepsRegs s (s.setReg f i v) [(f, i)] :=
  fun _ _ h => s.reg_setReg_ne v (by simpa using h)

theorem KeepsRegs.bump (s : State) (f : Fld) (i n : Nat) : KeepsRegs s (s.bump f i n) [(f, i)] := .setReg s f i _

@[simp] theorem State.reg_bump_self (s : State) (f : Fld) (i n : Nat) :
    (s.bump f i n).reg f i = min (2 ^ f.width - 1) (s.reg f i + n) := by
  have hw : 0 < 2 ^ f.width := Nat.two_pow_pos _
  rw [State.bump, State.reg_setReg_self]
  exact Nat.mod_eq_of_lt (by omega)

@[simp] theorem State.stage_reg (s : State) (f g : Fld) (i j v : Nat) : (s.stage f i v).reg g j = s.reg g j := by
  unfold State.stage
  dsimp only
  split <;> rfl

theorem State.stage_of_unlisted (s : State) {f : Fld} {v : Nat} (i : Nat) (h : f.listed (v % 2 ^ f.width) = false) :
    s.stage f i v = s := by
  simp [State.stage, h]

theorem State.stagedReg_stage_self (s : State) {f : Fld} {v : Nat} (i : Nat) (h : f.listed (v % 2 ^ f.width) = true) :
    (s.stage f i v).stagedReg f i = v % 2 ^ f.width := by
  simp [State.stage, State.stagedReg, h]

theorem State.stagedReg_stage_ne (s : State) {f g : Fld} {i j : Nat} (v : Nat) (h : g ≠ f ∨ j ≠ i) :
    (s.stage f i v).stagedReg g j = s.stagedReg g j := by
  have hk : (⟨g, j⟩ : RegKey) ≠ ⟨f, i⟩ := fun he => by simp_all
  unfold State.stage
  dsimp only
  split
  · simp only [State.stagedReg, Sparse.get?_set_ne _ _ hk]
    rfl
  · rfl

/-- R9. The fields whose write has an effect of its own list every encoding, but for the recovery target and the replay window,
and these keep their value as any other field does. -/
theorem State.writeField_of_unlisted (s : State) (k i : Nat) {f : Fld} {v : Nat} (hl : f.listed v = false)
    (ha : f.acc = .rw ∨ f.acc = .rws) : s.writeField k f i v = s := by
  unfold State.writeField
  dsimp only
  split
  case h_3 => simp [hl]
  case h_16 => simp [hl]
  case h_17 => rcases ha with ha | ha <;> simp [ha, hl]
  all_goals simp [Fld.listed] at hl

/-! ### How an access is answered -/

/-- The state in which a command takes its effect: its outputs are empty. -/
def State.started (s : State) : State := { s with out := [] }

@[simp] theorem State.started_out (s : State) : s.started.out = [] := rfl
@[simp] theorem State.started_reg (s : State) (f : Fld) (i : Nat) : s.started.reg f i = s.reg f i := rfl
@[simp] theorem State.started_stagedReg (s : State) (f : Fld) (i : Nat) : s.started.stagedReg f i = s.stagedReg f i := rfl
@[simp] theorem State.started_frame (s : State) : s.started.frame = s.frame := rfl
@[simp] theorem State.started_cfgHost (s : State) (k : Nat) : s.started.cfgHost k = s.cfgHost k := rfl
@[simp] theorem State.started_holdsLock (s : State) (k : Nat) : s.started.holdsLock k = s.holdsLock k := rfl
@[simp] theorem State.started_signedOnly (s : State) : s.started.signedOnly = s.signedOnly := rfl

theorem State.started_shown (s : State) (k : Nat) (f : Fld) (i : Nat) : s.started.shown k f i = s.shown k f i := by
  unfold State.shown
  rw [show s.started.isl = s.isl from rfl]
  cases s.isl.sltCopy with
  | none => rfl
  | some c => cases isSlt f && f != .SLT_SUMMARY_LINK_OK && f != .SLT_CFG_PORT <;> rfl

@[simp] theorem State.started_barWord (s : State) (k a : Nat) : s.started.barWord k a = s.barWord k a := by
  have hword : s.started.readWord k a = s.readWord k a := by
    simp only [State.readWord, State.readReg, State.started_shown]
  rw [State.barWord, hword]
  rfl

theorem exec_bar0Access {s : State} {k off : Nat} (size : Nat) (write : Bool) (v : Nat) (atomic : Bool) (hk : s.cfgHost k = true)
    (ho : off < 2 ^ 26) : exec (.bar0Access k off size write v atomic) s =
      .next (s.started.barMeet k 0 off size (if atomic then .atomic else if write then .write else .read) v) :=
  congrArg Host.Outcome.next (if_pos (Bool.and_eq_true_iff.2 ⟨hk, decide_eq_true ho⟩))

theorem exec_clearOnRead {s : State} {k : Nat} (off size : Nat) (hk : s.cfgHost k = true) :
    exec (.clearOnRead k off size) s = .next (s.started.barMeet k 0 off size .read 0) :=
  congrArg Host.Outcome.next (if_pos hk)

theorem exec_shFieldWrite {s : State} {k off i b : Nat} {r : RegAt} (size v : Nat) (hk : s.cfgHost k = true)
    (hr : regAt off = some (r, i, b)) (hsh : hasSh r = true) :
    exec (.shFieldWrite k off size v) s = .next (s.started.barMeet k 0 off size .write v) := by
  refine congrArg Host.Outcome.next (if_pos (Bool.and_eq_true_iff.2 ⟨hk, ?_⟩))
  rw [hr]
  exact hsh

theorem State.barMeet_of_unaligned (s : State) (k tag : Nat) {a size : Nat} (kind : ReqKind) (v : Nat) (h : aligned a size = false) :
    s.barMeet k tag a size kind v = s.barAccess k tag a size kind v := by
  unfold State.barMeet
  split <;> simp [h]

theorem State.barMeet_of_noWait (s : State) (k tag : Nat) {a : Nat} (size : Nat) (kind : ReqKind) (v : Nat)
    (h : ∀ n, s.metIsland a = some n → s.regWaits n = false) : s.barMeet k tag a size kind v = s.barAccess k tag a size kind v := by
  unfold State.barMeet
  split
  · rename_i n hn
    simp [h n hn]
  · rfl

theorem State.regWaits_of_running {s : State} {n : Nat} (h : s.running n = true) : s.regWaits n = false := by
  have hn : s.islState n = 2 := by simpa [State.running] using h
  simp [State.regWaits, hn]

theorem State.regOpen_of_running {s : State} {n : Nat} (h : s.running n = true) : s.regOpen n = true := by
  have hn : s.islState n = 2 := by simpa [State.running] using h
  simp [State.regOpen, hn]

/-- R702: in P5 an operator host port reaches every block, a tenant's the colophon page and the blocks from its MSI-X table to the
CMP block. -/
theorem State.reaches_p5 {s : State} {k a : Nat} (hp : s.phase = 5) (h : s.operator k = true ∨ (0x2000 ≤ a ∧ a < 0x5000)) :
    s.reaches k a = true := by
  simp only [State.reaches, hp]
  rcases h with h | ⟨h1, h2⟩ <;> simp_all

theorem aligned_four {a : Nat} (h : a % 4 = 0) : aligned a 4 = true := by simp [aligned, h]

/-- An access that is not aligned is refused where it is a read, and dropped where it is a write (R5). -/
theorem State.barAccess_of_unaligned (s : State) (k tag v : Nat) {a size : Nat} (h : aligned a size = false) :
    s.barAccess k tag a size .read v = s.emit (.cpl (.host k) tag .ur [] false) ∧ s.barAccess k tag a size .write v = s := by
  simp [State.barAccess, State.barRead, State.barWrite, State.barAnswer, h]

theorem State.lostAt_of_running {s : State} {a : Nat} (h : ∀ n, s.metIsland a = some n → s.running n = true) : s.lostAt a = false := by
  unfold State.lostAt
  split
  · rename_i n hn
    have h2 : s.islState n = 2 := by simpa [State.running] using h n hn
    simp [h2]
  · rfl

/-- A 32-bit read where no island is lost or asleep: the word as it stood, then its RC fields are cleared. -/
theorem State.barMeet_readWord {s : State} {a : Nat} (k tag v : Nat) (ha : a % 4 = 0)
    (h : ∀ n, s.metIsland a = some n → s.running n = true) :
    s.barMeet k tag a 4 .read v = (s.readClears k a 32).emit (.cpl (.host k) tag .sc (leBytes 4 (s.barWord k a)) false) := by
  rw [State.barMeet_of_noWait _ _ _ _ _ _ fun n hn => State.regWaits_of_running (h n hn)]
  simp [State.barAccess, State.barRead, State.barAnswer, aligned_four ha, State.lostAt_of_running h]

/-! ### Reads of a busy port (R705) -/

/-- While the port is busy, a CMP register that R705 does not list reads zero and keeps what it holds. -/
theorem State.barWord_of_busy {s : State} {a : Nat} (k : Nat) (hb : s.busy = true) (h1 : 0x4000 ≤ a) (h2 : a < 0x5000)
    (hr : busyReadable a = false) : s.barWord k a = 0 := by
  have h3 : ¬ a < 0x2400 := by omega
  have h4 : a ≠ 0x3000 ∧ a ≠ 0x3004 := by omega
  simp [State.barWord, hb, h1, h2, hr, h3, h4]

theorem State.readClears_of_busy {s : State} {a : Nat} (k n : Nat) (hb : s.busy = true) (h1 : 0x4000 ≤ a) (h2 : a < 0x5000)
    (hr : busyReadable a = false) : s.readClears k a n = s := by
  simp [State.readClears, hb, h1, h2, hr]

/-- The CMP block's registers lie in island 52, if anywhere. -/
theorem State.metIsland_cmp {s : State} {a n : Nat} (h1 : 0x4000 ≤ a) (h2 : a < 0x5000) (h : s.metIsland a = some n) : n = 52 := by
  have hi : regIsland a = some 52 := by
    unfold regIsland
    grind
  have h3 : ¬ 0x500000 ≤ a := by omega
  unfold State.metIsland at h
  rw [hi] at h
  grind

theorem exec_bar0Access_readBusy {s : State} {k a : Nat} (v : Nat) (hk : s.cfgHost k = true) (hb : s.busy = true)
    (hm : s.running 52 = true) (ha : a % 4 = 0) (h1 : 0x4000 ≤ a) (h2 : a < 0x5000) (hr : busyReadable a = false) :
    exec (.bar0Access k a 4 false v false) s = .next { s with out := [.cpl (.host k) 0 .sc (leBytes 4 0) false] } := by
  have hb' : s.started.busy = true := hb
  rw [exec_bar0Access _ _ _ _ hk (by omega)]
  have hread := State.barMeet_readWord (s := s.started) k 0 v ha fun n hn => by
    rw [State.metIsland_cmp h1 h2 hn]
    exact hm
  simp only [Bool.false_eq_true, if_false, hread, State.readClears_of_busy k 32 hb' h1 h2 hr, State.barWord_of_busy k hb' h1 h2 hr]
  rfl

/-! ### What a read clears (R11) -/

/-- A read of bits `[lo, lo + n)` of a register clears an RC field that it meets. -/
def State.clearField (i lo n : Nat) (s : State) (e : FieldAt) : State :=
  if e.meets lo n && decide (e.fld.acc = .rc) then s.setReg e.fld i (rstVal e.fld i) else s

/-- Outside the PRBS error register and the slot-power registers a read clears field by field. -/
theorem State.readClears_eq_foldl {s : State} {k a i b : Nat} {r : RegAt} (n : Nat) (hreach : s.reaches k a = true) (hb : s.busy = false)
    (hr : regAt a = some (r, i, b)) (hrun : ∀ m, s.metIsland a = some m → s.running m = true)
    (hf : ∀ e ∈ r.fields, e.fld ≠ .TILE_PRBS_ERR_COUNT ∧ isSlt e.fld = false) :
    s.readClears k a n = r.fields.foldl (State.clearField (ownInst k r i) (8 * b) n) s := by
  unfold State.readClears
  simp only [hreach, hb, hr, Bool.not_true, Bool.and_false, Bool.false_and, Bool.or_false, Bool.false_eq_true, if_false]
  refine (congrArg (Option.elim · s _) (?_ : _ = some s)).trans (List.foldl_ext _ _ s fun t e he => ?_)
  · split
    · rename_i m hm
      simp [State.regOpen_of_running (hrun m hm)]
    · rfl
  obtain ⟨hprbs, hslt⟩ := hf e he
  change (if (!e.meets (8 * b) n) = true then t else _) = _
  unfold State.clearField
  cases e.meets (8 * b) n with
  | false => simp
  -- by `hprbs` the match takes the arm of the fields other than the PRBS error count
  | true => simp [hslt]

theorem State.clearField_out (i lo n : Nat) (s : State) (e : FieldAt) : (s.clearField i lo n e).out = s.out := by
  unfold State.clearField
  split <;> rfl

theorem State.clearField_frame (i lo n : Nat) (s : State) (e : FieldAt) : (s.clearField i lo n e).frame = s.frame := by
  simp [State.clearField]

theorem State.clearField_reg_ne (i lo n : Nat) (s : State) {e : FieldAt} {f : Fld} (j : Nat) (h : e.fld ≠ f) :
    (s.clearField i lo n e).reg f j = s.reg f j := by
  unfold State.clearField
  split
  · exact s.reg_setReg_ne _ fun hf => h hf.1.symm
  · rfl

/-- A field at its reset value stays there. -/
theorem State.clearField_reg_of_reset {i lo n : Nat} {s : State} (e : FieldAt) {f : Fld}
    (h : s.reg f i = rstVal f i % 2 ^ f.width) : (s.clearField i lo n e).reg f i = rstVal f i % 2 ^ f.width := by
  by_cases hf : e.fld = f
  · unfold State.clearField
    split
    · rw [hf, State.reg_setReg_self]
    · exact h
  · rw [State.clearField_reg_ne i lo n s i hf, h]

theorem foldl_clearField_out (i lo n : Nat) : ∀ (l : List FieldAt) (s : State), (l.foldl (State.clearField i lo n) s).out = s.out
  | [], _ => rfl
  | e :: l, s => (foldl_clearField_out i lo n l _).trans (s.clearField_out i lo n e)

theorem foldl_clearField_reg_of_notMem (i lo n : Nat) {f : Fld} (j : Nat) :
    ∀ (l : List FieldAt) (s : State), (∀ e ∈ l, e.fld ≠ f) → (l.foldl (State.clearField i lo n) s).reg f j = s.reg f j
  | [], _, _ => rfl
  | e :: l, s, h => by
    rw [List.foldl_cons, foldl_clearField_reg_of_notMem i lo n j l _ fun d hd => h d (List.mem_cons_of_mem _ hd),
      State.clearField_reg_ne i lo n s j (h e List.mem_cons_self)]

theorem foldl_clearField_reg_of_reset (i lo n : Nat) {f : Fld} : ∀ (l : List FieldAt) (s : State),
    s.reg f i = rstVal f i % 2 ^ f.width → (l.foldl (State.clearField i lo n) s).reg f i = rstVal f i % 2 ^ f.width
  | [], _, h => h
  | e :: l, _, h => foldl_clearField_reg_of_reset i lo n l _ (State.clearField_reg_of_reset e h)

/-- Every RC field that the read meets is back at its reset value: it is put there when its turn comes, and stays. -/
theorem foldl_clearField_reg_of_mem {i lo n : Nat} {e : FieldAt} (hm : e.meets lo n = true) (hrc : e.fld.acc = .rc) :
    ∀ (l : List FieldAt) (s : State), e ∈ l →
      (l.foldl (State.clearField i lo n) s).reg e.fld i = rstVal e.fld i % 2 ^ e.fld.width := by
  intro l
  induction l with
  | nil => exact fun _ h => absurd h List.not_mem_nil
  | cons d l ih =>
    intro s h
    rcases List.mem_cons.1 h with rfl | h
    · refine foldl_clearField_reg_of_reset i lo n l _ ?_
      simp [State.clearField, hm, hrc]
    · exact ih _ h

/-! ### Writes to a ticket register (R82, R94, R96) -/

theorem State.shRefused_of_free {s : State} {k : Nat} (hb : s.busy = false) (hm : s.mgmtUp = true) :
    s.shRefused k = if !s.holdsLock k || s.signedOnly then some (s.bump .CMP_STAGE_REJECT_COUNT 0) else none := by
  simp [State.shRefused, hb, hm]

theorem arbTicket_acc : Fld.ARB_TICKET_TICKETS.acc = .sh ∧ Fld.ARB_TICKET_URGENT_OK.acc = .sh := ⟨rfl, rfl⟩

theorem arbTicket_width : Fld.ARB_TICKET_TICKETS.width = 16 ∧ Fld.ARB_TICKET_URGENT_OK.width = 1 := ⟨rfl, rfl⟩

theorem arbTicket_listed {v : Nat} (h : v % 2 ^ 16 ≠ 0) : Fld.ARB_TICKET_TICKETS.listed (v % 2 ^ 16) = true := by
  change (decide (1 ≤ v % 2 ^ 16) && decide (v % 2 ^ 16 ≤ 65535)) = true
  simp only [Bool.and_eq_true, decide_eq_true_eq]
  omega

/-- A 32-bit write to a ticket register writes the staged copies of its two fields, unless it is refused. -/
theorem State.writeReg_arbTicket (s : State) (k n v : Nat) : s.writeReg k arbTicketReg n 0 32 v =
    (s.shRefused k).getD ((s.stage .ARB_TICKET_TICKETS n (v % 2 ^ 16)).stage .ARB_TICKET_URGENT_OK n (v / 2 ^ 16 % 2)) := by
  obtain ⟨haT, haU⟩ := arbTicket_acc
  obtain ⟨hwT, hwU⟩ := arbTicket_width
  have hold : (s.stagedReg .ARB_TICKET_TICKETS n % 65536 + s.stagedReg .ARB_TICKET_URGENT_OK n % 2 * 65536) / 4294967296 = 0 := by omega
  have hlow : v % 4294967296 % 65536 = v % 65536 := by omega
  have hup : v % 4294967296 / 65536 % 2 = v / 65536 % 2 := by omega
  cases hs : s.shRefused k <;>
    simp [State.writeReg, arbTicketReg, haT, haU, hwT, hwU, State.keptOf, hs, hold, hlow, hup, Nat.mod_one]

theorem exec_shFieldWrite_arbTicket {s : State} {k n : Nat} (v : Nat) (hk : s.cfgHost k = true) (hp : s.phase = 5)
    (ho : s.operator k = true) (hn : n < 8192) : exec (.shFieldWrite k (0x20000 + 4 * n) 4 v) s =
      .next (s.started.writeReg k arbTicketReg n 0 32 v) := by
  have hr := regAt_arbTicket hn
  have hmet : s.started.metIsland (0x20000 + 4 * n) = none := by
    simp [State.metIsland, hr, regIsland_arbTicket hn]
  have hreach : s.started.reaches k (0x20000 + 4 * n) = true := State.reaches_p5 hp (.inl ho)
  have hal : aligned (0x20000 + 4 * n) 4 = true := aligned_four (by omega)
  have h1 : ¬ 0x20000 + 4 * n < 0x5000 := by omega
  have h2 : ¬ 0x20000 + 4 * n < 0x2400 := by omega
  rw [exec_shFieldWrite 4 v hk hr rfl, State.barMeet_of_noWait _ _ _ _ _ _ (by simp [hmet])]
  simp [State.barAccess, State.barWrite, State.writeAt, hal, hreach, hr, hmet, h1, h2, ownInst, arbTicketReg]

end Sys2Proof.Machine
end

section
/-! The statements on register accesses (00_scope.md). -/

namespace Sys2Proof.Machine

/-- Settles O8: the access never waits for an island, and `barAccess_of_unaligned` says how it is answered (R5). -/
theorem unalignedRegisterAccessesChangeNothing : Obligations.UnalignedRegisterAccessesChangeNothing := by
  unfold Obligations.UnalignedRegisterAccessesChangeNothing
  intro k off size v s hk ho hna
  have ha : aligned off size = false := by simpa [aligned] using hna
  obtain ⟨hread, hwrite⟩ := State.barAccess_of_unaligned s.started k 0 v ha
  constructor
  · rw [exec_bar0Access _ _ _ _ hk ho, State.barMeet_of_unaligned _ _ _ _ _ ha]
    simp only [Bool.false_eq_true, if_false, hread]
    rfl
  · rw [exec_bar0Access _ _ _ _ hk ho, State.barMeet_of_unaligned _ _ _ _ _ ha]
    simp only [Bool.false_eq_true, if_false, if_true, hwrite]
    rfl

/-- Settles O12, by `writeField_of_unlisted` (R9) and what a staged copy holds after a write (R96). -/
theorem unlistedEncodingsLeaveAFieldUnchanged : Obligations.UnlistedEncodingsLeaveAFieldUnchanged := by
  unfold Obligations.UnlistedEncodingsLeaveAFieldUnchanged
  exact ⟨fun k i _ _ s hl ha => s.writeField_of_unlisted k i hl ha, fun i _ _ s hl => s.stage_of_unlisted i hl,
    fun i v _ s hl => ⟨s.stagedReg_stage_self i hl, fun _ _ h => s.stagedReg_stage_ne v h⟩⟩

/-- Settles O13, by `writeReg_arbTicket`: the write is staged, or refused and counted (R82, R94, R96). -/
theorem shFieldWritesGoToTheStagedCopy : Obligations.ShFieldWritesGoToTheStagedCopy := by
  unfold Obligations.ShFieldWritesGoToTheStagedCopy
  constructor
  · intro k n v s hk hp ho hb hm hn hv hv16 hlock hsigned
    have href : s.started.shRefused k = none := by
      rw [State.shRefused_of_free (s := s.started) hb hm]
      exact if_neg (by simp [hlock, hsigned])
    have hup : v / 2 ^ 16 % 2 = v / 2 ^ 16 := by omega
    refine ⟨_, exec_shFieldWrite_arbTicket v hk hp ho hn, ?_⟩
    rw [State.writeReg_arbTicket, href, Option.getD_none, hup]
    refine ⟨?_, ?_, fun g j h => ?_, fun f i => by simp, by simp⟩
    · have hl : Fld.ARB_TICKET_TICKETS.listed (v % 2 ^ 16 % 2 ^ Fld.ARB_TICKET_TICKETS.width) = true := by
        rw [arbTicket_width.1, Nat.mod_mod]
        exact arbTicket_listed hv16
      rw [State.stagedReg_stage_ne _ _ (.inl (by decide)), State.stagedReg_stage_self _ _ hl]
      exact Nat.mod_mod _ _
    · rw [State.stagedReg_stage_self _ _ rfl]
      exact hup
    · have hT : g ≠ .ARB_TICKET_TICKETS ∨ j ≠ n := h.imp_left And.left
      have hU : g ≠ .ARB_TICKET_URGENT_OK ∨ j ≠ n := h.imp_left And.right
      rw [State.stagedReg_stage_ne _ _ hU, State.stagedReg_stage_ne _ _ hT, State.started_stagedReg]
  · intro k n v s hk hp ho hb hm hn hno
    have href : s.started.shRefused k =
        some (s.started.bump .CMP_STAGE_REJECT_COUNT 0) := by
      rw [State.shRefused_of_free (s := s.started) hb hm]
      exact if_pos (by simpa using hno)
    refine ⟨_, exec_shFieldWrite_arbTicket v hk hp ho hn, ?_⟩
    rw [State.writeReg_arbTicket, href, Option.getD_some]
    exact ⟨rfl, State.reg_bump_self _ _ _ _, KeepsRegs.bump _ _ _ _, by simp⟩

/-- Settles O14: a count is one `bump`; a read shows the word as it stood (`barMeet_readWord`) and clears field by field
(`readClears_eq_foldl`) (R11, R46). -/
theorem clearOnReadClearsWhatItShows : Obligations.ClearOnReadClearsWhatItShows := by
  unfold Obligations.ClearOnReadClearsWhatItShows
  constructor
  · intro f i s h
    rw [State.reg_bump_self]
    exact ⟨by omega, fun _ => by omega, KeepsRegs.bump s f i 1⟩
  · intro k a i b r s hk hreach hb ha hr hrun hf
    have hread := State.barMeet_readWord (s := s.started) k 0 0 ha hrun
    rw [State.readClears_eq_foldl (s := s.started) 32 hreach hb hr hrun hf] at hread
    refine ⟨_, (exec_clearOnRead a 4 hk).trans (congrArg _ hread), ?_, fun e he hrc hlo hhi => ?_, fun f j hne => ?_, ?_⟩
    · simp [foldl_clearField_out]
    · have hm : e.meets (8 * b) 32 = true := by simp [FieldAt.meets, hlo, hhi]
      exact foldl_clearField_reg_of_mem hm hrc _ _ he
    · exact foldl_clearField_reg_of_notMem _ _ _ j _ _ hne
    · rw [State.emit_frame]
      exact foldl_frame (State.clearField_frame _ _ _) _ _

/-- An image whose one port is that of an operator host. -/
def oneHost : Image :=
  { magic := 0x46444C48, imageLen := 0, sectionCount := 0, dir := [], sigOffset := 0,
    ports := [{ tile := 0, slot := 0, role := 1, hostIndex := 0, operator := true }] }

/-- P5 with the link of host 0 up, and the composing port busy while word 0 of the host's CMP_ARG holds 7. -/
def busyWithArg : State :=
  ({ boot := { stage := .none, pwrok := true, running := some oneHost } } : State).setRegs
    [(.SUP_COL_PHASE_PHASE, 0, 5), (.SUP_ISL_STATUS_STATE, 52, 2), (.TILE_PORT_STATUS_LINK_UP, 0, 1), (.CMP_STATUS_BUSY, 0, 1),
      (.CMP_ARG_VALUE, 0, 7)]

/-- Refutes O11: its third clause, on reads of CMP_ARG, does not ask that the port be free, as its words do. While BUSY is 1 a read
of CMP_ARG answers zero (R705); in `busyWithArg` the word holds 7. -/
theorem not_composingPortWritesAreTakenOrDropped : ¬ Obligations.ComposingPortWritesAreTakenOrDropped := by
  unfold Obligations.ComposingPortWritesAreTakenOrDropped
  rintro ⟨-, -, hclause⟩
  have hlink : busyWithArg.cfgHost 0 = true := by decide
  have hrun : busyWithArg.running 52 = true := by decide
  have harg : busyWithArg.reg .CMP_ARG_VALUE (32 * 0 + 0) = 7 := by decide
  have hseven := hclause 0 0 0 busyWithArg hlink (by decide) hrun (by decide) (by rw [harg]; decide)
  have hzero := exec_bar0Access_readBusy (a := 0x4200 + 4 * 0) 0 hlink (by decide) hrun (by decide) (by decide) (by decide) (by decide)
  rw [harg] at hseven
  have hout := (Host.Outcome.next.inj (hseven.symm.trans hzero))
  exact absurd (congrArg State.out hout) (by decide)

end Sys2Proof.Machine
end

section
/-! SUPPORT. What a command keeps of the frame, said once for any view of it: the flash die with the fuses, the bytes of the memory
pool, and all of it but the clock (R84, R147, R161, R164, R527). -/

namespace Sys2Proof.Machine

/-! ### Outcomes -/

/-- The command answers a next state, and `P` holds of it. -/
def Ends (P : State → Prop) : Res → Prop
  | .next t => P t
  | _ => False

theorem ends_run {P : State → Prop} {f : State → State} {s : State} (h : P (f { s with out := [] })) : Ends P (run f s) := h

theorem Ends.of_next {P : State → Prop} {o : Res} {t : State} (h : Ends P o) (ho : o = .next t) : P t := by
  rw [ho] at h
  exact h

theorem Ends.imp {P Q : State → Prop} {o : Res} (h : Ends P o) (hpq : ∀ t, P t → Q t) : Ends Q o := by
  cases o with
  | next t => exact hpq t h
  | _ => exact h

/-! ### Views of the frame -/

/-- Two states show the same to the view `v` of their frames. -/
def Same {α : Type} (v : Frame → α) (s t : State) : Prop := v t.frame = v s.frame

/-- All of a frame but its clock. -/
def Frame.still (f : Frame) : Frame := { f with now := 0 }

/-- The flash die and the fuses: what survives the power of the switch die. -/
def Frame.store (f : Frame) : Flash × Part := (f.flash, f.part)

section
variable {α : Type} {v : Frame → α} {s t u : State}

theorem Same.of_frame (h : t.frame = s.frame) : Same v s t := congrArg v h

theorem Same.refl (s : State) : Same v s s := rfl

theorem Same.trans (h : Same v s t) (k : Same v t u) : Same v s u := Eq.trans k h

theorem Same.frame_right (h : Same v s t) (k : u.frame = t.frame) : Same v s u := h.trans (.of_frame k)

theorem Same.ite {a b : State} {c : Prop} [Decidable c] (ha : Same v s a) (hb : Same v s b) : Same v s (if c then a else b) := by
  split
  · exact ha
  · exact hb

theorem Same.foldl {β : Type} {g : State → β → State} (l : List β) (s : State) (h : ∀ t, ∀ e ∈ l, Same v t (g t e)) :
    Same v s (l.foldl g s) :=
  List.foldlRecOn l g (motive := Same v s) (.refl s) fun t ht e he => ht.trans (h t e he)

/-- A command keeps what its effect keeps: the outputs stand outside the frame. -/
theorem Same.run {f : State → State} (h : ∀ u, Same v u (f u)) : Ends (Same v s) (run f s) := ends_run ((h _ : Same v { s with out := [] } _))

theorem Same.of_still {w : Frame → α} (h : Same Frame.still s t) (hw : ∀ f : Frame, w f.still = w f) : Same w s t := by
  unfold Same
  rw [← hw t.frame, ← hw s.frame, h]

theorem Same.store (h : Same Frame.store s t) : t.flash = s.flash ∧ t.part = s.part := Prod.mk.inj h

theorem Same.mem (h : Same Frame.mem s t) : t.pool.mem = s.pool.mem := h

end

theorem Frame.store_still (f : Frame) : f.still.store = f.store := rfl

theorem Frame.mem_still (f : Frame) : f.still.mem = f.mem := rfl

@[simp] theorem Frame.still_ite {c : Prop} [Decidable c] (a b : Frame) : (if c then a else b).still = if c then a.still else b.still :=
  apply_ite _ _ _ _

/-! ### Operations that move the clock alone -/

@[simp] theorem State.atNow_still (s : State) (t : Nat) : (s.atNow t).frame.still = s.frame.still := rfl

@[simp] theorem State.atDev_still (s : State) (t : Nat) : (s.atDev t).frame.still = s.frame.still := by
  unfold State.atDev
  split <;> rfl

@[simp] theorem State.bankClose_still (s : State) : s.bankClose.frame.still = s.frame.still := by
  unfold State.bankClose
  split
  · rfl
  · dsimp only
    split <;> simp

@[simp] theorem State.fenceForce_still (s : State) (n : Nat) : (s.fenceForce n).frame.still = s.frame.still := by
  unfold State.fenceForce
  split
  · split <;> simp
  · rfl

@[simp] theorem State.leaveReset_still (s : State) (n : Nat) : (s.leaveReset n).frame.still = s.frame.still := by
  unfold State.leaveReset
  split
  · rfl
  · dsimp only
    split
    · simp
    · repeat' (first | (simp; done) | split)

@[simp] theorem State.switchNext_still (s : State) : s.switchNext.frame.still = s.frame.still := by
  unfold State.switchNext
  rw [← s.rampsOver_frame]
  generalize s.rampsOver = t
  dsimp only
  split
  · rfl
  · split <;> repeat' (first | (simp; done) | split)

@[simp] theorem State.meterResume_still (s : State) : s.meterResume.frame.still = s.frame.still := by
  unfold State.meterResume
  split <;> simp

/-! ### Islands that are lost (R66, R117) -/

/-- Only the loss of the management core, whose FORME_WRITE leaves a BAD bank, reaches the flash die. -/
theorem State.lose_frame (s : State) {n : Nat} (src : Nat) (h : n ≠ 52) : (s.lose n src).frame = s.frame := by
  unfold State.lose
  split
  · rfl
  · have h52 : (n == 52) = false := by simpa using h
    simp only [h52, Bool.false_eq_true, if_false, State.replicaCheck_frame]
    repeat' (first | (simp; done) | split)

theorem State.domainLoss_frame (s : State) {d : Nat} (h : domIsland d ≠ 52) : (s.domainLoss d).frame = s.frame := by
  unfold State.domainLoss
  split
  · rw [State.lose_frame _ _ h, State.setReg_frame]
  · rfl

theorem State.unlock_frame (s : State) {n : Nat} (h : n ≠ 52) : (s.unlock n).frame = s.frame := by
  unfold State.unlock
  split
  · exact State.lose_frame _ _ h
  · rfl

theorem refIslands_ne_mgmt {q n : Nat} (hq : 1 ≤ q) (hq7 : q ≤ 7) (h : n ∈ refIslands q) : n ≠ 52 := by
  have h0 : (q == 0) = false := by simp; omega
  simp [refIslands, h0, span] at h
  omega

end Sys2Proof.Machine
end

section
namespace Sys2Proof.Machine

theorem State.barMeet_read_frame (s : State) (k tag a size v : Nat) : (s.barMeet k tag a size .read v).frame = s.frame := by
  have h : (s.barAccess k tag a size .read v).frame = s.frame := by simp [State.barAccess]
  unfold State.barMeet
  split
  · split
    · simp
    · exact h
  · exact h

theorem State.takeInbox_frame {s t : State} {p : Nat} {f : FabPkt} {live : Bool} (h : s.takeInbox p f = some (live, t)) :
    t.frame = s.frame := by
  unfold State.takeInbox at h
  split at h
  · obtain ⟨-, rfl⟩ := Prod.mk.inj (Option.some.inj h)
    simp
  · split at h
    · contradiction
    · obtain ⟨-, rfl⟩ := Prod.mk.inj (Option.some.inj h)
      simp
  · contradiction

theorem execFabricPacket_still (p : Nat) (f : FabPkt) (ts : Nat) (s : State) : Ends (Same Frame.still s) (execFabricPacket p f ts s) := by
  refine Same.run fun u => ?_
  split
  · exact .refl u
  · rename_i live t h
    have ht : Same Frame.still u ((t.atDev ts).tally (p / 4) 0x01) :=
      .trans (.of_frame (State.takeInbox_frame h)) (.trans (t.atDev_still ts) (.of_frame (State.tally_frame _ _ _ _)))
    dsimp only
    refine (ht.trans ?_).frame_right (State.fabTake_frame _ _ _ _ _)
    generalize (t.atDev ts).tally (p / 4) 0x01 = w
    exact .trans (.ite (.of_frame (State.report_frame _ _ _ _ _ _)) (.refl w)) (.ite (.of_frame rfl) (.refl _))

theorem execScrubStep_still (m ln row bank : Nat) (e : EccResult) (s : State) :
    Ends (Same Frame.still s) (execScrubStep m ln row bank e s) := by
  refine Same.run fun u => .ite ?_ (.refl u)
  dsimp only
  refine .ite (.frame_right ?_ ((State.bump_frame _ _ _ _).trans (State.setReg_frame _ _ _ _))) (.frame_right ?_ (State.setReg_frame _ _ _ _))
  all_goals
    refine .trans ?_ (.ite (.of_frame ?_) (.refl _))
    · refine .ite (.of_frame ?_) (.refl u)
      rw [State.corrected_frame]
      split
      · exact State.setTag_frame _ _ _
      · rfl
    · rw [State.uncorrected_frame]
      split
      · exact State.setTag_frame _ _ _
      · rfl

theorem execEqExit_still (p usable : Nat) (found : EqFound) (s : State) : Ends (Same Frame.still s) (execEqExit p usable found s) := by
  refine Same.run fun u => .ite ?_ (.refl u)
  dsimp only
  have hrounds : (found.rounds.foldl (fun s r => s.eqRound p (s.dlink p).usable r) u).frame = u.frame :=
    foldl_frame (fun t r => State.eqRound_frame _ _ _ _) _ _
  generalize found.rounds.foldl (fun s r => s.eqRound p (s.dlink p).usable r) u = w at hrounds
  refine .trans (.of_frame hrounds) (.ite (.of_frame (State.setReg_frame _ _ _ _)) (.of_frame ?_))
  rw [State.putIdle_frame, State.putAlign_frame]
  refine (foldl_frame (fun t i => ?_) _ _).trans ?_
  · split
    · split <;> simp
    · rfl
  · rw [State.setRegs_frame, State.updDlink_frame]
    exact foldl_frame (fun t i => State.putEq_frame _ _ _ _ _) _ _

theorem execAutoDrop_still (p lane : Nat) (s : State) : Ends (Same Frame.still s) (execAutoDrop p lane s) := by
  refine Same.run fun u => .ite ?_ (.refl u)
  dsimp only
  generalize ht : State.updDlink _ _ _ = t
  have hf : t.frame = u.frame := by
    rw [← ht, State.updDlink_frame]
    split <;> simp
  refine .trans (.of_frame hf) (.ite (.of_frame (State.fabDown_frame _ _ _ _)) (.ite ?_ (.refl t)))
  exact .ite (.of_frame (State.report_frame _ _ _ _ _ _)) (.of_frame (by simp))

theorem execSlotSample_still (k i v : Nat) (vgs : Bool) (s : State) : Ends (Same Frame.still s) (execSlotSample k i v vgs s) := by
  refine Same.run fun u => .ite ?_ (.refl u)
  refine .trans (u.atNow_still ((u.ch k).sampleAt + 2000)) ?_
  generalize u.atNow ((u.ch k).sampleAt + 2000) = w
  dsimp only
  split
  · split
    · exact .of_frame (by simp)
    · exact .of_frame (by simp)
  · refine .trans ?_ (.ite (.of_frame (State.latch_frame _ _ _ _)) (.refl _))
    exact .of_frame (by simp)

theorem execVbcdRise_still  (s : State) : Ends (Same Frame.still s) (execVbcdRise s) := by
  have hchan : ∀ t : State, ({ t with chan := [] } : State).frame = t.frame := fun _ => rfl
  refine Same.run fun u => .trans (.foldl _ _ fun t k _ => .of_frame ?_) (.of_frame (hchan _))
  dsimp only
  generalize hw : State.setRegs _ _ = w
  have hf : w.frame = t.frame := by rw [← hw, State.setRegs_frame, ite_frame, State.latchOff_frame, ite_self]
  split
  · rw [ite_frame, State.hotplug_frame _ _ fun t => ?_, ite_self, hf]
    rw [State.updLink_frame, State.deviceDown_frame, State.setReg_frame]
  · exact hf

end Sys2Proof.Machine
end

section
namespace Sys2Proof.Machine

/-- A command of neither list keeps all of the frame but its clock. Those that need more than the frames of the operations that they
are made of are named first. -/
theorem exec_still {c : Instr} {s : State} (hf : changesFlash c = false) (hp : changesPool c = false) :
    Ends (Same Frame.still s) (exec c s) := by
  cases c <;> (unfold exec; dsimp only)
  case fabricPacket => exact execFabricPacket_still _ _ _ s
  case scrubStep => exact execScrubStep_still _ _ _ _ _ s
  case eqExit => exact execEqExit_still _ _ _ s
  case autoDrop => exact execAutoDrop_still _ _ s
  case slotSample => exact execSlotSample_still _ _ _ _ s
  case vbcdRise => exact execVbcdRise_still s
  case clearOnRead => exact .run fun u => .ite (.of_frame (State.barMeet_read_frame _ _ _ _ _ _)) (.refl u)
  case transitRecordExpiry =>
    refine .run fun u => ?_
    split
    · exact u.atNow_still _
    · exact .refl u
  case pwrLoss d => exact .run fun u => .of_frame (State.domainLoss_frame _ (by simpa [changesFlash] using hf))
  case supplyExcursion ds =>
    have hds : ∀ d ∈ ds, domIsland d ≠ 52 := by simpa [changesFlash] using hf
    exact .run fun u => .foldl _ _ fun t d hd => .of_frame (State.domainLoss_frame _ (hds d hd))
  case refclkLoss =>
    refine .run fun u => .ite (.trans (.of_frame (State.report_frame _ _ _ _ _ _)) (.foldl _ _ fun t n hn => ?_)) (.refl u)
    exact .of_frame (State.unlock_frame _ (by simp at hn; exact hn.2.2))
  case refclkQLoss q =>
    refine .run fun u => ?_
    split
    · rename_i hq
      obtain ⟨h1, h7⟩ : 1 ≤ q ∧ q ≤ 7 := by simpa using hq
      exact .foldl _ _ fun t n hn => .of_frame (State.unlock_frame _ (refIslands_ne_mgmt h1 h7 hn))
    · exact .refl u
  all_goals first
    | (cases hf; done)
    | (cases hp; done)
    | skip
  all_goals
    refine Same.run fun u => ?_
    unfold Same
  all_goals try dsimp only
  all_goals repeat' (first | (simp; done) | (refine (congrArg Frame.still (foldl_frame (fun s e => ?_) _ _)).trans ?_) | split)

end Sys2Proof.Machine
end

section
/-! SUPPORT. The commands that change the flash die or a fuse leave the bytes of the memory pool alone. -/

namespace Sys2Proof.Machine

theorem State.setBank_mem (s : State) (b : Bool) (v : Bank) : Same Frame.mem s (s.setBank b v) := rfl

theorem State.markBank_mem (s : State) (b : Bool) (v : BankState) : Same Frame.mem s (s.markBank b v) := s.setBank_mem b _

theorem State.confirmBank_mem (s : State) (im : Image) : Same Frame.mem s (s.confirmBank im) := by
  unfold State.confirmBank
  dsimp only
  refine .frame_right ?_ (State.setRegs_frame _ _)
  exact .trans (s.markBank_mem s.boot.runB .confirmed) rfl

theorem State.formeSelect_mem (s : State) (a : List Nat) : Same Frame.mem s (s.formeSelect a) := by
  unfold State.formeSelect
  dsimp only
  split
  · exact .frame_right (t := { s with flash := { s.flash with prefB := nth a 0 == 1 } }) rfl (by simp)
  · exact .frame_right (t := { s with flash := { s.flash with prefB := nth a 0 == 1 } }) rfl (by simp)
  · exact .of_frame (State.ended_frame _ _ _)

theorem State.applyParts_mem (s : State) (parts : List AmendParts) (tc : Nat) : Same Frame.mem s (s.applyParts parts tc) := by
  unfold State.applyParts
  refine .foldl _ _ fun s a _ => ?_
  dsimp only
  generalize ht : State.setDigest s _ = t
  have h : Same Frame.mem s { t with flash := { t.flash with amendHigh := max t.flash.amendHigh a.seq } } :=
    .trans (t := t) (.of_frame (by rw [← ht, State.setDigest_frame])) rfl
  refine h.frame_right ?_
  repeat' (first | (simp; done) | split)

theorem State.applyCommit_mem (s : State) (c : Commit) : Same Frame.mem s (s.applyCommit c) := by
  unfold State.applyCommit
  dsimp only
  generalize ht : List.foldl _ _ c.writes = t
  have h : Same Frame.mem s t := by
    refine .of_frame ?_
    rw [← ht]
    refine (foldl_frame (fun s e => ?_) _ _).trans ?_
    · split <;> simp
    · simp
  refine (h.trans (t.applyParts_mem c.parts c.tc)).frame_right ?_
  rw [State.pruneRemoved_frame, State.applyOrigin_frame]
  split <;> simp

theorem State.formeEnd_mem (s : State) (im : Image) (a : List Nat) : Same Frame.mem s (s.formeEnd im a) :=
  .frame_right (.ite (s.setBank_mem _ _) (s.markBank_mem _ _)) (State.ended_frame _ _ _)

theorem State.dmaEnd_mem (s : State) (r : Running) : Same Frame.mem s (s.dmaEnd r) := by
  unfold State.dmaEnd
  dsimp only
  generalize ht : State.updLink s _ = t
  have h : Same Frame.mem s (if t.reg .CMP_DMA_STATUS_STATE r.host == 1 then t.setReg .CMP_DMA_STATUS_STATE r.host 0 else t) :=
    .trans (.of_frame (by rw [← ht, State.updLink_frame])) (.ite (.of_frame (State.setReg_frame _ _ _ _)) (.refl t))
  split
  · exact h.frame_right (State.amendEnd_frame _ _ _)
  · exact h.trans (State.formeEnd_mem _ _ _)
  · exact h.frame_right (State.importEnd_frame _ _ _)
  · exact h

theorem State.imageRead_mem (s : State) (k : Nat) : Same Frame.mem s (s.imageRead k) := by
  unfold State.imageRead
  repeat' (first | exact .refl s | exact State.markBank_mem _ _ _ | split)

theorem State.dmaCpl_mem (s : State) (k t : Nat) (last : Bool) : Same Frame.mem s (s.dmaCpl k t last) := by
  unfold State.dmaCpl
  split
  · exact .refl s
  · split
    · exact .of_frame (by simp)
    · exact .ite (.trans (.of_frame (by simp)) (State.imageRead_mem _ _)) (.refl s)

theorem State.cutCommand_mem (s : State) : Same Frame.mem s s.cutCommand := by
  unfold State.cutCommand
  split
  · rename_i r _
    have h : Same Frame.mem s { s.setReg .CMP_RESULT_STATE r.host 0 with port := { s.port with running := none } } := rfl
    exact .ite (h.trans (State.markBank_mem _ _ _)) h
  · exact .refl s

theorem State.mgmtLoss_mem (s : State) : Same Frame.mem s s.mgmtLoss := by
  unfold State.mgmtLoss
  split
  · exact .ite (.of_frame (State.cycleMgmt_frame _ _ _)) (.of_frame (State.repairFails_frame _))
  · refine .frame_right (.trans (.of_frame ?_) (State.cutCommand_mem _)) ((State.setRegs_frame _ _).trans (State.cutCommits_frame _))
    rw [State.updIsl_frame, State.cycleMgmt_frame]

theorem State.lose_mem (s : State) (n source : Nat) : Same Frame.mem s (s.lose n source) := by
  unfold State.lose
  split
  · exact .refl s
  · refine .frame_right (.trans ?_ (.ite (State.mgmtLoss_mem _) (.refl _))) (State.replicaCheck_frame _ _)
    refine .of_frame ?_
    repeat' (first | (simp; done) | split)

theorem State.domainLoss_mem (s : State) (d : Nat) : Same Frame.mem s (s.domainLoss d) :=
  .ite (.trans (.of_frame (State.setReg_frame _ _ _ _)) (State.lose_mem _ _ _)) (.refl s)

/-! ### Accesses to registers that issue a command -/

theorem State.command_mem (s : State) (k token op : Nat) (a : List Nat) (body : List Nat → State → State)
    (h : ∀ a s, Same Frame.mem s (body a s)) : Same Frame.mem s (s.command k token op a body) := by
  unfold State.command
  dsimp only
  split
  · exact .refl s
  split
  · exact .of_frame (State.dropBusy_frame _)
  split
  · exact .of_frame (by simp)
  · exact .trans (.of_frame (State.begin__frame _ _ _ _ _)) (h _ _)

theorem State.cmdWrite_mem (s : State) (k token op : Nat) : Same Frame.mem s (s.cmdWrite k token op) := by
  unfold State.cmdWrite
  dsimp only
  split
  case h_8 => exact s.command_mem k token _ _ _ fun a t => t.formeSelect_mem a
  all_goals first
    | exact .of_frame (State.command_frame s k token _ _ _ fun a t => by simp)
    | exact .of_frame (by simp)

theorem State.writeReg_mem (s : State) (k : Nat) (r : RegAt) (i lo n v : Nat) : Same Frame.mem s (s.writeReg k r i lo n v) := by
  unfold State.writeReg
  dsimp only
  split
  case h_1 => exact s.cmdWrite_mem _ _ _
  all_goals
    refine .of_frame ?_
    repeat' (first | (simp; done) | (exact State.shRefused_frame ‹_›) | (refine (foldl_frame (fun s e => ?_) _ _).trans ?_) | split)

theorem State.writeAt_mem (s : State) (k a n v : Nat) : Same Frame.mem s (s.writeAt k a n v) := by
  unfold State.writeAt
  dsimp only
  repeat' split
  · exact .of_frame (State.tenantWrite_frame _ _ _ _)
  · exact .of_frame (State.msixWrite_frame _ _ _ _)
  · exact .refl s
  · exact State.writeReg_mem _ _ _ _ _ _ _
  · exact .of_frame (State.bump_frame _ _ _ _)
  · exact State.writeReg_mem _ _ _ _ _ _ _

theorem State.barWrite_mem (s : State) (k a size v : Nat) : Same Frame.mem s (s.barWrite k a size v) := by
  unfold State.barWrite
  dsimp only
  split
  · exact .refl s
  · refine .ite (.of_frame (by simp)) (.ite (State.writeAt_mem _ _ _ _ _) (.ite (State.writeAt_mem _ _ _ _ _) ?_))
    exact .trans (State.writeAt_mem _ _ _ _ _) (State.writeAt_mem _ _ _ _ _)

theorem State.barAccess_mem (s : State) (k tag a size : Nat) (kind : ReqKind) (v : Nat) :
    Same Frame.mem s (s.barAccess k tag a size kind v) := by
  unfold State.barAccess
  dsimp only
  split
  · exact .of_frame (State.barAnswer_frame _ _ _ _ _)
  · exact .of_frame (by simp)
  · exact State.barWrite_mem _ _ _ _ _
  · exact .ite (.frame_right (State.barWrite_mem _ _ _ _ _) (State.emit_frame _ _)) (.of_frame (State.barAnswer_frame _ _ _ _ _))

theorem State.barMeet_mem (s : State) (k tag a size : Nat) (kind : ReqKind) (v : Nat) :
    Same Frame.mem s (s.barMeet k tag a size kind v) := by
  unfold State.barMeet
  split
  · exact .ite (.of_frame (State.holdReg_frame _ _ _)) (State.barAccess_mem _ _ _ _ _ _ _)
  · exact State.barAccess_mem _ _ _ _ _ _ _

theorem State.serveRegs_mem (s : State) (n : Nat) : Same Frame.mem s (s.serveRegs n) :=
  .ite (.refl s) (.trans (.of_frame (State.updIsl_frame _ _)) (.foldl _ _ fun _ _ _ => State.barAccess_mem _ _ _ _ _ _ _))

/-- What waited for an island is served once it can be, where the island's own step keeps the pool's bytes. -/
theorem State.serveRegs_after_mem {s t : State} (n : Nat) (h : t.frame.still = s.frame.still) : Same Frame.mem s (t.serveRegs n) :=
  .trans (.of_still h Frame.mem_still) (t.serveRegs_mem n)

/-! ### The commands -/

theorem execP4End_mem (s : State) : Ends (Same Frame.mem s) (execP4End s) := by
  refine .run fun u => ?_
  split
  · rename_i im _
    refine .ite ?_ (.refl u)
    have hclock : Same Frame.mem u (if u.allTrained then u else u.atNow (u.boot.phaseAt + 500000000)) := .ite (.refl u) rfl
    dsimp only
    refine (hclock.trans (State.confirmBank_mem _ im)).frame_right ?_
    refine (foldl_frame (fun t e => State.slotEvent_frame _ _ _ _ _ _) _ _).trans ?_
    refine (foldl_frame (fun t e => ?_) _ _).trans ?_
    · rw [ite_frame, State.causeOn_frame, State.report_frame, ite_self]
    refine (foldl_frame (fun t h => State.startSpan_frame _ _ _ _ _ _) _ _).trans ?_
    refine (foldl_frame (fun t p => State.installGate_frame _ _ _) _ _).trans ?_
    simp
  · exact .refl u

theorem execRecoveryLoadDone_mem (s : State) : Ends (Same Frame.mem s) (execRecoveryLoadDone s) := by
  refine .run fun u => ?_
  split
  · rename_i img _
    dsimp only
    have hdma : ∀ (t : State) (c : Prop) [Decidable c] (k : Nat), Same Frame.mem u t → Same Frame.mem u (if c then t.setReg .CMP_DMA_STATUS_STATE k 0 else t) :=
      fun t c _ k h => .ite (h.frame_right (State.setReg_frame _ _ _ _)) h
    have hflash : ∀ (t : State) (f : Flash), Same Frame.mem u t → Same Frame.mem u { t with flash := f } := fun _ _ h => h
    refine .ite (.frame_right ?_ (State.setRegs_frame _ _)) (.frame_right ?_ ((State.updBoot_frame _ _).trans (State.setRegs_frame _ _)))
    · exact hdma _ _ _ rfl
    split
    · refine .trans ?_ (State.setBank_mem _ _ _)
      exact hdma _ _ _ rfl
    · exact hflash _ _ (hdma _ _ _ rfl)
  · exact .refl u

theorem execCommitInstant_mem (s : State) : Ends (Same Frame.mem s) (execCommitInstant s) := by
  refine .run fun u => ?_
  split
  · split
    · exact .trans (.of_still (State.atDev_still _ _) Frame.mem_still) (State.applyCommit_mem _ _)
    · exact .frame_right (.of_still (State.atDev_still _ _) Frame.mem_still) (State.abandonCommit_frame _)
    · exact .refl u
  · exact .refl u

theorem execCommandDone_mem (s : State) : Ends (Same Frame.mem s) (execCommandDone s) := by
  refine .run fun u => ?_
  cases hr : u.port.running with
  | none =>
    simp only [hr]
    exact .refl u
  | some r =>
    have h : Same Frame.mem u (if decide (r.wait = Wait.dma) && r.result.isNone then u.dmaEnd r else u) := .ite (u.dmaEnd_mem r) (.refl u)
    simp only
    generalize (if decide (r.wait = Wait.dma) && r.result.isNone then u.dmaEnd r else u) = t at h
    split
    · split
      · exact h.frame_right (State.done_frame _ _ _ _)
      · exact h
    · exact h

theorem execCompletionReceived_mem (c : Cpl) (s : State) : Ends (Same Frame.mem s) (execCompletionReceived c s) := by
  refine .run fun u => .ite ?_ (.refl u)
  dsimp only
  generalize ht : State.tally _ _ _ _ = t
  have h : Same Frame.mem u t := by
    rw [← ht]
    exact .frame_right (.of_still (State.atDev_still _ _) Frame.mem_still) (State.tally_frame _ _ _ _)
  have hp : Same Frame.mem t (if c.poison then t.report 0x52 0 c.inPort else t) := .ite (.of_frame (by simp)) (.refl t)
  refine (h.trans hp).trans ?_
  generalize (if c.poison then t.report 0x52 0 c.inPort else t) = w
  split
  · exact .trans (.of_frame (State.countCpl_frame _ _ _ _ _ _)) (State.dmaCpl_mem _ _ _ _)
  · exact .of_frame (State.cplIn_frame _ _)

theorem execRequestArrival_mem (r : Req) (s : State) : Ends (Same Frame.mem s) (execRequestArrival r s) := by
  refine .run fun u => .trans (.of_still (u.atDev_still r.ts) Frame.mem_still) ?_
  generalize u.atDev r.ts = t
  dsimp only
  refine .ite (.refl t) (.trans (.of_frame (t.tally_frame (r.inPort / 4) 0x01 none)) ?_)
  generalize t.tally (r.inPort / 4) 0x01 = w
  split
  · split
    · exact .ite (State.barMeet_mem _ _ _ _ _ _ _) (.of_frame (State.arrive_frame _ _))
    · exact .of_frame (State.arrive_frame _ _)
  · exact .of_frame (State.arrive_frame _ _)

/-- A command that changes flash or a fuse, and is not listed as changing pool memory, keeps every byte of it. -/
theorem exec_mem_of_changesFlash {c : Instr} {s : State} (hf : changesFlash c = true) (hp : changesPool c = false) :
    Ends (Same Frame.mem s) (exec c s) := by
  cases c <;> (unfold exec; dsimp only)
  case p4End => exact execP4End_mem s
  case recoveryLoadDone => exact execRecoveryLoadDone_mem s
  case commitInstant => exact execCommitInstant_mem s
  case commandDone => exact execCommandDone_mem s
  case completionReceived c => exact execCompletionReceived_mem c s
  case requestArrival r => exact execRequestArrival_mem r s
  case formeSelect => exact .run fun u => u.command_mem _ _ _ _ _ fun a t => t.formeSelect_mem a
  case pwrLoss d => exact .run fun u => u.domainLoss_mem d
  case supplyExcursion ds => exact .run fun u => .foldl _ _ fun t d _ => t.domainLoss_mem d
  case wakeComplete n => exact .run fun u => State.serveRegs_after_mem n (congrArg _ (u.wakeUp_frame n))
  case fenceComplete n => exact .run fun u => (State.serveRegs_after_mem n (congrArg _ (u.fenceDone_frame n)))
  case fenceForced n => exact .run fun u => (State.serveRegs_after_mem n (u.fenceForce_still n))
  case islandResetRelease n => exact .run fun u => (State.serveRegs_after_mem n (u.leaveReset_still n))
  case islandIsolated n => exact .run fun u => (State.serveRegs_after_mem n (congrArg _ (u.isolate_frame n)))
  case domainSwitchSlot =>
    exact .run fun u => .trans (.of_still u.switchNext_still Frame.mem_still) (.foldl _ _ fun t n _ => t.serveRegs_mem n)
  case registerWrite => exact .run fun u => .ite (State.barMeet_mem _ _ _ _ _ _ _) (.refl u)
  case shFieldWrite => exact .run fun u => .ite (State.barMeet_mem _ _ _ _ _ _ _) (.refl u)
  case bar0Access => exact .run fun u => .ite (State.barMeet_mem _ _ _ _ _ _ _) (.refl u)
  case quarantineLateCompletion =>
    refine .run fun u => ?_
    split
    · exact .ite (State.dmaCpl_mem _ _ _ _) (.refl u)
    · exact .refl u
  all_goals first
    | (cases hf; done)
    | cases hp

end Sys2Proof.Machine
end

section
/-! SUPPORT. The commands that change a byte of the memory pool leave the flash die and the fuses alone, but for those of bring-up. -/

namespace Sys2Proof.Machine

theorem State.wipe_store (s : State) (keep : Fld → Bool) : Same Frame.store s (s.wipe keep) := rfl

theorem State.coldReset_store (s : State) : Same Frame.store s s.coldReset := .trans (s.wipe_store inSlotDie) rfl

theorem State.warmProceed_store (s : State) : Same Frame.store s s.warmProceed := by
  unfold State.warmProceed
  dsimp only
  exact .frame_right (.trans (.of_frame s.deferBatches_frame) (State.wipe_store _ keptWarm)) (by simp)

theorem State.warmReset_store (s : State) (cause : Nat) : Same Frame.store s (s.warmReset cause) := by
  unfold State.warmReset
  dsimp only
  split
  · exact .of_frame (by simp)
  · exact .trans (.of_frame (by simp)) (State.warmProceed_store _)

theorem State.putLine_store (s : State) (l : Lease) (ln : Nat) (d : List Byte) (poison : Bool) :
    Same Frame.store s (s.putLine l ln d poison) := by
  unfold State.putLine
  dsimp only
  generalize ht : (State.armedWrite _ _ _).2 = t
  refine .frame_right (.trans (t := t) (.of_frame ?_) ?_) (State.setTag_frame _ _ _)
  · simp [← ht]
  · rfl

theorem State.beginFill_store (s : State) (l : Lease) (g : Nat) : Same Frame.store s (s.beginFill l g) := by
  unfold State.beginFill
  dsimp only
  refine .frame_right ?_ (foldl_frame (fun t ln => State.setTag_frame _ _ _) _ _)
  exact .trans (.of_frame (State.tally_frame s (42 + g / 2 ^ 24) 0x33 none)) rfl

theorem State.poolWrite_store (s : State) (k : Pkt) (l : Lease) (m pa : Nat) : Same Frame.store s (s.poolWrite k l m pa) := by
  unfold State.poolWrite
  dsimp only
  have hdone : ∀ t : State, ((match k.cls with
      | .nonposted => t.poolReply k m .sc [] false
      | _ => t).served k).frame = t.frame := by
    intro t
    split <;> simp
  have hlines : ∀ (t : State) (ls : List Nat),
      Same Frame.store t (ls.foldl (fun s ln => s.putLine l ln (overlay k pa ln []) k.req.poison) t) :=
    fun t ls => .foldl _ _ fun t ln _ => t.putLine_store _ _ _ _
  split
  · refine .frame_right (.trans (s.beginFill_store l _) (.foldl _ _ fun t ln _ => ?_)) (hdone _)
    exact .ite (t.putLine_store _ _ _ _) (.frame_right (t.putLine_store l ln (overlay k pa ln []) k.req.poison) (by simp))
  · split
    · exact .frame_right (hlines _ _) (hdone _)
    · exact .frame_right (hlines s ((poolLines k pa).filter (covers k pa))) (by simp)

theorem State.rmwLine_store (s : State) (k : Pkt) (l : Lease) (m ln : Nat) (ecc : EccResult) : Same Frame.store s (s.rmwLine k l m ln ecc) := by
  unfold State.rmwLine
  dsimp only
  have h : ∀ (c : Prop) [Decidable c] (row bank : Nat),
      Same Frame.store s (if c then (s.lineReads l m 1).corrected m row bank else s.lineReads l m 1) :=
    fun c _ row bank => .of_frame (by simp)
  split
  · refine .frame_right ?_ ((State.countDrop_frame _ _).trans ((State.remap_frame _ _ _ _).trans ((State.report_frame _ _ _ _ _ _).trans
      ((State.bump_frame _ _ _ _).trans (State.bump_frame _ _ _ _)))))
    split
    · refine .frame_right ?_ (State.setTag_frame _ _ _)
      exact h _ _ _
    · exact h _ _ _
  · refine .frame_right (.trans ?_ (State.putLine_store _ _ _ _ _)) (State.bump_frame _ _ _ _)
    exact h _ _ _

theorem State.poolServe_store (s : State) (k : Pkt) (m : Nat) (ecc : EccResult) : Same Frame.store s (s.poolServe k m ecc) := by
  unfold State.poolServe
  dsimp only
  split
  · exact .of_frame (by simp)
  rename_i l _
  have h0 : Same Frame.store s (s.readKey (46 + m) l.key) := .of_frame (State.readKey_frame _ _ _)
  generalize s.readKey (46 + m) l.key = t at h0
  split
  · exact h0.frame_right (by simp)
  split
  · exact h0
  split
  · exact h0.frame_right (by simp)
  · exact h0.frame_right (by simp)
  split
  · exact h0
  · exact h0.trans (State.poolWrite_store _ _ _ _ _)

theorem State.clkLoss_store (s : State) {n : Nat} (h : n ≠ 52) : Same Frame.store s (s.clkLoss n) :=
  .ite s.coldReset_store (.of_frame (s.unlock_frame h))

theorem execMeteringFlushDone_store (s : State) : Ends (Same Frame.store s) (execMeteringFlushDone s) := by
  refine .run fun u => ?_
  split
  · refine .ite (.trans ?_ (State.warmProceed_store _)) (.refl u)
    exact .trans (.foldl _ _ fun t _ _ => .of_frame t.signBatch_frame) (.foldl _ _ fun t _ _ => .of_frame t.writeBatch_frame)
  · exact .refl u

theorem execPoolRequest_store (i : Nat) (ecc : EccResult) (s : State) : Ends (Same Frame.store s) (execPoolRequest i ecc s) := by
  refine .run fun u => ?_
  split
  · exact .ite (State.poolServe_store _ _ _ _) (.ite (.of_frame (State.refuseNew_frame _ _)) (.refl u))
  · exact .refl u

theorem execPoolRmwReadDone_store (i : Nat) (ecc : EccResult) (s : State) : Ends (Same Frame.store s) (execPoolRmwReadDone i ecc s) := by
  refine .run fun u => ?_
  split
  · rename_i e k _ _
    dsimp only
    split
    · exact .of_frame (by simp)
    · rename_i l _
      refine .ite (.of_frame (by simp)) (.ite ?_ (.refl u))
      have h : Same Frame.store u ((u.updPool (fun p => { p with rmw := p.rmw.filter (fun x => x != e) })).rmwLine k l (k.dest - 128) e.2 ecc) :=
        .trans (.of_frame (by simp)) (State.rmwLine_store _ _ _ _ _ _)
      refine .ite h (h.frame_right ?_)
      rw [State.served_frame]
      split <;> simp
  · exact .refl u

/-- A command that changes a byte of pool memory, and is not listed as changing flash, keeps the flash die and the fuses. -/
theorem exec_store_of_changesPool {c : Instr} {s : State} (hf : changesFlash c = false) (hp : changesPool c = true) :
    Ends (Same Frame.store s) (exec c s) := by
  cases c <;> (unfold exec; dsimp only)
  case coldReset => exact .run fun u => u.coldReset_store
  case clkUnlock n => exact .run fun u => u.clkLoss_store (by simpa [changesFlash] using hf)
  case warmReset =>
    refine .run fun u => .ite ?_ (.refl u)
    exact .ite (.ite (.of_frame (by simp)) (.trans (.of_frame (State.updBoot_frame _ _)) (State.warmReset_store _ _))) (.of_frame (by simp))
  case meteringFlushDone => exact execMeteringFlushDone_store s
  case flushTimeout =>
    refine .run fun u => ?_
    split
    · exact .trans (.of_still (State.atNow_still _ _) Frame.store_still) (State.warmProceed_store _)
    · exact .refl u
  case devResetStart =>
    refine .run fun u => ?_
    split
    · refine .ite (.trans ?_ (State.warmReset_store _ _)) (.refl u)
      exact .frame_right (.of_still (State.atNow_still _ _) Frame.store_still) (State.setReg_frame _ _ _ _)
    · exact .refl u
  case recoveryReboot => exact .run fun u => .ite (.frame_right (u.wipe_store keptAttempt) (by simp)) (.refl u)
  case poolRequest => exact execPoolRequest_store _ _ s
  case poolRmwReadDone => exact execPoolRmwReadDone_store _ _ s
  all_goals first
    | (cases hf; done)
    | cases hp

end Sys2Proof.Machine
end

section
namespace Sys2Proof.Machine

/-- Settles O6: a command of neither list keeps the frame but for its clock (`exec_still`), one of a single list keeps what the other
list names (R15, R84, R153, R161, R164, R527, R560). -/
theorem flashFusesAndPoolBytesChangeByFewCommands : Obligations.FlashFusesAndPoolBytesChangeByFewCommands := by
  unfold Obligations.FlashFusesAndPoolBytesChangeByFewCommands
  constructor
  · intro c s t hf h
    cases hp : changesPool c with
    | false => exact ((exec_still hf hp).of_next h).of_still Frame.store_still |>.store
    | true => exact ((exec_store_of_changesPool hf hp).of_next h).store
  · intro c s t hp h a
    cases hf : changesFlash c with
    | false => rw [((exec_still hf hp).of_next h).of_still Frame.mem_still |>.mem]
    | true => rw [((exec_mem_of_changesFlash hf hp).of_next h).mem]

end Sys2Proof.Machine
end

section
namespace Sys2Proof.Machine

/-- A fence of quad 0 that has not drained: it holds an outstanding read of another switch, whose answer can leave by fabric port 0, which
the quad itself serves. -/
def quadOwesFabric : State :=
  ({ com := { active := [({ typ := 4, index := 1 }, 0), ({ typ := 5, index := 0, part := 0 }, 0), ({ typ := 5, index := 0, part := 1 }, 0),
        ({ typ := 5, index := 0, part := 2 }, 0), ({ typ := 5, index := 0, part := 3 }, 0), ({ typ := 5, index := 0, part := 4 }, 0),
        ({ typ := 7, index := 0 }, 1)] },
     isl := { fences := [{ island := 32, since := 0 }] },
     tr := { outs := [{
      id := 0, src := .fabric 1 0, tag := 0, inPort := 0, port := 16, rid := 0, kind := .read, addr := 0, len := 4, quad := some 0 }] } } : State).setRegs
    [(.SUP_ISL_STATUS_STATE, 0, 2), (.SUP_ISL_STATUS_STATE, 32, 2), (.TILE_DL_STATUS_STATE, 0, 5)]

theorem exec_fenceForced (n : Nat) (s : State) : exec (.fenceForced n) s = .next ((s.started.fenceForce n).serveRegs n) := rfl

/-- The crossings of the quad are flushed first and the requests that it holds are answered then: the answer to a fabric origin is a packet
of its own, which enters an ingress queue of the quad being fenced, and so its crossing. -/
theorem quadOwesFabric_crossing : ((quadOwesFabric.started.fenceForce 32).serveRegs 32).tr.pkts.all (fun k => !inCross 32 k) = false := by
  decide +kernel

/-- Refutes O25: its clause on FENCE_FORCED leaves no packet in the crossings of the island (R57), but the answer to a request of another
switch that a quad held is itself queued in that quad: after FENCE_FORCED of island 32 in `quadOwesFabric` a completion stands there. -/
theorem not_islandsStopWakeAndFence : ¬ Obligations.IslandsStopWakeAndFence := by
  unfold Obligations.IslandsStopWakeAndFence
  rintro ⟨-, -, -, -, -, -, hforced, -⟩
  obtain ⟨t, ht, -, -, -, -, -, -, -, hcross, -⟩ :=
    hforced quadOwesFabric 32 0 (by decide) (by decide) (by decide) (by decide)
  rw [exec_fenceForced] at ht
  have hnext := Host.Outcome.next.inj ht
  have hempty : t.tr.pkts.all (fun k => !inCross 32 k) = true := List.all_eq_true.2 fun k hk => by rw [hcross k hk, Bool.not_false]
  rw [← hnext, quadOwesFabric_crossing] at hempty
  contradiction

end Sys2Proof.Machine
end

section
namespace Sys2Proof.Machine

/-- A request of another switch that has timed out, in a switch that has no route back to it. -/
def fabricReadUnrouted : State :=
  { tr := { outs := [{ id := 0, src := .fabric 1 0, tag := 0, inPort := 0, port := 0, rid := 0, kind := .read, addr := 0, len := 4, due := some 0 }] } }

/-- What its COMPLETION_TIMEOUT leaves waiting to be reported. -/
def timedOutSources : Res → List Nat
  | .next t => t.flt.reportQ.map (·.source)
  | _ => []

/-- The answer to a fabric origin that has no route is reported with source 0x56 (R652), before the timeout itself is. -/
theorem timedOutSources_fabricReadUnrouted : timedOutSources (exec (.completionTimeout 0) fabricReadUnrouted) = [0x56, 0x23] := by
  decide +kernel

/-- Refutes O47: its clause on COMPLETION_TIMEOUT lets the report of source 0x23 be the only one, but a request of another switch is answered
over the fabric, and with no route to that switch the answer is dropped and reported with source 0x56 as well. -/
theorem not_requestsAndCompletionsFindTheirWay : ¬ Obligations.RequestsAndCompletionsFindTheirWay := by
  unfold Obligations.RequestsAndCompletionsFindTheirWay
  rintro ⟨-, -, -, -, htimeout, -⟩
  obtain ⟨t, ht, -, -, -, -, hreports, -⟩ := htimeout fabricReadUnrouted 0 0 _ rfl rfl
  have hsources := timedOutSources_fabricReadUnrouted
  rw [ht] at hsources
  simp only [timedOutSources] at hsources
  rw [hreports] at hsources
  exact absurd hsources (by decide +kernel)

end Sys2Proof.Machine
end

section
/-! SUPPORT. What a port's link shows, and the operations that leave it: the answers that the switch makes to requests, drops of packets,
a host-port reset, and a commit that begins (R275 to R278, R387). -/

namespace Sys2Proof.Machine

theorem foldl_keeps {β α : Type} (v : State → β) {g : State → α → State} (h : ∀ s e, v (g s e) = v s) :
    ∀ (l : List α) (s : State), v (l.foldl g s) = v s
  | [], _ => rfl
  | e :: l, s => (foldl_keeps v h l (g s e)).trans (h s e)

/-- The fields of a port's status that say whether its link is up, and how, and whether a slot's device is present. -/
def isLinkFld (f : Fld) : Bool :=
  [Fld.TILE_PORT_STATUS_LINK_UP, .TILE_PORT_STATUS_RATE, .TILE_PORT_STATUS_WIDTH, .TILE_PORT_STATUS_CXL,
    .SLT_STATUS_PRSNT].contains f

/-- What a port that goes down changes: the running forme, the status fields of links, the reports that wait in tiles, and the requests that are
outstanding. -/
structure LinkView where
  boot : Boot
  status : Fld → Nat → Nat
  reports : List Report
  outs : List OutReq

/-- The reports that wait in tiles. -/
def tileReports (l : List Report) : List Report := l.filter (fun r => decide (r.isl < 32))

/-- The links of a state, and the requests that are outstanding. -/
def State.linkOuts (s : State) : LinkView :=
  ⟨s.boot, fun f i => if isLinkFld f then s.reg f i else 0, tileReports s.flt.reportQ, s.tr.outs⟩

/-- The links of a state. -/
def State.links (s : State) : LinkView := { s.linkOuts with outs := [] }

theorem State.links_of_linkOuts {s t : State} (h : t.linkOuts = s.linkOuts) : t.links = s.links := by rw [State.links, State.links, h]

theorem State.reg_of_links {s t : State} (h : t.links = s.links) {f : Fld} (hf : isLinkFld f = true) (i : Nat) : t.reg f i = s.reg f i := by
  have hs := congrFun (congrFun (congrArg LinkView.status h) f) i
  simpa [State.links, State.linkOuts, hf] using hs

theorem State.boot_of_links {s t : State} (h : t.links = s.links) : t.boot = s.boot := congrArg LinkView.boot h

theorem State.reports_of_links {s t : State} (h : t.links = s.links) : tileReports t.flt.reportQ = tileReports s.flt.reportQ :=
  congrArg LinkView.reports h

@[simp] theorem ite_linkOuts {c : Prop} [Decidable c] (a b : State) : (if c then a else b).linkOuts = if c then a.linkOuts else b.linkOuts :=
  apply_ite _ _ _ _

@[simp] theorem ite_links {c : Prop} [Decidable c] (a b : State) : (if c then a else b).links = if c then a.links else b.links := apply_ite _ _ _ _

/-! ### Registers and reports -/

@[simp] theorem State.setReg_linkOuts (s : State) {f : Fld} (i v : Nat) (hf : isLinkFld f = false) : (s.setReg f i v).linkOuts = s.linkOuts := by
  have hstatus : (fun g j => if isLinkFld g then (s.setReg f i v).reg g j else 0) = fun g j => if isLinkFld g then s.reg g j else 0 := by
    funext g j
    by_cases hg : isLinkFld g = true
    · rw [s.reg_setReg_ne v fun h => by rw [h.1, hf] at hg; contradiction]
    · simp [hg]
  simp only [State.linkOuts, hstatus]
  rfl

@[simp] theorem State.bump_linkOuts (s : State) {f : Fld} (i n : Nat) (hf : isLinkFld f = false) : (s.bump f i n).linkOuts = s.linkOuts :=
  s.setReg_linkOuts i _ hf

@[simp] theorem State.setReg_links (s : State) {f : Fld} (i v : Nat) (hf : isLinkFld f = false) : (s.setReg f i v).links = s.links :=
  links_of_linkOuts (s.setReg_linkOuts i v hf)

@[simp] theorem State.bump_links (s : State) {f : Fld} (i n : Nat) (hf : isLinkFld f = false) : (s.bump f i n).links = s.links :=
  links_of_linkOuts (s.bump_linkOuts i n hf)

theorem State.setRegs_links (l : List (Fld × Nat × Nat)) : ∀ (s : State), (∀ e ∈ l, isLinkFld e.1 = false) → (s.setRegs l).links = s.links := by
  induction l with
  | nil => exact fun _ _ => rfl
  | cons e l ih =>
    intro s h
    rw [State.setRegs_cons, ih _ fun d hd => h d (List.mem_cons_of_mem _ hd), State.setReg_links _ _ _ (h e (by simp))]

section
variable {p : Nat → Bool} {r : Report} (hr : p r.isl = false)
include hr

theorem filter_countOnLast (c : Nat) : ∀ l : List Report, (countOnLast r.isl c l).filter (fun x => p x.isl) = l.filter (fun x => p x.isl)
  | [] => rfl
  | x :: xs => by
    unfold countOnLast
    split
    · rename_i h
      have hx : x.isl = r.isl := by simp_all
      simp [hx, hr]
    · simp [List.filter_cons, filter_countOnLast c xs]

theorem filter_mergeReport (l : List Report) : (mergeReport l r).filter (fun x => p x.isl) = l.filter (fun x => p x.isl) := by
  unfold mergeReport
  split
  · rename_i hany
    clear hany
    induction l with
    | nil => rfl
    | cons x xs ih =>
      by_cases h : sameReport r x = true
      · have hx : x.isl = r.isl := by simp_all [sameReport]
        simp_all
      · simp_all [List.filter_cons]
  · simp [hr]

/-- A report waits in its own island's queue alone (R632). -/
theorem filter_queueReport (v : Nat) (l : List Report) : (queueReport v l r).filter (fun x => p x.isl) = l.filter (fun x => p x.isl) := by
  unfold queueReport
  split
  · exact filter_mergeReport hr l
  · split
    · rfl
    · split
      · simp [hr]
      · exact filter_countOnLast hr _ l

end

theorem State.report_linkOuts (s : State) (source kind scope : Nat) (sev : Option Nat) {n : Nat} (hn : 32 ≤ n) :
    (s.report source kind scope sev (some n)).linkOuts = s.linkOuts := by
  have hq := filter_queueReport (p := fun i => decide (i < 32)) (r := { source, kind, scope, sev, isl := n }) (by simpa using hn)
    (s.effSev source sev) s.flt.reportQ
  simp only [State.linkOuts, tileReports]
  rw [← hq]
  rfl

@[simp] theorem State.report_quad_linkOuts (s : State) (source kind scope : Nat) (sev : Option Nat) (q : Nat) :
    (s.report source kind scope sev (some (32 + q))).linkOuts = s.linkOuts := s.report_linkOuts _ _ _ _ (Nat.le_add_right _ _)

/-! ### What a packet of the switch's own changes -/

@[simp] theorem State.emit_linkOuts (s : State) (o : Output) : (s.emit o).linkOuts = s.linkOuts := rfl
@[simp] theorem State.work_linkOuts (s : State) (n : Nat) : (s.work n).linkOuts = s.linkOuts := rfl
@[simp] theorem State.updMet_linkOuts (s : State) (f : Meter → Meter) : (s.updMet f).linkOuts = s.linkOuts := rfl
@[simp] theorem State.setQueue_linkOuts (s : State) (q : QId) (v : Queue) : (s.setQueue q v).linkOuts = s.linkOuts := rfl
@[simp] theorem State.updPkt_linkOuts (s : State) (i : Nat) (f : Pkt → Pkt) : (s.updPkt i f).linkOuts = s.linkOuts := rfl
@[simp] theorem State.delPkt_linkOuts (s : State) (i : Nat) : (s.delPkt i).linkOuts = s.linkOuts := rfl
@[simp] theorem State.addPkt_linkOuts (s : State) (p : Pkt) : (s.addPkt p).linkOuts = s.linkOuts := rfl

@[simp] theorem State.keepSnap_linkOuts (s : State) (i : Nat) : (s.keepSnap i).linkOuts = s.linkOuts := by
  unfold State.keepSnap
  split
  · rfl
  · simp

@[simp] theorem State.tally_linkOuts (s : State) (n e : Nat) (imprint : Option Nat) : (s.tally n e imprint).linkOuts = s.linkOuts := by
  simp only [State.tally, ite_linkOuts]
  split
  · rfl
  · rw [foldl_keeps State.linkOuts fun s i => by simp]
    simp

@[simp] theorem State.armedWrite_linkOuts (s : State) (sources : List Nat) (target : Nat) : (s.armedWrite sources target).2.linkOuts = s.linkOuts := by
  unfold State.armedWrite
  split
  · split
    · exact s.setReg_linkOuts (f := .FLT_INJECT_DONE) 0 1 rfl
    · rfl
  · rfl

@[simp] theorem State.count_linkOuts (s : State) (c : CountRec) : (s.count c).linkOuts = s.linkOuts := by
  unfold State.count
  split
  · exact s.bump_linkOuts _ _ rfl
  · split <;> rfl

theorem State.toGalley_linkOuts {s t : State} {i : Nat} (h : s.toGalley i = some t) : t.linkOuts = s.linkOuts := by
  unfold State.toGalley at h
  split at h
  · contradiction
  · split at h
    · contradiction
    · dsimp only at h
      generalize hu : State.setQueue _ _ _ = u at h
      obtain rfl := Option.some.inj h
      calc u.linkOuts = _ := congrArg State.linkOuts hu.symm
        _ = s.linkOuts := by simp

@[simp] theorem State.settleQueue_linkOuts (s : State) (q : QId) : (s.settleQueue q).linkOuts = s.linkOuts := by simp [State.settleQueue]

@[simp] theorem State.spillPkt_linkOuts (s : State) (i : Nat) (q : QId) : (s.spillPkt i q).linkOuts = s.linkOuts := by
  unfold State.spillPkt
  dsimp only
  generalize hu : State.setQueue _ q _ = u
  have hkept : u.linkOuts = s.linkOuts := by simp [← hu, isLinkFld]
  split
  · rename_i t ht
    split at ht
    · contradiction
    · rw [State.toGalley_linkOuts ht, hkept]
  · cases q <;> simp [isLinkFld, hkept]

@[simp] theorem State.placePkt_linkOuts (s : State) (i : Nat) : (s.placePkt i).linkOuts = s.linkOuts := by
  unfold State.placePkt
  split
  · rfl
  · simp

@[simp] theorem State.bindFirst_linkOuts (s : State) (q : QId) : (s.bindFirst q).linkOuts = s.linkOuts := by simp [State.bindFirst]
@[simp] theorem State.enqueue_linkOuts (s : State) (p : Pkt) : (s.enqueue p).linkOuts = s.linkOuts := by simp [State.enqueue]

@[simp] theorem State.keepBucket_linkOuts (s : State) (dst c sw port tc : Nat) : (s.keepBucket dst c sw port tc).linkOuts = s.linkOuts := by
  unfold State.keepBucket
  split
  · dsimp only
    split
    · split <;> rfl
    · rfl
  · rfl

@[simp] theorem State.sendFabric_linkOuts (s : State) (p : Nat) (fp : FabPkt) (cls : PClass) (imprint sub quad : Option Nat) :
    (s.sendFabric p fp cls imprint sub quad).linkOuts = s.linkOuts := by
  unfold State.sendFabric
  split <;> simp

@[simp] theorem State.synth_linkOuts (s : State) (a : Asked) (st : CplStatus) : (s.synth a st).linkOuts = s.linkOuts := by
  unfold State.synth State.countSynth State.sayFail
  split <;> simp

@[simp] theorem State.synthLost_linkOuts (s : State) (a : Asked) (len : Nat) (data : Bool) : (s.synthLost a len data).linkOuts = s.linkOuts := by
  unfold State.synthLost
  split <;> simp [State.countSynth]

@[simp] theorem State.sampleEnd_linkOuts (s : State) (p : Pkt) (o egress : Nat) : (s.sampleEnd p o egress).linkOuts = s.linkOuts := by
  unfold State.sampleEnd
  split <;> simp

@[simp] theorem State.workPort_linkOuts (s : State) (p : Nat) : (s.workPort p).linkOuts = s.linkOuts := by simp [State.workPort]

/-! ### Requests that end without their answer -/

/-- An outstanding request is retired, and every other one stays. -/
theorem State.delOut_linkOuts (s : State) (i : Nat) :
    (s.delOut i).linkOuts = { s.linkOuts with outs := s.tr.outs.filter (fun o => o.id != i) } := by
  unfold State.delOut
  dsimp only
  split
  · rw [State.workPort_linkOuts, State.workPort_linkOuts]
    rfl
  · rfl

/-- A request whose destination is lost is retired, and every other one stays (R275, R278, R345). -/
theorem State.outLost_linkOuts (s : State) (o : OutReq) :
    (s.outLost o).linkOuts = { s.linkOuts with outs := s.tr.outs.filter (fun x => x.id != o.id) } := by
  unfold State.outLost
  split
  · exact s.delOut_linkOuts o.id
  · have hkept := s.synthLost_linkOuts o.asked (o.len - gotLen o) (wantsData o.kind)
    rw [State.delOut_linkOuts, hkept, show (s.synthLost o.asked (o.len - gotLen o) (wantsData o.kind)).tr.outs = s.tr.outs from congrArg LinkView.outs hkept]

@[simp] theorem State.delOut_links (s : State) (i : Nat) : (s.delOut i).links = s.links := by rw [State.links, State.delOut_linkOuts, State.links]
@[simp] theorem State.outLost_links (s : State) (o : OutReq) : (s.outLost o).links = s.links := by rw [State.links, State.outLost_linkOuts, State.links]

@[simp] theorem State.pieceFail_links (s : State) (o : OutReq) (st : CplStatus) : (s.pieceFail o st).links = s.links := by
  have hsynth : (s.synth o.asked st).links = s.links := links_of_linkOuts (s.synth_linkOuts _ _)
  unfold State.pieceFail State.outFail
  split
  · simp [hsynth]
  · rfl

@[simp] theorem State.settleAll_links (s : State) (l : List Pkt) : (s.settleAll l).links = s.links :=
  foldl_keeps State.links (fun s q => links_of_linkOuts (s.settleQueue_linkOuts q)) _ s

theorem State.discard_links (s : State) (p : Pkt) {f : State → OutReq → State} (outcome : Nat) (hf : ∀ s o, (f s o).links = s.links) :
    (s.discard p f outcome).links = s.links := by
  have hdrop : ((((s.delPkt p.id).work (32 + p.q.quad)).countDrop p).sampleEnd p outcome 0).links = s.links :=
    links_of_linkOuts (by simp [State.countDrop])
  unfold State.discard
  dsimp only
  split
  · split
    · split
      · rw [hf, hdrop]
      · exact hdrop
    · exact hdrop
  · exact hdrop

theorem State.discardAll_links (s : State) (l : List Pkt) {f : State → OutReq → State} (outcome : Nat) (hf : ∀ s o, (f s o).links = s.links) :
    (s.discardAll l f outcome).links = s.links := foldl_keeps State.links (fun s p => s.discard_links p outcome hf) l s

theorem State.bumpDiscard_links (s : State) (p n : Nat) : (s.bumpDiscard p n).links = s.links := by simp [State.bumpDiscard, isLinkFld]

@[simp] theorem State.loseDest_links (s : State) (p : Nat) (cpls : Bool) : (s.loseDest p cpls).links = s.links := by
  unfold State.loseDest
  dsimp only
  rw [foldl_keeps State.links fun s o => s.outLost_links o, State.bumpDiscard_links, State.settleAll_links, s.discardAll_links _ _ fun s o => s.outLost_links o]

theorem foldl_outLost_outs : ∀ (l : List OutReq) (s : State), ∀ o ∈ (l.foldl (fun s o => s.outLost o) s).tr.outs,
    o ∈ s.tr.outs ∧ ∀ x ∈ l, o.id ≠ x.id
  | [], _, _, ho => ⟨ho, fun _ hx => absurd hx List.not_mem_nil⟩
  | x :: l, s, o, ho => by
    obtain ⟨hmem, hne⟩ := foldl_outLost_outs l (s.outLost x) o ho
    rw [show (s.outLost x).tr.outs = _ from congrArg LinkView.outs (s.outLost_linkOuts x)] at hmem
    obtain ⟨hold, hx⟩ : o ∈ s.tr.outs ∧ o.id ≠ x.id := by simpa using hmem
    exact ⟨hold, by simpa [hx] using hne⟩

/-- No request to a port stays outstanding when it is lost (R276). -/
theorem State.loseDest_outs (s : State) (p : Nat) (cpls : Bool) : ∀ o ∈ (s.loseDest p cpls).tr.outs, o.port ≠ p := by
  intro o ho hp
  obtain ⟨hmem, hne⟩ := foldl_outLost_outs _ _ o ho
  exact hne o (List.mem_filter.2 ⟨hmem, by simp [hp]⟩) rfl

@[simp] theorem State.sealFail_links (s : State) (x : SealRmw) : (s.sealFail x).links = s.links := by
  have hcounted : ((s.delSeal x.pkt x.line).bump .IMP_Q_SEAL_RMW_FAIL x.quad).links = s.links := State.bump_links _ _ _ rfl
  unfold State.sealFail
  dsimp only
  split
  · exact hcounted
  · rw [links_of_linkOuts (State.settleQueue_linkOuts _ _), State.discard_links _ _ _ fun s o => s.pieceFail_links o .ca,
      links_of_linkOuts (State.report_quad_linkOuts _ _ _ _ _ _), hcounted]

@[simp] theorem State.sealFailPort_links (s : State) (p : Nat) : (s.sealFailPort p).links = s.links :=
  foldl_keeps State.links (fun s x => s.sealFail_links x) _ s

end Sys2Proof.Machine
end

section
/-! SUPPORT. Hot-plug events, a link that goes down, a host-port reset, and a commit that begins: what they leave of the ports' links. -/

namespace Sys2Proof.Machine

/-! ### Hot-plug events (R269, R272, R783) -/

/-- `t` is `s` but for its virtual registers and its outputs. -/
def SignalsOnly (s t : State) : Prop := ∃ vr o, t = { s with link := { s.link with vregs := vr }, out := o }

theorem SignalsOnly.refl (s : State) : SignalsOnly s s := ⟨_, _, rfl⟩

theorem SignalsOnly.trans {s t u : State} : SignalsOnly s t → SignalsOnly t u → SignalsOnly s u := by
  rintro ⟨_, _, rfl⟩ ⟨vr, o, rfl⟩
  exact ⟨vr, o, rfl⟩

theorem SignalsOnly.emit (s : State) (o : Output) : SignalsOnly s (s.emit o) := ⟨_, _, rfl⟩
theorem SignalsOnly.setVreg (s : State) (k : Nat) (t : CfgTarget) (r : CfgReg) (v : Nat) : SignalsOnly s (s.setVreg k t r v) := ⟨_, _, rfl⟩

theorem SignalsOnly.ite {s : State} {c : Prop} [Decidable c] {a b : State} (ha : SignalsOnly s a) (hb : SignalsOnly s b) :
    SignalsOnly s (if c then a else b) := by
  split
  · exact ha
  · exact hb

theorem SignalsOnly.foldl {α : Type} {g : State → α → State} (h : ∀ s e, SignalsOnly s (g s e)) : ∀ (l : List α) (s : State), SignalsOnly s (l.foldl g s)
  | [], s => .refl s
  | e :: l, s => (h s e).trans (SignalsOnly.foldl h l (g s e))

theorem SignalsOnly.slotEvent (s : State) (k v : Nat) (pdc dlc up : Bool) : SignalsOnly s (s.slotEvent k v pdc dlc up) := by
  unfold State.slotEvent
  dsimp only
  have hemit : ∀ (c : Prop) [Decidable c] (t : State) (o : Output), SignalsOnly t (if c then t.emit o else t) := fun _ _ t o => .ite (.emit t o) (.refl t)
  exact .ite (.refl s) (((SignalsOnly.setVreg s k _ _ _).trans (hemit _ _ _)).trans (hemit _ _ _))

theorem SignalsOnly.hotplug (f : State → State) (s : State) : SignalsOnly (f s) (State.hotplug f s) :=
  .foldl (fun t _ => .ite (.refl t) (.slotEvent t _ _ _ _ _)) _ _

theorem SignalsOnly.links {s t : State} : SignalsOnly s t → t.links = s.links := by
  rintro ⟨_, _, rfl⟩
  rfl

theorem SignalsOnly.reg {s t : State} (h : SignalsOnly s t) (f : Fld) (i : Nat) : t.reg f i = s.reg f i := by
  obtain ⟨_, _, rfl⟩ := h
  rfl

theorem SignalsOnly.tr {s t : State} : SignalsOnly s t → t.tr = s.tr := by
  rintro ⟨_, _, rfl⟩
  rfl

/-! ### Lanes (R188, R197) -/

@[simp] theorem State.work_links (s : State) (n : Nat) : (s.work n).links = s.links := rfl

theorem State.sleepDir_links (s : State) (l : Nat) (d : Dir) : (s.sleepDir l d).links = s.links := by
  have hstate : isLinkFld (laneField d) = false := by cases d <;> rfl
  have hslept : ((s.setReg (laneField d) l 2).updLink fun k => { k with asleep := Sparse.set id k.asleep (dirKey l d) s.now }).links = s.links :=
    s.setReg_links l 2 hstate
  unfold State.sleepDir
  dsimp only
  split
  · cases d
    · exact hslept
    · exact (State.setReg_links (f := .TILE_LANE_STATUS_CDR_LOCK) _ _ _ rfl).trans hslept
  · rfl

theorem State.laneOff_links (s : State) (l : Nat) : (s.laneOff l).links = s.links := by
  have hoff : ((s.laneTo l 0).updLink fun k => { k with asleep := Sparse.erase (Sparse.erase k.asleep (2 * l)) (2 * l + 1) }).links = s.links :=
    s.setRegs_links _ (by simp [isLinkFld])
  rw [State.laneOff, State.setRegs_links _ _ (by simp [isLinkFld]), hoff]

@[simp] theorem State.lanesSleep_links (s : State) (p : Nat) : (s.lanesSleep p).links = s.links :=
  foldl_keeps State.links (fun s l => by rw [State.sleepDir_links, State.sleepDir_links]) _ s

@[simp] theorem State.lanesOff_links (s : State) (p : Nat) : (s.lanesOff p).links = s.links :=
  foldl_keeps State.links (fun s l => by simp [State.laneOff_links]) _ s

/-! ### A link that is gone (R276, R278) -/

/-- The status of a port's link reads as down. -/
def State.isDown (s : State) (p : Nat) : Prop :=
  s.reg .TILE_PORT_STATUS_LINK_UP p = 0 ∧ s.reg .TILE_PORT_STATUS_RATE p = 0 ∧ s.reg .TILE_PORT_STATUS_WIDTH p = 0

theorem State.isDown_of_links {s t : State} {p : Nat} (h : t.links = s.links) (hs : s.isDown p) : t.isDown p := by
  obtain ⟨hup, hrate, hwidth⟩ := hs
  exact ⟨(State.reg_of_links h rfl p).trans hup, (State.reg_of_links h rfl p).trans hrate, (State.reg_of_links h rfl p).trans hwidth⟩

/-- What a link that goes away writes before its lanes stop. -/
def State.linkCleared (s : State) (p : Nat) : State :=
  ((s.setRegs [(.TILE_PORT_STATUS_LINK_UP, p, 0), (.TILE_PORT_STATUS_RATE, p, 0), (.TILE_PORT_STATUS_WIDTH, p, 0),
    (.TILE_PORT_STATUS_FLIT, p, 0), (.TILE_PORT_STATUS_CXL, p, 0), (.TILE_PORT_STATUS_IDE, p, 0), (.GATE_GUARD_GUARD, p, 0)]).bump
    .TILE_PORT_STATUS_LINK_DOWN_COUNT p).updLink (fun l =>
    { l with
      quiet := dropFrom p l.quiet, training := dropFrom p l.training, follow := dropFrom p l.follow, flits := l.flits.filter (fun f => f.port != p),
      ideKeys := l.ideKeys.filter (fun e => e.1 != p), ideMem := Sparse.erase l.ideMem p })

theorem State.linkGone_links (s : State) (p : Nat) (disabled : Bool) : (s.linkGone p disabled).links = (s.linkCleared p).links := by
  have hwork : ∀ (l : List Nat) (u : State), (l.foldl (fun s t => s.work t) u).links = u.links := foldl_keeps State.links fun _ _ => rfl
  unfold State.linkGone
  dsimp only
  rw [ite_links, State.lanesSleep_links, State.lanesOff_links, ite_self, hwork]
  rfl

theorem State.linkCleared_isDown (s : State) (p : Nat) : (s.linkCleared p).isDown p := by
  simp [State.isDown, State.linkCleared, State.setRegs_cons, State.bump, State.reg_setReg]

theorem State.linkCleared_present (s : State) (p k : Nat) : (s.linkCleared p).reg .SLT_STATUS_PRSNT k = s.reg .SLT_STATUS_PRSNT k := by
  simp [State.linkCleared, State.setRegs_cons, State.bump, State.reg_setReg]

theorem State.stillPresent_of {s t : State} (hb : t.boot = s.boot) (hr : ∀ k, t.reg .SLT_STATUS_PRSNT k = s.reg .SLT_STATUS_PRSNT k) (p : Nat) :
    t.stillPresent p = s.stillPresent p := by
  simp only [State.stillPresent, State.portChan, State.portRec, State.portRecs, State.on, hb, hr]

/-- A link that is gone is down; the running forme and the reports that wait in tiles stay. -/
theorem State.linkGone_spec (s : State) (p : Nat) (disabled : Bool) :
    (s.linkGone p disabled).isDown p ∧ (s.linkGone p disabled).boot = s.boot ∧
      tileReports (s.linkGone p disabled).flt.reportQ = tileReports s.flt.reportQ := by
  have hl := s.linkGone_links p disabled
  have hboot : (s.linkCleared p).boot = s.boot := by simp [State.linkCleared, State.setRegs_cons, State.bump]
  have hflt : (s.linkCleared p).flt = s.flt := by simp [State.linkCleared, State.setRegs_cons, State.bump]
  exact ⟨State.isDown_of_links hl (s.linkCleared_isDown p), (State.boot_of_links hl).trans hboot, (State.reports_of_links hl).trans (by rw [hflt])⟩

/-- A device port that goes down (R276): its link is down, no request to it stays outstanding, and its device is as present as it was. -/
theorem State.deviceDown_spec {s : State} {p : Nat} (hup : s.on .TILE_PORT_STATUS_LINK_UP p = true) :
    (s.deviceDown p).isDown p ∧ (s.deviceDown p).boot = s.boot ∧
      tileReports (s.deviceDown p).flt.reportQ = tileReports s.flt.reportQ ∧ (∀ o ∈ (s.deviceDown p).tr.outs, o.port ≠ p) ∧
      (s.deviceDown p).stillPresent p = s.stillPresent p := by
  obtain ⟨hdown, hboot, hreports⟩ := s.linkGone_spec p (s.reg .FLT_PORT_STATE p == 1)
  have hsignals := SignalsOnly.hotplug (fun s => ((s.linkGone p (s.reg .FLT_PORT_STATE p == 1)).sealFailPort p).loseDest p) s
  have hl := hsignals.links.trans ((State.loseDest_links _ p _).trans (State.sealFailPort_links _ p))
  rw [State.deviceDown, if_pos hup]
  generalize State.hotplug _ s = t at hsignals hl ⊢
  refine ⟨State.isDown_of_links hl hdown, (State.boot_of_links hl).trans hboot, (State.reports_of_links hl).trans hreports, ?_, ?_⟩
  · rw [hsignals.tr]
    exact State.loseDest_outs _ p _
  · refine State.stillPresent_of ((State.boot_of_links hl).trans hboot) (fun k => ?_) p
    rw [State.reg_of_links (hl.trans (s.linkGone_links p _)) rfl, State.linkCleared_present]

theorem State.trainStop_links (s : State) (p : Nat) : (s.trainStop p).links = s.links := by
  calc (s.trainStop p).links = (s.updLink fun l => { l with training := dropFrom p l.training, follow := dropFrom p l.follow }).links := by
        simp [State.trainStop]
    _ = s.links := rfl

/-! ### A host-port reset (R277) -/

theorem sparse_get?_filter {κ α : Type} [DecidableEq κ] (p : κ → Bool) {k : κ} (hk : p k = true) :
    ∀ l : List (κ × α), Sparse.get? (l.filter fun e => p e.1) k = Sparse.get? l k
  | [] => rfl
  | e :: l => by
    by_cases he : p e.1 = true
    · simp [Sparse.get?, he, sparse_get?_filter p hk l]
    · have hne : e.1 ≠ k := fun h => he (h ▸ hk)
      simp [Sparse.get?, he, hne, sparse_get?_filter p hk l]

@[simp] theorem State.vector_links (s : State) (k n : Nat) : (s.vector k n).links = s.links := by
  unfold State.vector
  dsimp only
  split
  · rfl
  · split <;> rfl

theorem State.clearMep_reg (s : State) (k : Nat) {f : Fld} {i : Nat} (h : ofEndpoint ⟨f, i⟩ k = false) : (s.clearMep k).reg f i = s.reg f i := by
  unfold State.reg rget State.clearMep
  rw [sparse_get?_filter (fun r => !ofEndpoint r k) (by simp [h])]

theorem ofEndpoint_of_isLinkFld {f : Fld} (h : isLinkFld f = true) (i k : Nat) : ofEndpoint ⟨f, i⟩ k = false := by
  have hf : f = .TILE_PORT_STATUS_LINK_UP ∨ f = .TILE_PORT_STATUS_RATE ∨ f = .TILE_PORT_STATUS_WIDTH ∨ f = .TILE_PORT_STATUS_CXL ∨
      f = .SLT_STATUS_PRSNT := by
    simpa [isLinkFld] using h
  rcases hf with rfl | rfl | rfl | rfl | rfl <;> rfl

theorem State.clearVregs_links (s : State) (k : Nat) : (s.clearVregs k).links = s.links := by
  have hstatus : (fun f i => if isLinkFld f then (s.clearMep k).reg f i else 0) = fun f i => if isLinkFld f then s.reg f i else 0 := by
    funext f i
    split
    · rename_i hf
      exact s.clearMep_reg k (ofEndpoint_of_isLinkFld hf i k)
    · rfl
  calc (s.clearVregs k).links = (s.clearMep k).links := rfl
    _ = s.links := by
      simp only [State.links, State.linkOuts, hstatus]
      rfl

theorem State.dmaStop_links (s : State) (k : Nat) : (s.dmaStop k false).links = s.links := by
  exact State.setReg_links ((s.quarantineTags k).dmaFail k) (f := .CMP_DMA_STATUS_STATE) k 2 rfl

theorem State.resetAssigned_links (s : State) (k : Nat) : (s.resetAssigned k).links = s.links := by
  refine foldl_keeps State.links (fun s h => ?_) _ s
  split
  · rfl
  · exact foldl_keeps State.links (fun s r => (rfl : (s.sendFlr (hierPort h) r).links = s.links)) _ s
  · rfl

theorem State.releaseLock_links (s : State) (broken : Bool) : (s.releaseLock broken).links = s.links := by
  have hvectors : ∀ u : State, (u.vectorOps 3).links = u.links := fun u => foldl_keeps State.links (fun u k => u.vector_links k 3) _ u
  have hscopes : ∀ u : State, (u.discardScopes 0xFF).links = u.links := fun _ => rfl
  unfold State.releaseLock
  dsimp only
  rw [hvectors, hscopes, State.setRegs_links _ _ (by simp [isLinkFld])]
  simp [isLinkFld]

theorem State.ownerReset_links (s : State) (k : Nat) : (s.ownerReset k).links = s.links := by
  unfold State.ownerReset
  dsimp only
  split
  · split
    · split <;> rfl
    · simp [State.releaseLock_links]
  · simp [State.releaseLock_links]

theorem State.hostReset_links (s : State) (k : Nat) : (s.hostReset k).links = s.links := by
  unfold State.hostReset
  dsimp only
  split
  · rw [State.clearVregs_links, State.dmaStop_links]
  · have hkept : ∀ u : State, ((u.dropWrites k).resetAssigned k).links = u.links := fun u => (u.dropWrites k).resetAssigned_links k
    rw [State.ownerReset_links]
    calc _ = (((((s.dmaStop k false).retireHost k).dropWrites k).resetAssigned k).clearVregs k).links := rfl
      _ = ((s.dmaStop k false).retireHost k).links := by rw [State.clearVregs_links, hkept]
      _ = s.links := s.dmaStop_links k

/-! ### A commit that begins (R387) -/

theorem State.beginCommit_links (s : State) (o : Origin) (mask : Nat) : (s.beginCommit o mask).links = s.links := by
  have hwake : ∀ (l : List Nat) (u : State), (l.foldl (fun s i => s.setReg .SUP_ISL_STATUS_WAKE_PEND i 1) u).links = u.links :=
    foldl_keeps State.links fun s i => s.setReg_links i 1 rfl
  unfold State.beginCommit
  dsimp only
  rw [State.setReg_links _ _ _ rfl, ite_links, State.setReg_links _ _ _ rfl, ite_self, hwake]
  rfl

@[simp] theorem State.nextCommit_links (s : State) : s.nextCommit.links = s.links := by
  unfold State.nextCommit
  split
  · rfl
  · split
    · split
      · exact s.beginCommit_links _ _
      · exact State.beginCommit_links _ _ _
    · simp [State.beginCommit_links]

theorem State.perstRule_links (s : State) (p : Nat) : (s.perstRule p).links = s.links := by
  unfold State.perstRule
  split
  · exact State.setReg_links _ _ _ rfl
  · rfl

end Sys2Proof.Machine
end

section
/-! SUPPORT. Ports that go down by their role, the reports that join a queue, and the lanes of a port that sleep, wake or follow. -/

namespace Sys2Proof.Machine

/-! ### Reports that join a queue (R632) -/

theorem countOnLast_isl (n c : Nat) : ∀ l : List Report, (countOnLast n c l).map (·.isl) = l.map (·.isl)
  | [] => rfl
  | x :: xs => by
    unfold countOnLast
    split
    · rfl
    · rw [List.map_cons, List.map_cons, countOnLast_isl n c xs]

theorem mergeReport_isl (l : List Report) (r : Report) :
    (mergeReport l r).map (·.isl) = l.map (·.isl) ∨ (mergeReport l r).map (·.isl) = l.map (·.isl) ++ [r.isl] := by
  unfold mergeReport
  split
  · refine .inl ?_
    rw [List.map_map]
    refine List.map_congr_left fun x _ => ?_
    simp only [Function.comp_apply]
    split <;> rfl
  · exact .inr List.map_append

/-- A report adds at most one to those that wait. -/
theorem queueReport_isl (v : Nat) (l : List Report) (r : Report) :
    (queueReport v l r).map (·.isl) = l.map (·.isl) ∨ (queueReport v l r).map (·.isl) = l.map (·.isl) ++ [r.isl] := by
  unfold queueReport
  split
  · exact mergeReport_isl l r
  · split
    · exact .inl rfl
    · split
      · exact .inr List.map_append
      · exact .inl (countOnLast_isl _ _ l)

/-- How many reports of island `n` wait. -/
def waitingAt (n : Nat) (l : List Report) : Nat := (l.filter (fun r => r.isl == n)).length

theorem waitingAt_eq_count (n : Nat) (l : List Report) : waitingAt n l = (l.map (·.isl)).count n := by
  rw [waitingAt, List.count_eq_countP, List.countP_map, List.countP_eq_length_filter]
  rfl

theorem waitingAt_queueReport_le (n v : Nat) (l : List Report) (r : Report) : waitingAt n (queueReport v l r) ≤ waitingAt n l + 1 := by
  rw [waitingAt_eq_count, waitingAt_eq_count]
  rcases queueReport_isl v l r with h | h
  · rw [h]
    omega
  · rw [h, List.count_append]
    exact Nat.add_le_add_left List.count_le_length _

theorem waitingAt_tileReports {n : Nat} (hn : n < 32) (l : List Report) : waitingAt n (tileReports l) = waitingAt n l := by
  unfold waitingAt tileReports
  rw [List.filter_filter]
  refine congrArg List.length (List.filter_congr fun r _ => ?_)
  by_cases h : r.isl = n <;> simp [h, hn]

/-- A report that finds a place waits, alone or counted with an equal one. -/
theorem queueReport_waits (v : Nat) {l : List Report} {r : Report} (h : waitingAt r.isl l < 64) :
    ∃ x ∈ queueReport v l r, x.source = r.source ∧ x.kind = r.kind ∧ x.scope = r.scope := by
  have hfull : reportsFull l r = false := by
    simp only [reportsFull]
    rw [waitingAt] at h
    simp [h]
  simp only [queueReport, hfull, Bool.not_false, if_true]
  unfold mergeReport
  split
  · rename_i hany
    obtain ⟨x, hx, hsame⟩ := List.any_eq_true.1 hany
    refine ⟨_, List.mem_map_of_mem hx, ?_⟩
    rw [if_pos hsame]
    simp only [sameReport, Bool.and_eq_true, beq_iff_eq, decide_eq_true_eq] at hsame
    obtain ⟨⟨⟨⟨hsource, hkind⟩, hscope⟩, -⟩, -⟩ := hsame
    exact ⟨hsource.symm, hkind.symm, hscope.symm⟩
  · exact ⟨r, by simp, rfl, rfl, rfl⟩

/-! ### Host and device ports that go down (R276, R277) -/

/-- A port's link reads as down, on the running forme as it was, with at most one more report in its tile. -/
structure WentDown (p : Nat) (s t : State) : Prop where
  boot : t.boot = s.boot
  down : t.on .TILE_PORT_STATUS_LINK_UP p = false
  reports : p < 128 → waitingAt (p / 4) t.flt.reportQ ≤ waitingAt (p / 4) s.flt.reportQ + 1

theorem State.on_of_isDown {s : State} {p : Nat} (h : s.isDown p) : s.on .TILE_PORT_STATUS_LINK_UP p = false := by
  obtain ⟨hup, -⟩ := h
  simp [State.on, hup]

theorem State.on_of_links {s t : State} (h : t.links = s.links) {f : Fld} (hf : isLinkFld f = true) (i : Nat) : t.on f i = s.on f i := by
  rw [State.on, State.on, State.reg_of_links h hf]

theorem waitingAt_of_tileReports {n : Nat} (hn : n < 32) {l m : List Report} (h : tileReports l = tileReports m) : waitingAt n l = waitingAt n m := by
  rw [← waitingAt_tileReports hn l, h, waitingAt_tileReports hn m]

theorem WentDown.of_links {p : Nat} {s t u : State} (h : WentDown p s t) (hl : u.links = t.links) : WentDown p s u where
  boot := (State.boot_of_links hl).trans h.boot
  down := (State.on_of_links hl rfl p).trans h.down
  reports hp := by
    rw [waitingAt_of_tileReports (by omega) (State.reports_of_links hl)]
    exact h.reports hp

theorem WentDown.of_isDown {p : Nat} {s t : State} (hb : t.boot = s.boot) (hd : t.isDown p)
    (hr : tileReports t.flt.reportQ = tileReports s.flt.reportQ) : WentDown p s t where
  boot := hb
  down := State.on_of_isDown hd
  reports hp := by
    rw [waitingAt_of_tileReports (by omega) hr]
    omega

theorem WentDown.of_trainStop {p : Nat} {s : State} (h : s.on .TILE_PORT_STATUS_LINK_UP p = false) : WentDown p s (s.trainStop p) :=
  WentDown.of_links ⟨rfl, h, fun _ => Nat.le_succ _⟩ (s.trainStop_links p)

theorem State.deviceDown_wentDown (s : State) (p : Nat) : WentDown p s (s.deviceDown p) := by
  cases hup : s.on .TILE_PORT_STATUS_LINK_UP p
  · rw [State.deviceDown, hup]
    exact .of_trainStop hup
  · obtain ⟨hdown, hboot, hreports, -, -⟩ := State.deviceDown_spec hup
    exact .of_isDown hboot hdown hreports

theorem State.endHostSpans_links (s : State) (p : Nat) : (s.endHostSpans p).links = s.links := by
  unfold State.endHostSpans
  split
  · exact foldl_keeps State.links (fun s v => (rfl : (s.endSpan _ _ _).links = s.links)) _ s
  · rfl

theorem State.hostDown_wentDown {s : State} {p : Nat} {r : PortRec} (hr : s.portRec p = some r) : WentDown p s (s.hostDown p) := by
  unfold State.hostDown
  simp only [hr]
  cases hup : s.on .TILE_PORT_STATUS_LINK_UP p
  · simp only [State.hostLinkDown, hup]
    exact .of_trainStop hup
  · obtain ⟨hdown, hboot, hreports⟩ := s.linkGone_spec p false
    have hl : ((s.hostLinkDown p).hostReset r.hostIndex).links = (s.linkGone p).links := by
      rw [State.hostReset_links, State.hostLinkDown, if_pos hup, State.endHostSpans_links, State.loseDest_links]
    have hgone : WentDown p s ((s.hostLinkDown p).hostReset r.hostIndex) := WentDown.of_links (.of_isDown hboot hdown hreports) hl
    have htile := (State.reports_of_links hl).trans hreports
    generalize (s.hostLinkDown p).hostReset r.hostIndex = t at hgone htile ⊢
    simp only [Bool.not_true, Bool.false_eq_true, if_false]
    split
    · exact hgone
    · refine ⟨hgone.boot, hgone.down, fun hp => ?_⟩
      rw [← waitingAt_of_tileReports (by omega) htile]
      exact waitingAt_queueReport_le _ _ _ _

theorem State.portDown_wentDown {s : State} {p : Nat} (hrole : s.role p = 1 ∨ s.role p = 2) (src : Option Nat) : WentDown p s (s.portDown p src) := by
  unfold State.portDown
  rcases hrole with hrole | hrole
  · obtain ⟨r, hr⟩ : ∃ r, s.portRec p = some r := by
      unfold State.role at hrole
      split at hrole
      · exact ⟨_, ‹_›⟩
      · contradiction
    rw [hrole]
    exact State.hostDown_wentDown hr
  · rw [hrole]
    exact s.deviceDown_wentDown p

/-! ### Lanes that sleep, wake and follow (R197 to R200, R207) -/

/-- A change at each lane of a list, where a second one at a lane changes nothing more. -/
theorem foldl_at {β : Type} (val : Nat → State → β) {φ : β → β} {g : State → Nat → State} (hself : ∀ s l, val l (g s l) = φ (val l s))
    (hother : ∀ s l m, l ≠ m → val l (g s m) = val l s) (hidem : ∀ b, φ (φ b) = φ b) :
    ∀ (ls : List Nat) (s : State) (l : Nat), val l (ls.foldl g s) = if l ∈ ls then φ (val l s) else val l s
  | [], s, l => by simp
  | m :: ls, s, l => by
    rw [List.foldl_cons, foldl_at val hself hother hidem ls (g s m) l]
    by_cases hm : l = m
    · subst hm
      rw [hself]
      split <;> simp [hidem]
    · rw [hother s l m hm]
      simp [hm]

/-- The states of a lane's two directions and its clock recovery's lock. -/
def State.lane (l : Nat) (s : State) : Nat × Nat × Nat :=
  (s.reg .TILE_LANE_STATUS_TX_STATE l, s.reg .TILE_LANE_STATUS_RX_STATE l, s.reg .TILE_LANE_STATUS_CDR_LOCK l)

/-- A lane whose ACTIVE directions sleep. -/
def laneAsleep (x : Nat × Nat × Nat) : Nat × Nat × Nat := (if x.1 = 1 then 2 else x.1, if x.2.1 = 1 then 2 else x.2.1, if x.2.1 = 1 then 0 else x.2.2)

/-- A lane whose sleeping directions are ready again. -/
def laneAwake (x : Nat × Nat × Nat) : Nat × Nat × Nat :=
  (if x.1 = 2 ∨ x.1 = 3 then 1 else x.1, if x.2.1 = 2 ∨ x.2.1 = 3 then 1 else x.2.1, if x.2.1 = 2 ∨ x.2.1 = 3 then 1 else x.2.2)

theorem laneAsleep_idem (x : Nat × Nat × Nat) : laneAsleep (laneAsleep x) = laneAsleep x := by
  obtain ⟨a, b, c⟩ := x
  simp only [laneAsleep, Prod.mk.injEq]
  refine ⟨?_, ?_, ?_⟩ <;> split_ifs <;> simp_all

theorem laneAwake_idem (x : Nat × Nat × Nat) : laneAwake (laneAwake x) = laneAwake x := by
  obtain ⟨a, b, c⟩ := x
  simp only [laneAwake, Prod.mk.injEq]
  refine ⟨?_, ?_, ?_⟩ <;> split_ifs <;> simp_all

/-- A direction that is ACTIVE sleeps, a receiver with its clock recovery unlocked; no other state of a lane changes. -/
theorem State.sleepDir_reg (s : State) (m : Nat) (d : Dir) (f : Fld) (i : Nat) :
    (s.sleepDir m d).reg f i = if s.reg (laneField d) m = 1 ∧ i = m then
      if f = laneField d then 2 else if d = .rx ∧ f = .TILE_LANE_STATUS_CDR_LOCK then 0 else s.reg f i
    else s.reg f i := by
  have hwidth : 2 % 2 ^ (laneField d).width = 2 := by cases d <;> rfl
  unfold State.sleepDir
  by_cases h : s.reg (laneField d) m = 1
  · cases d <;> simp only [laneField] at h hwidth <;> simp only [laneField, h, beq_self_eq_true, if_true, true_and, State.reg_setReg, State.updLink_reg, hwidth] <;>
      split_ifs <;> simp_all
  · simp [h]

theorem State.sleepDir_lane (s : State) (l m : Nat) : ((s.sleepDir m .tx).sleepDir m .rx).lane l = if l = m then laneAsleep (s.lane l) else s.lane l := by
  by_cases hm : l = m
  · subst hm
    simp only [State.lane, State.sleepDir_reg, laneAsleep, laneField, and_true, if_true]
    split_ifs <;> simp_all
  · simp [State.lane, State.sleepDir_reg, hm]

/-- The lanes of a port in L1: their running directions sleep, receivers unlocked. -/
theorem State.lanesSleep_lane (s : State) (p l : Nat) (hl : l ∈ s.lanes p) : (s.lanesSleep p).lane l = laneAsleep (s.lane l) := by
  rw [State.lanesSleep, foldl_at (fun l s => State.lane l s) (φ := laneAsleep) (fun s l => by rw [State.sleepDir_lane, if_pos rfl])
    (fun s l m h => by rw [State.sleepDir_lane, if_neg h]) laneAsleep_idem, if_pos hl]

/-! The other registers of a lane that adapts leave its states. -/

theorem State.adaptTo_lane (s : State) (l m h w c : Nat) : (s.adaptTo m h w c).lane l = s.lane l := by
  unfold State.adaptTo
  dsimp only
  split
  · have hreport : ∀ (t : State), (t.report 0x57 0 m).lane l = t.lane l := fun _ => rfl
    rw [hreport]
    simp [State.lane, State.setRegs_cons, State.reg_setReg]
  · simp [State.lane, State.setRegs_cons, State.reg_setReg]

theorem State.wakeDir_tx_lane (s : State) (l m : Nat) :
    (s.wakeDir m .tx).lane l = if l = m then (1, (s.lane l).2) else s.lane l := by
  have hwidth : 1 % 2 ^ Fld.TILE_LANE_STATUS_TX_STATE.width = 1 := rfl
  by_cases h : l = m <;> simp [State.wakeDir, laneField, State.lane, State.reg_setReg, h, hwidth]

theorem State.wakeDir_rx_lane (s : State) (l m : Nat) :
    (s.wakeDir m .rx).lane l = if l = m then ((s.lane l).1, 1, 1) else s.lane l := by
  have hwidth : 1 % 2 ^ Fld.TILE_LANE_STATUS_RX_STATE.width = 1 := rfl
  have hlock : 1 % 2 ^ Fld.TILE_LANE_STATUS_CDR_LOCK.width = 1 := rfl
  have hbump : ∀ (t : State), (t.bump .TILE_LANE_ADAPT_CAL_COUNT m).lane l = t.lane l := fun t => by simp [State.lane, State.bump, State.reg_setReg]
  have hite : ∀ (b : Bool) (t u : State), (if b then t else u).lane l = if b then t.lane l else u.lane l := fun _ _ _ => apply_ite _ _ _ _
  simp only [State.wakeDir, hite, State.adaptTo_lane, hbump, ite_self]
  by_cases h : l = m <;> simp [laneField, State.lane, State.setRegs_cons, State.reg_setReg, h, hwidth, hlock]

/-- Both directions of one lane are ready again where they sleep. -/
def State.wakeLane (s : State) (l : Nat) : State := [Dir.tx, Dir.rx].foldl (fun s d => if s.sleeps l d then s.wakeDir l d else s) s

theorem State.sleeps_tx_iff (s : State) (l : Nat) : s.sleeps l .tx = true ↔ (s.lane l).1 = 2 ∨ (s.lane l).1 = 3 := by
  simp [State.sleeps, State.lane, laneField]

theorem State.sleeps_rx_iff (s : State) (l : Nat) : s.sleeps l .rx = true ↔ (s.lane l).2.1 = 2 ∨ (s.lane l).2.1 = 3 := by
  simp [State.sleeps, State.lane, laneField]

theorem State.wakeLane_self (s : State) (l : Nat) : (s.wakeLane l).lane l = laneAwake (s.lane l) := by
  have htx : (if s.sleeps l .tx then s.wakeDir l .tx else s).lane l = (if (s.lane l).1 = 2 ∨ (s.lane l).1 = 3 then 1 else (s.lane l).1, (s.lane l).2) := by
    simp only [State.sleeps_tx_iff]
    split_ifs
    · rw [State.wakeDir_tx_lane, if_pos rfl]
    · rfl
  have hrx : ∀ t : State, (if t.sleeps l .rx then t.wakeDir l .rx else t).lane l =
      if (t.lane l).2.1 = 2 ∨ (t.lane l).2.1 = 3 then ((t.lane l).1, 1, 1) else t.lane l := by
    intro t
    simp only [State.sleeps_rx_iff]
    split_ifs
    · rw [State.wakeDir_rx_lane, if_pos rfl]
    · rfl
  simp only [State.wakeLane, List.foldl_cons, List.foldl_nil]
  rw [hrx, htx, laneAwake]
  split_ifs <;> rfl

theorem State.wakeLane_ne (s : State) {l m : Nat} (h : l ≠ m) : (s.wakeLane m).lane l = s.lane l := by
  have hstep : ∀ (t : State) (d : Dir), (if t.sleeps m d then t.wakeDir m d else t).lane l = t.lane l := by
    intro t d
    split
    · cases d
      · rw [State.wakeDir_tx_lane, if_neg h]
      · rw [State.wakeDir_rx_lane, if_neg h]
    · rfl
  simp only [State.wakeLane, List.foldl_cons, List.foldl_nil, hstep]

/-- The lanes of a port that leaves L1: their sleeping directions are ready again, receivers locked. -/
theorem State.lanesWake_lane (s : State) (p l : Nat) (hl : l ∈ s.lanes p) : (s.lanesWake p).lane l = laneAwake (s.lane l) := by
  have hfold := foldl_at (fun l s => State.lane l s) (φ := laneAwake) (g := State.wakeLane) State.wakeLane_self
    (fun s _ _ h => s.wakeLane_ne h) laneAwake_idem (s.lanes p) s l
  rw [if_pos hl] at hfold
  exact hfold

/-- The lanes of a follower run. -/
theorem State.followLane_lane (s : State) (rate l m : Nat) :
    ((s.laneTo m 1).setRegs [(.TILE_LANE_STATUS_RATE, m, rate), (.TILE_LANE_STATUS_SIG_DET, m, 1), (.TILE_LANE_STATUS_CDR_LOCK, m, 1)]).lane l =
      if l = m then (1, 1, 1) else s.lane l := by
  have hwidth : 1 % 2 ^ Fld.TILE_LANE_STATUS_TX_STATE.width = 1 ∧ 1 % 2 ^ Fld.TILE_LANE_STATUS_RX_STATE.width = 1 ∧
    1 % 2 ^ Fld.TILE_LANE_STATUS_CDR_LOCK.width = 1 := ⟨rfl, rfl, rfl⟩
  by_cases h : l = m <;> simp [State.laneTo, State.lane, State.setRegs_cons, State.reg_setReg, h, hwidth]

theorem contains_addTo (n : Nat) (l : List Nat) : (addTo n l).contains n = true := by
  unfold addTo
  split
  · assumption
  · simp

theorem contains_dropFrom (n : Nat) (l : List Nat) : (dropFrom n l).contains n = false := by simp [dropFrom]

/-- A follower: its lanes run, it trains no more, and its link stays as it was. -/
theorem State.becomeFollower_spec (s : State) (p rate : Nat) :
    (s.becomeFollower p rate).link.follow.contains p = true ∧ (s.becomeFollower p rate).link.training.contains p = false ∧
      (s.becomeFollower p rate).links = s.links ∧ ∀ l ∈ s.lanes p, (s.becomeFollower p rate).lane l = (1, 1, 1) := by
  unfold State.becomeFollower
  dsimp only
  have hlink := foldl_keeps (fun s => s.link) (g := fun s l => (State.laneTo s l 1).setRegs [(.TILE_LANE_STATUS_RATE, l, rate),
    (.TILE_LANE_STATUS_SIG_DET, l, 1), (.TILE_LANE_STATUS_CDR_LOCK, l, 1)]) (fun s l => by simp [State.laneTo, State.setRegs_cons]) (s.lanes p)
    (s.updLink fun l => { l with follow := addTo p l.follow, training := dropFrom p l.training })
  refine ⟨?_, ?_, ?_, fun l hl => ?_⟩
  · exact (congrArg (fun k => k.follow.contains p) hlink).trans (contains_addTo p _)
  · exact (congrArg (fun k => k.training.contains p) hlink).trans (contains_dropFrom p _)
  · refine (foldl_keeps State.links (fun s l => ?_) _ _).trans rfl
    rw [State.laneTo, State.setRegs_links _ _ (by simp [isLinkFld]), State.setRegs_links _ _ (by simp [isLinkFld])]
  · refine (foldl_at (fun l s => State.lane l s) (φ := fun _ => (1, 1, 1)) (fun s l => ?_) (fun s l m h => ?_) (fun _ => rfl) _ _ l).trans (if_pos hl)
    · rw [State.followLane_lane, if_pos rfl]
    · rw [State.followLane_lane, if_neg h]

end Sys2Proof.Machine
end

section
/-! SUPPORT. A port that has trained (R170, R188), a device that is enumerated (R233, R234), and virtual registers. -/

namespace Sys2Proof.Machine

/-! ### Training -/

@[simp] theorem State.perstRule_link (s : State) (p : Nat) : (s.perstRule p).link = s.link := by
  unfold State.perstRule
  split <;> rfl

/-- A link that comes up shows its rate, its width and whether it is CXL, and trains and follows no more. -/
structure TrainedUp (p rate w : Nat) (cxl : Bool) (t : State) : Prop where
  up : t.reg .TILE_PORT_STATUS_LINK_UP p = 1
  rate : t.reg .TILE_PORT_STATUS_RATE p = rate
  width : t.reg .TILE_PORT_STATUS_WIDTH p = w
  cxl : t.reg .TILE_PORT_STATUS_CXL p = flag cxl
  training : t.link.training.contains p = false
  follow : t.link.follow.contains p = false

theorem TrainedUp.of_links {p rate w : Nat} {cxl : Bool} {t u : State} (h : TrainedUp p rate w cxl t) (hl : u.links = t.links)
    (htraining : u.link.training = t.link.training) (hfollow : u.link.follow = t.link.follow) : TrainedUp p rate w cxl u where
  up := (State.reg_of_links hl rfl p).trans h.up
  rate := (State.reg_of_links hl rfl p).trans h.rate
  width := (State.reg_of_links hl rfl p).trans h.width
  cxl := (State.reg_of_links hl rfl p).trans h.cxl
  training := htraining ▸ h.training
  follow := hfollow ▸ h.follow

@[simp] theorem State.guardChange_reg (s : State) (p rate w : Nat) (f : Fld) (i : Nat) : (s.guardChange p rate w).reg f i = s.reg f i := rfl
@[simp] theorem State.guardChange_link (s : State) (p rate w : Nat) : (s.guardChange p rate w).link = s.link := rfl

theorem State.linkUp_trainedUp (s : State) (p : Nat) {rate w : Nat} (flit cxl : Bool) (hr : rate < 8) (hw : w < 32) :
    TrainedUp p rate w cxl (s.linkUp p rate w flit cxl) := by
  have hwidth : Fld.TILE_PORT_STATUS_LINK_UP.width = 1 ∧ Fld.TILE_PORT_STATUS_RATE.width = 3 ∧ Fld.TILE_PORT_STATUS_WIDTH.width = 5 ∧
    Fld.TILE_PORT_STATUS_CXL.width = 1 := ⟨rfl, rfl, rfl, rfl⟩
  have hregs : ∀ f i, (s.linkUp p rate w flit cxl).reg f i = (s.setRegs [(.TILE_PORT_STATUS_LINK_UP, p, 1), (.TILE_PORT_STATUS_RATE, p, rate),
    (.TILE_PORT_STATUS_WIDTH, p, w), (.TILE_PORT_STATUS_FLIT, p, flag flit), (.TILE_PORT_STATUS_CXL, p, flag cxl)]).reg f i := fun f i => by
    rw [State.linkUp, State.guardChange_reg, State.updLink_reg]
  have htraining : (s.linkUp p rate w flit cxl).link.training = dropFrom p s.link.training := by
    simp [State.linkUp, State.setRegs_cons]
  have hfollow : (s.linkUp p rate w flit cxl).link.follow = dropFrom p s.link.follow := by
    simp [State.linkUp, State.setRegs_cons]
  have hstatus : (s.linkUp p rate w flit cxl).reg .TILE_PORT_STATUS_LINK_UP p = 1 ∧ (s.linkUp p rate w flit cxl).reg .TILE_PORT_STATUS_RATE p = rate ∧
      (s.linkUp p rate w flit cxl).reg .TILE_PORT_STATUS_WIDTH p = w ∧ (s.linkUp p rate w flit cxl).reg .TILE_PORT_STATUS_CXL p = flag cxl := by
    simp only [hregs, State.setRegs_cons, State.setRegs_nil, State.reg_setReg, hwidth, reduceCtorEq, and_true, if_true, if_false, Nat.reducePow,
      Nat.mod_eq_of_lt hr, Nat.mod_eq_of_lt hw, true_and, Nat.reduceMod]
    cases cxl <;> rfl
  obtain ⟨hup, hrate, hwide, hcxl⟩ := hstatus
  exact ⟨hup, hrate, hwide, hcxl, by rw [htraining, contains_dropFrom], by rw [hfollow, contains_dropFrom]⟩

theorem TrainedUp.perstRule {p rate w : Nat} {cxl : Bool} {t : State} (h : TrainedUp p rate w cxl t) : TrainedUp p rate w cxl (t.perstRule p) :=
  h.of_links (t.perstRule_links p) (by simp) (by simp)

theorem TrainedUp.updLink {p rate w : Nat} {cxl : Bool} {t : State} (h : TrainedUp p rate w cxl t) {f : Links → Links}
    (htraining : ∀ k, (f k).training = k.training) (hfollow : ∀ k, (f k).follow = k.follow) : TrainedUp p rate w cxl (t.updLink f) :=
  h.of_links rfl (htraining _) (hfollow _)

theorem State.trained_trainedUp {s : State} {p : Nat} {x : Training} {sl : LanePort} {r : PortRec} (hsl : s.slotRec p = some sl)
    (hr : s.portRec p = some r) (hw : s.trainWidth p (s.lanes p).length x.width = true) (hrate : 1 ≤ trainRate sl.maxRate x.partnerRate (r.cxl && x.cxl)) :
    TrainedUp p (trainRate sl.maxRate x.partnerRate (r.cxl && x.cxl)) x.width (r.cxl && x.cxl) (s.trained p x) := by
  have hlow : trainRate sl.maxRate x.partnerRate (r.cxl && x.cxl) < 8 := by
    unfold trainRate
    split <;> omega
  have hwide : x.width < 32 := by
    have hmem : x.width ∈ [1, 2, 4, 8, 16] := by
      simp only [State.trainWidth, Bool.and_eq_true, List.contains_iff_mem] at hw
      exact hw.1.1
    simp only [List.mem_cons, List.not_mem_nil, or_false] at hmem
    omega
  unfold State.trained
  simp only [hsl, hr, hw, decide_eq_true hrate, Bool.and_true, if_true]
  have hup := fun u : State => u.linkUp_trainedUp p (x.flit || decide (6 ≤ trainRate sl.maxRate x.partnerRate (r.cxl && x.cxl))) (r.cxl && x.cxl) hlow hwide
  split
  · refine TrainedUp.perstRule (TrainedUp.updLink (hup _) ?_ ?_) <;> exact fun _ => rfl
  · exact hup _

theorem SignalsOnly.training {s t : State} : SignalsOnly s t → t.link.training = s.link.training ∧ t.link.follow = s.link.follow := by
  rintro ⟨_, _, rfl⟩
  exact ⟨rfl, rfl⟩

theorem SignalsOnly.keeps {s t : State} : SignalsOnly s t → t.regs = s.regs ∧ t.com = s.com ∧ t.link.devices = s.link.devices := by
  rintro ⟨_, _, rfl⟩
  exact ⟨rfl, rfl, rfl⟩

/-- A port that trains, with the hot-plug events of its device. -/
theorem State.hotplug_trainedUp {s : State} {f : State → State} {p rate w : Nat} {cxl : Bool} (h : TrainedUp p rate w cxl (f s)) :
    TrainedUp p rate w cxl (State.hotplug f s) := by
  have hsignals := SignalsOnly.hotplug f s
  obtain ⟨htraining, hfollow⟩ := hsignals.training
  exact h.of_links hsignals.links htraining hfollow

/-! ### Enumeration -/

/-- `t` is `s` but for what is metered. -/
def MetersOnly (s t : State) : Prop := ∃ m, t = { s with met := m }

theorem MetersOnly.refl (s : State) : MetersOnly s s := ⟨_, rfl⟩

theorem MetersOnly.trans {s t u : State} : MetersOnly s t → MetersOnly t u → MetersOnly s u := by
  rintro ⟨_, rfl⟩ ⟨m, rfl⟩
  exact ⟨m, rfl⟩

theorem MetersOnly.reweigh (s : State) (h : HierRec) : MetersOnly s (s.reweigh h) := by
  unfold State.reweigh
  dsimp only
  split
  · exact ⟨_, rfl⟩
  · exact .refl s

theorem MetersOnly.foldl {α : Type} {g : State → α → State} (h : ∀ s e, MetersOnly s (g s e)) : ∀ (l : List α) (s : State), MetersOnly s (l.foldl g s)
  | [], s => .refl s
  | e :: l, s => (h s e).trans (MetersOnly.foldl h l (g s e))

/-- A hierarchy that does not match is brought up to date later where none can be now: before P5, and during a commit. -/
theorem State.syncHier_of_waits {s : State} (k : Nat) (h : s.phase < 5 ∨ s.com.cur ≠ none) :
    (s.syncHier k).link = s.link ∧ (s.syncHier k).regs = s.regs := by
  unfold State.syncHier
  split
  · rename_i hsync
    have hp : s.phase = 5 := by simp_all
    have hcur : (s.askHier k).com.cur.isSome = true := by
      rcases h with h | h
      · omega
      · exact Option.isSome_iff_ne_none.2 h
    rw [State.nextCommit, hcur]
    exact ⟨rfl, rfl⟩
  · exact ⟨rfl, rfl⟩

theorem SignalsOnly.setupVfs (s : State) (p : Nat) : SignalsOnly s (s.setupVfs p) := .foldl (fun s _ => .emit s _) _ s

/-! ### Virtual registers -/

theorem State.vreg_setVreg_self (s : State) (k : Nat) (t : CfgTarget) (r : CfgReg) (v : Nat) : (s.setVreg k t r v).vreg k t r = v := by
  have hrest : (s.link.vregs.filter (fun e => !decide (e.1 = ⟨k, t, r⟩))).find? (fun e => decide (e.1 = ⟨k, t, r⟩)) = none := by
    simp [List.find?_filter]
  unfold State.setVreg State.vreg
  by_cases hv : v = cfgReset r
  · simp [hv, hrest]
  · simp [hv, hrest, List.find?_append]

theorem State.vreg_setVreg_ne (s : State) {k j : Nat} {t g : CfgTarget} {r q : CfgReg} (v : Nat) (h : ¬(j = k ∧ g = t ∧ q = r)) :
    (s.setVreg k t r v).vreg j g q = s.vreg j g q := by
  have hkey : ¬(⟨k, t, r⟩ : VKey) = ⟨j, g, q⟩ := fun he => h (by simp_all)
  have hrest : (s.link.vregs.filter (fun e => !decide (e.1 = ⟨k, t, r⟩))).find? (fun e => decide (e.1 = ⟨j, g, q⟩)) =
      s.link.vregs.find? (fun e => decide (e.1 = ⟨j, g, q⟩)) := by
    rw [List.find?_filter]
    refine congrArg (List.find? · _) (funext fun e => ?_)
    by_cases he : e.1 = ⟨j, g, q⟩ <;> simp [he, Ne.symm hkey]
  unfold State.setVreg State.vreg
  by_cases hv : v = cfgReset r
  · simp [hv, hrest]
  · simp [hv, hrest, List.find?_append, hkey]

theorem bit_putBit_false (v n : Nat) : bit (putBit v n false) n = false := by
  unfold putBit
  by_cases h : bit v n = true
  · have hpos : 0 < 2 ^ n := Nat.two_pow_pos n
    have hodd : v / 2 ^ n % 2 = 1 := by simpa [bit] using h
    have hdiv : (v - 2 ^ n) / 2 ^ n = v / 2 ^ n - 1 := by simpa using Nat.sub_mul_div v (2 ^ n) 1
    simp only [h, if_true, Bool.false_eq_true, if_false]
    simp only [bit, hdiv, beq_eq_false_iff_ne]
    omega
  · simp [h]

end Sys2Proof.Machine
end

section
/-! The statement on links that come and go (02_lanes.md, 03_ports.md), clause by clause. -/

namespace Sys2Proof.Machine

theorem State.started_role (s : State) (p : Nat) : s.started.role p = s.role p := rfl

/-- PORT_TRAINED of a port that may train. -/
theorem exec_portTrained {s : State} {p : Nat} (x : Training) (hs : s.stalled = false) (hrole : s.role p = 1 ∨ s.role p = 2)
    (ht : s.link.training.contains p = true ∨ s.link.follow.contains p = true) (hm : s.mayTrain p = true) :
    exec (.portTrained p x) s = .next (State.hotplug (fun s => s.trained p x) s.started) := by
  have hcond : ((s.started.role p == 1 || s.started.role p == 2) && (s.started.link.training.contains p || s.started.link.follow.contains p) &&
      s.started.mayTrain p) = true := by
    have hm' : s.started.mayTrain p = true := hm
    have ht' : (s.link.training.contains p || s.link.follow.contains p) = true := by simpa using ht
    have hr' : (s.role p == 1 || s.role p == 2) = true := by simpa using hrole
    exact Bool.and_eq_true_iff.2 ⟨Bool.and_eq_true_iff.2 ⟨hr', ht'⟩, hm'⟩
  have hs' : ¬ s.started.stalled = true := by
    rw [show s.started.stalled = s.stalled from rfl, hs]
    exact Bool.false_ne_true
  exact congrArg Host.Outcome.next ((if_neg hs').trans (if_pos hcond))

/-- A device is known at a port, with its VFs set up (R234, R244). -/
def State.placeDevice (s : State) (p : Nat) (d : Device) : State :=
  (s.setupVfs p).updLink (fun l => { l with devices := l.devices.filter (fun x => x.port != p) ++ [d] })

theorem State.placeDevice_keeps (s : State) (p : Nat) (d : Device) : (s.placeDevice p d).regs = s.regs ∧ (s.placeDevice p d).com = s.com ∧
    (s.placeDevice p d).link.devices = s.link.devices.filter (fun x => x.port != p) ++ [d] := by
  obtain ⟨hregs, hcom, hdevices⟩ := (SignalsOnly.setupVfs s p).keeps
  exact ⟨hregs, hcom, congrArg (fun l : List Device => l.filter (fun x => x.port != p) ++ [d]) hdevices⟩

/-- The device that an enumeration finds at a port of `s`. -/
def State.found (s : State) (p : Nat) (fns : List DevFn) : Device := { port := p, fns, bars := placeBars (numVfs s.com.hier p) fns }

/-- The steps of DEVICE_ENUMERATED: the device is placed, its assignments' spans follow it, and the hierarchy is brought up to date. -/
def State.enumerate (s : State) (p : Nat) (fns : List DevFn) (hs : List HierRec) (k : Nat) : State :=
  (hs.foldl (fun s h => s.reweigh h) (State.hotplug (fun u => u.placeDevice p (s.found p fns)) s)).syncHier k

theorem exec_deviceEnumerated {s : State} {p : Nat} {fns : List DevFn} (hrole : s.role p = 2) (hup : s.on .TILE_PORT_STATUS_LINK_UP p = true)
    (hflt : s.reg .FLT_PORT_STATE p = 0) (hbuses : fns.all busesOk = true) : ∃ hs k, exec (.deviceEnumerated p fns) s =
      .next (s.started.enumerate p fns hs k) := by
  have hcond : (s.started.role p == 2 && s.started.on .TILE_PORT_STATUS_LINK_UP p && s.started.reg .FLT_PORT_STATE p == 0 && fns.all busesOk) = true := by
    have hup' : s.started.on .TILE_PORT_STATUS_LINK_UP p = true := hup
    rw [State.started_role, hrole, hup', State.started_reg, hflt, hbuses]
    rfl
  exact ⟨_, _, congrArg Host.Outcome.next (if_pos hcond)⟩

theorem MetersOnly.keeps {s t : State} : MetersOnly s t → t.regs = s.regs ∧ t.com = s.com ∧ t.link = s.link := by
  rintro ⟨_, rfl⟩
  exact ⟨rfl, rfl, rfl⟩

/-- Where no hierarchy change can begin, an enumeration leaves the registers, and the devices of the other ports. -/
theorem State.enumerate_keeps {s : State} (p : Nat) (fns : List DevFn) (hs : List HierRec) (k : Nat) (hwait : s.phase < 5 ∨ s.com.cur ≠ none) :
    (s.enumerate p fns hs k).regs = s.regs ∧
      (s.enumerate p fns hs k).link.devices = s.link.devices.filter (fun x => x.port != p) ++ [s.found p fns] := by
  obtain ⟨hregs, hcom, hdevices⟩ := s.placeDevice_keeps p (s.found p fns)
  obtain ⟨hregs', hcom', hdevices'⟩ := (SignalsOnly.hotplug (fun u => u.placeDevice p (s.found p fns)) s).keeps
  obtain ⟨hregs'', hcom'', hlink⟩ := (MetersOnly.foldl MetersOnly.reweigh hs (State.hotplug (fun u => u.placeDevice p (s.found p fns)) s)).keeps
  have hr := hregs''.trans (hregs'.trans hregs)
  have hc := hcom''.trans (hcom'.trans hcom)
  obtain ⟨hsyncLink, hsyncRegs⟩ := State.syncHier_of_waits (s := hs.foldl (fun s h => s.reweigh h) _) k
    (by rw [hc, State.phase, State.reg, hr]; exact hwait)
  exact ⟨hsyncRegs.trans hr, by rw [State.enumerate, hsyncLink, hlink, hdevices', hdevices]⟩

theorem State.placeDevice_frame (s : State) (p : Nat) (d : Device) : (s.placeDevice p d).frame = s.frame := by simp [State.placeDevice]

theorem State.enumerate_frame (s : State) (p : Nat) (fns : List DevFn) (hs : List HierRec) (k : Nat) : (s.enumerate p fns hs k).frame = s.frame := by
  simp [State.enumerate, State.placeDevice_frame]

/-- DEVICE_PORT_LINK_DOWN of a device port whose link is up. -/
theorem exec_devicePortLinkDown {s : State} {p : Nat} (hrole : s.role p = 2) (hup : s.on .TILE_PORT_STATUS_LINK_UP p = true) :
    exec (.devicePortLinkDown p) s =
      .next (if (s.started.deviceDown p).stillPresent p then (s.started.deviceDown p).report 0x22 1 p else s.started.deviceDown p) := by
  have hcond : (s.started.role p == 2 && s.started.on .TILE_PORT_STATUS_LINK_UP p) = true := by
    have hup' : s.started.on .TILE_PORT_STATUS_LINK_UP p = true := hup
    rw [State.started_role, hrole, hup']
    rfl
  exact congrArg Host.Outcome.next (if_pos hcond)

/-- LOOPBACK_REQUEST of a host or device port with a link, or in training. -/
theorem exec_loopbackRequest {s : State} {p : Nat} {sl : LanePort} (hsl : s.slotRec p = some sl) (hrole : s.role p = 1 ∨ s.role p = 2)
    (hlink : s.on .TILE_PORT_STATUS_LINK_UP p = true ∨ s.link.training.contains p = true) : exec (.loopbackRequest p) s =
      .next (if sl.feAllow then (s.started.portDown p none).nextCommit.becomeFollower p (max 1 (s.reg .TILE_PORT_STATUS_RATE p))
        else ((s.started.portDown p none).nextCommit.startTrain p).report 0x58 0 p) := by
  have hcond : ((s.started.role p == 1 || s.started.role p == 2) &&
      (s.started.on .TILE_PORT_STATUS_LINK_UP p || s.started.link.training.contains p)) = true := by
    have hr' : (s.role p == 1 || s.role p == 2) = true := by simpa using hrole
    have hl' : (s.on .TILE_PORT_STATUS_LINK_UP p || s.link.training.contains p) = true := by simpa using hlink
    exact Bool.and_eq_true_iff.2 ⟨hr', hl'⟩
  have hsl' : s.started.slotRec p = some sl := hsl
  have hexec : exec (.loopbackRequest p) s = execLoopbackRequest p s := rfl
  rw [hexec, execLoopbackRequest, run, show ({ s with out := [] } : State) = s.started from rfl]
  simp only [hsl']
  exact congrArg Host.Outcome.next (if_pos hcond)

theorem State.startTrain_links (s : State) (p : Nat) : (s.startTrain p).links = s.links := by
  unfold State.startTrain
  split
  · exact State.perstRule_links _ p
  · rfl

theorem State.lanes_of_boot {s t : State} (h : t.boot = s.boot) (p : Nat) : t.lanes p = s.lanes p := by
  simp only [State.lanes, State.tileRec, h]

end Sys2Proof.Machine
end

section
/-! The statement on links that come and go, clause by clause (R25, R170, R197 to R211, R226 to R228, R273, R276, R744). -/

namespace Sys2Proof.Machine

/-- PORT_TRAINED. -/
theorem portTrained_answers (s : State) (p : Nat) (x : Training) (sl : LanePort) (r : PortRec) (hs : s.stalled = false)
    (hrole : s.role p = 1 ∨ s.role p = 2) (ht : s.link.training.contains p = true ∨ s.link.follow.contains p = true) (hm : s.mayTrain p = true)
    (hsl : s.slotRec p = some sl) (hr : s.portRec p = some r) (hw : s.trainWidth p (s.lanes p).length x.width = true)
    (hrate : 1 ≤ trainRate sl.maxRate x.partnerRate (r.cxl && x.cxl)) :
    ∃ t, exec (.portTrained p x) s = .next t ∧ TrainedUp p (trainRate sl.maxRate x.partnerRate (r.cxl && x.cxl)) x.width (r.cxl && x.cxl) t ∧
      t.frame = s.frame := by
  refine ⟨_, exec_portTrained x hs hrole ht hm, State.hotplug_trainedUp ?_, ?_⟩
  · exact State.trained_trainedUp (s := s.started) hsl hr hw hrate
  · rw [State.hotplug_frame _ _ fun s => s.trained_frame p x]
    rfl

/-- DEVICE_ENUMERATED. -/
theorem deviceEnumerated_answers (s : State) (p : Nat) (fns : List DevFn) (hrole : s.role p = 2) (hup : s.on .TILE_PORT_STATUS_LINK_UP p = true)
    (hflt : s.reg .FLT_PORT_STATE p = 0) (hbuses : fns.all busesOk = true) (hwait : s.phase < 5 ∨ s.com.cur ≠ none) :
    ∃ t, exec (.deviceEnumerated p fns) s = .next t ∧
      t.link.devices.find? (fun d => d.port == p) = some { port := p, fns, bars := placeBars (numVfs s.com.hier p) fns } ∧ t.regs = s.regs ∧
      t.frame = s.frame := by
  obtain ⟨hs, k, hexec⟩ := exec_deviceEnumerated hrole hup hflt hbuses
  obtain ⟨hregs, hdevices⟩ := s.started.enumerate_keeps p fns hs k hwait
  refine ⟨_, hexec, ?_, hregs, s.started.enumerate_frame p fns hs k⟩
  rw [hdevices, List.find?_append, List.find?_filter]
  have hnone : (s.started.link.devices.find? fun d => decide ((d.port != p) = true ∧ (d.port == p) = true)) = none := by simp
  rw [hnone]
  simp [State.found]
  rfl

/-- DEVICE_PORT_LINK_DOWN. -/
theorem devicePortLinkDown_answers (s : State) (p : Nat) (hrole : s.role p = 2) (hp : p < 128) (hup : s.on .TILE_PORT_STATUS_LINK_UP p = true) :
    ∃ t, exec (.devicePortLinkDown p) s = .next t ∧ t.isDown p ∧ (∀ o ∈ t.tr.outs, o.port ≠ p) ∧
      (s.stillPresent p = true → waitingAt (p / 4) s.flt.reportQ < 64 →
        t.flt.reportQ.any (fun r => r.source == 0x22 && r.kind == 1 && r.scope == p) = true) ∧ t.frame = s.frame := by
  obtain ⟨hdown, -, hreports, houts, hpresent⟩ := State.deviceDown_spec (s := s.started) hup
  have hframe : (s.started.deviceDown p).frame = s.frame := s.started.deviceDown_frame p
  refine ⟨_, exec_devicePortLinkDown hrole hup, ?_⟩
  rw [hpresent]
  generalize s.started.deviceDown p = t at hdown hreports houts hframe ⊢
  split
  · refine ⟨hdown, houts, fun _ hroom => ?_, (t.report_frame 0x22 1 p none none).trans hframe⟩
    have hisl : reportIsland 0x22 1 p = p / 4 := by simp [reportIsland]
    rw [show s.flt = s.started.flt from rfl, ← waitingAt_of_tileReports (n := p / 4) (by omega) hreports] at hroom
    obtain ⟨x, hx, hsource, hkind, hscope⟩ := queueReport_waits (t.effSev 0x22 none) (l := t.flt.reportQ)
      (r := { source := 0x22, kind := 1, scope := p, sev := none, isl := reportIsland 0x22 1 p }) (by rw [hisl]; exact hroom)
    exact List.any_eq_true.2 ⟨x, hx, by simp [hsource, hkind, hscope]⟩
  · rename_i hgone
    exact ⟨hdown, houts, fun h => absurd h hgone, hframe⟩

/-- DEVICE_PORT_LINK_DOWN of another port, or of one whose link is down. -/
theorem devicePortLinkDown_of_not {s : State} {p : Nat} (h : s.role p ≠ 2 ∨ s.on .TILE_PORT_STATUS_LINK_UP p = false) :
    exec (.devicePortLinkDown p) s = .next { s with out := [] } := by
  have hcond : ¬ (s.started.role p == 2 && s.started.on .TILE_PORT_STATUS_LINK_UP p) = true := by
    intro hc
    obtain ⟨hr, hup⟩ := Bool.and_eq_true_iff.1 hc
    rcases h with h | h
    · exact h (by simpa [State.started_role] using hr)
    · exact Bool.false_ne_true (h.symm.trans hup)
  exact congrArg Host.Outcome.next (if_neg hcond)

/-- What L1 leaves: the traffic, and which ports are quiet. -/
def State.quietTraffic (s : State) : Traffic × List Nat := (s.tr, s.link.quiet)

theorem State.lanesSleep_quietTraffic (s : State) (p : Nat) : (s.lanesSleep p).quietTraffic = s.quietTraffic := by
  have hdir : ∀ (s : State) (l : Nat) (d : Dir), (s.sleepDir l d).quietTraffic = s.quietTraffic := by
    intro s l d
    unfold State.sleepDir
    split
    · cases d <;> rfl
    · rfl
  exact foldl_keeps State.quietTraffic (fun s l => by rw [hdir, hdir]) _ s

theorem State.adaptTo_quietTraffic (s : State) (l h w c : Nat) : (s.adaptTo l h w c).quietTraffic = s.quietTraffic := by
  unfold State.adaptTo
  dsimp only
  split
  · have hreport : ∀ t : State, (t.report 0x57 0 l).quietTraffic = t.quietTraffic := fun _ => rfl
    rw [hreport]
    simp [State.quietTraffic, State.setRegs_cons]
  · simp [State.quietTraffic, State.setRegs_cons]

theorem State.lanesWake_quietTraffic (s : State) (p : Nat) : (s.lanesWake p).quietTraffic = s.quietTraffic := by
  have hdir : ∀ (s : State) (l : Nat) (d : Dir), (s.wakeDir l d).quietTraffic = s.quietTraffic := by
    intro s l d
    cases d
    · rfl
    · unfold State.wakeDir
      dsimp only
      split
      · rw [State.adaptTo_quietTraffic]
        simp [State.quietTraffic, State.bump, State.setRegs_cons]
      · simp [State.quietTraffic, State.setRegs_cons]
  refine foldl_keeps State.quietTraffic (fun s l => foldl_keeps State.quietTraffic (fun s d => ?_) _ s) _ s
  split
  · exact hdir s l d
  · rfl

theorem exec_l1Entry {s : State} {p : Nat} (hup : s.pcieUp p = true) (hq : s.link.quiet.contains p = false) :
    exec (.l1Entry p) s = .next ((s.started.updLink fun l => { l with quiet := addTo p l.quiet }).lanesSleep p) := by
  have hcond : (s.started.pcieUp p && !s.started.link.quiet.contains p) = true := by
    have hup' : s.started.pcieUp p = true := hup
    have hq' : s.started.link.quiet.contains p = false := hq
    rw [hup', hq']
    rfl
  exact congrArg Host.Outcome.next (if_pos hcond)

theorem exec_l1Exit {s : State} {p : Nat} (hq : s.link.quiet.contains p = true) :
    exec (.l1Exit p) s = .next ((s.started.updLink fun l => { l with quiet := dropFrom p l.quiet }).lanesWake p) := by
  have hcond : s.started.link.quiet.contains p = true := hq
  exact congrArg Host.Outcome.next (if_pos hcond)

/-- L1_ENTRY. -/
theorem l1Entry_answers (s : State) (p : Nat) (hup : s.pcieUp p = true) (hq : s.link.quiet.contains p = false) :
    ∃ t, exec (.l1Entry p) s = .next t ∧ t.link.quiet.contains p = true ∧ (∀ l ∈ s.lanes p, t.lane l = laneAsleep (s.lane l)) ∧ t.tr = s.tr ∧
      t.frame = s.frame := by
  have hkept := (s.started.updLink fun l => { l with quiet := addTo p l.quiet }).lanesSleep_quietTraffic p
  have hquiet : _ = addTo p s.link.quiet := congrArg Prod.snd hkept
  refine ⟨_, exec_l1Entry hup hq, ?_, fun l hl => State.lanesSleep_lane _ p l hl, congrArg Prod.fst hkept, by simp⟩
  exact (congrArg (List.contains · p) hquiet).trans (contains_addTo p _)

/-- L1_EXIT. -/
theorem l1Exit_answers (s : State) (p : Nat) (hq : s.link.quiet.contains p = true) :
    ∃ t, exec (.l1Exit p) s = .next t ∧ t.link.quiet.contains p = false ∧ (∀ l ∈ s.lanes p, t.lane l = laneAwake (s.lane l)) ∧ t.tr = s.tr ∧
      t.frame = s.frame := by
  have hkept := (s.started.updLink fun l => { l with quiet := dropFrom p l.quiet }).lanesWake_quietTraffic p
  have hquiet : _ = dropFrom p s.link.quiet := congrArg Prod.snd hkept
  refine ⟨_, exec_l1Exit hq, ?_, fun l hl => State.lanesWake_lane _ p l hl, congrArg Prod.fst hkept, by simp⟩
  exact (congrArg (List.contains · p) hquiet).trans (contains_dropFrom p _)

/-- LOOPBACK_REQUEST at a port whose forme allows it. -/
theorem loopbackRequest_follows (s : State) (p : Nat) (sl : LanePort) (hsl : s.slotRec p = some sl) (ha : sl.feAllow = true)
    (hrole : s.role p = 1 ∨ s.role p = 2) (hlink : s.on .TILE_PORT_STATUS_LINK_UP p = true ∨ s.link.training.contains p = true) :
    ∃ t, exec (.loopbackRequest p) s = .next t ∧ t.frame = s.frame ∧ t.link.follow.contains p = true ∧ t.link.training.contains p = false ∧
      t.on .TILE_PORT_STATUS_LINK_UP p = false ∧ ∀ l ∈ s.lanes p, t.lane l = (1, 1, 1) := by
  have hexec := exec_loopbackRequest hsl hrole hlink
  rw [if_pos ha] at hexec
  have hdown := (State.portDown_wentDown (s := s.started) hrole none).of_links (State.nextCommit_links _)
  obtain ⟨hfollow, htraining, hlinks, hlanes⟩ :=
    (s.started.portDown p none).nextCommit.becomeFollower_spec p (max 1 (s.reg .TILE_PORT_STATUS_RATE p))
  refine ⟨_, hexec, ?_, hfollow, htraining, ?_, fun l hl => hlanes l ?_⟩
  · simp
  · exact (State.on_of_links hlinks rfl p).trans hdown.down
  · rw [State.lanes_of_boot hdown.boot]
    exact hl

/-- LOOPBACK_REQUEST at another port. -/
theorem loopbackRequest_goesDown (s : State) (p : Nat) (sl : LanePort) (hsl : s.slotRec p = some sl) (ha : sl.feAllow = false)
    (hrole : s.role p = 1 ∨ s.role p = 2) (hp : p < 128) (hlink : s.on .TILE_PORT_STATUS_LINK_UP p = true ∨ s.link.training.contains p = true)
    (hroom : waitingAt (p / 4) s.flt.reportQ < 63) : ∃ t, exec (.loopbackRequest p) s = .next t ∧ t.frame = s.frame ∧
      t.on .TILE_PORT_STATUS_LINK_UP p = false ∧ t.flt.reportQ.any (fun r => r.source == 0x58 && r.scope == p) = true := by
  have hexec := exec_loopbackRequest hsl hrole hlink
  rw [if_neg (by simp [ha])] at hexec
  have hdown := ((State.portDown_wentDown (s := s.started) hrole none).of_links (State.nextCommit_links _)).of_links (State.startTrain_links _ p)
  have hframe : (((s.started.portDown p none).nextCommit).startTrain p).frame = s.frame := by simp
  refine ⟨_, hexec, ?_⟩
  generalize ((s.started.portDown p none).nextCommit).startTrain p = t at hdown hframe ⊢
  refine ⟨(t.report_frame 0x58 0 p none none).trans hframe, hdown.down, ?_⟩
  have hisl : reportIsland 0x58 0 p = p / 4 := by simp [reportIsland]
  have hwaits : waitingAt (p / 4) t.flt.reportQ < 64 := Nat.lt_of_le_of_lt (hdown.reports hp) (Nat.add_lt_add_right hroom 1)
  obtain ⟨x, hx, hsource, -, hscope⟩ := queueReport_waits (t.effSev 0x58 none) (l := t.flt.reportQ)
    (r := { source := 0x58, kind := 0, scope := p, sev := none, isl := reportIsland 0x58 0 p }) (by rw [hisl]; exact hwaits)
  exact List.any_eq_true.2 ⟨x, hx, by simp [hsource, hscope]⟩

/-- DPC_TRIGGER_STATUS_CLEAR. -/
theorem dpcTriggerStatusClear_answers (s : State) (k v : Nat) (hp : s.phase = 5) (hk : s.hostPort k ≠ none) :
    ∃ t, exec (.dpcTriggerStatusClear k v) s = .next t ∧ bit (t.vreg k (.vdsp v) .dpcStatus) 0 = false ∧
      (∀ (j : Nat) (g : CfgTarget) (r : CfgReg), ¬(j = k ∧ g = .vdsp v ∧ r = .dpcStatus) → t.vreg j g r = s.vreg j g r) ∧ t.regs = s.regs ∧
      t.frame = s.frame := by
  have hcond : (s.started.phase == 5 && (s.started.hostPort k).isSome) = true := by
    have hp' : s.started.phase = 5 := hp
    have hk' : (s.started.hostPort k).isSome = true := Option.isSome_iff_ne_none.2 hk
    rw [hp', hk']
    rfl
  refine ⟨_, congrArg Host.Outcome.next (if_pos hcond), ?_, fun j g r h => ?_, rfl, ?_⟩
  · rw [State.dpcClear, State.vreg_setVreg_self, bit_putBit_false]
  · rw [State.dpcClear, State.vreg_setVreg_ne _ _ h]
    rfl
  · simp

theorem MetersOnly.keepSnap (s : State) (i : Nat) : MetersOnly s (s.keepSnap i) := by
  unfold State.keepSnap
  split
  · exact .refl s
  · dsimp only
    split
    · exact ⟨_, rfl⟩
    · exact .refl s

/-- An event that is counted changes when its island had work, and what is metered (R621, R622). -/
theorem State.tally_eq (s : State) (n e : Nat) (imprint : Option Nat) : ∃ i m, s.tally n e imprint = { s with isl := i, met := m } := by
  unfold State.tally
  dsimp only
  split
  · exact ⟨_, _, rfl⟩
  · refine Exists.imp' (fun _ => _) (fun m hm => ⟨m, hm⟩) (MetersOnly.foldl (fun s i => ?_) _ (s.work n))
    split
    · exact (MetersOnly.keepSnap s i).trans ⟨_, rfl⟩
    · exact .refl s

/-- PCIE_REPLAY_TIMER. -/
theorem pcieReplayTimer_answers (s : State) (p n : Nat) (l : List Nat) (f : FlitTx) (hf : s.link.flits.find? (fun f => f.port == p) = some f)
    (hu : f.unacked = n :: l) (hflit : s.on .TILE_PORT_STATUS_FLIT p = true) :
    ∃ t, exec (.pcieReplayTimer p) s = .next t ∧ t.out = [.ctl p "replay" n 0] ∧ t.now = max s.now (f.lastAdv + 600) ∧ t.regs = s.regs ∧
      t.pool = s.pool := by
  have hexec : exec (.pcieReplayTimer p) s = .next ((s.started.atNow (f.lastAdv + 600)).flitReplay p) := by
    have heq : exec (.pcieReplayTimer p) s = execPcieReplayTimer p s := rfl
    have hf' : s.started.link.flits.find? (fun f => f.port == p) = some f := hf
    have hflit' : s.started.on .TILE_PORT_STATUS_FLIT p = true := hflit
    rw [heq, execPcieReplayTimer, run, show ({ s with out := [] } : State) = s.started from rfl]
    simp only [hf', hflit', hu]
    rfl
  refine ⟨_, hexec, ?_⟩
  have hf' : (s.started.atNow (f.lastAdv + 600)).link.flits.find? (fun f => f.port == p) = some f := hf
  obtain ⟨i, m, htally⟩ := (s.started.atNow (f.lastAdv + 600)).tally_eq (p / 4) 0x04 none
  unfold State.flitReplay
  simp only [hf', hu, htally]
  exact ⟨rfl, rfl, rfl, rfl⟩

/-- FLIT_RECEIVED. -/
theorem flitReceived_answers (s : State) (p : Nat) (a n : Option Nat) (hflit : s.on .TILE_PORT_STATUS_FLIT p = true)
    (hrole : s.role p = 1 ∨ s.role p = 2) :
    (∃ t, exec (.flitReceived p a n true) s = .next t ∧ t.out = [.ctl p "nak" 0 0] ∧ t.link = s.link ∧ t.regs = s.regs ∧ t.frame = s.frame) ∧
      ∀ m, exec (.flitReceived p (some m) none false) s = .next ({ s with out := [] }.flitAck p m) := by
  have hcond : (s.started.on .TILE_PORT_STATUS_FLIT p && (s.started.role p == 1 || s.started.role p == 2)) = true := by
    have hr' : (s.role p == 1 || s.role p == 2) = true := by simpa using hrole
    exact Bool.and_eq_true_iff.2 ⟨hflit, hr'⟩
  constructor
  · obtain ⟨i, m, htally⟩ := s.started.tally_eq (p / 4) 0x03 none
    refine ⟨_, congrArg Host.Outcome.next (if_pos hcond), ?_⟩
    change ((s.started.tally (p / 4) 0x03).emit (.ctl p "nak" 0 0)).out = _ ∧ ((s.started.tally (p / 4) 0x03).emit (.ctl p "nak" 0 0)).link = _ ∧
      ((s.started.tally (p / 4) 0x03).emit (.ctl p "nak" 0 0)).regs = _ ∧ ((s.started.tally (p / 4) 0x03).emit (.ctl p "nak" 0 0)).frame = _
    rw [htally]
    exact ⟨rfl, rfl, rfl, rfl⟩
  · exact fun m => congrArg Host.Outcome.next (if_pos hcond)

/-! What the states of a lane say of its registers. -/

theorem State.regs_of_laneAsleep {s t : State} {l : Nat} (h : t.lane l = laneAsleep (s.lane l)) :
    (s.reg .TILE_LANE_STATUS_TX_STATE l = 1 → t.reg .TILE_LANE_STATUS_TX_STATE l = 2) ∧
      (s.reg .TILE_LANE_STATUS_RX_STATE l = 1 → t.reg .TILE_LANE_STATUS_RX_STATE l = 2 ∧ t.reg .TILE_LANE_STATUS_CDR_LOCK l = 0) := by
  simp only [State.lane, laneAsleep, Prod.mk.injEq] at h
  obtain ⟨htx, hrx, hlock⟩ := h
  exact ⟨fun h1 => htx.trans (if_pos h1), fun h1 => ⟨hrx.trans (if_pos h1), hlock.trans (if_pos h1)⟩⟩

theorem State.regs_of_laneAwake {s t : State} {l : Nat} (h : t.lane l = laneAwake (s.lane l)) :
    ((s.reg .TILE_LANE_STATUS_TX_STATE l = 2 ∨ s.reg .TILE_LANE_STATUS_TX_STATE l = 3) → t.reg .TILE_LANE_STATUS_TX_STATE l = 1) ∧
      ((s.reg .TILE_LANE_STATUS_RX_STATE l = 2 ∨ s.reg .TILE_LANE_STATUS_RX_STATE l = 3) →
        t.reg .TILE_LANE_STATUS_RX_STATE l = 1 ∧ t.reg .TILE_LANE_STATUS_CDR_LOCK l = 1) := by
  simp only [State.lane, laneAwake, Prod.mk.injEq] at h
  obtain ⟨htx, hrx, hlock⟩ := h
  exact ⟨fun h1 => htx.trans (if_pos h1), fun h1 => ⟨hrx.trans (if_pos h1), hlock.trans (if_pos h1)⟩⟩

theorem State.regs_of_laneActive {t : State} {l : Nat} (h : t.lane l = (1, 1, 1)) :
    t.reg .TILE_LANE_STATUS_TX_STATE l = 1 ∧ t.reg .TILE_LANE_STATUS_RX_STATE l = 1 := by
  simp only [State.lane, Prod.mk.injEq] at h
  exact ⟨h.1, h.2.1⟩

/-- Settles O45: one lemma per command above, from the view `links` of what a link that goes down leaves, the steps of one lane
(`foldl_at`), and the reports that join a queue (`queueReport_waits`). -/
theorem portLinksComeAndGo : Obligations.PortLinksComeAndGo := by
  unfold Obligations.PortLinksComeAndGo
  refine ⟨?trained, deviceEnumerated_answers, ?down, ?l1Entry, ?l1Exit, ?follows, ?goesDown, dpcTriggerStatusClear_answers,
    pcieReplayTimer_answers, flitReceived_answers, fun s p => devicePortLinkDown_of_not⟩
  case trained =>
    intro s p x sl tile r hs hrole ht hm hsl _ hr hw hrate
    obtain ⟨t, hexec, ⟨hup, hrt, hwidth, hcxl, htraining, hfollow⟩, hframe⟩ := portTrained_answers s p x sl r hs hrole ht hm hsl hr hw hrate
    exact ⟨t, hexec, hup, hrt, hwidth, hcxl, htraining, hfollow, hframe⟩
  case down =>
    intro s p hrole hp hup
    obtain ⟨t, hexec, ⟨hdown, hrate, hwidth⟩, houts, hreport, hframe⟩ := devicePortLinkDown_answers s p hrole hp hup
    exact ⟨t, hexec, hdown, hrate, hwidth, houts, hreport, hframe⟩
  case l1Entry =>
    intro s p hup hq
    obtain ⟨t, hexec, hquiet, hlanes, htr, hframe⟩ := l1Entry_answers s p hup hq
    exact ⟨t, hexec, hquiet, fun l hl => State.regs_of_laneAsleep (hlanes l hl), htr, hframe⟩
  case l1Exit =>
    intro s p hq
    obtain ⟨t, hexec, hquiet, hlanes, htr, hframe⟩ := l1Exit_answers s p hq
    exact ⟨t, hexec, hquiet, fun l hl => State.regs_of_laneAwake (hlanes l hl), htr, hframe⟩
  case follows =>
    intro s p sl hsl ha hrole hlink
    obtain ⟨t, hexec, hframe, hfollow, htraining, hdown, hlanes⟩ := loopbackRequest_follows s p sl hsl ha hrole hlink
    exact ⟨t, hexec, hframe, hfollow, htraining, hdown, fun l hl => State.regs_of_laneActive (hlanes l hl)⟩
  case goesDown =>
    intro s p sl hsl ha hrole hp hlink hroom
    exact loopbackRequest_goesDown s p sl hsl ha hrole hp hlink hroom

end Sys2Proof.Machine
end

section
/-! SUPPORT. A command that the composing port takes, and the reads through a DMA engine that it waits for (R281, R704 to R711). -/

namespace Sys2Proof.Machine

/-- The registers that the acceptance of a command writes, and those of a management island that wakes for it. -/
def isAcceptanceFld (f : Fld) : Bool :=
  [Fld.CMP_STATUS_BUSY, .CMP_STATUS_OPCODE, .CMP_STATUS_HOST_INDEX, .CMP_RESULT_STATE, .CMP_RESULT_RESULT, .CMP_RESULT_OPCODE, .CMP_RESULT_TOKEN,
    .CMP_RET_VALUE, .SUP_ISL_STATUS_STATE, .SUP_ISL_STATUS_WAKE_PEND, .SUP_ISL_STATUS_WAKE_COUNT].contains f

/-- `t` is `s` but for registers of acceptance, the islands and what is metered. -/
def AcceptsOnly (s t : State) : Prop :=
  ∃ rg i m, t = { s with regs := rg, isl := i, met := m } ∧ ∀ f j, isAcceptanceFld f = false → t.reg f j = s.reg f j

theorem AcceptsOnly.trans {s t u : State} : AcceptsOnly s t → AcceptsOnly t u → AcceptsOnly s u := by
  rintro ⟨_, _, _, rfl, hst⟩ ⟨rg, i, m, rfl, htu⟩
  exact ⟨rg, i, m, rfl, fun f j hf => (htu f j hf).trans (hst f j hf)⟩

theorem AcceptsOnly.refl (s : State) : AcceptsOnly s s := ⟨_, _, _, rfl, fun _ _ _ => rfl⟩

theorem AcceptsOnly.setReg (s : State) {f : Fld} (i v : Nat) (hf : isAcceptanceFld f = true) : AcceptsOnly s (s.setReg f i v) :=
  ⟨_, _, _, rfl, fun g j hg => s.reg_setReg_ne v fun h => by rw [h.1, hf] at hg; contradiction⟩

theorem AcceptsOnly.foldl {α : Type} {g : State → α → State} (h : ∀ s e, AcceptsOnly s (g s e)) : ∀ (l : List α) (s : State), AcceptsOnly s (l.foldl g s)
  | [], s => .refl s
  | e :: l, s => (h s e).trans (AcceptsOnly.foldl h l (g s e))

theorem AcceptsOnly.setRegs : ∀ (l : List (Fld × Nat × Nat)) (s : State), (∀ e ∈ l, isAcceptanceFld e.1 = true) → AcceptsOnly s (s.setRegs l)
  | [], s, _ => .refl s
  | e :: l, s, h =>
    (AcceptsOnly.setReg s e.2.1 e.2.2 (h e (by simp))).trans (AcceptsOnly.setRegs l _ fun d hd => h d (List.mem_cons_of_mem _ hd))

theorem AcceptsOnly.of_metersOnly {s t : State} : MetersOnly s t → AcceptsOnly s t := by
  rintro ⟨m, rfl⟩
  exact ⟨_, _, m, rfl, fun _ _ _ => rfl⟩

theorem AcceptsOnly.tally (s : State) (n e : Nat) (imprint : Option Nat) : AcceptsOnly s (s.tally n e imprint) := by
  obtain ⟨i, m, h⟩ := s.tally_eq n e imprint
  exact ⟨_, i, m, h, fun _ _ _ => by rw [h]; rfl⟩

theorem AcceptsOnly.wakeNow (s : State) (n : Nat) : AcceptsOnly s (s.wakeNow n) := by
  unfold State.wakeNow
  split
  · have hsnaps : AcceptsOnly s (s.keepSnaps n) := .of_metersOnly (.foldl MetersOnly.keepSnap _ s)
    exact (hsnaps.trans (.setRegs _ _ (by simp [isAcceptanceFld]))).trans (.setReg _ _ _ rfl)
  · exact .refl s

/-- The state in which the port has taken a command (R707). -/
def State.taken (s : State) (k token op : Nat) (a : List Nat) : State :=
  { s with port := { s.port with running := some { host := k, opcode := op, token, args := a, since := s.now } } }

theorem AcceptsOnly.taken {s t : State} (k token op : Nat) (a : List Nat) : AcceptsOnly s t → AcceptsOnly (s.taken k token op a) (t.taken k token op a) := by
  rintro ⟨rg, i, m, rfl, h⟩
  exact ⟨rg, i, m, rfl, h⟩

theorem AcceptsOnly.accepted (s : State) (k token op : Nat) : AcceptsOnly (s.started.taken k token op (s.argWords k)) (s.accepted k token op) := by
  have hregs := AcceptsOnly.setRegs [(.CMP_STATUS_BUSY, 0, 1), (.CMP_STATUS_OPCODE, 0, op), (.CMP_STATUS_HOST_INDEX, 0, k), (.CMP_RESULT_STATE, k, 1),
    (.CMP_RESULT_RESULT, k, 0), (.CMP_RESULT_OPCODE, k, op), (.CMP_RESULT_TOKEN, k, token)] s.started (by simp [isAcceptanceFld])
  have hret := (hregs.trans (.wakeNow _ 52)).trans (.foldl (fun s n => .setReg s (f := .CMP_RET_VALUE) (16 * k + n) 0 rfl) (List.range 16) _)
  exact (hret.taken k token op (s.argWords k)).trans (.tally _ 52 0x60 none)

/-- What an accepted command finds: the port has taken it, and all else but the registers of acceptance, the islands and what is metered is as it was. -/
theorem State.accepted_port (s : State) (k token op : Nat) :
    (s.accepted k token op).port.running = some { host := k, opcode := op, token, args := s.argWords k, since := s.now } := by
  obtain ⟨_, _, _, h, -⟩ := AcceptsOnly.accepted s k token op
  rw [h]
  rfl

theorem State.accepted_reg (s : State) (k token op : Nat) {f : Fld} (i : Nat) (hf : isAcceptanceFld f = false) :
    (s.accepted k token op).reg f i = s.reg f i := by
  obtain ⟨_, _, _, -, h⟩ := AcceptsOnly.accepted s k token op
  exact h f i hf

theorem State.accepted_flash (s : State) (k token op : Nat) : (s.accepted k token op).flash = s.flash := by
  obtain ⟨_, _, _, h, -⟩ := AcceptsOnly.accepted s k token op
  rw [h]
  rfl

theorem State.accepted_boot (s : State) (k token op : Nat) : (s.accepted k token op).boot = s.boot := by
  obtain ⟨_, _, _, h, -⟩ := AcceptsOnly.accepted s k token op
  rw [h]
  rfl

theorem State.accepted_frame (s : State) (k token op : Nat) : (s.accepted k token op).frame = s.frame := by
  obtain ⟨_, _, _, h, -⟩ := AcceptsOnly.accepted s k token op
  rw [h]
  rfl

/-- A command that the port takes is carried out (R704, R711). -/
theorem State.command_of_accepts {s : State} {k op : Nat} (h : s.accepts k op = true) (token : Nat) (body : List Nat → State → State) :
    run (fun s => s.command k token op (s.argWords k) body) s = .next (body (s.argWords k) (s.accepted k token op)) := by
  simp only [State.accepts, Bool.and_eq_true, Option.isNone_iff_eq_none] at h
  obtain ⟨⟨hissue, hfree⟩, hrefusal⟩ := h
  have hissue' : s.started.canIssue k = true := hissue
  have hfree' : s.started.portFree = true := hfree
  have hrefusal' : s.started.refusal k op (s.started.argWords k) = none := hrefusal
  refine congrArg Host.Outcome.next ?_
  change s.started.command k token op (s.started.argWords k) body = _
  unfold State.command
  simp only [hissue', hfree', hrefusal', Bool.not_true, Bool.false_eq_true, if_false]
  rfl

/-! ### A command's result, and its reads -/

theorem State.ended_running (s : State) (code : Nat) (ret : List Nat) :
    (s.ended code ret).port.running = s.port.running.map (fun r => { r with wait := .ready, result := some (code, ret) }) := rfl

theorem State.resultCode_ended {s : State} {r : Running} (h : s.port.running = some r) (code : Nat) (ret : List Nat) :
    (s.ended code ret).resultCode = some code := by
  simp [State.resultCode, State.ended_running, h]

/-- What a command that reads keeps while its reads go out: its result, what it waits for, and what it reads. -/
def State.reading (s : State) : List RegCell × Option (Option (Nat × List Nat) × Wait × Option Image × Option KeyBlob) :=
  (s.regs, s.port.running.map fun r => (r.result, r.wait, r.image, r.blob))

theorem State.issueRead_reading (s : State) (k : Nat) : (s.issueRead k).reading = s.reading := by
  unfold State.issueRead
  split
  · rfl
  · dsimp only
    split
    · rfl
    · split
      · split <;> rfl
      · split
        · rename_i r hr _
          simp [State.reading, hr]
        · rfl
      · rfl

theorem State.beginReads_reading (s : State) (k n : Nat) : (s.beginReads k n).reading = (s.setReg .CMP_DMA_STATUS_STATE k 1).reading := by
  unfold State.beginReads State.startReads
  rw [foldl_keeps State.reading fun s _ => s.issueRead_reading k]
  cases hr : s.port.running <;> simp [State.reading, hr]

theorem State.reading_of_running {s t : State} {r : Running} (h : t.reading = s.reading) (hr : s.port.running = some r) :
    t.resultCode = r.result.map (·.1) ∧ t.waitsFor = some r.wait ∧ t.port.running.bind (·.image) = r.image ∧ t.port.running.bind (·.blob) = r.blob := by
  have hview : t.port.running.map (fun r => (r.result, r.wait, r.image, r.blob)) = some (r.result, r.wait, r.image, r.blob) := by
    simpa [State.reading, hr] using congrArg Prod.snd h
  obtain ⟨q, hq, hfields⟩ := Option.map_eq_some_iff.1 hview
  simp only [Prod.mk.injEq] at hfields
  obtain ⟨hresult, hwait, himage, hblob⟩ := hfields
  simp [State.resultCode, State.waitsFor, hq, hresult, hwait, himage, hblob]

theorem State.reg_of_reading {s t : State} (h : t.reading = s.reading) (f : Fld) (i : Nat) : t.reg f i = s.reg f i := by
  rw [State.reg, State.reg, show t.regs = s.regs from congrArg Prod.fst h]

theorem State.dmaRead_of_stopped {s : State} {k : Nat} (h : s.reg .CMP_DMA_STATUS_STATE k = 2) (addr len : Nat) : s.dmaRead k addr len = s.ended 0x17 := by
  simp [State.dmaRead, h]

/-- A command whose engine is not STOPPED waits for its reads (R281). -/
theorem State.dmaRead_waits {s : State} {k : Nat} {r : Running} (h : s.reg .CMP_DMA_STATUS_STATE k ≠ 2) (hr : s.port.running = some r)
    (hresult : r.result = none) (addr len : Nat) :
    (s.dmaRead k addr len).resultCode = none ∧ (s.dmaRead k addr len).waitsFor = some .dma ∧
      (s.dmaRead k addr len).port.running.bind (·.image) = r.image ∧ (s.dmaRead k addr len).port.running.bind (·.blob) = r.blob ∧
      (s.dmaRead k addr len).reg .CMP_DMA_STATUS_STATE k = 1 ∧ (s.dmaRead k addr len).frame = s.frame := by
  have hframe : (s.dmaRead k addr len).frame = s.frame := s.dmaRead_frame k addr len
  have hread : s.dmaRead k addr len = (s.waitFor .dma).beginReads k (readCount addr len (ctlSize (bits (s.vreg k .mep .devCtl) 14 12))) := by
    simp [State.dmaRead, h]
  rw [hread] at hframe ⊢
  have hreading := (s.waitFor .dma).beginReads_reading k (readCount addr len (ctlSize (bits (s.vreg k .mep .devCtl) 14 12)))
  have hrun : ((s.waitFor .dma).setReg .CMP_DMA_STATUS_STATE k 1).port.running = some { r with wait := .dma } := by
    simp [State.waitFor, hr]
  obtain ⟨hcode, hwait, himage, hblob⟩ := State.reading_of_running hreading hrun
  refine ⟨by rw [hcode, hresult]; rfl, hwait, himage, hblob, ?_, hframe⟩
  rw [State.reg_of_reading hreading, State.reg_setReg_self]
  rfl

end Sys2Proof.Machine
end

section
/-! SUPPORT. The end of a command (R708, R710, R716): what showing its result, a lock that is dropped, and a commit that begins leave. -/

namespace Sys2Proof.Machine

/-- The registers of a result and of a key slot, which nothing after the result is shown writes. -/
def isOutcomeFld (f : Fld) : Bool :=
  [Fld.CMP_RESULT_STATE, .CMP_RESULT_RESULT, .BAL_KEY_SLOT_STATE, .BAL_KEY_SLOT_SOURCE, .BAL_KEY_SLOT_GEN].contains f

/-- What a command leaves behind: the port's free place, the flash die, and the registers of its result and of the key slots. -/
def State.outcomeView (s : State) : Option Running × Frame × (Fld → Nat → Nat) :=
  (s.port.running, s.frame, fun f i => if isOutcomeFld f then s.reg f i else 0)

/-- Everything that is staged (R97, R119). -/
def State.stagedView (s : State) : List RegCell × List ImpChange × List AmendParts := (s.staged, s.com.staged, s.com.parts)

theorem State.reg_of_outcomeView {s t : State} (h : t.outcomeView = s.outcomeView) {f : Fld} (hf : isOutcomeFld f = true) (i : Nat) :
    t.reg f i = s.reg f i := by
  have hs := congrFun (congrFun (congrArg (fun v => v.2.2) h) f) i
  simpa [State.outcomeView, hf] using hs

theorem State.setReg_outcomeView (s : State) {f : Fld} (i v : Nat) (hf : isOutcomeFld f = false) : (s.setReg f i v).outcomeView = s.outcomeView := by
  have hregs : (fun g j => if isOutcomeFld g then (s.setReg f i v).reg g j else 0) = fun g j => if isOutcomeFld g then s.reg g j else 0 := by
    funext g j
    by_cases hg : isOutcomeFld g = true
    · rw [s.reg_setReg_ne v fun h => by rw [h.1, hf] at hg; contradiction]
    · simp [hg]
  simp only [State.outcomeView, hregs]
  rfl

@[simp] theorem State.setReg_stagedView (s : State) (f : Fld) (i v : Nat) : (s.setReg f i v).stagedView = s.stagedView := rfl

theorem State.setRegs_outcomeView : ∀ (l : List (Fld × Nat × Nat)) (s : State), (∀ e ∈ l, isOutcomeFld e.1 = false) →
    (s.setRegs l).outcomeView = s.outcomeView
  | [], _, _ => rfl
  | e :: l, s, h => (State.setRegs_outcomeView l _ fun d hd => h d (List.mem_cons_of_mem _ hd)).trans (s.setReg_outcomeView _ _ (h e (by simp)))

theorem State.setRegs_stagedView (s : State) (l : List (Fld × Nat × Nat)) : (s.setRegs l).stagedView = s.stagedView :=
  foldl_keeps State.stagedView (fun s _ => s.setReg_stagedView _ _ _) l s

/-- A vector is sent, stays pending or is lost (R730). -/
theorem State.vector_eq (s : State) (k n : Nat) : ∃ l o, s.vector k n = { s with link := l, out := o } := by
  unfold State.vector
  dsimp only
  split
  · exact ⟨_, _, rfl⟩
  · split
    · exact ⟨_, _, rfl⟩
    · exact ⟨_, _, rfl⟩

theorem State.vector_outcomeView (s : State) (k n : Nat) : (s.vector k n).outcomeView = s.outcomeView := by
  obtain ⟨_, _, h⟩ := s.vector_eq k n
  rw [h]
  rfl

theorem State.vector_stagedView (s : State) (k n : Nat) : (s.vector k n).stagedView = s.stagedView := by
  obtain ⟨_, _, h⟩ := s.vector_eq k n
  rw [h]
  rfl

theorem State.releaseLock_outcomeView (s : State) (broken : Bool) : (s.releaseLock broken).outcomeView = s.outcomeView := by
  have hvectors : ∀ u : State, (u.vectorOps 3).outcomeView = u.outcomeView := fun u =>
    foldl_keeps State.outcomeView (fun u k => u.vector_outcomeView k 3) _ u
  have hscopes : ∀ u : State, (u.discardScopes 0xFF).outcomeView = u.outcomeView := fun _ => rfl
  unfold State.releaseLock
  dsimp only
  rw [hvectors, hscopes, State.setRegs_outcomeView _ _ (by simp [isOutcomeFld])]
  split
  · exact s.setReg_outcomeView _ _ rfl
  · rfl

theorem State.beginCommit_outcomeView (s : State) (o : Origin) (mask : Nat) : (s.beginCommit o mask).outcomeView = s.outcomeView := by
  have hwake : ∀ (l : List Nat) (u : State), (l.foldl (fun s i => s.setReg .SUP_ISL_STATUS_WAKE_PEND i 1) u).outcomeView = u.outcomeView :=
    foldl_keeps State.outcomeView fun s i => s.setReg_outcomeView i 1 rfl
  unfold State.beginCommit
  dsimp only
  rw [State.setReg_outcomeView _ _ _ rfl]
  split
  · rw [State.setReg_outcomeView _ _ _ rfl, hwake]
    rfl
  · rw [hwake]
    rfl

theorem State.beginCommit_stagedView (s : State) (o : Origin) (mask : Nat) : (s.beginCommit o mask).stagedView = s.stagedView := by
  have hwake : ∀ (l : List Nat) (u : State), (l.foldl (fun s i => s.setReg .SUP_ISL_STATUS_WAKE_PEND i 1) u).stagedView = u.stagedView :=
    foldl_keeps State.stagedView fun _ _ => rfl
  unfold State.beginCommit
  dsimp only
  rw [State.setReg_stagedView]
  split
  · rw [State.setReg_stagedView, hwake]
    rfl
  · rw [hwake]
    rfl

/-- A property that a commit keeps as it begins is kept where the next one that waits begins (R387). -/
theorem State.nextCommit_keeps {β : Type} (v : State → β) (hbegin : ∀ s o mask, v (State.beginCommit s o mask) = v s)
    (hcom : ∀ (s : State) w, v (s.updCom fun m => { m with waiting := w }) = v s) (s : State) : v s.nextCommit = v s := by
  unfold State.nextCommit
  split
  · rfl
  · split
    · split
      · exact hbegin _ _ _
      · rw [hbegin, hcom]
    · split
      · exact hbegin _ _ _
      · rfl

theorem State.nextCommit_outcomeView (s : State) : s.nextCommit.outcomeView = s.outcomeView :=
  State.nextCommit_keeps _ State.beginCommit_outcomeView (fun _ _ => rfl) s

theorem State.nextCommit_stagedView (s : State) : s.nextCommit.stagedView = s.stagedView :=
  State.nextCommit_keeps _ State.beginCommit_stagedView (fun _ _ => rfl) s

theorem State.freePort_outcomeView (s : State) : s.freePort.outcomeView = s.outcomeView := by
  unfold State.freePort
  dsimp only
  split
  · rfl
  · split
    · exact State.setReg_outcomeView _ _ _ rfl
    · rw [State.setReg_outcomeView _ _ _ rfl, State.setReg_outcomeView _ _ _ rfl]

theorem State.freePort_stagedView (s : State) : s.freePort.stagedView = s.stagedView := by
  unfold State.freePort
  dsimp only
  split
  · rfl
  · split <;> rfl

/-! ### The result is shown (R708) -/

/-- The port has no command any more. -/
def State.freed (s : State) : State := ({ s with port := { s.port with running := none } }).work 52

/-- The result of a command in its issuer's CMP_RESULT and CMP_RET. -/
def State.showResult (s : State) (r : Running) (code : Nat) (ret : List Nat) : State :=
  (List.range 16).foldl (fun s n => s.setReg .CMP_RET_VALUE (16 * r.host + n) (nth ret n))
    (s.setRegs [(.CMP_RESULT_STATE, r.host, 2), (.CMP_RESULT_RESULT, r.host, code), (.CMP_RESULT_OPCODE, r.host, r.opcode),
      (.CMP_RESULT_TOKEN, r.host, r.token)])

/-- A warm reset that waits for the command to end begins 10 µs after it (R709). -/
def State.resetSoon (s : State) : State := { s with port := { s.port with resetAt := some (s.now + 10000) } }

/-- The composing lock that a reset host still holds goes with its command (R716). -/
def State.lockGoes (s : State) : State := { s.releaseLock true with port := { s.port with lockDrop := false } }

theorem State.releaseLock_port (s : State) (broken : Bool) : (s.releaseLock broken).port = s.port := by
  have hvectors : ∀ u : State, (u.vectorOps 3).port = u.port := fun u =>
    foldl_keeps (fun s => s.port) (fun u k => by obtain ⟨_, _, h⟩ := u.vector_eq k 3; rw [h]) _ u
  unfold State.releaseLock
  dsimp only
  rw [hvectors]
  change (State.setRegs _ _).port = _
  split <;> simp [State.setRegs_cons]

theorem State.lockGoes_outcomeView (s : State) : s.lockGoes.outcomeView = s.outcomeView := by
  have hport : s.lockGoes.port.running = (s.releaseLock true).port.running := by
    rw [State.releaseLock_port]
    rfl
  calc s.lockGoes.outcomeView = (s.releaseLock true).outcomeView := by
        simp only [State.outcomeView, hport]
        rfl
    _ = s.outcomeView := s.releaseLock_outcomeView true

/-- The steps of a command that ends with a result that its issuer still wants. -/
theorem State.done_eq (s : State) (r : Running) (code : Nat) (ret : List Nat) (hd : r.discard = false) :
    let u := (s.freed.showResult r code ret).vector r.host 0
    let v := if u.port.lockDrop then u.lockGoes else u
    s.done r code ret = ((if v.on .CMP_STATUS_RESET_PEND then v.resetSoon else v).nextCommit).freePort := by
  simp only [State.done, hd, Bool.false_eq_true, if_false]
  rfl

/-- What a command ends with: its result, then the lock that it held on for, a reset that waits, and the next commit. -/
theorem State.done_outcomeView (s : State) (r : Running) (code : Nat) (ret : List Nat) (hd : r.discard = false) :
    (s.done r code ret).outcomeView = (s.freed.showResult r code ret).outcomeView := by
  rw [State.done_eq s r code ret hd, State.freePort_outcomeView, State.nextCommit_outcomeView]
  generalize s.freed.showResult r code ret = u
  have hreset : ∀ w : State, (if w.on .CMP_STATUS_RESET_PEND then w.resetSoon else w).outcomeView = w.outcomeView := by
    intro w
    split <;> rfl
  rw [hreset]
  split
  · rw [State.lockGoes_outcomeView, State.vector_outcomeView]
  · exact State.vector_outcomeView _ _ _

theorem State.showResult_stagedView (s : State) (r : Running) (code : Nat) (ret : List Nat) : (s.showResult r code ret).stagedView = s.stagedView :=
  (foldl_keeps State.stagedView (fun s _ => s.setReg_stagedView _ _ _) _ _).trans (s.setRegs_stagedView _)

theorem State.showResult_port (s : State) (r : Running) (code : Nat) (ret : List Nat) : (s.showResult r code ret).port = s.port := by
  have hregs : ∀ (l : List (Fld × Nat × Nat)) (u : State), (u.setRegs l).port = u.port := fun l u =>
    foldl_keeps (fun s => s.port) (g := fun s (e : Fld × Nat × Nat) => s.setReg e.1 e.2.1 e.2.2) (fun _ _ => rfl) l u
  exact (foldl_keeps (fun s => s.port) (g := fun s n => s.setReg .CMP_RET_VALUE (16 * r.host + n) (nth ret n)) (fun _ _ => rfl) _ _).trans (hregs _ s)

theorem State.vector_port (s : State) (k n : Nat) : (s.vector k n).port = s.port := by
  obtain ⟨_, _, h⟩ := s.vector_eq k n
  rw [h]

theorem State.done_stagedView (s : State) (r : Running) (code : Nat) (ret : List Nat) (hd : r.discard = false) (hlock : s.port.lockDrop = false) :
    (s.done r code ret).stagedView = s.stagedView := by
  have hreset : ∀ w : State, (if w.on .CMP_STATUS_RESET_PEND then w.resetSoon else w).stagedView = w.stagedView := by
    intro w
    split <;> rfl
  have hkept : ((s.freed.showResult r code ret).vector r.host 0).port.lockDrop = false := by
    rw [State.vector_port, State.showResult_port]
    exact hlock
  rw [State.done_eq s r code ret hd, State.freePort_stagedView, State.nextCommit_stagedView, hreset, hkept, if_neg Bool.false_ne_true,
    State.vector_stagedView, State.showResult_stagedView]
  rfl

/-- A field other than those of CMP_RESULT and CMP_RET keeps its value when a result is shown; the result itself stands. -/
theorem State.showResult_reg (s : State) (r : Running) (code : Nat) (ret : List Nat) (f : Fld) (i : Nat) (hf : f ≠ .CMP_RET_VALUE) :
    (s.showResult r code ret).reg f i = (s.setRegs [(.CMP_RESULT_STATE, r.host, 2), (.CMP_RESULT_RESULT, r.host, code),
      (.CMP_RESULT_OPCODE, r.host, r.opcode), (.CMP_RESULT_TOKEN, r.host, r.token)]).reg f i :=
  foldl_keeps (fun s => s.reg f i) (g := fun s n => s.setReg .CMP_RET_VALUE (16 * r.host + n) (nth ret n))
    (fun s _ => s.reg_setReg_ne _ fun h => hf h.1) _ _

theorem State.showResult_result (s : State) (r : Running) {code : Nat} (ret : List Nat) (hcode : code < 256) :
    (s.showResult r code ret).reg .CMP_RESULT_STATE r.host = 2 ∧ (s.showResult r code ret).reg .CMP_RESULT_RESULT r.host = code := by
  have hwidth : Fld.CMP_RESULT_STATE.width = 2 ∧ Fld.CMP_RESULT_RESULT.width = 8 := ⟨rfl, rfl⟩
  simp [State.showResult_reg, State.setRegs_cons, State.reg_setReg, hwidth, Nat.mod_eq_of_lt hcode]

/-- The fields of a key slot that an import sets. -/
def isSlotFld (f : Fld) : Bool := [Fld.BAL_KEY_SLOT_STATE, .BAL_KEY_SLOT_SOURCE, .BAL_KEY_SLOT_GEN].contains f

theorem isSlotFld_cases {f : Fld} (h : isSlotFld f = true) : f = .BAL_KEY_SLOT_STATE ∨ f = .BAL_KEY_SLOT_SOURCE ∨ f = .BAL_KEY_SLOT_GEN := by
  simpa [isSlotFld] using h

theorem State.showResult_slot (s : State) (r : Running) (code : Nat) (ret : List Nat) {f : Fld} (i : Nat) (hf : isSlotFld f = true) :
    (s.showResult r code ret).reg f i = s.reg f i := by
  rcases isSlotFld_cases hf with rfl | rfl | rfl <;> simp [State.showResult_reg, State.setRegs_cons, State.reg_setReg]

theorem State.showResult_frame (s : State) (r : Running) (code : Nat) (ret : List Nat) : (s.showResult r code ret).frame = s.frame := by
  simp [State.showResult]

/-- What the end of a command shows (R708): its result stands, the port is free, and the flash die, the fuses and the key slots stay. -/
theorem State.done_spec (s : State) {r : Running} {code : Nat} (ret : List Nat) (hd : r.discard = false) (hcode : code < 256) :
    (s.done r code ret).reg .CMP_RESULT_STATE r.host = 2 ∧ (s.done r code ret).reg .CMP_RESULT_RESULT r.host = code ∧
      (s.done r code ret).port.running = none ∧ (s.done r code ret).frame = s.frame ∧
      ∀ f i, isSlotFld f = true → (s.done r code ret).reg f i = s.reg f i := by
  have hview := s.done_outcomeView r code ret hd
  obtain ⟨hstate, hresult⟩ := s.freed.showResult_result r ret hcode
  refine ⟨(State.reg_of_outcomeView hview rfl _).trans hstate, (State.reg_of_outcomeView hview rfl _).trans hresult,
    (congrArg Prod.fst hview).trans ?_, (congrArg (fun v => v.2.1) hview).trans ?_, fun f i hf => ?_⟩
  · change (s.freed.showResult r code ret).port.running = none
    rw [State.showResult_port]
    rfl
  · change (s.freed.showResult r code ret).frame = s.frame
    rw [State.showResult_frame]
    rfl
  · have ho : isOutcomeFld f = true := by rcases isSlotFld_cases hf with rfl | rfl | rfl <;> rfl
    rw [State.reg_of_outcomeView hview ho, State.showResult_slot _ _ _ _ _ hf]
    rfl

end Sys2Proof.Machine
end

section
/-! SUPPORT. COMMAND_DONE of a command whose reads are complete (R119, R14, R92, R281, R561 to R565). -/

namespace Sys2Proof.Machine

/-- The engine of a command whose reads are complete is free (R281). -/
def State.readsDone (s : State) (r : Running) : State :=
  let s := s.updLink (fun l => { l with dma := l.dma.filter (fun t => t.host != r.host || t.quarantined) })
  if s.reg .CMP_DMA_STATUS_STATE r.host == 1 then s.setReg .CMP_DMA_STATUS_STATE r.host 0 else s

/-- `t` is `s` but for outstanding DMA tags, the state of an engine, and outputs. -/
def EngineOnly (s t : State) : Prop :=
  ∃ rg d o, t = { s with regs := rg, link := { s.link with dma := d }, out := o } ∧ ∀ f i, f ≠ .CMP_DMA_STATUS_STATE → t.reg f i = s.reg f i

theorem EngineOnly.readsDone (s : State) (r : Running) : EngineOnly s (s.started.readsDone r) := by
  unfold State.readsDone
  dsimp only
  split
  · exact ⟨_, _, _, rfl, fun f i hf => State.reg_setReg_ne _ _ fun h => hf h.1⟩
  · exact ⟨_, _, _, rfl, fun _ _ _ => rfl⟩

section
variable {s t : State} (h : EngineOnly s t)
include h

theorem EngineOnly.frame : t.frame = s.frame := by
  obtain ⟨_, _, _, rfl, -⟩ := h
  rfl

theorem EngineOnly.port : t.port = s.port := by
  obtain ⟨_, _, _, rfl, -⟩ := h
  rfl

theorem EngineOnly.reg {f : Fld} (i : Nat) (hf : f ≠ .CMP_DMA_STATUS_STATE) : t.reg f i = s.reg f i := by
  obtain ⟨_, _, _, -, hreg⟩ := h
  exact hreg f i hf

theorem EngineOnly.stagedView : t.stagedView = s.stagedView := by
  obtain ⟨_, _, _, rfl, -⟩ := h
  rfl

theorem EngineOnly.bank (b : Bool) : t.bank b = s.bank b := by
  obtain ⟨_, _, _, rfl, -⟩ := h
  rfl

theorem EngineOnly.writeResult (im : Image) (len : Nat) : t.writeResult im len = s.writeResult im len := by
  obtain ⟨_, _, _, rfl, -⟩ := h
  rfl

theorem EngineOnly.amendImp (im : Image) : t.amendImp im = s.amendImp im := by
  obtain ⟨_, _, _, rfl, -⟩ := h
  rfl

theorem EngineOnly.formeDigest : t.formeDigest = s.formeDigest := by
  have hphase : t.phase = s.phase := h.reg 0 (by decide)
  unfold State.formeDigest
  rw [hphase]
  obtain ⟨_, _, _, rfl, -⟩ := h
  rfl

theorem EngineOnly.amendLimits (im : Image) : t.amendLimits im = s.amendLimits im := by
  have hkeys : ∀ v, t.sealKeysOk v = s.sealKeysOk v := by
    intro v
    simp only [State.sealKeysOk, fun i => h.reg (f := .BAL_KEY_SLOT_STATE) i (by decide), fun i => h.reg (f := .BAL_KEY_SLOT_GEN) i (by decide)]
  have hgates : ∀ p, t.stagedReg .GATE_CTL_ENTRY_COUNT p = s.stagedReg .GATE_CTL_ENTRY_COUNT p := by
    intro p
    have hreg := h.reg (f := .GATE_CTL_ENTRY_COUNT) p (by decide)
    unfold State.stagedReg
    rw [hreg]
    obtain ⟨_, _, _, rfl, -⟩ := h
    rfl
  simp only [State.amendLimits, hkeys, hgates]
  obtain ⟨_, _, _, rfl, -⟩ := h
  rfl

theorem EngineOnly.amendRefusal (im : Image) (len : Nat) : t.amendRefusal im len = s.amendRefusal im len := by
  simp only [State.amendRefusal, h.formeDigest, h.amendLimits, h.amendImp]
  obtain ⟨_, _, _, rfl, -⟩ := h
  rfl

theorem EngineOnly.kex (b : KeyBlob) : t.kexId = s.kexId ∧ t.kek b = s.kek b := by
  obtain ⟨_, _, _, rfl, -⟩ := h
  exact ⟨rfl, rfl⟩

end

/-- COMMAND_DONE of a command whose reads are complete, by the result that they give it. -/
theorem exec_commandDone {s u : State} {r : Running} {code : Nat} {ret : List Nat} (hr : s.port.running = some r) (hw : r.wait = .dma)
    (hres : r.result = none) (hend : s.started.dmaEnd r = u.ended code ret) (hu : u.port.running = some r) :
    exec .commandDone s = .next ((u.ended code ret).done { r with wait := .ready, result := some (code, ret) } code ret) := by
  have hr' : s.started.port.running = some r := hr
  have hran : (u.ended code ret).port.running = some { r with wait := .ready, result := some (code, ret) } := by
    rw [State.ended_running, hu]
    rfl
  have hexec : exec .commandDone s = execCommandDone s := rfl
  have hwaits : (decide (r.wait = Wait.dma) && r.result.isNone) = true := by simp [hw, hres]
  rw [hexec, execCommandDone, run, show ({ s with out := [] } : State) = s.started from rfl]
  simp only [hr', hwaits, if_true, hend, hran]

section
variable {s : State} {r : Running} (hr : s.port.running = some r) (hw : r.wait = .dma) (hres : r.result = none) (hd : r.discard = false)
include hr hw hres hd

/-- What every command that has read shows at COMMAND_DONE. -/
theorem commandDone_spec {u : State} {code : Nat} {ret : List Nat} (hcode : code < 256) (hend : s.started.dmaEnd r = u.ended code ret)
    (hu : u.port.running = some r) : ∃ t, exec .commandDone s = .next t ∧ t.reg .CMP_RESULT_STATE r.host = 2 ∧ t.reg .CMP_RESULT_RESULT r.host = code ∧
      t.port.running = none ∧ t.frame = u.frame ∧ (∀ f i, isSlotFld f = true → t.reg f i = u.reg f i) ∧
      (u.port.lockDrop = false → t.stagedView = u.stagedView) := by
  obtain ⟨hstate, hresult, hrun, hframe, hslot⟩ := (u.ended code ret).done_spec (r := { r with wait := .ready, result := some (code, ret) }) ret hd hcode
  exact ⟨_, exec_commandDone hr hw hres hend hu, hstate, hresult, hrun, hframe.trans (u.ended_frame code ret), fun f i hf => hslot f i hf,
    fun hlock => (State.done_stagedView _ _ _ _ hd hlock).trans rfl⟩

end

/-! ### Amendments -/

theorem State.stage_eq (s : State) (f : Fld) (i v : Nat) : ∃ st, s.stage f i v = { s with staged := st } := by
  unfold State.stage
  dsimp only
  split <;> exact ⟨_, rfl⟩

theorem State.foldl_stage_eq : ∀ (l : List (Fld × Nat × Nat)) (s : State),
    ∃ st, l.foldl (fun s (c : Fld × Nat × Nat) => s.stage c.1 c.2.1 c.2.2) s = { s with staged := st }
  | [], s => ⟨_, rfl⟩
  | c :: l, s => by
    obtain ⟨st, h⟩ := s.stage_eq c.1 c.2.1 c.2.2
    obtain ⟨st', h'⟩ := State.foldl_stage_eq l (s.stage c.1 c.2.1 c.2.2)
    exact ⟨st', by rw [List.foldl_cons, h', h]⟩

/-- An amendment's changes are staged, and nothing else changes (R119). -/
theorem State.stageAmend_eq (s : State) (im : Image) : ∃ st c, s.stageAmend im = { s with staged := st, com := c } ∧ c.staged = s.amendImp im := by
  unfold State.stageAmend
  dsimp only
  obtain ⟨st, h⟩ := State.foldl_stage_eq ((if hasSec im 7 then arbCells im.arb else []) ++ (if hasSec im 8 then shapeCells im.shape else []) ++
    (if hasSec im 9 then gateCells im.gates else [])) s
  rw [h]
  exact ⟨st, _, rfl, rfl⟩

theorem State.amendRefusal_lt {s : State} {im : Image} {len c : Nat} (h : s.amendRefusal im len = some c) : c < 256 := by
  unfold State.amendRefusal at h
  split at h
  · cases h
    decide
  · split at h
    · split_ifs at h <;> cases h <;> decide
    · cases h
      decide
    · cases h
      decide

theorem commandDone_amendLoad (s : State) (r : Running) (im : Image) (hr : s.port.running = some r) (hw : r.wait = .dma) (hres : r.result = none)
    (hd : r.discard = false) (hop : r.opcode = 0x12) (him : r.image = some im) (hlock : s.port.lockDrop = false) :
    ∃ t, exec .commandDone s = .next t ∧ t.reg .CMP_RESULT_STATE r.host = 2 ∧
      t.reg .CMP_RESULT_RESULT r.host = (s.amendRefusal im (nth r.args 2)).getD 0 ∧
      (s.amendRefusal im (nth r.args 2) ≠ none → t.stagedView = s.stagedView) ∧
      (s.amendRefusal im (nth r.args 2) = none → t.com.staged = s.amendImp im) ∧ t.port.running = none ∧ t.frame = s.frame := by
  have hengine := EngineOnly.readsDone s r
  have hend : s.started.dmaEnd r = (s.started.readsDone r).amendEnd im (nth r.args 2) := by
    simp only [State.dmaEnd, hop, him]
    rfl
  rw [State.amendEnd, hengine.amendRefusal] at hend
  cases hc : s.amendRefusal im (nth r.args 2) with
  | some c =>
    rw [hc] at hend
    obtain ⟨t, hexec, hstate, hresult, hrun, hframe, -, hstaged⟩ := commandDone_spec hr hw hres hd (State.amendRefusal_lt hc) hend (hengine.port ▸ hr)
    exact ⟨t, hexec, hstate, hresult, fun _ => (hstaged (hengine.port ▸ hlock)).trans hengine.stagedView, fun h => absurd h (Option.some_ne_none c), hrun,
      hframe.trans hengine.frame⟩
  | none =>
    rw [hc] at hend
    obtain ⟨st, m, hamend, hm⟩ := (s.started.readsDone r).stageAmend_eq im
    have hport : ((s.started.readsDone r).stageAmend im).port = s.port := by
      rw [hamend]
      exact hengine.port
    have hkept : ((s.started.readsDone r).stageAmend im).frame = s.frame := by
      rw [hamend]
      exact hengine.frame
    have himp : ((s.started.readsDone r).stageAmend im).com.staged = s.amendImp im := by
      rw [hamend]
      exact hm.trans (hengine.amendImp im)
    obtain ⟨t, hexec, hstate, hresult, hrun, hframe, -, hstaged⟩ := commandDone_spec hr hw hres hd (by omega) hend (hport ▸ hr)
    exact ⟨t, hexec, hstate, hresult, fun h => absurd rfl h, fun _ => (congrArg (fun v => v.2.1) (hstaged (hport ▸ hlock))).trans himp, hrun,
      hframe.trans hkept⟩

/-! ### Formes -/

theorem State.bank_setBank_self (s : State) (b : Bool) (v : Bank) : (s.setBank b v).bank b = v := by cases b <;> rfl
theorem State.bank_setBank_ne (s : State) (b : Bool) (v : Bank) : (s.setBank b v).bank (!b) = s.bank (!b) := by cases b <;> rfl

/-- The bank of a FORME_WRITE after it: the image that passed its checks, TRIAL, or BAD. -/
def State.formeBank (s : State) (im : Image) (a : List Nat) : Bank :=
  if s.writeResult im (nth a 2) = 1 then { state := .trial, image := some im } else { s.bank (nth a 3 == 1) with state := .bad }

/-- The result of a FORME_WRITE by the check of its image. -/
def formeCode (v : Nat) : Nat := if v = 1 then 0 else if v = 2 then 0x10 else if v = 3 then 0x13 else 0x11

theorem State.formeEnd_eq (s : State) (im : Image) (a : List Nat) : s.formeEnd im a =
    (s.setBank (nth a 3 == 1) (s.formeBank im a)).ended (formeCode (s.writeResult im (nth a 2))) [flag (nth a 3 == 1) + 2 * s.writeResult im (nth a 2)] := by
  unfold State.formeEnd State.formeBank
  dsimp only
  match s.writeResult im (nth a 2) with
  | 0 => rfl
  | 1 => rfl
  | 2 => rfl
  | 3 => rfl
  | n + 4 => rfl

theorem commandDone_formeWrite (s : State) (r : Running) (im : Image) (hr : s.port.running = some r) (hw : r.wait = .dma) (hres : r.result = none)
    (hd : r.discard = false) (hop : r.opcode = 0x13) (him : r.image = some im) :
    ∃ t, exec .commandDone s = .next t ∧ t.reg .CMP_RESULT_STATE r.host = 2 ∧ t.bank (nth r.args 3 == 1) = s.formeBank im r.args ∧
      t.bank (!(nth r.args 3 == 1)) = s.bank (!(nth r.args 3 == 1)) ∧
      t.reg .CMP_RESULT_RESULT r.host = formeCode (s.writeResult im (nth r.args 2)) ∧ t.port.running = none ∧ t.part = s.part ∧ t.pool.mem = s.pool.mem := by
  have hengine := EngineOnly.readsDone s r
  have hend : s.started.dmaEnd r = (s.started.readsDone r).formeEnd im r.args := by
    simp only [State.dmaEnd, hop, him]
    rfl
  rw [State.formeEnd_eq, State.formeBank, hengine.writeResult, hengine.bank, ← State.formeBank] at hend
  have hcode : formeCode (s.writeResult im (nth r.args 2)) < 256 := by
    unfold formeCode
    split_ifs <;> decide
  obtain ⟨t, hexec, hstate, hresult, hrun, hframe, -⟩ := commandDone_spec hr hw hres hd hcode hend (hengine.port ▸ hr)
  have hflash : t.flash = ((s.started.readsDone r).setBank (nth r.args 3 == 1) (s.formeBank im r.args)).flash := congrArg Frame.flash hframe
  have hbank : ∀ b, t.bank b = ((s.started.readsDone r).setBank (nth r.args 3 == 1) (s.formeBank im r.args)).bank b := fun b => by
    rw [State.bank, State.bank, hflash]
  have hpart : t.part = (s.started.readsDone r).part := congrArg Frame.part hframe
  have hmem : t.pool.mem = (s.started.readsDone r).pool.mem := congrArg Frame.mem hframe
  refine ⟨t, hexec, hstate, ?_, ?_, hresult, hrun, hpart.trans (congrArg Frame.part hengine.frame), hmem.trans (congrArg Frame.mem hengine.frame)⟩
  · rw [hbank, State.bank_setBank_self]
  · rw [hbank, State.bank_setBank_ne, hengine.bank]

/-! ### Imported keys -/

/-- What an import that passes the checks before KEX_ID does with the blob (R561 to R565). -/
def State.importDraw (s : State) (i : Nat) : State := s.draw.2.updKeys (fun x => { x with nonces := Sparse.set id x.nonces i s.draw.1 })

theorem State.importEnd_eq {s : State} {b : KeyBlob} {i : Nat} (hpolicy : s.reg .BAL_KEY_SLOT_POLICY i = 2) (hempty : s.reg .BAL_KEY_SLOT_STATE i = 0)
    (hfactory : s.part.factoryTest = false) (hrng : s.rngOk = true) (hmagic : b.magic = 0x4B444C48) (hversion : b.version = 1)
    (hreserved : b.reservedZero = true) (himprint : b.imprint = i) :
    s.importEnd b i = if b.kexId ≠ s.kexId then s.ended 0x29
      else if b.nonce ≠ (Sparse.get? s.keys.nonces i).getD 0 then (s.importDraw i).ended 0x2A
      else match Config.unwrap (s.kek b) b.wrapped with
        | none => (s.importDraw i).ended 0x2B
        | some key => ((s.importDraw i).makeKey i 1 key).ended 0 := by
  simp only [State.importEnd, hpolicy, hempty, hfactory, hrng, hmagic, hversion, hreserved, himprint]
  simp only [bne_self_eq_false, Bool.false_eq_true, if_false, Bool.not_true, Bool.or_self, bne_iff_ne]
  rfl

theorem EngineOnly.importReady {s t : State} (h : EngineOnly s t) (i : Nat) :
    t.reg .BAL_KEY_SLOT_POLICY i = s.reg .BAL_KEY_SLOT_POLICY i ∧ t.reg .BAL_KEY_SLOT_STATE i = s.reg .BAL_KEY_SLOT_STATE i ∧
      t.reg .BAL_KEY_SLOT_GEN i = s.reg .BAL_KEY_SLOT_GEN i ∧ t.rngOk = s.rngOk ∧ t.part = s.part ∧ t.keys = s.keys := by
  have hrng : t.rngOk = s.rngOk := by
    rw [State.rngOk, State.rngOk, State.on, State.on, h.reg _ (by decide)]
  refine ⟨h.reg i (by decide), h.reg i (by decide), h.reg i (by decide), hrng, ?_⟩
  obtain ⟨_, _, _, rfl, -⟩ := h
  exact ⟨rfl, rfl⟩

/-- A slot that gets a key: ACTIVE, from its source, at its next generation (R555, R565). -/
theorem State.makeKey_slot (s : State) (i key : Nat) : (s.makeKey i 1 key).reg .BAL_KEY_SLOT_STATE i = 1 ∧
    (s.makeKey i 1 key).reg .BAL_KEY_SLOT_SOURCE i = 1 ∧ (s.makeKey i 1 key).reg .BAL_KEY_SLOT_GEN i = nextGen (s.reg .BAL_KEY_SLOT_GEN i) := by
  have hgen : nextGen (s.reg .BAL_KEY_SLOT_GEN i) < 256 := by
    unfold nextGen
    split_ifs <;> omega
  have hwidth : Fld.BAL_KEY_SLOT_STATE.width = 2 ∧ Fld.BAL_KEY_SLOT_SOURCE.width = 1 ∧ Fld.BAL_KEY_SLOT_GEN.width = 8 := ⟨rfl, rfl, rfl⟩
  simp [State.makeKey, State.setRegs_cons, State.reg_setReg, hwidth, Nat.mod_eq_of_lt hgen]

/-- An import that is refused leaves its slot EMPTY. -/
theorem commandDone_refusesKey {s u : State} {r : Running} {i code : Nat} (hr : s.port.running = some r) (hw : r.wait = .dma) (hres : r.result = none)
    (hd : r.discard = false) (hcode : code < 256) (hend : s.started.dmaEnd r = u.ended code) (hrun : u.port.running = some r)
    (hempty : u.reg .BAL_KEY_SLOT_STATE i = 0) (hkept : u.frame = s.frame) :
    ∃ t, exec .commandDone s = .next t ∧ t.reg .CMP_RESULT_STATE r.host = 2 ∧
      (t.reg .CMP_RESULT_RESULT r.host = code ∧ t.reg .BAL_KEY_SLOT_STATE i = 0) ∧ t.port.running = none ∧ t.frame = s.frame := by
  obtain ⟨t, hexec, hstate, hresult, hfree, hframe, hslot, -⟩ := commandDone_spec hr hw hres hd hcode hend hrun
  exact ⟨t, hexec, hstate, ⟨hresult, (hslot _ _ rfl).trans hempty⟩, hfree, hframe.trans hkept⟩

theorem commandDone_keyImport (s : State) (r : Running) (b : KeyBlob) (i : Nat) (hr : s.port.running = some r) (hw : r.wait = .dma) (hres : r.result = none)
    (hd : r.discard = false) (hop : r.opcode = 0x38) (him : r.image = none) (hb : r.blob = some b) (hi : nth r.args 0 = i)
    (hpolicy : s.reg .BAL_KEY_SLOT_POLICY i = 2) (hempty : s.reg .BAL_KEY_SLOT_STATE i = 0)
    (hfactory : s.part.factoryTest = false) (hrng : s.rngOk = true) (hmagic : b.magic = 0x4B444C48) (hversion : b.version = 1)
    (hreserved : b.reservedZero = true) (himprint : b.imprint = i) :
    ∃ t, exec .commandDone s = .next t ∧ t.reg .CMP_RESULT_STATE r.host = 2 ∧
      (if b.kexId ≠ s.kexId then t.reg .CMP_RESULT_RESULT r.host = 0x29 ∧ t.reg .BAL_KEY_SLOT_STATE i = 0
       else if b.nonce ≠ (Sparse.get? s.keys.nonces i).getD 0 then t.reg .CMP_RESULT_RESULT r.host = 0x2A ∧ t.reg .BAL_KEY_SLOT_STATE i = 0
       else if (Config.unwrap (s.kek b) b.wrapped).isNone = true then t.reg .CMP_RESULT_RESULT r.host = 0x2B ∧ t.reg .BAL_KEY_SLOT_STATE i = 0
       else t.reg .CMP_RESULT_RESULT r.host = 0 ∧ t.reg .BAL_KEY_SLOT_STATE i = 1 ∧ t.reg .BAL_KEY_SLOT_SOURCE i = 1 ∧
         t.reg .BAL_KEY_SLOT_GEN i = nextGen (s.reg .BAL_KEY_SLOT_GEN i)) ∧ t.port.running = none ∧ t.frame = s.frame := by
  have hengine := EngineOnly.readsDone s r
  have hrun := hengine.port ▸ hr
  have hkept := hengine.frame
  obtain ⟨hkex, hkek⟩ := hengine.kex b
  obtain ⟨hpolicy', hempty', hgen, hrng', hpart, hkeys⟩ := hengine.importReady i
  have hend : s.started.dmaEnd r = (s.started.readsDone r).importEnd b (nth r.args 0) := by
    simp only [State.dmaEnd, hop, him, hb]
    rfl
  rw [hi, State.importEnd_eq (hpolicy'.trans hpolicy) (hempty'.trans hempty) (hpart ▸ hfactory) (hrng'.trans hrng) hmagic hversion hreserved himprint,
    hkex, hkek, hkeys] at hend
  generalize s.started.readsDone r = u at hend hrun hkept hempty' hgen
  by_cases h1 : b.kexId ≠ s.kexId
  · simp only [if_pos h1] at hend ⊢
    exact commandDone_refusesKey hr hw hres hd (by decide) hend hrun (hempty'.trans hempty) hkept
  simp only [if_neg h1] at hend ⊢
  by_cases h2 : b.nonce ≠ (Sparse.get? s.keys.nonces i).getD 0
  · simp only [if_pos h2] at hend ⊢
    exact commandDone_refusesKey hr hw hres hd (by decide) hend hrun (hempty'.trans hempty) hkept
  simp only [if_neg h2] at hend ⊢
  cases hkey : Config.unwrap (s.kek b) b.wrapped with
  | none =>
    simp only [hkey, Option.isNone_none, if_true] at hend ⊢
    exact commandDone_refusesKey hr hw hres hd (by decide) hend hrun (hempty'.trans hempty) hkept
  | some key =>
    simp only [hkey, Option.isNone_some, Bool.false_eq_true, if_false] at hend ⊢
    obtain ⟨hactive, hsource, hnext⟩ := (u.importDraw i).makeKey_slot i key
    obtain ⟨t, hexec, hstate, hresult, hfree, hframe, hslot, -⟩ := commandDone_spec hr hw hres hd (by decide) hend hrun
    refine ⟨t, hexec, hstate, ⟨hresult, (hslot _ _ rfl).trans hactive, (hslot _ _ rfl).trans hsource, (hslot _ _ rfl).trans (hnext.trans ?_)⟩, hfree,
      hframe.trans (((u.importDraw i).makeKey_frame i 1 key).trans hkept)⟩
    exact congrArg nextGen hgen

end Sys2Proof.Machine
end

section
/-! The statement on commands that read images through a DMA engine, clause by clause (R14, R92, R93, R119, R156, R281, R561 to R565, R719). -/

namespace Sys2Proof.Machine

/-! ### Issue -/

theorem exec_amendLoad {s : State} {k : Nat} (token : Nat) (im : Image) (h : s.accepts k 0x12 = true) :
    exec (.amendLoad k token im) s = .next ((s.accepted k token 0x12).amendLoad k im (s.argWords k)) :=
  State.command_of_accepts h token (fun a s => s.amendLoad k im a)

theorem exec_formeWrite {s : State} {k : Nat} (token : Nat) (im : Image) (h : s.accepts k 0x13 = true) :
    exec (.formeWrite k token im) s = .next ((s.accepted k token 0x13).formeWrite k im (s.argWords k)) :=
  State.command_of_accepts h token (fun a s => s.formeWrite k im a)

theorem exec_formeSelect {s : State} {k : Nat} (token : Nat) (h : s.accepts k 0x14 = true) :
    exec (.formeSelect k token) s = .next ((s.accepted k token 0x14).formeSelect (s.argWords k)) :=
  State.command_of_accepts h token (fun a s => s.formeSelect a)

theorem exec_keyImport {s : State} {k : Nat} (token : Nat) (b : KeyBlob) (h : s.accepts k 0x38 = true) : exec (.keyImport k token b) s =
    .next (((s.accepted k token 0x38).updRun fun r => { r with blob := some b }).dmaRead k (arg64 (s.argWords k) 2) 1664) :=
  State.command_of_accepts h token (fun a s => s.keyImport k b a)

theorem State.accepted_engine (s : State) (k token op j : Nat) : (s.accepted k token op).reg .CMP_DMA_STATUS_STATE j = s.reg .CMP_DMA_STATUS_STATE j :=
  s.accepted_reg k token op j rfl

section
variable {u : State} {r : Running} {f : Running → Running} {k : Nat} (hu : u.port.running = some r)
include hu

theorem State.updRun_running : (u.updRun f).port.running = some (f r) := by
  rw [State.updRun_port, hu]
  rfl

/-- A command that reads with its engine STOPPED ends with DMA_ERROR. -/
theorem State.reads_of_stopped (addr len : Nat) (h : u.reg .CMP_DMA_STATUS_STATE k = 2) :
    ((u.updRun f).dmaRead k addr len).resultCode = some 0x17 ∧ ((u.updRun f).dmaRead k addr len).frame = u.frame := by
  rw [State.dmaRead_of_stopped (s := u.updRun f) h]
  exact ⟨State.resultCode_ended (State.updRun_running hu) _ _, by simp⟩

/-- Otherwise it waits for its reads with what it was given. -/
theorem State.reads_wait (addr len : Nat) (h : u.reg .CMP_DMA_STATUS_STATE k ≠ 2) (hf : (f r).result = none) :
    ((u.updRun f).dmaRead k addr len).resultCode = none ∧ ((u.updRun f).dmaRead k addr len).waitsFor = some .dma ∧
      ((u.updRun f).dmaRead k addr len).port.running.bind (·.image) = (f r).image ∧
      ((u.updRun f).dmaRead k addr len).port.running.bind (·.blob) = (f r).blob ∧
      ((u.updRun f).dmaRead k addr len).reg .CMP_DMA_STATUS_STATE k = 1 ∧ ((u.updRun f).dmaRead k addr len).frame = u.frame := by
  obtain ⟨hcode, hwait, himage, hblob, hengine, hframe⟩ := State.dmaRead_waits (s := u.updRun f) h (State.updRun_running hu) hf addr len
  exact ⟨hcode, hwait, himage, hblob, hengine, hframe.trans (by simp)⟩

end

/-! ### AMEND_LOAD (R119) -/

theorem amendLoad_misaligned (s : State) (k token : Nat) (im : Image) (h : s.accepts k 0x12 = true) (ha : arg64 (s.argWords k) 0 % 16 ≠ 0) :
    exec (.amendLoad k token im) s = .next ((s.accepted k token 0x12).ended 0x02) := by
  rw [exec_amendLoad token im h, State.amendLoad, if_pos (by simpa using ha)]

section
variable {s : State} {k token : Nat} (im : Image) (h : s.accepts k 0x12 = true) (ha : arg64 (s.argWords k) 0 % 16 = 0)
include h ha

theorem amendLoad_tooLong (hlen : 20 * 2 ^ 20 < nth (s.argWords k) 2) :
    exec (.amendLoad k token im) s = .next ((s.accepted k token 0x12).ended 0x16) := by
  rw [exec_amendLoad token im h, State.amendLoad, if_neg (by simpa using ha), if_pos hlen]

theorem exec_amendLoad_reads (hlen : nth (s.argWords k) 2 ≤ 20 * 2 ^ 20) : exec (.amendLoad k token im) s =
    .next (((s.accepted k token 0x12).updRun fun r => { r with image := some im }).dmaRead k (arg64 (s.argWords k) 0) (nth (s.argWords k) 2)) := by
  rw [exec_amendLoad token im h, State.amendLoad, if_neg (by simpa using ha), if_neg (Nat.not_lt.2 hlen)]

end

/-! ### FORME_WRITE and FORME_SELECT (R92, R93) -/

section
variable {s : State} {k token : Nat} (im : Image) (h : s.accepts k 0x13 = true)
include h

theorem formeWrite_running (hb : (nth (s.argWords k) 3 == 1) = s.boot.runB) :
    exec (.formeWrite k token im) s = .next ((s.accepted k token 0x13).ended 0x06) := by
  rw [exec_formeWrite token im h, State.formeWrite]
  simp only [State.accepted_boot, hb, beq_self_eq_true, if_true]

variable (hb : (nth (s.argWords k) 3 == 1) ≠ s.boot.runB)
include hb

theorem formeWrite_tooLong (hlen : 40 * 2 ^ 20 < nth (s.argWords k) 2) :
    exec (.formeWrite k token im) s = .next ((s.accepted k token 0x13).ended 0x16) := by
  rw [exec_formeWrite token im h, State.formeWrite]
  simp only [State.accepted_boot, beq_eq_false_iff_ne.2 hb, Bool.false_eq_true, if_false, hlen, if_true]

theorem formeWrite_stopped (hlen : nth (s.argWords k) 2 ≤ 40 * 2 ^ 20) (hdma : s.reg .CMP_DMA_STATUS_STATE k = 2) :
    exec (.formeWrite k token im) s = .next ((s.accepted k token 0x13).ended 0x17) := by
  rw [exec_formeWrite token im h, State.formeWrite]
  simp only [State.accepted_boot, beq_eq_false_iff_ne.2 hb, Bool.false_eq_true, if_false, Nat.not_lt.2 hlen, State.accepted_engine, hdma,
    beq_self_eq_true, if_true]

theorem exec_formeWrite_reads (hlen : nth (s.argWords k) 2 ≤ 40 * 2 ^ 20) (hdma : s.reg .CMP_DMA_STATUS_STATE k ≠ 2) : exec (.formeWrite k token im) s =
    .next (((s.accepted k token 0x13).updRun fun r => { r with image := some im }).dmaRead k (arg64 (s.argWords k) 0) (nth (s.argWords k) 2)) := by
  rw [exec_formeWrite token im h, State.formeWrite]
  simp only [State.accepted_boot, beq_eq_false_iff_ne.2 hb, Bool.false_eq_true, if_false, Nat.not_lt.2 hlen, State.accepted_engine,
    beq_eq_false_iff_ne.2 hdma]

end

theorem State.accepted_bank (s : State) (k token op : Nat) (b : Bool) : (s.accepted k token op).bank b = s.bank b := by
  rw [State.bank, State.bank, State.accepted_flash]

theorem formeSelect_prefers (s : State) (k token : Nat) (h : s.accepts k 0x14 = true)
    (hb : (s.bank (nth (s.argWords k) 0 == 1)).state = .trial ∨ (s.bank (nth (s.argWords k) 0 == 1)).state = .confirmed) :
    ∃ t, exec (.formeSelect k token) s = .next t ∧ t.flash = { s.flash with prefB := nth (s.argWords k) 0 == 1 } ∧
      t.reg .CMP_FORME_STATUS_PREF 0 = flag (nth (s.argWords k) 0 == 1) ∧ t.resultCode = some 0 ∧ t.part = s.part ∧ t.pool.mem = s.pool.mem := by
  have hexec := exec_formeSelect token h
  have hrun := s.accepted_port k token 0x14
  have hflash := s.accepted_flash k token 0x14
  have hframe := s.accepted_frame k token 0x14
  have hbank := s.accepted_bank k token 0x14 (nth (s.argWords k) 0 == 1)
  generalize s.accepted k token 0x14 = u at hexec hrun hflash hframe hbank
  have hselect : u.formeSelect (s.argWords k) = (({ u with flash := { u.flash with prefB := nth (s.argWords k) 0 == 1 } }).setReg
      .CMP_FORME_STATUS_PREF 0 (flag (nth (s.argWords k) 0 == 1))).ended 0 := by
    unfold State.formeSelect
    dsimp only
    rw [hbank]
    rcases hb with hb | hb <;> rw [hb]
  refine ⟨_, hexec, ?_⟩
  rw [hselect]
  refine ⟨by rw [← hflash]; rfl, ?_, State.resultCode_ended hrun _ _, congrArg Frame.part hframe, congrArg Frame.mem hframe⟩
  refine (State.reg_setReg_self _ _ _ _).trans ?_
  cases (nth (s.argWords k) 0 == 1) <;> rfl

theorem formeSelect_refuses (s : State) (k token : Nat) (h : s.accepts k 0x14 = true)
    (hb : (s.bank (nth (s.argWords k) 0 == 1)).state = .empty ∨ (s.bank (nth (s.argWords k) 0 == 1)).state = .bad) :
    exec (.formeSelect k token) s = .next ((s.accepted k token 0x14).ended 0x02) := by
  rw [exec_formeSelect token h]
  unfold State.formeSelect
  dsimp only
  rw [State.accepted_bank]
  rcases hb with hb | hb <;> rw [hb]

/-! ### What the port shows while an accepted command reads, or when it cannot -/

/-- An accepted command that is to read ends with DMA_ERROR. -/
theorem accepted_reads_of_stopped (s : State) (k token op : Nat) (f : Running → Running) (addr len : Nat) (hdma : s.reg .CMP_DMA_STATUS_STATE k = 2) :
    (((s.accepted k token op).updRun f).dmaRead k addr len).resultCode = some 0x17 ∧
      (((s.accepted k token op).updRun f).dmaRead k addr len).frame = s.frame := by
  obtain ⟨hcode, hframe⟩ := State.reads_of_stopped (f := f) (s.accepted_port k token op) addr len ((s.accepted_engine k token op k).trans hdma)
  exact ⟨hcode, hframe.trans (s.accepted_frame k token op)⟩

/-- An accepted command that reads an image waits with it. -/
theorem accepted_reads_image (s : State) (k token op : Nat) (im : Image) (addr len : Nat) (hdma : s.reg .CMP_DMA_STATUS_STATE k ≠ 2) :
    let t := ((s.accepted k token op).updRun fun r => { r with image := some im }).dmaRead k addr len
    t.resultCode = none ∧ t.waitsFor = some .dma ∧ t.port.running.bind (·.image) = some im ∧ t.reg .CMP_DMA_STATUS_STATE k = 1 ∧ t.frame = s.frame := by
  obtain ⟨hcode, hwait, himage, -, hengine, hframe⟩ := State.reads_wait (f := fun r => { r with image := some im }) (s.accepted_port k token op) addr len
    (fun h => hdma ((s.accepted_engine k token op k).symm.trans h)) rfl
  exact ⟨hcode, hwait, himage, hengine, hframe.trans (s.accepted_frame k token op)⟩

/-- An accepted command that reads a blob waits with it. -/
theorem accepted_reads_blob (s : State) (k token op : Nat) (b : KeyBlob) (addr len : Nat) (hdma : s.reg .CMP_DMA_STATUS_STATE k ≠ 2) :
    let t := ((s.accepted k token op).updRun fun r => { r with blob := some b }).dmaRead k addr len
    t.resultCode = none ∧ t.waitsFor = some .dma ∧ t.port.running.bind (·.blob) = some b ∧ t.reg .CMP_DMA_STATUS_STATE k = 1 ∧ t.frame = s.frame := by
  obtain ⟨hcode, hwait, -, hblob, hengine, hframe⟩ := State.reads_wait (f := fun r => { r with blob := some b }) (s.accepted_port k token op) addr len
    (fun h => hdma ((s.accepted_engine k token op k).symm.trans h)) rfl
  exact ⟨hcode, hwait, hblob, hengine, hframe.trans (s.accepted_frame k token op)⟩

/-- Settles O34: what an accepted command finds (`AcceptsOnly.accepted`), its reads (`dmaRead_waits`), and what the command shows at its end
(`commandDone_spec`), for each of the three commands that read. -/
theorem imagesAreReadByDma : Obligations.ImagesAreReadByDma := by
  unfold Obligations.ImagesAreReadByDma
  refine ⟨amendLoad_misaligned, fun s k token im h ha hlen => amendLoad_tooLong im h ha hlen, ?amendStopped, ?amendReads,
    fun s k token im h hb => formeWrite_running im h hb, fun s k token im h hb hlen => formeWrite_tooLong im h hb hlen,
    fun s k token im h hb hlen hdma => formeWrite_stopped im h hb hlen hdma, ?formeReads, formeSelect_prefers, formeSelect_refuses,
    ?importStopped, ?importReads, ?amendDone, ?formeDone, ?importDone⟩
  case amendStopped =>
    intro s k token im h ha hlen hdma
    exact ⟨_, exec_amendLoad_reads im h ha hlen, accepted_reads_of_stopped s k token _ _ _ _ hdma⟩
  case amendReads =>
    intro s k token im h ha hlen hdma
    exact ⟨_, exec_amendLoad_reads im h ha hlen, accepted_reads_image s k token _ im _ _ hdma⟩
  case formeReads =>
    intro s k token im h hb hlen hdma
    exact ⟨_, exec_formeWrite_reads im h hb hlen hdma, accepted_reads_image s k token _ im _ _ hdma⟩
  case importStopped =>
    intro s k token b h hdma
    exact ⟨_, exec_keyImport token b h, accepted_reads_of_stopped s k token _ _ _ _ hdma⟩
  case importReads =>
    intro s k token b h hdma
    exact ⟨_, exec_keyImport token b h, accepted_reads_blob s k token _ b _ _ hdma⟩
  case amendDone =>
    intro s r im hr hw hres hd _ hop him hlock
    obtain ⟨t, hexec, hstate, hresult, hrefused, hstaged, hrun, hframe⟩ := commandDone_amendLoad s r im hr hw hres hd hop him hlock
    refine ⟨t, hexec, hstate, hresult, fun h => ?_, hstaged, hrun, hframe⟩
    simpa [State.stagedView] using hrefused h
  case formeDone =>
    intro s r im hr hw hres hd _ hop him
    exact commandDone_formeWrite s r im hr hw hres hd hop him
  case importDone =>
    intro s r b i hr hw hres hd _ hop him hb _ hi hpolicy hempty hfactory hrng hmagic hversion hreserved himprint
    exact commandDone_keyImport s r b i hr hw hres hd hop him hb hi hpolicy hempty hfactory hrng hmagic hversion hreserved himprint

end Sys2Proof.Machine
end

section
/-! The statements on islands that lose power or clock, and on their isolation (R66 to R68, R117, R427, R429). -/

namespace Sys2Proof.Machine

theorem exec_islandIsolated (n : Nat) (s : State) : exec (.islandIsolated n) s = .next ((s.started.isolate n).serveRegs n) := rfl

theorem exec_clkUnlock (n : Nat) (s : State) : exec (.clkUnlock n) s = .next (s.started.clkLoss n) := rfl

/-- Quad 0, lost, with its isolation in progress and a commit running: it holds an outstanding read of another switch, whose answer can leave by
fabric port 0, which the quad itself serves. -/
def lostQuadOwesFabric : State :=
  { quadOwesFabric with com := { quadOwesFabric.com with cur := some { origin := .command, mask := 0, tc := 0 } }, isl := { isolating := [(32, 0)] } }.setReg
    .SUP_ISL_STATUS_STATE 32 5

/-- The island is flushed before the requests that it owes are answered, as at a forced fence (`quadOwesFabric_crossing`): the answer to a fabric
origin is queued in the quad that has just been flushed. -/
theorem lostQuadOwesFabric_inside :
    ((lostQuadOwesFabric.started.isolate 32).serveRegs 32).tr.pkts.all (fun k => !inIsland 32 k) = false := by
  decide +kernel

/-- Refutes O24: its first clause leaves no packet in the lost island (R67, R68), but the answer to a request of another switch that a lost quad
held is itself queued in that quad: after ISLAND_ISOLATED of island 32 in `lostQuadOwesFabric` a completion stands there. -/
theorem not_lostIslandsAreIsolated : ¬ Obligations.LostIslandsAreIsolated := by
  unfold Obligations.LostIslandsAreIsolated
  rintro ⟨hisolated, -⟩
  obtain ⟨t, ht, -, -, hgone, -⟩ := hisolated lostQuadOwesFabric 32 rfl (State.reg_setReg_self _ _ _ _) rfl rfl (Option.some_ne_none _)
  rw [exec_islandIsolated] at ht
  have hnext := Host.Outcome.next.inj ht
  have hempty : t.tr.pkts.all (fun k => !inIsland 32 k) = true := List.all_eq_true.2 fun k hk => by rw [(hgone k hk).1, Bool.not_false]
  rw [← hnext, lostQuadOwesFabric_inside] at hempty
  contradiction

/-- A running command with the opcode of FORME_WRITE that waits, as ISL_UNFENCE does, for the management core's resynchronisation. The statement
leaves a command's wait free. -/
def writeWaitsForResync : Running := { host := 0, opcode := 0x13, token := 0, args := [], since := 0, wait := .unfence 52 }

/-- The management core running with that command. -/
def coreWaitsForResync : State :=
  ({ port := { running := some writeWaitsForResync } } : State).setRegs [(.SUP_ISL_STATUS_STATE, 52, 2), (.SUP_ISL_STATUS_CLK_LOCK, 52, 1)]

/-- The loss of an island ends what waits for its resynchronisation with a result (R70), and a command with a result writes no bank any more. -/
theorem coreWaitsForResync_bank : ((coreWaitsForResync.started.clkLoss 52).bank false).state = .empty := by
  decide +kernel

/-- Refutes O23: its clause on FORME_WRITE lets the command wait for anything. In `coreWaitsForResync` it waits for the resynchronisation of
island 52 itself, so that the loss of that island gives it its result first (REFUSED_IN_USE) and the bank is not marked BAD. -/
theorem not_islandsLosePowerOrClock : ¬ Obligations.IslandsLosePowerOrClock := by
  unfold Obligations.IslandsLosePowerOrClock
  rintro ⟨-, -, -, hwrite, -⟩
  obtain ⟨t, ht, -, hbad, -⟩ := hwrite coreWaitsForResync writeWaitsForResync false (by decide) (by decide) rfl rfl rfl rfl rfl
  rw [exec_clkUnlock] at ht
  have hnext := Host.Outcome.next.inj ht
  rw [← hnext, coreWaitsForResync_bank] at hbad
  contradiction

end Sys2Proof.Machine
end

section
/-! SUPPORT. The registers of a list of fields as a view of the state, an island that enters a state, and the registers that a wipe keeps. -/

namespace Sys2Proof.Machine

/-- A command's effect begins in the state without outputs. -/
theorem run_started (f : State → State) (s : State) : run f s = .next (f s.started) := rfl

/-! ### Fields that a step leaves -/

/-- What the fields of `p` show. -/
def State.shows (s : State) (p : Fld → Bool) : Fld → Nat → Nat := fun f i => if p f then s.reg f i else 0

theorem State.reg_of_shows {s t : State} {p : Fld → Bool} (h : t.shows p = s.shows p) {f : Fld} (hf : p f = true) (i : Nat) : t.reg f i = s.reg f i := by
  simpa [State.shows, hf] using congrFun (congrFun h f) i

theorem State.shows_of_regs {s t : State} (h : t.regs = s.regs) (p : Fld → Bool) : t.shows p = s.shows p := by
  funext f i
  rw [State.shows, State.shows, State.reg, State.reg, h]

@[simp] theorem State.setReg_shows (s : State) {p : Fld → Bool} {f : Fld} (i v : Nat) (hf : p f = false) : (s.setReg f i v).shows p = s.shows p := by
  funext g j
  by_cases hg : p g = true
  · simp only [State.shows, hg, if_true]
    exact s.reg_setReg_ne v fun h => by rw [h.1, hf] at hg; contradiction
  · simp [State.shows, hg]

theorem State.setRegs_shows {p : Fld → Bool} : ∀ (l : List (Fld × Nat × Nat)) (s : State), (∀ e ∈ l, p e.1 = false) → (s.setRegs l).shows p = s.shows p
  | [], _, _ => rfl
  | e :: l, s, h => (State.setRegs_shows l _ fun d hd => h d (List.mem_cons_of_mem _ hd)).trans (s.setReg_shows _ _ (h e (by simp)))

/-! ### An island enters a state -/

/-- `t` is `s` but for the states of islands and what is metered. -/
def EntersOnly (s t : State) : Prop := ∃ rg m, t = { s with regs := rg, met := m } ∧ ∀ f i, f ≠ .SUP_ISL_STATUS_STATE → t.reg f i = s.reg f i

theorem EntersOnly.refl (s : State) : EntersOnly s s := ⟨_, _, rfl, fun _ _ _ => rfl⟩

theorem EntersOnly.trans {s t u : State} : EntersOnly s t → EntersOnly t u → EntersOnly s u := by
  rintro ⟨_, _, rfl, hst⟩ ⟨rg, m, rfl, htu⟩
  exact ⟨rg, m, rfl, fun f i hf => (htu f i hf).trans (hst f i hf)⟩

theorem EntersOnly.foldl {α : Type} {g : State → α → State} (h : ∀ s e, EntersOnly s (g s e)) : ∀ (l : List α) (s : State), EntersOnly s (l.foldl g s)
  | [], s => .refl s
  | e :: l, s => (h s e).trans (EntersOnly.foldl h l (g s e))

/-- An island enters a state: its register shows it, and running counters are kept (R49, R623). -/
theorem State.setIsl_eq (s : State) (n st : Nat) : ∃ m, s.setIsl n st = ({ s with met := m } : State).setReg .SUP_ISL_STATUS_STATE n st := by
  obtain ⟨m, hm⟩ := MetersOnly.foldl MetersOnly.keepSnap (s.met.snapSet.filter fun i => ctrIsland i == n) s
  exact ⟨m, by rw [State.setIsl, State.keepSnaps, hm]⟩

theorem State.setIsl_reg (s : State) (n st : Nat) (f : Fld) (i : Nat) :
    (s.setIsl n st).reg f i = if f = .SUP_ISL_STATUS_STATE ∧ i = n then st % 8 else s.reg f i := by
  obtain ⟨m, hm⟩ := s.setIsl_eq n st
  rw [hm, State.reg_setReg]
  split
  · rename_i h
    rw [show Fld.SUP_ISL_STATUS_STATE.width = 3 from rfl]
    rfl
  · rfl

@[simp] theorem State.setIsl_islState (s : State) (n st : Nat) : (s.setIsl n st).islState n = st % 8 := by simp [State.islState, State.setIsl_reg]

theorem State.setIsl_reg_ne (s : State) (n st : Nat) {f : Fld} (i : Nat) (hf : f ≠ .SUP_ISL_STATUS_STATE) : (s.setIsl n st).reg f i = s.reg f i := by
  simp [State.setIsl_reg, hf]

theorem EntersOnly.setIsl (s : State) (n st : Nat) : EntersOnly s (s.setIsl n st) := by
  obtain ⟨m, hm⟩ := s.setIsl_eq n st
  exact ⟨_, m, hm, fun f i hf => s.setIsl_reg_ne n st i hf⟩

@[simp] theorem State.setIsl_isl (s : State) (n st : Nat) : (s.setIsl n st).isl = s.isl := by
  obtain ⟨m, hm⟩ := s.setIsl_eq n st
  rw [hm]
  rfl

@[simp] theorem State.setIsl_boot (s : State) (n st : Nat) : (s.setIsl n st).boot = s.boot := by
  obtain ⟨m, hm⟩ := s.setIsl_eq n st
  rw [hm]
  rfl

@[simp] theorem State.setIsl_com (s : State) (n st : Nat) : (s.setIsl n st).com = s.com := by
  obtain ⟨m, hm⟩ := s.setIsl_eq n st
  rw [hm]
  rfl

@[simp] theorem State.setIsl_port (s : State) (n st : Nat) : (s.setIsl n st).port = s.port := by
  obtain ⟨m, hm⟩ := s.setIsl_eq n st
  rw [hm]
  rfl

@[simp] theorem State.setIsl_flt (s : State) (n st : Nat) : (s.setIsl n st).flt = s.flt := by
  obtain ⟨m, hm⟩ := s.setIsl_eq n st
  rw [hm]
  rfl

@[simp] theorem State.setIsl_tr (s : State) (n st : Nat) : (s.setIsl n st).tr = s.tr := by
  obtain ⟨m, hm⟩ := s.setIsl_eq n st
  rw [hm]
  rfl

/-! ### Bring-up (R131, R142) -/

theorem State.booting_iff (s : State) (p : Nat) : s.booting p = true ↔ s.boot.stage = .none ∧ s.boot.pwrok = true ∧ s.phase = p ∧ s.stalled = false := by
  simp [State.booting, and_assoc]

theorem State.phase_of_booting {s : State} {p : Nat} (h : s.booting p = true) : s.phase = p := ((s.booting_iff p).1 h).2.2.1

theorem State.stalled_of_booting {s : State} {p : Nat} (h : s.booting p = true) : s.stalled = false := ((s.booting_iff p).1 h).2.2.2

/-! ### A wipe (R15, R141, R161, R164) -/

theorem State.wipe_reg (s : State) {keep : Fld → Bool} {f : Fld} (hf : keep f = true) (i : Nat) : (s.wipe keep).reg f i = s.reg f i := by
  unfold State.reg rget State.wipe
  rw [sparse_get?_filter (fun r : RegKey => keep r.fld) hf]

end Sys2Proof.Machine
end

section
/-! The statement on failures of bring-up (R37, R89, R132, R133, R138 to R142), clause by clause. -/

namespace Sys2Proof.Machine

/-! ### The switch die is powered down (R37, R38, R141) -/

theorem State.domsOff_of_on {s t : State} (h : ∀ d, t.reg .SUP_DOM_STATUS_ON d = s.reg .SUP_DOM_STATUS_ON d) (isls : List Nat) : t.domsOff isls = s.domsOff isls := by
  simp only [State.domsOff, State.on, h]

/-- Every domain that is on is queued to go off; registers other than islands' states stay. -/
theorem State.powerDown_eq (s : State) : ∃ u, EntersOnly s u ∧ s.powerDown = u.updIsl fun i => { i with switchQ := s.domsOff switched } := by
  refine ⟨_, EntersOnly.foldl (fun s i => ?_) switched s, rfl⟩
  split
  · exact .refl s
  · exact .setIsl s i 0

/-- What is left as an attempt ends: the wiped switch die, its domains queued to go off. -/
def State.attemptOver (s : State) : State := (s.wipe keptAttempt).powerDown

/-- The fields that the supervisor itself keeps from one attempt to the next, but for the states of islands. -/
theorem State.attemptOver_reg (s : State) {f : Fld} (i : Nat) (hkept : keptAttempt f = true) (hf : f ≠ .SUP_ISL_STATUS_STATE) :
    s.attemptOver.reg f i = s.reg f i := by
  obtain ⟨u, ⟨_, _, -, hregs⟩, h⟩ := (s.wipe keptAttempt).powerDown_eq
  rw [State.attemptOver, h]
  exact (hregs f i hf).trans (s.wipe_reg hkept i)

theorem State.attemptOver_eq (s : State) :
    s.attemptOver.isl.switchQ = s.domsOff switched ∧ s.attemptOver.pool.mem = [] ∧ s.attemptOver.flash = s.flash ∧ s.attemptOver.part = s.part ∧
      s.attemptOver.now = s.now ∧ s.attemptOver.pending = s.pending := by
  obtain ⟨u, ⟨_, _, hu, -⟩, h⟩ := (s.wipe keptAttempt).powerDown_eq
  have hon : (s.wipe keptAttempt).domsOff switched = s.domsOff switched := State.domsOff_of_on (fun d => s.wipe_reg rfl d) _
  rw [State.attemptOver, h, hu, hon]
  exact ⟨rfl, rfl, rfl, rfl, rfl, rfl⟩

/-! ### An attempt fails (R89, R141, R142) -/

theorem State.lastError_reg (s : State) (code detail : Nat) :
    (s.lastError code detail).reg .SUP_COL_LAST_ERROR_CODE 0 = code % 2 ^ 16 ∧ (s.lastError code detail).reg .SUP_COL_LAST_ERROR_DETAIL 0 = detail % 2 ^ 8 ∧
      (s.lastError code detail).reg .SUP_COL_LAST_ERROR_PHASE 0 = s.phase % 8 := by
  refine ⟨?_, ?_, ?_⟩ <;> simp [State.lastError, State.setRegs_cons, State.reg_setReg] <;> rfl

theorem State.lastError_reg_ne (s : State) (code detail : Nat) {f : Fld} (i : Nat)
    (hf : [Fld.SUP_COL_LAST_ERROR_CODE, .SUP_COL_LAST_ERROR_DETAIL, .SUP_COL_LAST_ERROR_PHASE].contains f = false) :
    (s.lastError code detail).reg f i = s.reg f i := by
  refine State.reg_setRegs_notin _ s f i fun e he h => ?_
  simp only [List.mem_cons, List.not_mem_nil, or_false] at he
  rcases he with rfl | rfl | rfl <;> simp [h.1] at hf

/-- A TRIAL bank that ran is BAD (R89). -/
def State.trialOver (s : State) : State :=
  if s.boot.running.isSome && decide ((s.bank s.boot.runB).state = .trial) then s.markBank s.boot.runB .bad else s

theorem State.trialOver_eq (s : State) : ∃ fl, s.trialOver = { s with flash := fl } ∧ (s.boot.running = none → fl = s.flash) := by
  unfold State.trialOver
  split
  · rename_i h
    exact ⟨_, rfl, fun hr => by simp [hr] at h⟩
  · exact ⟨_, rfl, fun _ => rfl⟩

/-- The state in which an attempt ends with an error, before the next one starts or the switch stalls. -/
def State.failed (s : State) (code detail : Nat) : State := (s.lastError code detail).trialOver.attemptOver

theorem State.failBringup_eq (s : State) (code detail : Nat) :
    s.failBringup code detail =
      if s.phase ≤ 2 || 3 ≤ s.reg .SUP_COL_PHASE_ATTEMPT 0 then
        let u := (s.failed code detail).setReg .SUP_COL_PHASE_STALLED 0 1
        if u.link.perstLow.contains 0 then u else u.updLink fun l => { l with training := [u.recovPort] }
      else (s.failed code detail).beginP1 (s.reg .SUP_COL_PHASE_ATTEMPT 0 + 1) := by
  unfold State.failBringup State.failed State.attemptOver State.trialOver
  rfl

/-- What an attempt that ends leaves, whatever follows. -/
structure AttemptEnds (code detail : Nat) (s t : State) : Prop where
  code : t.reg .SUP_COL_LAST_ERROR_CODE 0 = code % 2 ^ 16
  detail : t.reg .SUP_COL_LAST_ERROR_DETAIL 0 = detail % 2 ^ 8
  phase : t.reg .SUP_COL_LAST_ERROR_PHASE 0 = s.phase % 8
  switchQ : t.isl.switchQ = s.domsOff switched
  mem : t.pool.mem = []
  flash : s.boot.running = none → t.flash = s.flash
  part : t.part = s.part
  now : t.now = s.now
  pending : t.pending = s.pending

theorem State.failed_ends (s : State) (code detail : Nat) : AttemptEnds code detail s (s.failed code detail) := by
  obtain ⟨hcode, hdetail, hphase⟩ := s.lastError_reg code detail
  obtain ⟨fl, hfl, hflash⟩ := (s.lastError code detail).trialOver_eq
  obtain ⟨hq, hmem, hstays, hpart, hnow, hpending⟩ := (s.lastError code detail).trialOver.attemptOver_eq
  have hreg : ∀ {f : Fld} (i : Nat), keptAttempt f = true → f ≠ .SUP_ISL_STATUS_STATE →
      (s.failed code detail).reg f i = (s.lastError code detail).reg f i := fun i hkept hf => by
    rw [State.failed, State.attemptOver_reg _ i hkept hf, hfl]
    rfl
  have hon : (s.lastError code detail).trialOver.domsOff switched = s.domsOff switched := State.domsOff_of_on (fun d => by
    rw [hfl]
    exact s.lastError_reg_ne code detail d rfl) _
  rw [hfl] at hstays hpart hnow hpending
  exact {
    code := (hreg 0 rfl (by decide)).trans hcode
    detail := (hreg 0 rfl (by decide)).trans hdetail
    phase := (hreg 0 rfl (by decide)).trans hphase
    switchQ := hq.trans hon
    mem := hmem
    flash := fun hr => (show (s.failed code detail).flash = fl by rw [State.failed, hfl, hstays]).trans (hflash hr)
    part := by rw [State.failed, hfl, hpart]; rfl
    now := by rw [State.failed, hfl, hnow]; rfl
    pending := by rw [State.failed, hfl, hpending]; rfl }

/-- Registers of bring-up's phase alone change as the next attempt starts, or the switch stalls. -/
theorem AttemptEnds.setRegs {code detail : Nat} {s t : State} (h : AttemptEnds code detail s t) (l : List (Fld × Nat × Nat))
    (hl : ∀ e ∈ l, [Fld.SUP_COL_LAST_ERROR_CODE, .SUP_COL_LAST_ERROR_DETAIL, .SUP_COL_LAST_ERROR_PHASE].contains e.1 = false) :
    AttemptEnds code detail s (t.setRegs l) := by
  have hshows := State.setRegs_shows l t hl
  have hrest := fun {α : Type} (v : State → α) (hv : ∀ s f i x, v (State.setReg s f i x) = v s) =>
    foldl_keeps v (g := fun s (e : Fld × Nat × Nat) => s.setReg e.1 e.2.1 e.2.2) (fun s e => hv s _ _ _) l t
  exact {
    code := (State.reg_of_shows hshows rfl 0).trans h.code
    detail := (State.reg_of_shows hshows rfl 0).trans h.detail
    phase := (State.reg_of_shows hshows rfl 0).trans h.phase
    switchQ := (congrArg Islands.switchQ (hrest State.isl fun _ _ _ _ => rfl)).trans h.switchQ
    mem := (congrArg Pool.mem (hrest State.pool fun _ _ _ _ => rfl)).trans h.mem
    flash := fun hr => (hrest State.flash fun _ _ _ _ => rfl).trans (h.flash hr)
    part := (hrest State.part fun _ _ _ _ => rfl).trans h.part
    now := (hrest State.now fun _ _ _ _ => rfl).trans h.now
    pending := (hrest State.pending fun _ _ _ _ => rfl).trans h.pending }

theorem AttemptEnds.updBoot {code detail : Nat} {s t : State} (h : AttemptEnds code detail s t) (f : Boot → Boot) : AttemptEnds code detail s (t.updBoot f) :=
  { h with }

theorem AttemptEnds.updLink {code detail : Nat} {s t : State} (h : AttemptEnds code detail s t) (f : Links → Links) : AttemptEnds code detail s (t.updLink f) :=
  { h with }

theorem AttemptEnds.beginP1 {code detail : Nat} {s t : State} (h : AttemptEnds code detail s t) (n : Nat) : AttemptEnds code detail s (t.beginP1 n) := by
  unfold State.beginP1
  refine (h.setRegs _ fun e he => ?_).updBoot _
  simp only [List.mem_cons, List.not_mem_nil, or_false] at he
  rcases he with rfl | rfl | rfl | rfl | rfl <;> rfl

theorem State.beginP1_reg (s : State) {n : Nat} (hn : n < 16) :
    (s.beginP1 n).phase = 1 ∧ (s.beginP1 n).reg .SUP_COL_PHASE_ATTEMPT 0 = n ∧ (s.beginP1 n).stalled = false := by
  have hwidth : Fld.SUP_COL_PHASE_ATTEMPT.width = 4 ∧ Fld.SUP_COL_PHASE_PHASE.width = 3 := ⟨rfl, rfl⟩
  have hreg : ∀ f, (s.beginP1 n).reg f 0 = (s.setRegs [(.SUP_COL_PHASE_PHASE, 0, 1), (.SUP_COL_PHASE_STALLED, 0, 0), (.SUP_COL_PHASE_ATTEMPT, 0, n),
    (.SUP_COL_PROGRESS_CODE, 0, 0x0101), (.SUP_THERM_TRIPS, 0, min 255 s.flash.trips)]).reg f 0 := fun _ => rfl
  refine ⟨?_, ?_, ?_⟩
  · rw [State.phase, hreg]
    simp [State.setRegs_cons, State.reg_setReg, hwidth]
  · rw [hreg]
    simp [State.setRegs_cons, State.reg_setReg, hwidth, Nat.mod_eq_of_lt hn]
  · rw [State.stalled, State.on, hreg]
    simp [State.setRegs_cons, State.reg_setReg]

/-- What follows the end of an attempt: the next one, or a stall (R142). -/
theorem State.failBringup_spec (s : State) (code detail : Nat) :
    AttemptEnds code detail s (s.failBringup code detail) ∧
      (3 ≤ s.phase → s.reg .SUP_COL_PHASE_ATTEMPT 0 < 3 → (s.failBringup code detail).phase = 1 ∧
        (s.failBringup code detail).reg .SUP_COL_PHASE_ATTEMPT 0 = s.reg .SUP_COL_PHASE_ATTEMPT 0 + 1 ∧ (s.failBringup code detail).stalled = false) ∧
      (s.phase ≤ 2 ∨ 3 ≤ s.reg .SUP_COL_PHASE_ATTEMPT 0 → (s.failBringup code detail).stalled = true) := by
  have hends := s.failed_ends code detail
  rw [State.failBringup_eq]
  split
  · rename_i h
    have hno : ¬(3 ≤ s.phase ∧ s.reg .SUP_COL_PHASE_ATTEMPT 0 < 3) := by
      simp only [Bool.or_eq_true, decide_eq_true_eq] at h
      omega
    have hstall : AttemptEnds code detail s ((s.failed code detail).setReg .SUP_COL_PHASE_STALLED 0 1) :=
      hends.setRegs [(.SUP_COL_PHASE_STALLED, 0, 1)] (by simp)
    have hon : ((s.failed code detail).setReg .SUP_COL_PHASE_STALLED 0 1).stalled = true := by
      rw [State.stalled, State.on, State.reg_setReg_self]
      rfl
    dsimp only
    split
    · exact ⟨hstall, fun h3 hn => absurd ⟨h3, hn⟩ hno, fun _ => hon⟩
    · refine ⟨hstall.updLink _, fun h3 hn => absurd ⟨h3, hn⟩ hno, fun _ => ?_⟩
      rw [State.stalled, State.on, State.updLink_reg]
      exact hon
  · rename_i h
    simp only [Bool.or_eq_true, decide_eq_true_eq, not_or, not_le] at h
    obtain ⟨hphase, hn⟩ := h
    exact ⟨hends.beginP1 _, fun _ _ => State.beginP1_reg _ (by omega), fun h => by omega⟩

/-! ### A non-essential failure (R138) -/

theorem State.seedReplicas_spec (s : State) :
    s.seedReplicas.shows (fun f => f != .SUP_COL_PROGRESS_CODE) = s.shows (fun f => f != .SUP_COL_PROGRESS_CODE) ∧ s.seedReplicas.isl = s.isl ∧
      s.seedReplicas.boot.degraded = s.boot.degraded ∧ s.seedReplicas.frame = s.frame := by
  unfold State.seedReplicas State.progress
  split
  · split
    · exact ⟨State.setReg_shows _ _ _ rfl, rfl, rfl, rfl⟩
    · exact ⟨rfl, rfl, rfl, rfl⟩
  · exact ⟨rfl, rfl, rfl, rfl⟩

theorem State.bootFence_spec (s : State) (n code detail : Nat) :
    let t := s.bootFence n code detail
    t.islState n = 4 ∧ t.phase = s.phase ∧ t.stalled = s.stalled ∧ t.reg .SUP_ISL_STATUS_CLK_LOCK n = 0 ∧ t.isl.bootFenced.contains n = true ∧
      t.boot.degraded = s.boot.degraded ++ [(code, detail)] ∧ t.reg .SUP_COL_LAST_ERROR_CODE 0 = code % 2 ^ 16 ∧
      t.reg .SUP_COL_LAST_ERROR_DETAIL 0 = detail % 2 ^ 8 ∧ t.reg .SUP_COL_LAST_ERROR_PHASE 0 = s.phase % 8 ∧ t.frame = s.frame := by
  let u := (s.lastError code detail).failOff n ((islDomains n).filter fun d => !(s.lastError code detail).on .SUP_DOM_STATUS_PGOOD d)
  let v := ((u.setIsl n 4).setReg .SUP_ISL_STATUS_CLK_LOCK n 0).updIsl fun i => { i with bootFenced := addTo n i.bootFenced, stale := addTo n i.stale }
  let w := v.updBoot fun b => { b with degraded := b.degraded ++ [(code, detail)] }
  have hfence : s.bootFence n code detail = w.seedReplicas := rfl
  obtain ⟨hshows, hisl, hdegraded, hframe⟩ := w.seedReplicas_spec
  obtain ⟨hcode, hdetail, hphase⟩ := s.lastError_reg code detail
  have hw : ∀ (f : Fld) (i : Nat), w.reg f i = ((u.setIsl n 4).setReg .SUP_ISL_STATUS_CLK_LOCK n 0).reg f i := fun _ _ => rfl
  have hkept : ∀ {f : Fld} (i : Nat), [Fld.SUP_COL_PROGRESS_CODE, .SUP_ISL_STATUS_CLK_LOCK, .SUP_ISL_STATUS_STATE].contains f = false →
      w.seedReplicas.reg f i = (s.lastError code detail).reg f i := fun {f} i hf => by
    simp only [List.contains_eq_mem, List.mem_cons, List.not_mem_nil, or_false, not_or, decide_eq_false_iff_not] at hf
    obtain ⟨hprogress, hlock, hstate⟩ := hf
    rw [State.reg_of_shows hshows (by simpa using hprogress), hw, State.reg_setReg_ne _ _ (fun h => hlock h.1), State.setIsl_reg_ne _ _ _ _ hstate]
    rfl
  dsimp only
  rw [hfence]
  refine ⟨?_, ?_, ?_, ?_, ?_, ?_, (hkept 0 rfl).trans hcode, (hkept 0 rfl).trans hdetail, (hkept 0 rfl).trans hphase, ?_⟩
  · rw [State.islState, State.reg_of_shows hshows rfl, hw, State.reg_setReg_ne _ _ (fun h => by cases h.1), ← State.islState, State.setIsl_islState]
  · rw [State.phase, hkept 0 rfl, State.lastError_reg_ne _ _ _ _ rfl, ← State.phase]
  · rw [State.stalled, State.on, hkept 0 rfl, State.lastError_reg_ne _ _ _ _ rfl, ← State.on, ← State.stalled]
  · rw [State.reg_of_shows hshows rfl, hw, State.reg_setReg_self, Nat.zero_mod]
  · rw [hisl]
    change (addTo n (u.setIsl n 4).isl.bootFenced).contains n = true
    unfold addTo
    split
    · assumption
    · simp
  · rw [hdegraded]
    change (u.setIsl n 4).boot.degraded ++ _ = _
    rw [State.setIsl_boot]
    rfl
  · rw [← hfence]
    exact State.bootFence_frame s n code detail

/-! ### The statement -/

theorem exec_essentialFailure (code detail : Nat) (s : State) :
    exec (.essentialFailure code detail) s = .next (if s.essential code detail then s.started.failBringup code detail else s.started) := rfl

theorem exec_phaseTimeout (s : State) : exec .phaseTimeout s = execPhaseTimeout s := rfl

/-- A phase timeout is the failure of its phase, at the time limit (R132, R133). -/
theorem exec_phaseTimeout_of_booting {s : State} {p : Nat} (h1 : 1 ≤ p) (h4 : p ≤ 4) (h : s.booting p = true) :
    exec .phaseTimeout s = .next ((s.started.atNow (s.boot.attemptAt + nth [0, 100000000, 400000000, 1300000000, 1800000000] p)).failBringup 0x1F01 p) := by
  have hphase : s.started.phase = p := State.phase_of_booting h
  have hbooting : s.started.booting p = true := h
  rw [exec_phaseTimeout, execPhaseTimeout, run_started]
  simp only [hphase, hbooting, decide_eq_true h1, decide_eq_true h4, Bool.and_self, if_true]
  rfl

theorem exec_nonEssentialFailure {s : State} {code detail n : Nat} (hisl : s.nonEssentialIsl code detail = some n) (hboot : s.booting 3 = true)
    (hplan : (powerRec s.com.power n).state = 2) (hfenced : s.isl.bootFenced.contains n = false) :
    exec (.nonEssentialFailure code detail) s = .next (s.started.bootFence n code detail) := by
  have hisl' : s.started.nonEssentialIsl code detail = some n := hisl
  have hboot' : s.started.booting 3 = true := hboot
  have hplan' : (powerRec s.started.com.power n).state = 2 := hplan
  have hfenced' : s.started.isl.bootFenced.contains n = false := hfenced
  change execNonEssentialFailure code detail s = _
  rw [execNonEssentialFailure, run_started]
  simp only [hisl', hboot', hplan', hfenced']
  rfl

/-- Settles O19: both essential failures are `failBringup` (`failBringup_spec`), a non-essential one is `bootFence` (`bootFence_spec`). -/
theorem bringupFailuresEndTheAttempt : Obligations.BringupFailuresEndTheAttempt := by
  unfold Obligations.BringupFailuresEndTheAttempt
  refine ⟨?essential, ?timeout, ?nonEssential, ?other⟩
  case essential =>
    intro s code detail h
    obtain ⟨hends, hnext, hstall⟩ := s.started.failBringup_spec code detail
    refine ⟨_, by rw [exec_essentialFailure, if_pos h], hends.code, hends.detail, hends.phase, hnext, hstall, hends.switchQ, hends.mem, hends.flash,
      hends.part, hends.now, hends.pending⟩
  case timeout =>
    intro s p h1 h4 h
    have hphase : s.phase = p := State.phase_of_booting h
    obtain ⟨hends, hnext, hstall⟩ := (s.started.atNow (s.boot.attemptAt + nth [0, 100000000, 400000000, 1300000000, 1800000000] p)).failBringup_spec 0x1F01 p
    refine ⟨_, exec_phaseTimeout_of_booting h1 h4 h, hends.code, hends.detail.trans (Nat.mod_eq_of_lt (by omega)),
      hends.phase.trans ((congrArg (· % 8) hphase).trans (Nat.mod_eq_of_lt (by omega))), fun h3 => hnext (hphase ▸ h3), fun h => hstall (hphase ▸ h), hends.switchQ,
      hends.mem, hends.flash, hends.now, hends.part, hends.pending⟩
  case nonEssential =>
    intro s code detail n _ hisl hboot hplan hfenced
    have hphase3 : s.started.phase = 3 := State.phase_of_booting hboot
    obtain ⟨hstate, hphase, hstalled, hlock, hfence, hdegraded, hcode, hdetail, herr, hframe⟩ := s.started.bootFence_spec n code detail
    exact ⟨_, exec_nonEssentialFailure hisl hboot hplan hfenced, hstate, hphase.trans hphase3, hstalled.trans (State.stalled_of_booting hboot), hlock, hfence, hdegraded, hcode,
      hdetail, herr.trans (by rw [hphase3]), hframe⟩
  case other =>
    intro s code detail h
    rw [exec_essentialFailure, h, if_neg Bool.false_ne_true]
    rfl

end Sys2Proof.Machine
end

section
/-! SUPPORT. The registers that an offset from the slot-power block on can name: none of bring-up's own (R12, R668). -/

namespace Sys2Proof

/-- An offset names a register of the table that does not end below it. -/
theorem regAtIn_some {a i b : Nat} {r : RegAt} : ∀ {l : List RegAt}, regAtIn l a = some (r, i, b) → r ∈ l ∧ ∀ c, c ≤ a → r.endsBy c = false
  | q :: l, h => by
    by_cases hq : ∃ c, c ≤ a ∧ q.endsBy c = true
    · obtain ⟨c, hc, hends⟩ := hq
      rw [regAtIn_cons_of_endsBy l hends hc] at h
      obtain ⟨hmem, hrest⟩ := regAtIn_some h
      exact ⟨List.mem_cons_of_mem _ hmem, hrest⟩
    · have hnot : ∀ c, c ≤ a → q.endsBy c = false := fun c hc => Bool.eq_false_iff.2 fun he => hq ⟨c, hc, he⟩
      have hcases : r = q ∨ regAtIn l a = some (r, i, b) := by
        unfold regAtIn at h
        split at h <;> grind
      rcases hcases with rfl | h
      · exact ⟨List.mem_cons_self, hnot⟩
      · obtain ⟨hmem, hrest⟩ := regAtIn_some h
        exact ⟨List.mem_cons_of_mem _ hmem, hrest⟩

namespace Machine

/-- The fields of bring-up's phase and progress. -/
@[simp] def isPhaseFld (f : Fld) : Bool := [Fld.SUP_COL_PHASE_PHASE, .SUP_COL_PROGRESS_CODE].contains f

theorem phaseFld_below : regTable.all (fun r => r.endsBy 0xC000 || !r.fields.any fun e => isPhaseFld e.fld) = true := by decide

theorem regAt_noPhase {a i b : Nat} {r : RegAt} (ha : 0xC000 ≤ a) (h : regAt a = some (r, i, b)) : ∀ e ∈ r.fields, isPhaseFld e.fld = false := by
  obtain ⟨hmem, hends⟩ := regAtIn_some h
  have hr := List.all_eq_true.1 phaseFld_below r hmem
  rw [hends _ ha, Bool.false_or, Bool.not_eq_true', List.any_eq_false] at hr
  exact fun e he => Bool.eq_false_iff.2 (hr e he)

end Machine
end Sys2Proof
end

section
/-! SUPPORT. What the end of P3 and of P4 leave of bring-up's phase and progress (R131, R134, R149). -/

namespace Sys2Proof.Machine

/-- Bring-up as it stands: what the fields of `p` show, and its boot state but for the nonce that P3 draws. -/
def State.bringup (s : State) (p : Fld → Bool) : (Fld → Nat → Nat) × Boot := (s.shows p, { s.boot with bootNonce := 0 })

/-- The fields of bring-up's phase and progress, and the policies of the key slots. -/
@[simp] def isBringupFld (f : Fld) : Bool := [Fld.SUP_COL_PHASE_PHASE, .SUP_COL_PROGRESS_CODE, .BAL_KEY_SLOT_POLICY].contains f

section
variable {p : Fld → Bool}

theorem State.bringup_of {s t : State} (hregs : t.shows p = s.shows p) (hboot : t.boot = s.boot) : t.bringup p = s.bringup p := by
  rw [State.bringup, State.bringup, hregs, hboot]

theorem State.reg_of_bringup {s t : State} (h : t.bringup p = s.bringup p) {f : Fld} (hf : p f = true) (i : Nat) : t.reg f i = s.reg f i :=
  State.reg_of_shows (congrArg Prod.fst h) hf i

@[simp] theorem State.setReg_bringup (s : State) {f : Fld} (i v : Nat) (hf : p f = false) : (s.setReg f i v).bringup p = s.bringup p :=
  State.bringup_of (s.setReg_shows i v hf) rfl

theorem State.setRegs_bringup {l : List (Fld × Nat × Nat)} : ∀ (s : State), (∀ e ∈ l, p e.1 = false) → (s.setRegs l).bringup p = s.bringup p := by
  induction l with
  | nil => exact fun _ _ => rfl
  | cons e l ih => exact fun s h => (ih _ fun d hd => h d (List.mem_cons_of_mem _ hd)).trans (s.setReg_bringup _ _ (h e (by simp)))

@[simp] theorem ite_bringup {c : Prop} [Decidable c] (a b : State) : (if c then a else b).bringup p = if c then a.bringup p else b.bringup p :=
  apply_ite (fun s => State.bringup s p) _ _ _

theorem foldl_bringup {α : Type} {g : State → α → State} (h : ∀ s e, (g s e).bringup p = s.bringup p) (l : List α) (s : State) :
    (l.foldl g s).bringup p = s.bringup p := foldl_keeps (fun s => s.bringup p) h l s

end

/-! ### The forme's sections (R131, R453, R501, R502, R668) -/

theorem cellsAt_noPhase {a : Nat} (ha : 0xC000 ≤ a) (v : Nat) : ∀ e ∈ cellsAt a v, isPhaseFld e.1 = false := by
  unfold cellsAt
  split
  · rename_i r i h
    intro e he
    obtain ⟨f, hf, rfl⟩ := List.mem_map.1 he
    exact regAt_noPhase ha h f hf
  · exact fun e he => absurd he List.not_mem_nil

theorem shCells_noPhase (l : List (Nat × Nat)) : ∀ e ∈ shCells l, isPhaseFld e.1 = false := by
  intro e he
  have hacc : e.1.acc = .sh := by simpa using (List.mem_filter.1 he).2
  refine Bool.eq_false_iff.2 fun hf => ?_
  have hfld : e.1 = .SUP_COL_PHASE_PHASE ∨ e.1 = .SUP_COL_PROGRESS_CODE := by simpa using hf
  rcases hfld with h | h <;> rw [h] at hacc <;> contradiction

theorem shapeCells_noPhase (l : List ShapeRec) : ∀ e ∈ shapeCells l, isPhaseFld e.1 = false := by
  intro e he
  simp only [shapeCells, List.mem_flatten, List.mem_map] at he
  obtain ⟨_, ⟨r, _, rfl⟩, he⟩ := he
  exact shCells_noPhase _ e he

theorem arbCells_noPhase (l : List ArbRec) : ∀ e ∈ arbCells l, isPhaseFld e.1 = false := by
  intro e he
  simp only [arbCells, List.mem_flatten, List.mem_map] at he
  obtain ⟨_, ⟨r, _, rfl⟩, he⟩ := he
  obtain ⟨_, hq, he⟩ := List.mem_flatten.1 he
  obtain ⟨q, _, rfl⟩ := List.mem_map.1 hq
  split at he <;> simp only [List.mem_cons, List.not_mem_nil, or_false] at he <;> rcases he with rfl | rfl <;> rfl

theorem gateCells_noPhase (l : List GateRec) : ∀ e ∈ gateCells l, isPhaseFld e.1 = false := by
  intro e he
  simp only [gateCells, List.mem_flatten, List.mem_map] at he
  obtain ⟨_, ⟨r, _, rfl⟩, he⟩ := he
  split at he <;> simp only [List.mem_cons, List.not_mem_nil, or_false] at he
  · rcases he with rfl | rfl | rfl | rfl <;> rfl
  · rcases he with rfl | rfl <;> rfl

theorem slotCells_noPhase (l : List SlotRec) : ∀ e ∈ slotCells l, isPhaseFld e.1 = false := by
  intro e he
  simp only [slotCells, List.mem_flatten, List.mem_map] at he
  obtain ⟨_, ⟨r, _, rfl⟩, he⟩ := he
  split at he
  · obtain ⟨_, hw, he⟩ := List.mem_flatten.1 he
    obtain ⟨w, _, rfl⟩ := List.mem_map.1 hw
    exact cellsAt_noPhase (by omega) _ e he
  · rw [List.mem_singleton.1 he]
    rfl

/-- One value for each of a list of indices. -/
theorem foldl_setRegs_reg {f : Fld} {v : Nat → Nat} {g : State → Nat → State}
    (hg : ∀ s n i, (g s n).reg f i = if i = n then v n % 2 ^ f.width else s.reg f i) (i : Nat) :
    ∀ (l : List Nat) (s : State), (l.foldl g s).reg f i = if i ∈ l then v i % 2 ^ f.width else s.reg f i
  | [], s => by simp
  | n :: l, s => by
    rw [List.foldl_cons, foldl_setRegs_reg hg i l, hg]
    by_cases hl : i ∈ l
    · simp [hl]
    · by_cases hn : i = n <;> simp [hl, hn]

theorem State.loadForme_spec (s : State) (im : Image) :
    (s.loadForme im).bringup isPhaseFld = s.bringup isPhaseFld ∧ ∀ i, i < 1024 → (s.loadForme im).reg .BAL_KEY_SLOT_POLICY i = keyPolicy im.keys i % 2 ^ Fld.BAL_KEY_SLOT_POLICY.width := by
  have hcells : ∀ e ∈ shapeCells im.shape ++ arbCells im.arb ++ gateCells im.gates ++ slotCells im.slots, isPhaseFld e.1 = false := by
    intro e he
    simp only [List.mem_append] at he
    rcases he with ((he | he) | he) | he
    · exact shapeCells_noPhase _ e he
    · exact arbCells_noPhase _ e he
    · exact gateCells_noPhase _ e he
    · exact slotCells_noPhase _ e he
  constructor
  · unfold State.loadForme
    dsimp only
    rw [foldl_bringup fun s m => s.setReg_bringup _ _ rfl, foldl_bringup fun s n => State.setRegs_bringup s (by simp),
      foldl_bringup fun s r => State.setRegs_bringup s (by simp)]
    exact s.setRegs_bringup hcells
  · intro i hi
    unfold State.loadForme
    dsimp only
    rw [foldl_keeps (fun s => s.reg .BAL_KEY_SLOT_POLICY i) fun s m => s.reg_setReg_ne _ (by simp),
      foldl_setRegs_reg (v := keyPolicy im.keys) fun s n i => by simp [State.setRegs_cons, State.reg_setReg]]
    simp [hi]

/-! ### Random values, the slot-power interface, ports that begin to train (R446, R551, R559, R674, R692, R695) -/

theorem State.drawAll_bringup (s : State) : s.drawAll.bringup isBringupFld = s.bringup isBringupFld := by
  have hkeys : ∀ u : State, u.fillSlots.bringup isBringupFld = u.bringup isBringupFld := foldl_bringup (fun u i => by
    rw [ite_bringup, State.randomKey, State.makeKey]
    split
    · exact (State.setRegs_bringup _ (by simp) : (State.setRegs _ _).bringup isBringupFld = _).trans rfl
    · rfl) _
  have hseeds : ∀ u : State, ((span 32 41).foldl (fun s n => if s.running n then s.seedArbs n else s) u).bringup isBringupFld = u.bringup isBringupFld :=
    foldl_bringup (fun u n => by
      rw [ite_bringup, State.seedArbs, ite_bringup]
      simp only [ite_eq_right_iff]
      exact fun _ _ => rfl) _
  unfold State.drawAll
  dsimp only
  rw [hseeds, hkeys]
  rfl

theorem State.updCh_bringup (s : State) (k : Nat) (f : Chan → Chan) : (s.updCh k f).bringup isBringupFld = s.bringup isBringupFld := rfl

theorem State.debounce_bringup (s : State) (k : Nat) : (s.debounce k).bringup isBringupFld = s.bringup isBringupFld := by
  rw [State.debounce, State.updCh_bringup, ite_bringup, State.toCh, State.updCh_bringup, State.setReg_bringup _ _ _ rfl, ite_self]

theorem State.report_bringup (s : State) (source kind scope : Nat) : (s.report source kind scope).bringup isBringupFld = s.bringup isBringupFld := rfl

theorem State.reportMissed_bringup (s : State) : s.reportMissed.bringup isBringupFld = s.bringup isBringupFld := by
  refine foldl_bringup (fun s k => ?_) _ s
  dsimp only
  rw [State.updCh_bringup]
  rw [foldl_bringup fun s m => s.report_bringup _ _ _]
  split <;> rfl

theorem State.slotSync_bringup (s : State) : s.slotSync.bringup isBringupFld = s.bringup isBringupFld := by
  have hdebounce : ∀ u : State, u.restartDebounce.bringup isBringupFld = u.bringup isBringupFld := foldl_bringup (fun u k => by
    rw [ite_bringup, State.debounce_bringup, ite_self]) _
  have hauto : ∀ u : State, u.autoEn.bringup isBringupFld = u.bringup isBringupFld := foldl_bringup (fun u k => by
    dsimp only
    rw [ite_bringup, State.setReg_bringup _ _ _ rfl, ite_self]) _
  have hpresent : ∀ u : State, ((List.range 32).foldl (fun s k => match s.chanPort k with
      | some p => if gateOn (s.chState k) && s.on .SLT_STATUS_PRSNT k then s.setReg .TILE_PORT_STATUS_PRESENT p 1 else s
      | none => s) u).bringup isBringupFld = u.bringup isBringupFld := foldl_bringup (fun u k => by
    split
    · rw [ite_bringup, State.setReg_bringup _ _ _ rfl, ite_self]
    · rfl) _
  unfold State.slotSync
  dsimp only
  split
  · split
    · rw [hauto, hdebounce, State.reportMissed_bringup]
      exact (hpresent _).trans (State.setReg_bringup _ _ _ rfl)
    · exact State.setReg_bringup _ _ _ rfl
  · rfl

theorem State.turnOnAll_bringup (s : State) : s.turnOnAll.bringup isBringupFld = s.bringup isBringupFld := by
  refine foldl_bringup (fun s k => ?_) _ s
  unfold State.turnOn State.toCh
  split
  · exact (State.setReg_bringup _ _ _ rfl : (State.setReg _ .SLT_STATUS_STATE k 2).bringup isBringupFld = _).trans (State.setReg_bringup _ _ _ rfl)
  · rfl

theorem State.perstRule_bringup (s : State) (p : Nat) : (s.perstRule p).bringup isBringupFld = s.bringup isBringupFld := by
  unfold State.perstRule
  split
  · exact State.setReg_bringup _ _ _ rfl
  · rfl

theorem State.firstTrain_bringup (s : State) (p : Nat) : (s.firstTrain p).bringup isBringupFld = s.bringup isBringupFld := by
  unfold State.firstTrain State.startTrain
  split
  · split
    · exact State.setReg_bringup _ _ _ rfl
    · split
      · exact State.setReg_bringup _ _ _ rfl
      · rfl
  · split
    · exact State.perstRule_bringup _ _
    · rfl

end Sys2Proof.Machine
end

section
/-! The statement on the end of P3 and of P4 (R33, R90, R131, R134, R149, R560), clause by clause. -/

namespace Sys2Proof.Machine

/-! ### The progress code (R149) -/

theorem State.progress_code (s : State) (c : Nat) : (s.progress c).reg .SUP_COL_PROGRESS_CODE 0 = max c (s.reg .SUP_COL_PROGRESS_CODE 0) % 2 ^ 16 := by
  rw [State.progress, State.reg_setReg, if_pos ⟨rfl, rfl⟩]
  rfl

theorem State.progress_reg_ne (s : State) (c : Nat) {f : Fld} {i : Nat} (h : (f, i) ≠ (.SUP_COL_PROGRESS_CODE, 0)) : (s.progress c).reg f i = s.reg f i :=
  s.reg_setReg_ne _ (by simpa using h)

theorem State.progress_keeps (s : State) (c : Nat) : KeepsRegs s (s.progress c) [(.SUP_COL_PROGRESS_CODE, 0)] :=
  fun _ _ h => s.progress_reg_ne c (by simpa using h)

theorem exec_hbmTrained (s : State) : exec .hbmTrained s = execHbmTrained s := rfl

theorem exec_serdesCalibrated (s : State) : exec .serdesCalibrated s = execSerdesCalibrated s := rfl

theorem exec_hbmTrained_of_booting {s : State} (h : s.booting 3 = true) :
    exec .hbmTrained s = .next ((s.started.updBoot fun b => { b with hbmDone := true }).progress 0x0304) := by
  rw [exec_hbmTrained, execHbmTrained, run_started, if_pos (show s.started.booting 3 = true from h)]

theorem exec_serdesCalibrated_of_booting {s : State} (h : s.booting 3 = true) :
    exec .serdesCalibrated s = .next ((s.started.updBoot fun b => { b with serdesDone := true }).progress 0x0305) := by
  rw [exec_serdesCalibrated, execSerdesCalibrated, run_started, if_pos (show s.started.booting 3 = true from h)]

theorem exec_trained_of_not_booting {s : State} (h : s.booting 3 = false) :
    exec .hbmTrained s = .next { s with out := [] } ∧ exec .serdesCalibrated s = .next { s with out := [] } := by
  have hs : ¬ s.started.booting 3 = true := by rw [show s.started.booting 3 = s.booting 3 from rfl, h]; exact Bool.false_ne_true
  rw [exec_hbmTrained, execHbmTrained, run_started, if_neg hs, exec_serdesCalibrated, execSerdesCalibrated, run_started, if_neg hs]
  exact ⟨rfl, rfl⟩

/-! ### A phase begins (R131, R134) -/

/-- A phase begins with its progress code. -/
theorem State.beginPhase_spec (s : State) (p c : Nat) :
    ((s.toPhase p).progress c).phase = p % 8 ∧
      ((s.toPhase p).progress c).reg .SUP_COL_PROGRESS_CODE 0 = max c (s.reg .SUP_COL_PROGRESS_CODE 0) % 2 ^ 16 ∧
      ((s.toPhase p).progress c).boot.phaseAt = s.now ∧ ((s.toPhase p).progress c).boot.running = s.boot.running := by
  refine ⟨?_, ?_, rfl, rfl⟩
  · rw [State.phase, State.progress_reg_ne _ _ (by simp)]
    exact (s.reg_setReg _ _ _ _ _).trans (if_pos ⟨rfl, rfl⟩)
  · rw [State.progress_code]
    exact congrArg (fun v => max c v % 2 ^ 16) (s.reg_setReg_ne _ (by simp))

theorem State.beginPhase_policy (s : State) (p c i : Nat) :
    ((s.toPhase p).progress c).reg .BAL_KEY_SLOT_POLICY i = s.reg .BAL_KEY_SLOT_POLICY i :=
  (State.progress_reg_ne _ _ (by simp)).trans (s.reg_setReg_ne _ (by simp))

theorem State.running_of_bringup {s t : State} {p : Fld → Bool} (h : t.bringup p = s.bringup p) : t.boot.running = s.boot.running :=
  congrArg (fun x : (Fld → Nat → Nat) × Boot => x.2.running) h

theorem State.phaseAt_of_bringup {s t : State} {p : Fld → Bool} (h : t.bringup p = s.bringup p) : t.boot.phaseAt = s.boot.phaseAt :=
  congrArg (fun x : (Fld → Nat → Nat) × Boot => x.2.phaseAt) h

/-! ### P3 ends (R131) -/

/-- What the forme gives is loaded, random values drawn and the slot-power interface up. -/
def State.loaded (s : State) (im : Image) : State := ((s.loadForme im).drawAll).slotSync

theorem State.loaded_spec (s : State) (im : Image) :
    (s.loaded im).reg .SUP_COL_PROGRESS_CODE 0 = s.reg .SUP_COL_PROGRESS_CODE 0 ∧ (s.loaded im).boot.running = s.boot.running ∧
      (∀ i, i < 1024 → (s.loaded im).reg .BAL_KEY_SLOT_POLICY i = keyPolicy im.keys i % 2 ^ Fld.BAL_KEY_SLOT_POLICY.width) ∧ (s.loaded im).frame = s.frame := by
  have hlater : (s.loaded im).bringup isBringupFld = (s.loadForme im).bringup isBringupFld := (State.slotSync_bringup _).trans (State.drawAll_bringup _)
  obtain ⟨hload, hpolicy⟩ := s.loadForme_spec im
  refine ⟨?_, ?_, fun i hi => (State.reg_of_bringup hlater rfl i).trans (hpolicy i hi), ?_⟩
  · exact (State.reg_of_bringup hlater rfl 0).trans (State.reg_of_bringup hload rfl 0)
  · exact (State.running_of_bringup hlater).trans (State.running_of_bringup hload)
  · rw [State.loaded, State.slotSync_frame, State.drawAll_frame, State.loadForme_frame]

/-- A table is the active one. -/
def State.withTable (s : State) (a : Imp) : State := s.updCom fun c => { c with active := a }

theorem State.withTable_spec (s : State) (a : Imp) :
    (∀ f i, (s.withTable a).reg f i = s.reg f i) ∧ (s.withTable a).boot = s.boot ∧ (s.withTable a).frame = s.frame := ⟨fun _ _ => rfl, rfl, rfl⟩

/-- The forme's table is the active one. -/
def State.tabled (s : State) (im : Image) : State := (s.loaded im).withTable ((s.loaded im).withHier (seedTable im) im.hier)

theorem State.tabled_spec (s : State) (im : Image) :
    (s.tabled im).reg .SUP_COL_PROGRESS_CODE 0 = s.reg .SUP_COL_PROGRESS_CODE 0 ∧ (s.tabled im).boot.running = s.boot.running ∧
      (∀ i, i < 1024 → (s.tabled im).reg .BAL_KEY_SLOT_POLICY i = keyPolicy im.keys i % 2 ^ Fld.BAL_KEY_SLOT_POLICY.width) ∧ (s.tabled im).frame = s.frame := by
  obtain ⟨hregs, hboot, hframe⟩ := (s.loaded im).withTable_spec ((s.loaded im).withHier (seedTable im) im.hier)
  obtain ⟨hcode, hrunning, hpolicy, hloaded⟩ := s.loaded_spec im
  exact ⟨(hregs _ _).trans hcode, (congrArg Boot.running hboot).trans hrunning, fun i hi => (hregs _ i).trans (hpolicy i hi), hframe.trans hloaded⟩

/-- P4 has begun; the ports are yet to train. -/
def State.p4Begun (s : State) (im : Image) : State := ((s.tabled im).toPhase 4).progress 0x0401

theorem State.p4Begun_frame (s : State) (im : Image) : (s.p4Begun im).frame = s.frame := by
  rw [State.p4Begun, State.progress_frame, State.toPhase_frame, (s.tabled_spec im).2.2.2]

/-- Every channel may turn on, and the ports begin to train. -/
def State.beginTraining (s : State) (im : Image) : State := (im.ports.map portIx).foldl (fun s p => s.firstTrain p) s.turnOnAll

theorem State.beginTraining_bringup (s : State) (im : Image) : (s.beginTraining im).bringup isBringupFld = s.bringup isBringupFld :=
  (foldl_bringup (fun _ _ => State.firstTrain_bringup _ _) _ _).trans s.turnOnAll_bringup

theorem State.beginTraining_frame (s : State) (im : Image) : (s.beginTraining im).frame = s.frame :=
  (foldl_keeps State.frame (fun s p => s.firstTrain_frame p) _ _).trans s.turnOnAll_frame

theorem exec_islandsPowered (s : State) : exec .islandsPowered s = execIslandsPowered s := rfl

theorem exec_islandsPowered_of_p3Over {s : State} {im : Image} (him : s.boot.running = some im) (h : s.p3Over = true) :
    exec .islandsPowered s = .next ((s.started.p4Begun im).beginTraining im) := by
  rw [exec_islandsPowered, execIslandsPowered, run_started, show s.started.boot.running = some im from him]
  dsimp only
  rw [if_pos (show s.started.p3Over = true from h)]
  rfl

theorem exec_islandsPowered_spec {s : State} {im : Image} (him : s.boot.running = some im) (h : s.p3Over = true) :
    ∃ t, exec .islandsPowered s = .next t ∧ t.phase = 4 ∧
      t.reg .SUP_COL_PROGRESS_CODE 0 = max 0x0401 (s.reg .SUP_COL_PROGRESS_CODE 0) % 2 ^ 16 ∧ t.boot.phaseAt = s.now ∧ t.boot.running = some im ∧
      (∀ i, i < 1024 → t.reg .BAL_KEY_SLOT_POLICY i = keyPolicy im.keys i % 2 ^ Fld.BAL_KEY_SLOT_POLICY.width) ∧ t.frame = s.frame := by
  have htrain := (s.started.p4Begun im).beginTraining_bringup im
  have hboot : ((s.started.p4Begun im).beginTraining im).boot.phaseAt = (s.started.p4Begun im).boot.phaseAt ∧
      ((s.started.p4Begun im).beginTraining im).boot.running = (s.started.p4Begun im).boot.running :=
    ⟨State.phaseAt_of_bringup htrain, State.running_of_bringup htrain⟩
  obtain ⟨hcode, hrunning, hpolicy, hframe⟩ := s.started.tabled_spec im
  obtain ⟨hphase, hprogress, hphaseAt, hkept⟩ := (s.started.tabled im).beginPhase_spec 4 0x0401
  refine ⟨_, exec_islandsPowered_of_p3Over him h, ?_, ?_, ?_, ?_, fun i hi => ?_, ?_⟩
  · exact (State.reg_of_bringup htrain rfl 0).trans hphase
  · refine (State.reg_of_bringup htrain rfl 0).trans (hprogress.trans ?_)
    exact congrArg (fun v => max 0x0401 v % 2 ^ 16) hcode
  · rw [hboot.1, State.p4Begun, hphaseAt, ← frame_now, hframe]
    rfl
  · rw [hboot.2, State.p4Begun, hkept, hrunning]
    exact him
  · exact (State.reg_of_bringup htrain rfl i).trans ((State.beginPhase_policy _ _ _ _).trans (hpolicy i hi))
  · rw [State.beginTraining_frame, State.p4Begun_frame]
    rfl

/-! ### P4 ends (R33, R90, R134, R560) -/

theorem bit_putBit_same (v n : Nat) : bit (putBit v n true) n = true := by
  unfold putBit
  by_cases hn : bit v n = true
  · simp [hn]
  · have h0 : v / 2 ^ n % 2 = 0 := by
      have : ¬ v / 2 ^ n % 2 = 1 := by simpa [bit] using hn
      omega
    rw [if_neg hn, if_pos rfl, bit, Nat.add_div_right _ (Nat.two_pow_pos n), Nat.add_mod, h0]
    rfl

theorem bit_foldl_putBit_of_mem : ∀ {l : List KeyRec} {r : KeyRec} (v : Nat), r ∈ l → bit (l.foldl (fun v (r : KeyRec) => putBit v r.slot true) v) r.slot = true
  | q :: l, r, v, h => by
    rcases List.mem_cons.1 h with hr | hl
    · rw [hr]
      exact bit_foldl_putBit _ l _ (bit_putBit_same v _)
    · exact bit_foldl_putBit_of_mem (l := l) _ hl

/-- The running bank is confirmed and preferred, its version counted and its revocations blown. -/
theorem State.confirmBank_spec (s : State) (im : Image) :
    (s.confirmBank im).bringup isPhaseFld = s.bringup isPhaseFld ∧ (s.confirmBank im).now = s.now ∧
      (s.confirmBank im).flash.rollback = max s.flash.rollback im.rollbackVer ∧ (s.confirmBank im).flash.prefB = s.boot.runB ∧
      (if s.boot.runB then (s.confirmBank im).flash.bankB else (s.confirmBank im).flash.bankA).state = .confirmed ∧
      (∀ r ∈ im.keys, r.typ = 2 → bit (s.confirmBank im).part.signerRevoked r.slot = true) ∧
      (s.confirmBank im).pool.mem = s.pool.mem ∧ (s.confirmBank im).pending = s.pending := by
  have hbank : ∃ fl, s.markBank s.boot.runB .confirmed = { s with flash := fl } ∧ fl.rollback = s.flash.rollback ∧
      (if s.boot.runB then fl.bankB else fl.bankA).state = .confirmed := by
    cases hb : s.boot.runB <;> exact ⟨_, rfl, rfl, rfl⟩
  obtain ⟨fl, hmark, hrollback, hstate⟩ := hbank
  unfold State.confirmBank
  rw [hmark]
  refine ⟨State.setRegs_bringup _ (by simp), rfl, ?_, rfl, hstate, fun r hr ht => ?_, rfl, rfl⟩
  · exact congrArg (max · im.rollbackVer) hrollback
  · exact bit_foldl_putBit_of_mem _ (List.mem_filter.2 ⟨hr, by simp [ht]⟩)

/-- P5 has begun; gates, metering spans and reports follow. -/
def State.p5Begun (s : State) (im : Image) : State := ((s.confirmBank im).toPhase 5).progress 0x0501

theorem State.setDigest_bringup (s : State) (d : Nat) : (s.setDigest d).bringup isBringupFld = s.bringup isBringupFld :=
  foldl_bringup (fun s _ => s.setReg_bringup _ _ rfl) _ s

theorem State.meterStart_bringup (s : State) : s.meterStart.bringup isBringupFld = s.bringup isBringupFld := State.setReg_bringup _ _ _ rfl

theorem State.installGate_bringup (s : State) (p tc : Nat) : (s.installGate p tc).bringup isBringupFld = s.bringup isBringupFld := by
  unfold State.installGate State.showGate
  dsimp only
  rw [State.setRegs_bringup _ (by simp)]
  refine (ite_bringup (p := isBringupFld) _ _).trans ?_
  rw [State.setReg_bringup _ _ _ rfl, ite_self, State.setReg_bringup _ _ _ rfl]

theorem State.startSpan_bringup (s : State) (sheet : Bool) (imprint weight key t : Nat) :
    (s.startSpan sheet imprint weight key t).bringup isBringupFld = s.bringup isBringupFld := rfl

theorem State.causeOn_bringup (s : State) (source kind scope : Nat) : (s.causeOn source kind scope).bringup isBringupFld = s.bringup isBringupFld := by
  unfold State.causeOn
  dsimp only
  rw [State.report_bringup, ite_bringup]
  exact ite_self _

theorem State.slotEvent_bringup (s : State) (k v : Nat) (pdc dlc up : Bool) : (s.slotEvent k v pdc dlc up).bringup isBringupFld = s.bringup isBringupFld := by
  obtain ⟨vr, o, h⟩ := SignalsOnly.slotEvent s k v pdc dlc up
  rw [h]
  rfl

/-- What P5 sets going: digest, metering, gates, spans, the reports of what bring-up left out, hot-plug signals. -/
def State.goOperational (s : State) (im : Image) : State :=
  let s := (s.setDigest (imageDigest im)).meterStart
  let s := (((im.gates.filter (fun r => r.typ == 1 && r.entryCount != 0)).map (fun r => r.port)).eraseDups).foldl (fun s p => s.installGate p s.dev) s
  let s := (im.hier.filter isAssign).foldl (fun s h => s.startSpan false h.imprint (s.spanWeight h) (spanKey h.host h.vdsp) s.dev) s
  let s := s.boot.degraded.foldl (fun s e => if e.1 == 0x1305 then s.causeOn 0x0A 0 e.2 else s.report 0x0C 0 (e.1 * 256 + e.2)) s
  s.vdspView.foldl (fun s e => s.slotEvent e.1 e.2.1 e.2.2.1 e.2.2.2 e.2.2.2) s

theorem State.goOperational_bringup (s : State) (im : Image) : (s.goOperational im).bringup isBringupFld = s.bringup isBringupFld := by
  unfold State.goOperational
  dsimp only
  rw [foldl_bringup fun s e => s.slotEvent_bringup _ _ _ _ _,
    foldl_bringup fun s (e : Nat × Nat) => by rw [ite_bringup, State.causeOn_bringup, State.report_bringup, ite_self],
    foldl_bringup fun s h => s.startSpan_bringup _ _ _ _ _, foldl_bringup fun s p => s.installGate_bringup _ _,
    State.meterStart_bringup, State.setDigest_bringup]

theorem State.goOperational_frame (s : State) (im : Image) : (s.goOperational im).frame = s.frame := by
  unfold State.goOperational
  dsimp only
  rw [foldl_keeps State.frame fun s e => s.slotEvent_frame _ _ _ _ _,
    foldl_keeps State.frame fun s (e : Nat × Nat) => by rw [apply_ite State.frame, State.causeOn_frame, State.report_frame, ite_self],
    foldl_keeps State.frame fun s h => s.startSpan_frame _ _ _ _ _, foldl_keeps State.frame fun s p => s.installGate_frame _ _,
    State.meterStart_frame, State.setDigest_frame]

/-- P4 ends at once where every port has trained, else with its time limit. -/
def State.p4Due (s : State) : State := if s.allTrained then s else s.atNow (s.boot.phaseAt + 500000000)

theorem State.p4Due_eq (s : State) : s.p4Due = { s with now := if s.allTrained then s.now else max s.now (s.boot.phaseAt + 500000000) } := by
  unfold State.p4Due
  split <;> rfl

theorem exec_p4End (s : State) : exec .p4End s = execP4End s := rfl

theorem exec_p4End_of_booting {s : State} {im : Image} (him : s.boot.running = some im) (h : s.booting 4 = true) :
    exec .p4End s = .next ((s.started.p4Due.p5Begun im).goOperational im) := by
  rw [exec_p4End, execP4End, run_started, show s.started.boot.running = some im from him]
  dsimp only
  rw [if_pos (show s.started.booting 4 = true from h)]
  rfl

/-- The end of P4 at an instant. -/
theorem State.p4Over_spec (u : State) (im : Image) :
    ((u.p5Begun im).goOperational im).bringup isBringupFld = (u.p5Begun im).bringup isBringupFld ∧
      ((u.p5Begun im).goOperational im).frame = (u.confirmBank im).frame := by
  refine ⟨State.goOperational_bringup _ im, ?_⟩
  rw [State.goOperational_frame, State.p5Begun, State.progress_frame, State.toPhase_frame]

theorem exec_p4End_spec {s : State} {im : Image} (him : s.boot.running = some im) (h : s.booting 4 = true) :
    ∃ t, exec .p4End s = .next t ∧ t.phase = 5 ∧
      t.reg .SUP_COL_PROGRESS_CODE 0 = max 0x0501 (s.reg .SUP_COL_PROGRESS_CODE 0) % 2 ^ 16 ∧
      t.now = (if s.allTrained then s.now else max s.now (s.boot.phaseAt + 500000000)) ∧
      t.flash.rollback = max s.flash.rollback im.rollbackVer ∧ t.flash.prefB = s.boot.runB ∧
      ((if s.boot.runB then t.flash.bankB else t.flash.bankA).state = .confirmed) ∧
      (∀ r ∈ im.keys, r.typ = 2 → bit t.part.signerRevoked r.slot = true) ∧ t.pool.mem = s.pool.mem ∧ t.pending = s.pending := by
  refine ⟨_, exec_p4End_of_booting him h, ?_⟩
  have hdue := s.started.p4Due_eq
  generalize s.started.p4Due = u at hdue
  obtain ⟨hlater, hframe⟩ := u.p4Over_spec im
  obtain ⟨hcode, hnow, hrollback, hpref, hstate, hrevoked, hmem, hpending⟩ := u.confirmBank_spec im
  obtain ⟨hphase, hprogress, -, -⟩ := (u.confirmBank im).beginPhase_spec 5 0x0501
  rw [show ((u.p5Begun im).goOperational im).flash = (u.confirmBank im).flash from congrArg Frame.flash hframe,
    show ((u.p5Begun im).goOperational im).part = (u.confirmBank im).part from congrArg Frame.part hframe]
  have hreg : u.reg .SUP_COL_PROGRESS_CODE 0 = s.reg .SUP_COL_PROGRESS_CODE 0 := by rw [hdue]; rfl
  have hboot : u.boot = s.boot := by rw [hdue]; rfl
  have hflash : u.flash = s.flash := by rw [hdue]; rfl
  rw [hboot] at hpref hstate
  rw [hflash] at hrollback
  refine ⟨(State.reg_of_bringup hlater rfl 0).trans hphase, ?_, ?_, hrollback, hpref, hstate, hrevoked, ?_, ?_⟩
  · rw [← hreg, ← State.reg_of_bringup hcode rfl 0]
    exact (State.reg_of_bringup hlater rfl 0).trans hprogress
  · refine (congrArg Frame.now hframe).trans (hnow.trans ?_)
    rw [hdue]
    rfl
  · refine (congrArg Frame.mem hframe).trans (hmem.trans ?_)
    rw [hdue]
    rfl
  · refine (congrArg Frame.pending hframe).trans (hpending.trans ?_)
    rw [hdue]
    rfl

/-- Settles O18: nothing that the ends of P3 and P4 set going touches bring-up's phase and progress, the key policies or the
banks. -/
theorem p3AndP4End : Obligations.P3AndP4End := by
  unfold Obligations.P3AndP4End
  refine ⟨fun s h => ⟨_, exec_hbmTrained_of_booting h, rfl, State.progress_code _ _, State.progress_keeps _ _, State.progress_frame _ _⟩,
    fun s h => ⟨_, exec_serdesCalibrated_of_booting h, rfl, State.progress_code _ _, State.progress_keeps _ _, State.progress_frame _ _⟩,
    fun _ _ => exec_islandsPowered_spec, fun _ _ => exec_p4End_spec, fun _ => exec_trained_of_not_booting⟩

end Sys2Proof.Machine
end

section
/-! SUPPORT. The supervisor's view of a state: what the domains and islands show, what waits for them, and the running command's wait; and the
operations on packets, requests and completions, which leave it. -/

namespace Sys2Proof.Machine

/-- The fields of domains and islands that the supervisor drives. -/
@[simp] def isSupFld (f : Fld) : Bool :=
  [Fld.SUP_DOM_STATUS_ON, .SUP_DOM_STATUS_PGOOD, .SUP_DOM_STATUS_SWITCHING, .SUP_ISL_STATUS_STATE, .SUP_ISL_STATUS_CLK_LOCK].contains f

/-- The supervisor's view: its fields, the islands' state but for the packets that wait for a wake and for when islands last worked, and
what the running command waits for, with its result. -/
structure SupView where
  status : Fld → Nat → Nat
  isl : Islands
  run : Option (Wait × Option (Nat × List Nat))

def State.supView (s : State) : SupView :=
  ⟨s.shows isSupFld, { s.isl with waking := [], workAt := [] }, s.port.running.map fun r => (r.wait, r.result)⟩

/-- The supervisor's view without the result of the running command. -/
def State.supWaits (s : State) : SupView := { s.supView with run := s.supView.run.map fun r => (r.1, none) }

theorem State.supWaits_of_supView {s t : State} (h : t.supView = s.supView) : t.supWaits = s.supWaits := by rw [State.supWaits, State.supWaits, h]

theorem State.reg_of_supWaits {s t : State} (h : t.supWaits = s.supWaits) {f : Fld} (hf : isSupFld f = true) (i : Nat) : t.reg f i = s.reg f i :=
  State.reg_of_shows (congrArg SupView.status h) hf i

theorem State.reg_of_supView {s t : State} (h : t.supView = s.supView) {f : Fld} (hf : isSupFld f = true) (i : Nat) : t.reg f i = s.reg f i :=
  State.reg_of_shows (congrArg SupView.status h) hf i

@[simp] theorem ite_supView {c : Prop} [Decidable c] (a b : State) : (if c then a else b).supView = if c then a.supView else b.supView := apply_ite _ _ _ _

@[simp] theorem ite_supWaits {c : Prop} [Decidable c] (a b : State) : (if c then a else b).supWaits = if c then a.supWaits else b.supWaits :=
  apply_ite _ _ _ _

/-! ### Registers, reports, counters -/

@[simp] theorem State.setReg_supView (s : State) {f : Fld} (i v : Nat) (hf : isSupFld f = false) : (s.setReg f i v).supView = s.supView := by
  rw [State.supView, State.supView, s.setReg_shows i v hf]
  rfl

@[simp] theorem State.bump_supView (s : State) {f : Fld} (i n : Nat) (hf : isSupFld f = false) : (s.bump f i n).supView = s.supView :=
  s.setReg_supView i _ hf

@[simp] theorem State.setRegs_supView {l : List (Fld × Nat × Nat)} (s : State) (h : ∀ e ∈ l, isSupFld e.1 = false) : (s.setRegs l).supView = s.supView := by
  rw [State.supView, State.supView, State.setRegs_shows l s h]
  have hkept : ∀ (l : List (Fld × Nat × Nat)) (s : State), (s.setRegs l).isl = s.isl ∧ (s.setRegs l).port = s.port := by
    intro l
    induction l with
    | nil => exact fun _ => ⟨rfl, rfl⟩
    | cons e l ih => exact fun s => ih (s.setReg e.1 e.2.1 e.2.2)
  rw [(hkept l s).1, (hkept l s).2]

@[simp] theorem State.emit_supView (s : State) (o : Output) : (s.emit o).supView = s.supView := rfl
@[simp] theorem State.work_supView (s : State) (n : Nat) : (s.work n).supView = s.supView := rfl
@[simp] theorem State.updMet_supView (s : State) (f : Meter → Meter) : (s.updMet f).supView = s.supView := rfl
@[simp] theorem State.updCom_supView (s : State) (f : Commits → Commits) : (s.updCom f).supView = s.supView := rfl
@[simp] theorem State.updKeys_supView (s : State) (f : Keys → Keys) : (s.updKeys f).supView = s.supView := rfl
@[simp] theorem State.updLink_supView (s : State) (f : Links → Links) : (s.updLink f).supView = s.supView := rfl
@[simp] theorem State.updDlink_supView (s : State) (p : Nat) (f : Dlink → Dlink) : (s.updDlink p f).supView = s.supView := rfl
@[simp] theorem State.setDlink_supView (s : State) (p : Nat) (d : Dlink) : (s.setDlink p d).supView = s.supView := rfl
@[simp] theorem State.report_supView (s : State) (source kind scope : Nat) (sev isl : Option Nat) : (s.report source kind scope sev isl).supView = s.supView := rfl
@[simp] theorem State.causeOff_supView (s : State) (source scope : Nat) : (s.causeOff source scope).supView = s.supView := rfl

@[simp] theorem State.causeOn_supView (s : State) (source kind scope : Nat) : (s.causeOn source kind scope).supView = s.supView := by
  unfold State.causeOn
  dsimp only
  rw [State.report_supView, ite_supView]
  exact ite_self _

@[simp] theorem State.keepSnap_supView (s : State) (i : Nat) : (s.keepSnap i).supView = s.supView := by
  unfold State.keepSnap
  split
  · rfl
  · simp

@[simp] theorem State.tally_supView (s : State) (n e : Nat) (imprint : Option Nat) : (s.tally n e imprint).supView = s.supView := by
  simp only [State.tally, ite_supView]
  split
  · rfl
  · rw [foldl_keeps State.supView fun s i => by simp]
    simp

@[simp] theorem State.armedWrite_supView (s : State) (sources : List Nat) (target : Nat) : (s.armedWrite sources target).2.supView = s.supView := by
  unfold State.armedWrite
  split
  · split
    · exact s.setReg_supView (f := .FLT_INJECT_DONE) 0 1 rfl
    · rfl
  · rfl

@[simp] theorem State.readKey_supView (s : State) (n : Nat) (r : KeyRef) : (s.readKey n r).supView = s.supView := by
  unfold State.readKey
  split <;> rfl

@[simp] theorem State.count_supView (s : State) (c : CountRec) : (s.count c).supView = s.supView := by
  unfold State.count
  split
  · exact s.bump_supView _ _ rfl
  · split <;> rfl

@[simp] theorem State.vector_supView (s : State) (k n : Nat) : (s.vector k n).supView = s.supView := by
  unfold State.vector
  dsimp only
  split
  · rfl
  · split <;> rfl

/-! ### Packets in queues -/

@[simp] theorem State.setPkts_supView (s : State) (l : List Pkt) : (s.setPkts l).supView = s.supView := rfl
@[simp] theorem State.setQueue_supView (s : State) (q : QId) (v : Queue) : (s.setQueue q v).supView = s.supView := rfl
@[simp] theorem State.updPkt_supView (s : State) (i : Nat) (f : Pkt → Pkt) : (s.updPkt i f).supView = s.supView := rfl
@[simp] theorem State.delPkt_supView (s : State) (i : Nat) : (s.delPkt i).supView = s.supView := rfl
@[simp] theorem State.addPkt_supView (s : State) (p : Pkt) : (s.addPkt p).supView = s.supView := rfl

theorem State.toGalley_supView {s t : State} {i : Nat} (h : s.toGalley i = some t) : t.supView = s.supView := by
  unfold State.toGalley at h
  split at h
  · contradiction
  · split at h
    · contradiction
    · dsimp only at h
      generalize hu : State.setQueue _ _ _ = u at h
      obtain rfl := Option.some.inj h
      calc u.supView = _ := congrArg State.supView hu.symm
        _ = s.supView := by simp

@[simp] theorem State.settleQueue_supView (s : State) (q : QId) : (s.settleQueue q).supView = s.supView := by simp [State.settleQueue]

@[simp] theorem State.spillPkt_supView (s : State) (i : Nat) (q : QId) : (s.spillPkt i q).supView = s.supView := by
  unfold State.spillPkt
  dsimp only
  generalize hu : State.setQueue _ q _ = u
  have hkept : u.supView = s.supView := by simp [← hu]
  split
  · rename_i t ht
    split at ht
    · contradiction
    · rw [State.toGalley_supView ht, hkept]
  · cases q <;> simp [hkept]

@[simp] theorem State.placePkt_supView (s : State) (i : Nat) : (s.placePkt i).supView = s.supView := by
  unfold State.placePkt
  split
  · rfl
  · simp

@[simp] theorem State.bindFirst_supView (s : State) (q : QId) : (s.bindFirst q).supView = s.supView := by simp [State.bindFirst]
@[simp] theorem State.enqueue_supView (s : State) (p : Pkt) : (s.enqueue p).supView = s.supView := by simp [State.enqueue]

@[simp] theorem State.rebind_supView (s : State) (n : Nat) : (s.rebind n).supView = s.supView := by
  unfold State.rebind
  split
  · exact foldl_keeps State.supView (fun s q => by simp) _ s
  · rfl

@[simp] theorem State.keepBucket_supView (s : State) (dst c sw port tc : Nat) : (s.keepBucket dst c sw port tc).supView = s.supView := by
  unfold State.keepBucket
  split
  · dsimp only
    split
    · split <;> rfl
    · rfl
  · rfl

@[simp] theorem State.sendFabric_supView (s : State) (p : Nat) (fp : FabPkt) (cls : PClass) (imprint sub quad : Option Nat) :
    (s.sendFabric p fp cls imprint sub quad).supView = s.supView := by
  unfold State.sendFabric
  split <;> simp

@[simp] theorem State.countSynth_supView (s : State) (a : Asked) : (s.countSynth a).supView = s.supView := by simp [State.countSynth]

@[simp] theorem State.synth_supView (s : State) (a : Asked) (st : CplStatus) : (s.synth a st).supView = s.supView := by
  unfold State.synth State.sayFail
  split <;> simp

@[simp] theorem State.synthLost_supView (s : State) (a : Asked) (len : Nat) (data : Bool) : (s.synthLost a len data).supView = s.supView := by
  unfold State.synthLost
  split <;> simp

@[simp] theorem State.sampleEnd_supView (s : State) (p : Pkt) (o egress : Nat) : (s.sampleEnd p o egress).supView = s.supView := by
  unfold State.sampleEnd
  split <;> simp

@[simp] theorem State.countDrop_supView (s : State) (p : Pkt) : (s.countDrop p).supView = s.supView := by simp [State.countDrop]
@[simp] theorem State.workPort_supView (s : State) (p : Nat) : (s.workPort p).supView = s.supView := by simp [State.workPort]

/-! ### Requests that end without their answer -/

@[simp] theorem State.delOut_supView (s : State) (i : Nat) : (s.delOut i).supView = s.supView := by
  unfold State.delOut
  dsimp only
  split
  · rw [State.workPort_supView, State.workPort_supView]
    rfl
  · rfl

@[simp] theorem State.updOut_supView (s : State) (i : Nat) (f : OutReq → OutReq) : (s.updOut i f).supView = s.supView := rfl
@[simp] theorem State.addOut_supView (s : State) (o : OutReq) : (s.addOut o).supView = s.supView := rfl

@[simp] theorem State.outLost_supView (s : State) (o : OutReq) : (s.outLost o).supView = s.supView := by simp [State.outLost]
@[simp] theorem State.outFail_supView (s : State) (o : OutReq) (st : CplStatus) : (s.outFail o st).supView = s.supView := by simp [State.outFail]
@[simp] theorem State.pieceFail_supView (s : State) (o : OutReq) (st : CplStatus) : (s.pieceFail o st).supView = s.supView := by simp [State.pieceFail]

@[simp] theorem State.cplGone_supView (s : State) (p : Pkt) : (s.cplGone p).supView = s.supView := by
  unfold State.cplGone
  split
  · simp
  · rfl
  · dsimp only
    split <;> simp

theorem State.discard_supView (s : State) (p : Pkt) {f : State → OutReq → State} (outcome : Nat) (hf : ∀ s o, (f s o).supView = s.supView) :
    (s.discard p f outcome).supView = s.supView := by
  unfold State.discard
  dsimp only
  split
  · split
    · simp [hf]
    · simp
  · simp

theorem State.discardAll_supView (s : State) (l : List Pkt) {f : State → OutReq → State} (outcome : Nat) (hf : ∀ s o, (f s o).supView = s.supView) :
    (s.discardAll l f outcome).supView = s.supView := foldl_keeps State.supView (fun s p => s.discard_supView p outcome hf) l s

@[simp] theorem State.settleAll_supView (s : State) (l : List Pkt) : (s.settleAll l).supView = s.supView :=
  foldl_keeps State.supView (fun s q => s.settleQueue_supView q) _ s

@[simp] theorem State.bumpDiscard_supView (s : State) (p n : Nat) : (s.bumpDiscard p n).supView = s.supView := by simp [State.bumpDiscard]

@[simp] theorem State.loseDest_supView (s : State) (p : Nat) (cpls : Bool) : (s.loseDest p cpls).supView = s.supView := by
  unfold State.loseDest
  dsimp only
  rw [foldl_keeps State.supView fun s o => s.outLost_supView o, State.bumpDiscard_supView, State.settleAll_supView,
    s.discardAll_supView _ _ fun s o => s.outLost_supView o]

/-! ### An island is emptied (R67, R68) -/

@[simp] theorem State.dropPkts_supView (s : State) (l : List Pkt) (xing : Bool) : (s.dropPkts l xing).supView = s.supView := by
  have hdrop : ∀ u : State, (u.discardAll l (fun s o => s.outLost o)).supView = u.supView := fun u => u.discardAll_supView _ _ fun s o => s.outLost_supView o
  have hgone : ∀ u : State, ((l.filter (fun p => decide (p.cls = .completion))).foldl (fun s p => s.cplGone p) u).supView = u.supView :=
    foldl_keeps State.supView (fun s p => s.cplGone_supView p) _
  unfold State.dropPkts
  dsimp only
  rw [ite_supView, State.bump_supView _ _ _ rfl, ite_self, hgone, State.settleAll_supView, hdrop]
  rfl

@[simp] theorem State.flushInside_supView (s : State) (n : Nat) : (s.flushInside n).supView = s.supView := by
  unfold State.flushInside
  dsimp only
  split
  · exact s.dropPkts_supView _ _
  · simp

theorem foldl_outLost_supView (l : List OutReq) (s : State) : (l.foldl (fun s o => s.outLost o) s).supView = s.supView :=
  foldl_keeps State.supView (fun s o => s.outLost_supView o) l s

@[simp] theorem State.flushCross_supView (s : State) (n : Nat) : (s.flushCross n).supView = s.supView := by
  simp [State.flushCross, foldl_outLost_supView]

@[simp] theorem State.emptyCross_supView (s : State) (n : Nat) : (s.emptyCross n).supView = s.supView := by
  simp [State.emptyCross, foldl_outLost_supView]

@[simp] theorem State.dropHeldRecs_supView (s : State) (n : Nat) : (s.dropHeldRecs n).supView = s.supView := by simp [State.dropHeldRecs]

end Sys2Proof.Machine
end

section
/-! SUPPORT. Packets that arrive in a quad, and those that waited for an island, leave the supervisor's view (R427, R429). -/

namespace Sys2Proof.Machine

/-! ### A request's way through its quad -/

@[simp] theorem State.replicaError_supView (s : State) (q : Nat) (k : ImpKey) (correctable : Bool) : (s.replicaError q k correctable).supView = s.supView := by
  unfold State.replicaError
  split
  · exact s.bump_supView (f := .IMP_Q_ECC_CORR) q 1 rfl
  · exact s.bump_supView (f := .IMP_Q_ECC_UE) q 1 rfl

@[simp] theorem State.readItem_supView (s : State) (q : Nat) (k : ImpKey) : (s.readItem q k).supView = s.supView := by
  unfold State.readItem
  split
  · rw [State.replicaError_supView]
    rfl
  · rfl

@[simp] theorem State.readReplica_supView (s : State) (q : Nat) (r : Req) (d a : Nat) : (s.readReplica q r d a).supView = s.supView := by
  unfold State.readReplica
  split <;> simp

@[simp] theorem State.logRefusal_supView (s : State) (q : Nat) (r : Req) (d a knd : Nat) : (s.logRefusal q r d a knd).supView = s.supView := by
  unfold State.logRefusal
  dsimp only
  rw [ite_supView, State.setRegs_supView _ (by simp)]
  simp

@[simp] theorem State.police_supView (s : State) (r : Req) (d : Nat) : (s.police r d).2.supView = s.supView := by
  unfold State.police
  split
  · rfl
  · dsimp only
    rw [apply_ite Prod.snd, ite_supView, State.bump_supView _ _ _ rfl, ite_self]
    split <;> rfl

@[simp] theorem State.select_supView (s : State) (q : Nat) (r : Req) (imprint : Option Nat) : (s.select q r imprint).2.supView = s.supView := by
  unfold State.select
  dsimp only
  split
  · split <;> rfl
  · rfl

@[simp] theorem State.refuse_supView (s : State) (r : Req) (st : CplStatus) (imprint : Option Nat) : (s.refuse r st imprint).supView = s.supView := by
  simp [State.refuse]

@[simp] theorem State.lost_supView (s : State) (r : Req) (p imprint : Option Nat) : (s.lost r p imprint).supView = s.supView := by
  unfold State.lost
  split
  · simp
  · cases p <;> simp

@[simp] theorem State.shutOut_supView (s : State) (closed : Bool) (r : Req) : (s.shutOut closed r).supView = s.supView := by simp [State.shutOut]

@[simp] theorem State.missed_supView (s : State) (q : Nat) (r : Req) (d a knd : Nat) : (s.missed q r d a knd).supView = s.supView := by
  simp [State.missed]

@[simp] theorem State.counted_supView (s : State) (q : Nat) (r : Req) (imprint : Nat) : (s.counted q r imprint).supView = s.supView := by
  simp [State.counted]

@[simp] theorem State.sendPieces_supView (s : State) (base : Pkt) (pieces : List (Nat × Nat × Nat)) : (s.sendPieces base pieces).supView = s.supView := by
  unfold State.sendPieces
  dsimp only
  rw [foldl_keeps State.supView fun s e => by simp]
  simp

@[simp] theorem State.forward_supView (s : State) (q : Nat) (r : Req) (d a ent des : Nat) (smp : Option Nat) :
    (s.forward q r d a ent des smp).supView = s.supView := by
  unfold State.forward
  dsimp only
  split
  · split <;> simp
  · split
    · split <;> simp
    · simp
  · split
    · split <;> simp
    · simp
  · split <;> simp

@[simp] theorem State.classify_supView (s : State) (q : Nat) (r : Req) : (s.classify q r).supView = s.supView := by
  unfold State.classify
  dsimp only
  split
  · simp
  · split
    · simp
    · simp
    · simp
    · split <;> simp
    · simp
    · split
      · simp
      · split <;> simp

@[simp] theorem State.waitWake_supView (s : State) (n : Nat) (h : Held) : (s.waitWake n h).supView = s.supView := by
  have htouch : (s.touch n).supView = s.supView := by simp [State.touch]
  exact htouch

theorem State.meetQuad_supView (s : State) (q : Nat) (h : Held) (closed : Bool) {shut go : State → State}
    (hshut : ∀ s, (shut s).supView = s.supView) (hgo : ∀ s, (go s).supView = s.supView) : (s.meetQuad q h closed shut go).supView = s.supView := by
  unfold State.meetQuad
  split
  · exact hshut s
  · simp [hgo]

@[simp] theorem State.quadRequest_supView (s : State) (r : Req) : (s.quadRequest r).supView = s.supView :=
  s.meetQuad_supView _ _ _ (fun s => by simp) fun s => by simp

@[simp] theorem State.arrive_supView (s : State) (r : Req) : (s.arrive r).supView = s.supView := by
  unfold State.arrive
  dsimp only
  split <;> simp

/-! ### A completion's way -/

@[simp] theorem State.sendCpl_supView (s : State) (o : OutReq) (inP : Nat) (st : CplStatus) (data : List Byte) (poison : Bool) (ts : Nat) (egr : Bool) :
    (s.sendCpl o inP st data poison ts egr).supView = s.supView := by
  unfold State.sendCpl
  split
  · simp
  · split
    · simp
    · rfl

@[simp] theorem State.deliverOn_supView (s : State) (o : OutReq) (n inP ts : Nat) (egr : Bool) : (s.deliverOn o n inP ts egr).supView = s.supView := by
  have hfail : ∀ (u : State) (bad : Option (Nat × CplStatus)),
      (match bad with
        | some e => u.sendCpl o inP e.2 [] false ts egr
        | none => u : State).supView = u.supView := fun u bad => by cases bad <;> simp
  unfold State.deliverOn
  dsimp only
  rw [ite_supView, State.delOut_supView, State.updOut_supView, ite_self]
  exact (hfail _ _).trans (by simp)

@[simp] theorem State.deliverDone_supView (s : State) (o : OutReq) (inP ts : Nat) (egr : Bool) : (s.deliverDone o inP ts egr).supView = s.supView := by
  simp [State.deliverDone]

@[simp] theorem State.deliverFail_supView (s : State) (o : OutReq) (inP : Nat) (st : CplStatus) (off ts : Nat) (egr : Bool) :
    (s.deliverFail o inP st off ts egr).supView = s.supView := by simp [State.deliverFail]

@[simp] theorem State.deliver_supView (s : State) (o : OutReq) (inP off : Nat) (data : List Byte) (poison : Bool) (ts : Nat) (egr : Bool) :
    (s.deliver o inP off data poison ts egr).supView = s.supView := by simp [State.deliver]

@[simp] theorem State.countCpl_supView (s : State) (isl : Nat) (imprint : Option Nat) (tc n ts : Nat) : (s.countCpl isl imprint tc n ts).supView = s.supView := by
  simp [State.countCpl]

@[simp] theorem State.unexpected_supView (s : State) (p : Nat) : (s.unexpected p).supView = s.supView := rfl

@[simp] theorem State.takeCpl_supView (s : State) (o : OutReq) (c : Cpl) : (s.takeCpl o c).supView = s.supView := by
  unfold State.takeCpl
  dsimp only
  split
  · simp
  · split <;> simp

@[simp] theorem State.cplLost_supView (s : State) (p tc : Nat) : (s.cplLost p tc).supView = s.supView := by simp [State.cplLost]

@[simp] theorem State.cplIn_supView (s : State) (c : Cpl) : (s.cplIn c).supView = s.supView := by
  refine s.meetQuad_supView _ _ _ (fun s => by simp) fun s => ?_
  split
  · simp
  · rfl

/-! ### A fabric packet's way -/

@[simp] theorem State.freeCredits_supView (s : State) (p v n : Nat) : (s.freeCredits p v n).supView = s.supView := by simp [State.freeCredits]

@[simp] theorem State.settleOwed_supView (s : State) (p : Nat) : (s.settleOwed p).supView = s.supView :=
  foldl_keeps State.supView (fun s _ => s.freeCredits_supView _ _ _) _ s

@[simp] theorem State.fabricAnswer_supView (s : State) (p : Nat) (t : Transit) : (s.fabricAnswer p t).supView = s.supView := by
  unfold State.fabricAnswer State.fabricUr
  split
  · split <;> simp
  · simp

@[simp] theorem State.answerTransit_supView (s : State) (t : Transit) : (s.answerTransit t).supView = s.supView := by
  unfold State.answerTransit
  dsimp only
  split
  · split
    · rw [State.outLost_supView]
      rfl
    · rfl
  · rw [State.fabricAnswer_supView]
    rfl

@[simp] theorem State.fabRefuse_supView (s : State) (p : Nat) (f : FabPkt) : (s.fabRefuse p f).supView = s.supView := by simp [State.fabRefuse]

@[simp] theorem State.fabCpl_supView (s : State) (p : Nat) (f : FabPkt) (ts : Nat) : (s.fabCpl p f ts).supView = s.supView := by
  unfold State.fabCpl
  dsimp only
  split
  · simp
  · split <;> simp

@[simp] theorem State.fabForward_supView (s : State) (p : Nat) (f : FabPkt) (ts : Nat) : (s.fabForward p f ts).supView = s.supView := by
  unfold State.fabForward
  dsimp only
  split
  · simp
  · split <;> simp

@[simp] theorem State.fabShut_supView (s : State) (p : Nat) (f : FabPkt) : (s.fabShut p f).supView = s.supView := by simp [State.fabShut]

@[simp] theorem State.fabPass_supView (s : State) (p : Nat) (f : FabPkt) (ts : Nat) (live : Bool) : (s.fabPass p f ts live).supView = s.supView := by
  unfold State.fabPass
  dsimp only
  split
  · rfl
  · split
    · exact s.meetQuad_supView _ _ _ (fun s => by simp) fun s => by simp
    · exact s.meetQuad_supView _ _ _ (fun s => by simp) fun s => by simp

@[simp] theorem State.fabTake_supView (s : State) (p : Nat) (f : FabPkt) (ts : Nat) (live : Bool) : (s.fabTake p f ts live).supView = s.supView := by
  simp [State.fabTake]

/-! ### What waited for an island goes on, or is answered -/

@[simp] theorem State.deliverWaiting_supView (s : State) (n : Nat) : (s.deliverWaiting n).supView = s.supView :=
  foldl_keeps State.supView (fun s h => by cases h <;> simp [State.resume]) _ _

@[simp] theorem State.turnAway_supView (s : State) (h : Held) : (s.turnAway h).supView = s.supView := by
  cases h <;> simp [State.turnAway]

@[simp] theorem State.answerWaiting_supView (s : State) (n : Nat) : (s.answerWaiting n).supView = s.supView := by
  unfold State.answerWaiting
  split
  · rfl
  · exact foldl_keeps State.supView (fun s h => s.turnAway_supView h) _ _

@[simp] theorem State.seedArbs_supView (s : State) (isl : Nat) : (s.seedArbs isl).supView = s.supView := by
  unfold State.seedArbs
  split <;> rfl

@[simp] theorem State.spineSingle_supView (s : State) (n : Nat) : (s.spineSingle n).supView = s.supView := by simp [State.spineSingle]

end Sys2Proof.Machine
end

section
/-! The statement on reset, resynchronisation and the management core's repair (R64, R65, R113, R117, R118), clause by clause. -/

namespace Sys2Proof.Machine

theorem State.islState_of_supView {s t : State} (h : t.supView = s.supView) (n : Nat) : t.islState n = s.islState n := State.reg_of_supView h rfl n

/-! ### The command that waits for an island (R64) -/

theorem State.finish_isl (s : State) (w : Wait) (code : Nat) (ret : List Nat) : (s.finish w code ret).isl = s.isl := rfl

/-- The command that waits for power of one of the island's domains ends. -/
def State.endPower (s : State) (n : Nat) : State :=
  match s.port.running with
  | some r => match r.wait with
    | .power d => if domIsland d == n then s.finish (.power d) 0 else s
    | _ => s
  | none => s

theorem State.endPower_eq (s : State) (n : Nat) : ∃ po, s.endPower n = { s with port := po } := by
  unfold State.endPower
  split
  · split
    · split <;> exact ⟨_, rfl⟩
    · exact ⟨_, rfl⟩
  · exact ⟨_, rfl⟩

/-! ### An island leaves its reset (R64, R65) -/

/-- The reset of an island is over: its clock runs again. -/
def State.clocked (s : State) (n t0 : Nat) : State :=
  ((s.atNow (t0 + resetTime n)).updIsl fun i => { i with resets := i.resets.filter fun x => x.1 != n }).setReg .SUP_ISL_STATUS_CLK_LOCK n 1

theorem State.clocked_reg (s : State) (n t0 : Nat) : (s.clocked n t0).reg .SUP_ISL_STATUS_CLK_LOCK n = 1 := by
  rw [State.clocked, State.reg_setReg, if_pos ⟨rfl, rfl⟩]
  rfl

theorem State.leaveReset_core {s : State} {t0 : Nat} (h : s.isl.resets.find? (fun e => e.1 == 52) = some (52, t0)) :
    s.leaveReset 52 = ((s.clocked 52 t0).setIsl 52 2).updIsl fun i => { i with mgmt := i.mgmt.map fun m => { m with rebuilding := true } } := by
  unfold State.leaveReset
  rw [h]
  rfl

/-- An island other than the management core leaves its reset FENCED; what waited for it is answered. -/
def State.fenced (s : State) (n : Nat) : State := ((((s.seedArbs n).setIsl n 4).answerWaiting n).rebind n).spineSingle n

/-- It is stale, and what its copies showed of errors is gone. -/
def State.madeStale (s : State) (n : Nat) : State :=
  (s.updIsl (fun i => { i with stale := addTo n i.stale })).updCom fun m => { m with
    unreadable := m.unreadable.filter (fun x => x.1 + 32 != n), flips := m.flips.filter (fun x => x.1 + 32 != n) }

theorem State.leaveReset_island {s : State} {n t0 : Nat} (hn : n ≠ 52) (h : s.isl.resets.find? (fun e => e.1 == n) = some (n, t0)) :
    s.leaveReset n = (((s.clocked n t0).fenced n).madeStale n).endPower n := by
  unfold State.leaveReset
  rw [h]
  dsimp only
  rw [if_neg (by simpa using hn)]
  rfl

theorem State.seedArbs_isl (s : State) (n : Nat) : (s.seedArbs n).isl = s.isl := by
  unfold State.seedArbs
  split <;> rfl

theorem State.fenced_spec (s : State) (n : Nat) :
    (s.fenced n).islState n = 4 ∧ (∀ i, (s.fenced n).reg .SUP_ISL_STATUS_CLK_LOCK i = s.reg .SUP_ISL_STATUS_CLK_LOCK i) ∧ (s.fenced n).isl.resets = s.isl.resets ∧
      (s.fenced n).isl.heldRegs = s.isl.heldRegs ∧ (s.fenced n).frame = s.frame := by
  have hlater : (s.fenced n).supView = ((s.seedArbs n).setIsl n 4).supView := by simp [State.fenced]
  have hisl : ((s.seedArbs n).setIsl n 4).isl = s.isl := by rw [State.setIsl_isl, State.seedArbs_isl]
  refine ⟨?_, fun i => ?_, ?_, ?_, by simp [State.fenced]⟩
  · rw [State.islState_of_supView hlater, State.setIsl_islState]
  · rw [State.reg_of_supView hlater rfl, State.setIsl_reg_ne _ _ _ _ (by simp)]
    exact State.reg_of_supView (s.seedArbs_supView n) rfl i
  · rw [← hisl]
    exact congrArg (fun v => v.isl.resets) hlater
  · rw [← hisl]
    exact congrArg (fun v => v.isl.heldRegs) hlater

/-- With no register access that waits for the island, none is served. -/
theorem State.serveRegs_none {s : State} {n : Nat} (h : s.isl.heldRegs.any (fun e => e.1 == n) = false) :
    s.serveRegs n = s ∨ s.serveRegs n = s.updIsl fun i => { i with heldRegs := i.heldRegs.filter fun e => e.1 != n } := by
  have hnil : s.isl.heldRegs.filter (fun e => e.1 == n) = [] := List.filter_eq_nil_iff.2 fun e he => by simpa using List.any_eq_false.1 h e he
  unfold State.serveRegs
  split
  · exact .inl rfl
  · right
    simp only [hnil]
    rfl

theorem exec_islandResetRelease (s : State) (n : Nat) : exec (.islandResetRelease n) s = .next ((s.started.leaveReset n).serveRegs n) := rfl

theorem any_filter_ne (l : List (Nat × Nat)) (n : Nat) : (l.filter fun x => x.1 != n).any (fun e => e.1 == n) = false := by simp

theorem exec_islandResetRelease_spec {s : State} {n t0 : Nat} (hn : n ≠ 52) (h : s.isl.resets.find? (fun e => e.1 == n) = some (n, t0))
    (hheld : s.isl.heldRegs.any (fun e => e.1 == n) = false) :
    ∃ t, exec (.islandResetRelease n) s = .next t ∧ t.islState n = 4 ∧ t.isl.stale.contains n = true ∧ t.reg .SUP_ISL_STATUS_CLK_LOCK n = 1 ∧
      t.isl.resets.any (fun e => e.1 == n) = false ∧ t.now = max s.now (t0 + resetTime n) ∧ t.flash = s.flash ∧ t.part = s.part ∧ t.pool.mem = s.pool.mem := by
  refine ⟨_, exec_islandResetRelease s n, ?_⟩
  rw [State.leaveReset_island hn (show s.started.isl.resets.find? _ = _ from h)]
  obtain ⟨hstate, hclk, hresets, hregs, hframe⟩ := (s.started.clocked n t0).fenced_spec n
  obtain ⟨po, hend⟩ := (((s.started.clocked n t0).fenced n).madeStale n).endPower_eq n
  rw [hend]
  generalize (s.started.clocked n t0).fenced n = u at hstate hclk hresets hregs hframe
  have hnone : ({ u.madeStale n with port := po } : State).isl.heldRegs.any (fun e => e.1 == n) = false := by
    change u.isl.heldRegs.any _ = false
    rw [hregs]
    exact hheld
  have hclock := (hclk n).trans (s.started.clocked_reg n t0)
  have hover : u.isl.resets.any (fun e => e.1 == n) = false := by
    rw [hresets]
    exact any_filter_ne _ n
  have hnow : u.now = max s.now (t0 + resetTime n) := congrArg Frame.now hframe
  have hflash : u.flash = s.flash := congrArg Frame.flash hframe
  have hpart : u.part = s.part := congrArg Frame.part hframe
  have hmem : u.pool.mem = s.pool.mem := congrArg Frame.mem hframe
  rcases State.serveRegs_none hnone with hserve | hserve <;> rw [hserve] <;>
    exact ⟨hstate, contains_addTo n _, hclock, hover, hnow, hflash, hpart, hmem⟩

theorem exec_islandResetRelease_core {s : State} {t0 : Nat} (h : s.isl.resets.find? (fun e => e.1 == 52) = some (52, t0))
    (hheld : s.isl.heldRegs.any (fun e => e.1 == 52) = false) :
    ∃ t, exec (.islandResetRelease 52) s = .next t ∧ t.islState 52 = 2 ∧ t.isl.mgmt = s.isl.mgmt.map (fun m => { m with rebuilding := true }) ∧
      t.reg .SUP_ISL_STATUS_CLK_LOCK 52 = 1 ∧ t.now = max s.now (t0 + resetTime 52) ∧ t.flash = s.flash ∧ t.part = s.part ∧ t.pool.mem = s.pool.mem := by
  refine ⟨_, exec_islandResetRelease s 52, ?_⟩
  rw [State.leaveReset_core (show s.started.isl.resets.find? _ = _ from h)]
  have hstate := (s.started.clocked 52 t0).setIsl_islState 52 2
  have hclock : ((s.started.clocked 52 t0).setIsl 52 2).reg .SUP_ISL_STATUS_CLK_LOCK 52 = 1 :=
    (State.setIsl_reg_ne _ _ _ _ (by simp)).trans (s.started.clocked_reg 52 t0)
  have hisl := (s.started.clocked 52 t0).setIsl_isl 52 2
  have hframe := (s.started.clocked 52 t0).setIsl_frame 52 2
  generalize (s.started.clocked 52 t0).setIsl 52 2 = u at hstate hclock hisl hframe
  have hnone : (u.updIsl fun i => { i with mgmt := i.mgmt.map fun m => { m with rebuilding := true } }).isl.heldRegs.any (fun e => e.1 == 52) = false := by
    change u.isl.heldRegs.any _ = false
    rw [hisl]
    exact hheld
  have hmgmt : u.isl.mgmt = s.isl.mgmt := (congrArg Islands.mgmt hisl).trans rfl
  have hnow : u.now = max s.now (t0 + resetTime 52) := congrArg Frame.now hframe
  have hflash : u.flash = s.flash := congrArg Frame.flash hframe
  have hpart : u.part = s.part := congrArg Frame.part hframe
  have hmem : u.pool.mem = s.pool.mem := congrArg Frame.mem hframe
  rcases State.serveRegs_none hnone with hserve | hserve <;> rw [hserve, ← hmgmt] <;>
    exact ⟨hstate, rfl, hclock, hnow, hflash, hpart, hmem⟩

end Sys2Proof.Machine
end

section
/-! The statement on reset, resynchronisation and repair, its later clauses (R64, R113, R117, R118). -/

namespace Sys2Proof.Machine

/-! ### An island is resynchronised (R64) -/

@[simp] theorem State.takeRec_supView (s : State) (c : CountRec) : (s.takeRec c).supView = s.supView := by
  simp [State.takeRec]

@[simp] theorem State.drainRecs_supView (s : State) : s.drainRecs.supView = s.supView := by
  unfold State.drainRecs
  split
  · rw [foldl_keeps State.supView fun s c => s.takeRec_supView c, State.updMet_supView]
  · rfl

@[simp] theorem State.atDev_supView (s : State) (t : Nat) : (s.atDev t).supView = s.supView := by
  unfold State.atDev
  split <;> rfl

@[simp] theorem State.bankClose_supView (s : State) : s.bankClose.supView = s.supView := by
  unfold State.bankClose
  split
  · rfl
  · dsimp only
    split
    · simp
    · split <;> simp

@[simp] theorem State.meterStart_supView (s : State) : s.meterStart.supView = s.supView := by simp [State.meterStart]

@[simp] theorem State.meterResume_supView (s : State) : s.meterResume.supView = s.supView := by simp [State.meterResume]

@[simp] theorem State.perstRule_supView (s : State) (p : Nat) : (s.perstRule p).supView = s.supView := by
  unfold State.perstRule
  split <;> simp

@[simp] theorem State.startTrain_supView (s : State) (p : Nat) : (s.startTrain p).supView = s.supView := by simp [State.startTrain]

/-- The island's copies stand again; it runs. -/
def State.resynced (s : State) (n : Nat) : State :=
  ((s.updIsl (fun i => { i with resync := dropFrom n i.resync, stale := dropFrom n i.stale, bootFenced := dropFrom n i.bootFenced })).work n).setIsl n 2

/-- The other spine's queues rebind. -/
def State.spineBack (s : State) (n : Nat) : State := if n == 40 || n == 41 then (s.causeOff 0x0A n).rebind (81 - n) else s

/-- Metering goes on, and what waited for it. -/
def State.meterBack (s : State) (n : Nat) : State :=
  if n == 53 then (s.meterResume.updMet (fun m => { m with recQ := m.recQ ++ m.recHeld, recHeld := [] })).deliverWaiting 53 else s

/-- A tile's ports train. -/
def State.tileBack (s : State) (n : Nat) : State :=
  if n < 32 then (s.tilePorts n).foldl (fun s p => if s.role p == 3 then s else s.startTrain p) s else s

/-- What a resynchronised island takes up again. -/
def State.takeUp (s : State) (n : Nat) : State :=
  (((s.updKeys fun k => { k with redeliver := k.redeliver.filter (fun e => e.1 != n) }).spineBack n).meterBack n).tileBack n

theorem State.tileBack_supView (s : State) (n : Nat) : (s.tileBack n).supView = s.supView := by
  unfold State.tileBack
  split
  · exact foldl_keeps State.supView (fun s p => by simp) _ s
  · rfl

theorem State.takeUp_supView (s : State) (n : Nat) : (s.takeUp n).supView = s.supView := by
  rw [State.takeUp, State.tileBack_supView]
  simp [State.meterBack, State.spineBack]

theorem State.tileBack_frame (s : State) (n : Nat) : (s.tileBack n).frame = s.frame := by
  unfold State.tileBack
  split
  · exact foldl_keeps State.frame (fun s p => by simp) _ s
  · rfl

theorem State.takeUp_frame (s : State) {n : Nat} (hn : n ≠ 53) : (s.takeUp n).frame = s.frame := by
  rw [State.takeUp, State.tileBack_frame]
  simp [State.meterBack, State.spineBack, hn]

theorem State.takeUp_still (s : State) (n : Nat) : (s.takeUp n).frame.still = s.frame.still := by
  rw [State.takeUp, State.tileBack_frame]
  simp only [State.meterBack, State.spineBack]
  split <;> split <;> simp

theorem exec_resyncComplete_of {s : State} {n : Nat} (hr : s.isl.resync.contains n = true) (hi : s.islState n = 4) (hm : s.mgmtUp = true)
    (hsrc : n < 32 ∨ 40 ≤ n ∨ s.isl.stale.contains n = false ∨ s.sourceQuad.isSome = true) :
    exec (.resyncComplete n) s = .next (((s.started.resynced n).takeUp n).finish (.unfence n) 0) := by
  have hguard : (s.started.isl.resync.contains n && s.started.islState n == 4 && s.started.mgmtUp &&
      (decide (n < 32) || decide (40 ≤ n) || !s.started.isl.stale.contains n || s.started.sourceQuad.isSome)) = true := by
    change (s.isl.resync.contains n && s.islState n == 4 && s.mgmtUp && (decide (n < 32) || decide (40 ≤ n) || !s.isl.stale.contains n || s.sourceQuad.isSome)) = true
    simp only [hr, hi, hm, Bool.and_eq_true, Bool.or_eq_true, decide_eq_true_eq, Bool.not_eq_true', beq_self_eq_true, true_and]
    tauto
  change execResyncComplete n s = _
  rw [execResyncComplete, run_started]
  dsimp only
  rw [if_pos hguard]
  rfl

/-- A command that waits, and has no result yet, ends. -/
theorem State.finish_resultCode {s : State} {w : Wait} (code : Nat) (h : s.supView.run = some (w, none)) : (s.finish w code).resultCode = some code := by
  obtain ⟨r, hr, hview⟩ := Option.map_eq_some_iff.1 (h : s.port.running.map (fun r => (r.wait, r.result)) = some (w, none))
  obtain ⟨hw, hresult⟩ := Prod.mk.inj hview
  simp [State.finish, State.updRun, State.resultCode, hr, hw, hresult]

theorem State.supView_run_of {s : State} {w : Wait} (hw : s.waitsFor = some w) (hr : s.resultCode = none) : s.supView.run = some (w, none) := by
  obtain ⟨r, hrun, hwait⟩ := Option.map_eq_some_iff.1 (hw : s.port.running.map (·.wait) = some w)
  have hresult : r.result = none := by simpa [State.resultCode, hrun] using hr
  simp [State.supView, hrun, hwait, hresult]

theorem exec_resyncComplete_spec {s : State} {n : Nat} (hr : s.isl.resync.contains n = true) (hi : s.islState n = 4) (hm : s.mgmtUp = true)
    (hsrc : n < 32 ∨ 40 ≤ n ∨ s.isl.stale.contains n = false ∨ s.sourceQuad.isSome = true) :
    ∃ t, exec (.resyncComplete n) s = .next t ∧ t.islState n = 2 ∧ t.isl.resync.contains n = false ∧ t.isl.stale.contains n = false ∧
      (s.waitsFor = some (.unfence n) → s.resultCode = none → t.resultCode = some 0) ∧
      (n ≠ 53 → t.frame = s.frame) ∧ t.flash = s.flash ∧ t.part = s.part ∧ t.pool.mem = s.pool.mem ∧ t.pending = s.pending := by
  refine ⟨_, exec_resyncComplete_of hr hi hm hsrc, ?_⟩
  have hlater := (s.started.resynced n).takeUp_supView n
  have hframe : n ≠ 53 → ((s.started.resynced n).takeUp n).frame = (s.started.resynced n).frame := State.takeUp_frame _
  have hstill := (s.started.resynced n).takeUp_still n
  have hisl : (s.started.resynced n).isl.resync = dropFrom n s.isl.resync ∧ (s.started.resynced n).isl.stale = dropFrom n s.isl.stale := by
    rw [State.resynced, State.setIsl_isl]
    exact ⟨rfl, rfl⟩
  have hport : (s.started.resynced n).supView.run = s.supView.run := by
    rw [State.supView, State.supView, State.resynced, State.setIsl_port]
    rfl
  have hkept : (s.started.resynced n).frame = s.frame := by
    rw [State.resynced, State.setIsl_frame]
    rfl
  have hstate : (s.started.resynced n).islState n = 2 := State.setIsl_islState _ _ _
  generalize s.started.resynced n = u at *
  rw [hkept] at hframe hstill
  have hresync : (u.takeUp n).isl.resync = u.isl.resync := congrArg (fun v => v.isl.resync) hlater
  have hstale : (u.takeUp n).isl.stale = u.isl.stale := congrArg (fun v => v.isl.stale) hlater
  refine ⟨(State.islState_of_supView hlater n).trans hstate, ?_, ?_, fun hw hnone => ?_, fun hn => ?_,
    congrArg Frame.flash hstill, congrArg Frame.part hstill, congrArg Frame.mem hstill, congrArg Frame.pending hstill⟩
  · rw [State.finish_isl, hresync, hisl.1, contains_dropFrom]
  · rw [State.finish_isl, hstale, hisl.2, contains_dropFrom]
  · refine State.finish_resultCode 0 ?_
    rw [hlater, hport]
    exact State.supView_run_of hw hnone
  · rw [State.finish_frame, hframe hn]

/-! ### The management core's repair fails (R117) -/

theorem exec_mgmtRepairRetry (s : State) : exec .mgmtRepairRetry s = .next s.started.repairFails := rfl

theorem State.repairFails_none {s : State} (h : s.isl.mgmt = none) : s.repairFails = s := by
  unfold State.repairFails
  rw [h]

theorem State.repairFails_again {s : State} {m : MgmtRepair} (h : s.isl.mgmt = some m) (hr : m.rebuilding = false) (ha : m.attempts < 3) :
    s.repairFails = (s.setIsl 52 5).cycleMgmt (m.attempts + 1) m.since := by
  unfold State.repairFails
  rw [h]
  dsimp only
  rw [if_neg (by simp [hr]; omega), if_pos ha]

/-- Repair is given up: the core is to be switched off. -/
def State.repairOver (s : State) (m : MgmtRepair) : State :=
  s.updIsl fun i => { i with
    mgmt := some { m with attempts := 4 }, resets := i.resets.filter (fun e => e.1 != 52),
    switchQ := i.switchQ.filter (fun o => o.dom != 86) ++ [{ dom := 86, on := false }] }

/-- Completer Abort for each of a list of configuration writes that waits for its answer. -/
def State.abortWrites (s : State) (l : List HierWrite) : State := (l.filter (·.answer)).foldl (fun s w => s.emit (.cfg w.host .ca 0)) s

theorem State.repairFails_last {s : State} {m : MgmtRepair} (h : s.isl.mgmt = some m) (hr : m.rebuilding = false) (ha : m.attempts = 3) :
    s.repairFails = ((((s.setIsl 52 5).repairOver m).abortWrites (s.com.redo ++ s.com.hierQ ++ s.com.owed)).updCom fun c => { c with
      redo := [], hierQ := [], owed := [] }).report 0x05 0 0 := by
  unfold State.repairFails
  rw [h]
  dsimp only
  rw [if_neg (by simp [hr, ha]), if_neg (by omega), State.abortWrites, ← s.setIsl_com 52 5]
  rfl

/-- Each of a list of outputs is given. -/
theorem mem_foldl_emit {α : Type} (f : α → Output) (l : List α) (s : State) :
    l.foldl (fun s w => s.emit (f w)) s = { s with out := s.out ++ l.map f } := by
  induction l generalizing s with
  | nil => simp
  | cons w l ih =>
    rw [List.foldl_cons, ih, List.map_cons]
    simp [State.emit]

/-- A report that joins a queue that is never full waits there (R632). -/
theorem queueReport_any_source (v : Nat) (l : List Report) {r : Report} (h : r.isl = 50) : (queueReport v l r).any (fun x => x.source == r.source) = true := by
  have hfull : reportsFull l r = false := by simp [reportsFull, h]
  rw [queueReport, hfull, Bool.not_false, if_pos rfl, mergeReport]
  split
  · rename_i hany
    obtain ⟨x, hx, hsame⟩ := List.any_eq_true.1 hany
    have hsource : x.source = r.source := by
      simp only [sameReport, Bool.and_eq_true, beq_iff_eq] at hsame
      exact hsame.1.1.1.1.symm
    exact List.any_eq_true.2 ⟨_, List.mem_map_of_mem hx, by simp [hsame, hsource]⟩
  · simp

theorem State.report_any_source (s : State) (source kind scope : Nat) (h : reportIsland source kind scope = 50) :
    (s.report source kind scope).flt.reportQ.any (fun x => x.source == source) = true :=
  queueReport_any_source _ _ (r := { source, kind, scope, isl := reportIsland source kind scope }) h

theorem exec_mgmtRepairRetry_again {s : State} {m : MgmtRepair} (h : s.isl.mgmt = some m) (hr : m.rebuilding = false) (ha : m.attempts < 3) :
    ∃ t, exec .mgmtRepairRetry s = .next t ∧ t.islState 52 = 5 ∧ t.isl.mgmt = some { attempts := m.attempts + 1, since := m.since } ∧
      t.isl.resets = s.isl.resets.filter (fun e => e.1 != 52) ∧
      t.isl.switchQ = s.isl.switchQ.filter (fun o => o.dom != 86) ++ [{ dom := 86, on := false }, { dom := 86, on := true }] ∧
      KeepsRegs s t [(.SUP_ISL_STATUS_STATE, 52)] ∧ t.com = s.com ∧ t.flt = s.flt ∧ t.frame = s.frame := by
  refine ⟨_, (exec_mgmtRepairRetry s).trans (congrArg _ (State.repairFails_again (s := s.started) h hr ha)), ?_⟩
  have hisl := s.started.setIsl_isl 52 5
  have hregs : KeepsRegs s (s.started.setIsl 52 5) [(.SUP_ISL_STATUS_STATE, 52)] := fun f i hf => (State.setIsl_reg _ _ _ _ _).trans (if_neg (by simpa using hf))
  have hstate := s.started.setIsl_islState 52 5
  have hcom := s.started.setIsl_com 52 5
  have hflt := s.started.setIsl_flt 52 5
  have hframe := s.started.setIsl_frame 52 5
  generalize s.started.setIsl 52 5 = u at *
  refine ⟨hstate, rfl, ?_, ?_, hregs, hcom, hflt, hframe⟩
  · exact congrArg (fun i : Islands => i.resets.filter fun e => e.1 != 52) hisl
  · exact congrArg (fun i : Islands => i.switchQ.filter (fun o => o.dom != 86) ++ [({ dom := 86, on := false } : SwitchOp), { dom := 86, on := true }]) hisl

theorem exec_mgmtRepairRetry_last {s : State} {m : MgmtRepair} (h : s.isl.mgmt = some m) (hr : m.rebuilding = false) (ha : m.attempts = 3) :
    ∃ t, exec .mgmtRepairRetry s = .next t ∧
      t.islState 52 = 5 ∧ t.isl.mgmt = some { m with attempts := 4 } ∧ t.com.hierQ = [] ∧ t.com.redo = [] ∧ t.com.owed = [] ∧
      t.isl.switchQ = s.isl.switchQ.filter (fun o => o.dom != 86) ++ [{ dom := 86, on := false }] ∧
      (∀ w ∈ s.com.redo ++ s.com.hierQ ++ s.com.owed, w.answer = true → Output.cfg w.host .ca 0 ∈ t.out) ∧
      t.flt.reportQ.any (fun r => r.source == 5) = true ∧ KeepsRegs s t [(.SUP_ISL_STATUS_STATE, 52)] ∧ t.frame = s.frame := by
  refine ⟨_, (exec_mgmtRepairRetry s).trans (congrArg _ (State.repairFails_last (s := s.started) h hr ha)), ?_⟩
  have hisl := s.started.setIsl_isl 52 5
  have hregs : KeepsRegs s (s.started.setIsl 52 5) [(.SUP_ISL_STATUS_STATE, 52)] := fun f i hf => (State.setIsl_reg _ _ _ _ _).trans (if_neg (by simpa using hf))
  have hstate := s.started.setIsl_islState 52 5
  have hframe := s.started.setIsl_frame 52 5
  generalize s.started.setIsl 52 5 = u at hisl hregs hstate hframe
  rw [State.abortWrites, mem_foldl_emit]
  refine ⟨hstate, rfl, rfl, rfl, rfl, ?_, fun w hw ha => ?_, State.report_any_source _ _ _ _ rfl, hregs, hframe⟩
  · exact congrArg (fun i : Islands => i.switchQ.filter (fun o => o.dom != 86) ++ [({ dom := 86, on := false } : SwitchOp)]) hisl
  · exact List.mem_append_right _ (List.mem_map.2 ⟨w, List.mem_filter.2 ⟨hw, ha⟩, rfl⟩)

/-! ### The master copies stand again (R117, R118) -/

theorem scope_le_three (f : Fld) : f.scope ≤ 3 := by
  unfold Fld.scope
  split <;> decide

/-- Dropping every scope leaves nothing staged. -/
theorem State.discardScopes_all (s : State) : (s.discardScopes 0xFF).staged = [] ∧ (s.discardScopes 0xFF).com.staged = [] := by
  refine ⟨List.filter_eq_nil_iff.2 fun e _ => ?_, rfl⟩
  have hscope := scope_le_three e.1.fld
  interval_cases e.1.fld.scope <;> decide

theorem State.vectorOps_eq (s : State) (n : Nat) : ∃ ln o, s.vectorOps n = { s with link := ln, out := o } := by
  unfold State.vectorOps
  generalize s.operators = l
  induction l generalizing s with
  | nil => exact ⟨_, _, rfl⟩
  | cons k l ih =>
    obtain ⟨_, _, hk⟩ := s.vector_eq k n
    obtain ⟨ln, o, hl⟩ := ih (s.vector k n)
    exact ⟨ln, o, hl.trans (by rw [hk])⟩

/-- The composing lock is free, after a loss, and nothing is staged. -/
theorem State.releaseLock_broken (s : State) :
    (s.releaseLock true).reg .CMP_LOCK_HELD 0 = 0 ∧ (s.releaseLock true).reg .CMP_LOCK_BROKEN 0 = 1 ∧ (s.releaseLock true).staged = [] ∧
      (s.releaseLock true).com.staged = [] ∧ (s.releaseLock true).isl = s.isl ∧ (s.releaseLock true).port = s.port ∧
      (∀ n, (s.releaseLock true).islState n = s.islState n) ∧
      ((s.releaseLock true).com.cur, (s.releaseLock true).com.waiting, (s.releaseLock true).com.redo, (s.releaseLock true).com.hierQ, (s.releaseLock true).com.owed) =
        (s.com.cur, s.com.waiting, s.com.redo, s.com.hierQ, s.com.owed) := by
  have hlock : ∃ u : State, (s.releaseLock true) = (u.discardScopes 0xFF).vectorOps 3 ∧
      u = (s.setReg .CMP_LOCK_BROKEN 0 1).setRegs [(.CMP_LOCK_HELD, 0, 0), (.CMP_LOCK_HOST_INDEX, 0, 0), (.CMP_LOCK_FUNCTION, 0, 0)] := ⟨_, rfl, rfl⟩
  obtain ⟨u, hlock, hu⟩ := hlock
  obtain ⟨ln, o, hvector⟩ := (u.discardScopes 0xFF).vectorOps_eq 3
  obtain ⟨hstaged, himp⟩ := u.discardScopes_all
  have hreg : ∀ f i, (u.discardScopes 0xFF).reg f i = u.reg f i := fun _ _ => rfl
  have hheld : u.reg .CMP_LOCK_HELD 0 = 0 := by simp [hu, State.setRegs_cons, State.reg_setReg]
  have hbroken : u.reg .CMP_LOCK_BROKEN 0 = 1 := by
    rw [hu, State.reg_setRegs_notin _ _ _ _ (by simp), State.reg_setReg, if_pos ⟨rfl, rfl⟩]
    rfl
  have hstate : ∀ n, u.islState n = s.islState n := fun n => by
    rw [hu, State.islState, State.reg_setRegs_notin _ _ _ _ (by simp)]
    exact s.reg_setReg_ne _ (by simp)
  rw [hlock, hvector]
  refine ⟨hheld, hbroken, hstaged, himp, ?_, ?_, hstate, ?_⟩ <;> rw [hu] <;> rfl

/-- With a commit in progress, or with none that waits, none begins. -/
theorem State.nextCommit_idle {s : State} (h : s.com.cur ≠ none ∨ (s.com.waiting = none ∧ s.com.hierQ = [] ∧ s.com.redo = [])) : s.nextCommit = s := by
  unfold State.nextCommit
  split
  · rfl
  · rename_i hfree
    rcases h with hcur | ⟨hwaiting, hhier, hredo⟩
    · exact absurd (by simp [Option.isSome_iff_ne_none.2 hcur]) hfree
    · simp [hwaiting, State.hierWaits, hhier, hredo]

theorem State.freePort_keeps (s : State) :
    KeepsRegs s s.freePort [(.CMP_STATUS_INTERNAL, 0), (.CMP_STATUS_BUSY, 0)] ∧ s.freePort.isl = s.isl ∧ s.freePort.staged = s.staged ∧ s.freePort.com = s.com ∧
      s.freePort.out = s.out := by
  unfold State.freePort
  split
  · exact ⟨fun _ _ _ => rfl, rfl, rfl, rfl, rfl⟩
  · dsimp only
    have hinternal : KeepsRegs s (s.setReg .CMP_STATUS_INTERNAL 0 0) [(.CMP_STATUS_INTERNAL, 0), (.CMP_STATUS_BUSY, 0)] := fun f i h =>
      s.reg_setReg_ne _ fun e => h (by simp [e.1, e.2])
    split
    · exact ⟨hinternal, rfl, rfl, rfl, rfl⟩
    · refine ⟨fun f i h => (State.reg_setReg_ne _ _ fun e => h (by simp [e.1, e.2])).trans (hinternal f i h), rfl, rfl, rfl, rfl⟩

/-- With no command running and no commit in progress the port is free. -/
theorem State.freePort_busy {s : State} (hcur : s.com.cur = none) (hup : s.mgmtUp = true) (hrun : s.port.running = none) : s.freePort.busy = false := by
  have hfree : s.freePort = (s.setReg .CMP_STATUS_INTERNAL 0 0).setReg .CMP_STATUS_BUSY 0 0 := by
    simp [State.freePort, hcur, hup, hrun]
  rw [hfree, State.busy, State.on, State.reg_setReg, if_pos ⟨rfl, rfl⟩]
  rfl

/-- What the management core has back once its copies stand: the lock lost, the writes owed answered. -/
def State.rebuilt (s : State) : State :=
  let s := (s.updIsl (fun i => { i with mgmt := none, stale := dropFrom 52 i.stale })).releaseLock true
  let s := { s with port := { s.port with lockDrop := false } }
  let s := (s.com.owed.filter (·.answer)).foldl (fun s w => s.emit (.cfg w.host .sc 0)) s
  let s := s.updCom (fun c => { c with owed := [] })
  if s.sourceQuad.isNone then s.report 0x04 0 0 else s

theorem State.rebuilt_spec (s : State) :
    s.rebuilt.reg .CMP_LOCK_HELD 0 = 0 ∧ s.rebuilt.reg .CMP_LOCK_BROKEN 0 = 1 ∧ s.rebuilt.staged = [] ∧ s.rebuilt.com.staged = [] ∧
      s.rebuilt.isl = { s.isl with mgmt := none, stale := dropFrom 52 s.isl.stale } ∧ s.rebuilt.port.running = s.port.running ∧
      s.rebuilt.islState 52 = s.islState 52 ∧ s.rebuilt.com.cur = s.com.cur ∧ s.rebuilt.com.waiting = s.com.waiting ∧ s.rebuilt.com.redo = s.com.redo ∧
      s.rebuilt.com.hierQ = s.com.hierQ ∧ s.rebuilt.com.owed = [] ∧ (∀ w ∈ s.com.owed, w.answer = true → Output.cfg w.host .sc 0 ∈ s.rebuilt.out) := by
  obtain ⟨hheld, hbroken, hstaged, himp, hisl, hport, hstate, hcom⟩ := (s.updIsl fun i => { i with mgmt := none, stale := dropFrom 52 i.stale }).releaseLock_broken
  unfold State.rebuilt
  generalize State.releaseLock _ true = u at *
  obtain ⟨hcur, hwaiting, hredo, hhier, howed⟩ : u.com.cur = s.com.cur ∧ u.com.waiting = s.com.waiting ∧ u.com.redo = s.com.redo ∧ u.com.hierQ = s.com.hierQ ∧
      u.com.owed = s.com.owed := by simpa using hcom
  dsimp only
  rw [mem_foldl_emit]
  have hanswers : ∀ w ∈ s.com.owed, w.answer = true → Output.cfg w.host .sc 0 ∈ u.out ++ (u.com.owed.filter (·.answer)).map fun w => Output.cfg w.host .sc 0 := by
    intro w hw ha
    rw [howed]
    exact List.mem_append_right _ (List.mem_map.2 ⟨w, List.mem_filter.2 ⟨hw, ha⟩, rfl⟩)
  have hrun : u.port.running = s.port.running := congrArg Port.running hport
  split <;> exact ⟨hheld, hbroken, hstaged, himp, hisl, hrun, hstate 52, hcur, hwaiting, hredo, hhier, rfl, hanswers⟩

theorem exec_mgmtRebuildDone (s : State) : exec .mgmtRebuildDone s = execMgmtRebuildDone s := rfl

theorem exec_mgmtRebuildDone_of {s : State} {m : MgmtRepair} (h : s.isl.mgmt = some m) (hr : m.rebuilding = true) :
    exec .mgmtRebuildDone s = .next (s.started.rebuilt.nextCommit.freePort) := by
  rw [exec_mgmtRebuildDone, execMgmtRebuildDone, run_started, show s.started.isl.mgmt = some m from h]
  dsimp only
  rw [if_pos hr]
  rfl

theorem exec_mgmtRebuildDone_none {s : State} (h : s.isl.mgmt = none) : exec .mgmtRebuildDone s = .next { s with out := [] } := by
  rw [exec_mgmtRebuildDone, execMgmtRebuildDone, run_started, show s.started.isl.mgmt = none from h]
  rfl

theorem State.rebuilt_frame (s : State) : s.rebuilt.frame = s.frame := by
  unfold State.rebuilt
  dsimp only
  rw [ite_frame, State.report_frame, ite_self, State.updCom_frame, foldl_keeps State.frame fun s w => s.emit_frame _]
  exact (State.releaseLock_frame _ _).trans (s.updIsl_frame _)

theorem exec_mgmtRebuildDone_spec {s : State} {m : MgmtRepair} (h : s.isl.mgmt = some m) (hr : m.rebuilding = true)
    (hnext : s.com.cur ≠ none ∨ (s.com.waiting = none ∧ s.com.hierQ = [] ∧ s.com.redo = [])) :
    ∃ t, exec .mgmtRebuildDone s = .next t ∧
      t.isl.mgmt = none ∧ t.isl.stale.contains 52 = false ∧ t.reg .CMP_LOCK_HELD 0 = 0 ∧ t.reg .CMP_LOCK_BROKEN 0 = 1 ∧ t.staged = [] ∧ t.com.staged = [] ∧
      t.com.owed = [] ∧ (∀ w ∈ s.com.owed, w.answer = true → Output.cfg w.host .sc 0 ∈ t.out) ∧
      (s.com.cur = none → s.port.running = none → s.islState 52 = 2 → t.busy = false) ∧ t.frame = s.frame := by
  refine ⟨_, exec_mgmtRebuildDone_of h hr, ?_⟩
  obtain ⟨hheld, hbroken, hstaged, himp, hisl, hrun, hstate, hcur, hwaiting, hredo, hhier, howed, hanswers⟩ := s.started.rebuilt_spec
  have hidle : s.started.rebuilt.nextCommit = s.started.rebuilt := State.nextCommit_idle (by rw [hcur, hwaiting, hredo, hhier]; exact hnext)
  have hframe := s.started.rebuilt_frame
  rw [hidle]
  generalize s.started.rebuilt = u at *
  obtain ⟨hregs, hkisl, hkstaged, hkcom, hkout⟩ := u.freePort_keeps
  refine ⟨?_, ?_, ?_, ?_, hkstaged.trans hstaged, ?_, ?_, fun w hw ha => ?_, fun hcur0 hrun0 hstate0 => ?_, (u.freePort_frame).trans hframe⟩
  · rw [hkisl, hisl]
  · rw [hkisl, hisl]
    exact contains_dropFrom 52 _
  · rw [hregs _ _ (by simp), hheld]
  · rw [hregs _ _ (by simp), hbroken]
  · rw [hkcom, himp]
  · rw [hkcom, howed]
  · rw [hkout]
    exact hanswers w hw ha
  · refine State.freePort_busy (hcur.trans hcur0) ?_ (hrun.trans hrun0)
    have hrunning : u.islState 52 = 2 := hstate.trans hstate0
    simp [State.mgmtUp, State.running, hrunning, hisl]

/-- Settles O26: what leaves a reset or takes up its work again leaves the supervisor's view; the core's repair and rebuild are
spelt out step by step. -/
theorem resetAndResynchronisationOfIslands : Obligations.ResetAndResynchronisationOfIslands := by
  unfold Obligations.ResetAndResynchronisationOfIslands
  exact ⟨fun _ _ _ => exec_islandResetRelease_spec, fun _ _ => exec_islandResetRelease_core, fun _ _ => exec_resyncComplete_spec,
    fun _ _ => exec_mgmtRepairRetry_again, fun _ _ => exec_mgmtRepairRetry_last, fun _ _ => exec_mgmtRebuildDone_spec,
    fun s h => ⟨(exec_mgmtRepairRetry s).trans (congrArg _ (State.repairFails_none (s := s.started) h)), exec_mgmtRebuildDone_none h⟩⟩

end Sys2Proof.Machine
end

section
/-! SUPPORT. A tile whose ports go down, a commit that begins, and proofs that are aborted leave the supervisor's view, but for the result of a
command that waited for a port (R276, R277, R387, R730). -/

namespace Sys2Proof.Machine

/-! ### Links and lanes -/

@[simp] theorem State.slotEvent_supView (s : State) (k v : Nat) (pdc dlc up : Bool) : (s.slotEvent k v pdc dlc up).supView = s.supView := by
  obtain ⟨vr, o, h⟩ := SignalsOnly.slotEvent s k v pdc dlc up
  rw [h]
  rfl

theorem State.hotplug_supView (f : State → State) (s : State) (hf : ∀ s, (f s).supView = s.supView) : (State.hotplug f s).supView = s.supView := by
  unfold State.hotplug
  dsimp only
  rw [foldl_keeps State.supView fun s e => by simp, hf]

@[simp] theorem State.laneOff_supView (s : State) (l : Nat) : (s.laneOff l).supView = s.supView := by
  simp [State.laneOff, State.laneTo]

@[simp] theorem State.lanesOff_supView (s : State) (p : Nat) : (s.lanesOff p).supView = s.supView :=
  foldl_keeps State.supView (fun s l => by simp) _ s

@[simp] theorem State.sleepDir_supView (s : State) (l : Nat) (d : Dir) : (s.sleepDir l d).supView = s.supView := by
  unfold State.sleepDir
  split
  · cases d <;> simp [laneField]
  · rfl

@[simp] theorem State.lanesSleep_supView (s : State) (p : Nat) : (s.lanesSleep p).supView = s.supView :=
  foldl_keeps State.supView (fun s l => by simp) _ s

@[simp] theorem State.linkGone_supView (s : State) (p : Nat) (disabled : Bool) : (s.linkGone p disabled).supView = s.supView := by
  have hwork : ∀ (l : List Nat) (u : State), (l.foldl (fun s t => s.work t) u).supView = u.supView := foldl_keeps State.supView fun s t => s.work_supView t
  unfold State.linkGone
  dsimp only
  rw [ite_supView, State.lanesSleep_supView, State.lanesOff_supView, ite_self, hwork]
  simp

@[simp] theorem State.trainStop_supView (s : State) (p : Nat) : (s.trainStop p).supView = s.supView := by simp [State.trainStop]

/-! ### Ports that go down -/

@[simp] theorem State.sealFail_supView (s : State) (x : SealRmw) : (s.sealFail x).supView = s.supView := by
  have hcounted : ((s.delSeal x.pkt x.line).bump .IMP_Q_SEAL_RMW_FAIL x.quad).supView = s.supView := State.bump_supView _ _ _ rfl
  unfold State.sealFail
  dsimp only
  split
  · exact hcounted
  · rw [State.settleQueue_supView, State.discard_supView _ _ _ fun s o => s.pieceFail_supView o .ca, State.report_supView, hcounted]

@[simp] theorem State.sealFailPort_supView (s : State) (p : Nat) : (s.sealFailPort p).supView = s.supView :=
  foldl_keeps State.supView (fun s x => s.sealFail_supView x) _ s

@[simp] theorem State.deviceDown_supView (s : State) (p : Nat) : (s.deviceDown p).supView = s.supView := by
  unfold State.deviceDown
  split
  · exact State.hotplug_supView _ _ fun s => by simp
  · simp

@[simp] theorem State.endSpan_supView (s : State) (sheet : Bool) (key t : Nat) : (s.endSpan sheet key t).supView = s.supView := s.updMet_supView _

@[simp] theorem State.endHostSpans_supView (s : State) (p : Nat) : (s.endHostSpans p).supView = s.supView := by
  unfold State.endHostSpans
  split
  · exact foldl_keeps State.supView (fun s v => s.endSpan_supView _ _ _) _ s
  · rfl

@[simp] theorem State.hostLinkDown_supView (s : State) (p : Nat) : (s.hostLinkDown p).supView = s.supView := by simp [State.hostLinkDown]

theorem State.updRun_supWaits (s : State) (f : Running → Running) (hf : ∀ r, (f r).wait = r.wait) : (s.updRun f).supWaits = s.supWaits := by
  have hshows : (s.updRun f).shows isSupFld = s.shows isSupFld := State.shows_of_regs rfl _
  rw [State.supWaits, State.supWaits, State.supView, State.supView, hshows]
  cases h : s.port.running <;> simp [State.updRun, h, hf]

@[simp] theorem State.finish_supWaits (s : State) (w : Wait) (code : Nat) (ret : List Nat) : (s.finish w code ret).supWaits = s.supWaits :=
  s.updRun_supWaits _ fun r => by split <;> rfl

@[simp] theorem State.dmaStop_supWaits (s : State) (k : Nat) : (s.dmaStop k false).supWaits = s.supWaits := by
  have hfail : ((s.quarantineTags k).dmaFail k).supWaits = s.supWaits := State.updRun_supWaits _ _ fun r => by split <;> rfl
  unfold State.dmaStop
  dsimp only
  rw [Bool.false_and, if_neg (by simp), State.supWaits_of_supView (State.setReg_supView _ _ _ rfl), hfail]

@[simp] theorem State.clearVregs_supView (s : State) (k : Nat) : (s.clearVregs k).supView = s.supView := by
  have hshows : (s.clearMep k).shows isSupFld = s.shows isSupFld := by
    funext f i
    by_cases hf : isSupFld f = true
    · simp only [State.shows, hf, if_true]
      refine s.clearMep_reg k ?_
      simp only [isSupFld, List.contains_eq_mem, List.mem_cons, List.not_mem_nil, or_false, decide_eq_true_eq] at hf
      rcases hf with rfl | rfl | rfl | rfl | rfl <;> rfl
    · rw [State.shows, State.shows, if_neg hf, if_neg hf]
  rw [State.clearVregs, State.updLink_supView, State.supView, State.supView, hshows]
  rfl

@[simp] theorem State.resetAssigned_supView (s : State) (k : Nat) : (s.resetAssigned k).supView = s.supView :=
  foldl_keeps State.supView (fun s h => by
    split
    · rfl
    · exact foldl_keeps State.supView (fun s r => s.emit_supView _) _ s
    · rfl) _ s

@[simp] theorem State.releaseLock_supView (s : State) (broken : Bool) : (s.releaseLock broken).supView = s.supView := by
  have hvectors : ∀ u : State, (u.vectorOps 3).supView = u.supView := fun u => foldl_keeps State.supView (fun s k => s.vector_supView k 3) _ u
  have hscopes : ∀ u : State, (u.discardScopes 0xFF).supView = u.supView := fun _ => rfl
  unfold State.releaseLock
  dsimp only
  rw [hvectors, hscopes, State.setRegs_supView _ (by simp)]
  simp

@[simp] theorem State.ownerReset_supWaits (s : State) (k : Nat) : (s.ownerReset k).supWaits = s.supWaits := by
  have hlock : (s.releaseLock true).supWaits = s.supWaits := State.supWaits_of_supView (s.releaseLock_supView true)
  have hrun : (s.updRun fun r => { r with discard := true }).supWaits = s.supWaits := s.updRun_supWaits _ fun _ => rfl
  unfold State.ownerReset
  split
  · split
    · dsimp only
      split
      · exact hrun
      · exact hrun
    · simp [hlock]
  · simp [hlock]

@[simp] theorem State.hostReset_supWaits (s : State) (k : Nat) : (s.hostReset k).supWaits = s.supWaits := by
  have hclear : ∀ u : State, (u.clearVregs k).supWaits = u.supWaits := fun u => State.supWaits_of_supView (u.clearVregs_supView k)
  have hassigned : ∀ u : State, (u.resetAssigned k).supWaits = u.supWaits := fun u => State.supWaits_of_supView (u.resetAssigned_supView k)
  have hask : ∀ u : State, (u.askHier k).supWaits = u.supWaits := fun _ => rfl
  have hdrop : ∀ u : State, ((u.retireHost k).dropWrites k).supWaits = u.supWaits := fun _ => rfl
  unfold State.hostReset
  split
  · rw [hclear, State.dmaStop_supWaits]
  · rw [State.ownerReset_supWaits, hask, hclear, hassigned, hdrop, State.dmaStop_supWaits]

theorem State.hostDown_supWaits (s : State) (p : Nat) : (s.hostDown p).supWaits = s.supWaits := by
  have hlink : (s.hostLinkDown p).supWaits = s.supWaits := State.supWaits_of_supView (s.hostLinkDown_supView p)
  have hreport : ∀ u : State, (u.report 0x53 0 p).supWaits = u.supWaits := fun _ => rfl
  unfold State.hostDown
  split
  · dsimp only
    rw [ite_supWaits, ite_supWaits, hreport, ite_self, State.hostReset_supWaits, hlink, ite_self]
  · rfl

theorem State.fabDown_supWaits (s : State) (p : Nat) (src : Option Nat) (disabled : Bool) : (s.fabDown p src disabled).supWaits = s.supWaits := by
  have htransits : ∀ (l : List Transit) (u : State), (l.foldl (fun s x => s.answerTransit x) u).supWaits = u.supWaits := fun l u =>
    State.supWaits_of_supView (foldl_keeps State.supView (fun s x => s.answerTransit_supView x) l u)
  have hwaking : ∀ (u : State) (w : List (Nat × Held)), ({ u with isl := { u.isl with waking := w } } : State).supView = u.supView := fun _ _ => rfl
  have hdrop : ∀ (u : State) (l : List Pkt), (u.discardAll l (fun s o => s.outLost o) 2).supView = u.supView := fun u l =>
    u.discardAll_supView l 2 fun s o => s.outLost_supView o
  have hdl : ∀ (u : State), (u.dlDown (p / 4)).supView = u.supView := fun u => u.setRegs_supView (by simp)
  unfold State.fabDown
  dsimp only
  split
  · rfl
  · rw [htransits, State.finish_supWaits]
    refine State.supWaits_of_supView ?_
    rw [State.linkGone_supView, hwaking, State.setDlink_supView, State.bump_supView _ _ _ rfl, State.settleAll_supView, hdrop, hdl]
    split <;> rfl

@[simp] theorem State.portDown_supWaits (s : State) (p : Nat) (src : Option Nat) : (s.portDown p src).supWaits = s.supWaits := by
  unfold State.portDown
  split
  · exact s.hostDown_supWaits p
  · exact State.supWaits_of_supView (s.deviceDown_supView p)
  · exact s.fabDown_supWaits p src false
  · rfl

/-! ### Proofs that are aborted (R730) -/

@[simp] theorem State.clearTest_supView (s : State) (l : Nat) : (s.clearTest l).supView = s.supView := by
  have hchecker : (s.checkerOff l).supView = s.supView := by simp [State.checkerOff, State.countFrom]
  rw [State.clearTest, State.setRegs_supView _ (by simp), State.updLink_supView, hchecker]

@[simp] theorem State.endProof_supView (s : State) (h outcome : Nat) : (s.endProof h outcome).supView = s.supView := by
  have hsheets : ∀ (l : List Nat) (u : State), (l.foldl (fun s n => if s.reg .MEM_SHEET_STATE n == 5 then s.setReg .MEM_SHEET_STATE n 0 else s) u).supView = u.supView :=
    foldl_keeps State.supView fun s n => by simp
  have hlanes : ∀ (l : List Nat) (u : State), (l.foldl (fun s l => (s.clearTest l).laneOff l) u).supView = u.supView := foldl_keeps State.supView fun s l => by simp
  unfold State.endProof
  split
  · rfl
  · dsimp only
    rw [State.vector_supView, ite_supView, hlanes, ite_self, ite_supView, hsheets, ite_self, State.setRegs_supView _ (by simp)]
    rfl

@[simp] theorem State.abortProofs_supView (s : State) (i : Nat) : (s.abortProofs i).supView = s.supView :=
  foldl_keeps State.supView (fun s _ => s.endProof_supView _ _) _ s

@[simp] theorem State.tileDown_supWaits (s : State) (t : Nat) : (s.tileDown t).supWaits = s.supWaits := by
  rw [State.tileDown, State.supWaits_of_supView (State.abortProofs_supView _ t)]
  exact foldl_keeps State.supWaits (fun s p => s.portDown_supWaits p none) _ s

/-! ### A commit that begins (R387) -/

@[simp] theorem State.beginCommit_supView (s : State) (o : Origin) (mask : Nat) : (s.beginCommit o mask).supView = s.supView := by
  have hwake : ∀ (l : List Nat) (u : State), (l.foldl (fun s i => s.setReg .SUP_ISL_STATUS_WAKE_PEND i 1) u).supView = u.supView :=
    foldl_keeps State.supView fun s i => s.setReg_supView i 1 rfl
  unfold State.beginCommit
  dsimp only
  rw [State.setReg_supView _ _ _ rfl, ite_supView, State.setReg_supView _ _ _ rfl, ite_self, hwake]
  rfl

@[simp] theorem State.nextCommit_supView (s : State) : s.nextCommit.supView = s.supView := by
  unfold State.nextCommit
  split
  · rfl
  · split
    · simp
    · simp

@[simp] theorem State.replicaCheck_supView (before : Bool) (s : State) : (State.replicaCheck before s).supView = s.supView := by
  unfold State.replicaCheck
  split <;> rfl

/-! ### An island that is isolated (R67, R68) -/

theorem State.isolate_supWaits (s : State) (n : Nat) :
    (s.isolate n).supWaits = (if s.isl.isolating.any (fun e => e.1 == n) && s.islState n == 5 then
      s.updIsl (fun i => { i with isolating := i.isolating.filter (fun e => e.1 != n) }) else s).supWaits := by
  unfold State.isolate
  split
  · dsimp only
    rw [State.supWaits_of_supView (State.nextCommit_supView _), State.supWaits_of_supView (State.deliverWaiting_supView _ _),
      State.supWaits_of_supView (State.rebind_supView _ _), State.supWaits_of_supView (State.dropHeldRecs_supView _ _),
      State.supWaits_of_supView (State.flushCross_supView _ _), State.supWaits_of_supView (State.flushInside_supView _ _),
      ite_supWaits, State.tileDown_supWaits, ite_self]
  · rfl

end Sys2Proof.Machine
end

section
/-! The statement on the commands of islands (R37, R54, R55, R60 to R65, R115, R202, R723, R724), clause by clause. -/

namespace Sys2Proof.Machine

/-! ### What an island command finds (R53, R704, R707) -/

/-- The islands' state, but for packets that wait and for when islands last worked, and what the islands show. -/
def State.isles (s : State) : Islands × (Nat → Nat) := ({ s.isl with waking := [], workAt := [] }, s.islState)

theorem State.isles_of_supView {s t : State} (h : t.supView = s.supView) : t.isles = s.isles :=
  Prod.ext (congrArg SupView.isl h) (funext fun n => State.reg_of_supView h rfl n)

theorem State.isles_of_meters {s t : State} : MetersOnly s t → t.isles = s.isles := by
  rintro ⟨_, rfl⟩
  rfl

theorem State.setReg_isles (s : State) {f : Fld} (i v : Nat) (hf : f ≠ .SUP_ISL_STATUS_STATE) : (s.setReg f i v).isles = s.isles :=
  Prod.ext rfl (funext fun _ => s.reg_setReg_ne v fun h => hf h.1.symm)

theorem State.setRegs_isles : ∀ {l : List (Fld × Nat × Nat)} (s : State), (∀ e ∈ l, e.1 ≠ .SUP_ISL_STATUS_STATE) → (s.setRegs l).isles = s.isles
  | [], _, _ => rfl
  | e :: l, s, h => (State.setRegs_isles (l := l) _ fun d hd => h d (List.mem_cons_of_mem _ hd)).trans (s.setReg_isles _ _ (h e (by simp)))

/-- A stopped island that wakes runs; every other one stays as it was. -/
theorem State.wakeNow_isles (s : State) (n : Nat) :
    (s.wakeNow n).isles = (s.isles.1, fun j => if j = n ∧ s.islState n = 3 then 2 else s.islState j) := by
  have hsnaps : (s.keepSnaps n).isles = s.isles := State.isles_of_meters (.foldl MetersOnly.keepSnap _ s)
  unfold State.wakeNow
  by_cases h : s.islState n = 3
  · rw [if_pos (beq_iff_eq.2 h), State.bump, State.setReg_isles _ _ _ (by simp), State.setRegs_cons, State.setRegs_isles _ (by simp)]
    have hfst : (s.keepSnaps n).isles.1 = s.isles.1 := congrArg Prod.fst hsnaps
    refine Prod.ext hfst (funext fun j => ?_)
    have hj := congrFun (congrArg Prod.snd hsnaps) j
    refine (State.reg_setReg _ _ _ _ _ _).trans ?_
    change _ = if j = n ∧ s.islState n = 3 then 2 else s.islState j
    change (if _ then _ else _) = _
    by_cases hjn : j = n
    · rw [if_pos ⟨rfl, hjn⟩, if_pos ⟨hjn, h⟩]
      rfl
    · rw [if_neg fun e => hjn e.2, if_neg fun e => hjn e.1]
      exact hj
  · rw [if_neg (by simpa using h)]
    exact Prod.ext rfl (funext fun j => (if_neg fun e => h e.2).symm)

/-- An accepted command finds the islands as they were, but for a stopped management core, which runs. -/
theorem State.accepted_isles (s : State) (k token op : Nat) :
    (s.accepted k token op).isles = (s.isles.1, fun j => if j = 52 ∧ s.islState 52 = 3 then 2 else s.islState j) := by
  have hret : ∀ (l : List Nat) (u : State), (l.foldl (fun s n => s.setReg .CMP_RET_VALUE (16 * k + n) 0) u).isles = u.isles :=
    foldl_keeps State.isles fun s n => s.setReg_isles _ _ (by simp)
  have hport : ∀ (u : State) (p : Port), ({ u with port := p } : State).isles = u.isles := fun _ _ => rfl
  have hshown := State.setRegs_isles (l := [(.CMP_STATUS_BUSY, 0, 1), (.CMP_STATUS_OPCODE, 0, op), (.CMP_STATUS_HOST_INDEX, 0, k), (.CMP_RESULT_STATE, k, 1),
    (.CMP_RESULT_RESULT, k, 0), (.CMP_RESULT_OPCODE, k, op), (.CMP_RESULT_TOKEN, k, token)]) { s with out := [] } (by simp)
  unfold State.accepted State.begin_
  dsimp only
  rw [State.isles_of_supView (State.tally_supView _ _ _ _), hport, hret, State.wakeNow_isles]
  have hfst := congrArg Prod.fst hshown
  have hsnd : ∀ j, State.islState _ j = _ := congrFun (congrArg Prod.snd hshown)
  refine Prod.ext hfst (funext fun j => ?_)
  dsimp only
  rw [hsnd j, hsnd 52]
  rfl

theorem State.islState_eq_isles (s : State) (n : Nat) : s.islState n = s.isles.2 n := rfl

theorem State.accepted_isl {α : Type} (s : State) (k token op : Nat) (g : Islands → α) (hg : ∀ i : Islands, g { i with waking := [], workAt := [] } = g i) :
    g (s.accepted k token op).isl = g s.isl := by
  rw [← hg (s.accepted k token op).isl, ← hg s.isl]
  exact congrArg (fun x => g x.1) (s.accepted_isles k token op)

theorem State.accepted_islState (s : State) (k token op n : Nat) :
    (s.accepted k token op).islState n = if n = 52 ∧ s.islState 52 = 3 then 2 else s.islState n := by
  rw [State.islState_eq_isles, State.accepted_isles]

/-- An island other than a stopped management core is as it was. -/
theorem State.accepted_islState_of (s : State) (k token op : Nat) {n : Nat} (h : n ≠ 52 ∨ s.islState n ≠ 3) :
    (s.accepted k token op).islState n = s.islState n := by
  rw [State.accepted_islState, if_neg]
  rintro ⟨rfl, h3⟩
  exact h.elim (fun h => h rfl) fun h => h h3

theorem State.accepted_fencing (s : State) (k token op n : Nat) : (s.accepted k token op).fencing n = s.fencing n := by
  rw [State.fencing, State.fencing, s.accepted_isl k token op Islands.fences fun _ => rfl]

theorem State.accepted_on (s : State) (k token op : Nat) {f : Fld} (i : Nat) (hf : isAcceptanceFld f = false) : (s.accepted k token op).on f i = s.on f i := by
  rw [State.on, State.on, State.accepted_reg s k token op i hf]

theorem State.accepted_proofs (s : State) (k token op : Nat) : (s.accepted k token op).port.proofs = s.port.proofs := by
  obtain ⟨_, _, _, h, -⟩ := AcceptsOnly.accepted s k token op
  rw [h]
  rfl

theorem State.accepted_now (s : State) (k token op : Nat) : (s.accepted k token op).now = s.now := by
  rw [← frame_now, State.accepted_frame, frame_now]

/-! ### ISL_FENCE (R54, R55, R723) -/

section
variable {s : State} {k : Nat}

theorem exec_islFence (token : Nat) (h : s.accepts k 0x40 = true) : exec (.islFence k token) s = .next ((s.accepted k token 0x40).islFence (nth (s.argWords k) 0)) :=
  State.command_of_accepts h token (fun a s => s.islFence (nth a 0))

theorem State.islFence_barred {n : Nat} (u : State) (h : 55 < n ∨ n = 50 ∨ n = 51 ∨ n = 52) : u.islFence n = u.ended 0x02 := by
  rw [State.islFence, if_pos (by simpa [or_assoc] using h)]

theorem State.islFence_allowed {n : Nat} (u : State) (hn : n < 56) (h50 : n ≠ 50) (h51 : n ≠ 51) (h52 : n ≠ 52) :
    u.islFence n = if u.fencing n then u.waitFor (.fence n) else if u.running n || u.islState n == 3 then (u.waitFor (.fence n)).beginFence n else u.ended 0 := by
  rw [State.islFence, if_neg (by simp [h50, h51, h52]; omega)]

theorem State.beginFence_supWaits (u : State) (n : Nat) :
    (u.beginFence n).supWaits = (u.updIsl fun i => { i with fences := i.fences ++ [{ island := n, since := u.now }] }).supWaits := by
  unfold State.beginFence
  dsimp only
  rw [State.supWaits_of_supView (State.nextCommit_supView _), State.supWaits_of_supView (State.replicaCheck_supView _ _), ite_supWaits, State.tileDown_supWaits,
    ite_self]

/-- What the running command waits for. -/
theorem State.waitsFor_eq (u : State) : u.waitsFor = u.supWaits.run.map (·.1) := by
  cases h : u.port.running <;> simp [State.waitsFor, State.supWaits, State.supView, h]

theorem exec_islFence_begins {token n : Nat} (h : s.accepts k 0x40 = true) (harg : nth (s.argWords k) 0 = n) (hn : n < 56) (h50 : n ≠ 50) (h51 : n ≠ 51)
    (h52 : n ≠ 52) (hstate : s.islState n = 2 ∨ s.islState n = 3) (hfence : s.fencing n = false) :
    ∃ t, exec (.islFence k token) s = .next t ∧ t.isl.fences = s.isl.fences ++ [{ island := n, since := s.now }] ∧ t.islState n = s.islState n ∧
      t.waitsFor = some (.fence n) ∧ t.frame = s.frame := by
  have hrun := s.accepted_port k token 0x40
  have hkept := s.accepted_islState_of k token 0x40 (.inl h52)
  have hfences : (s.accepted k token 0x40).isl.fences = s.isl.fences := s.accepted_isl k token 0x40 Islands.fences fun _ => rfl
  have hnow := s.accepted_now k token 0x40
  have hframe := s.accepted_frame k token 0x40
  have hnone := (s.accepted_fencing k token 0x40 n).trans hfence
  refine ⟨_, exec_islFence token h, ?_⟩
  rw [harg, State.islFence_allowed _ hn h50 h51 h52]
  generalize s.accepted k token 0x40 = u at *
  rw [if_neg (by simp [hnone]), if_pos (by rcases hstate with hs | hs <;> simp [State.running, hkept, hs])]
  have hview := (u.waitFor (.fence n)).beginFence_supWaits n
  refine ⟨?_, ?_, ?_, by rw [State.beginFence_frame, State.waitFor_frame, hframe]⟩
  · have hisl : ((u.waitFor (.fence n)).beginFence n).isl.fences = _ := congrArg (fun v => v.isl.fences) hview
    rw [hisl]
    exact congr (congrArg _ hfences) (congrArg (fun t => [({ island := n, since := t } : Fence)]) hnow)
  · exact (State.reg_of_supWaits hview rfl n).trans hkept
  · rw [State.waitsFor_eq, hview, ← State.waitsFor_eq]
    simp [State.waitsFor, State.waitFor, State.updRun, hrun]

theorem exec_islFence_joins {token n : Nat} (h : s.accepts k 0x40 = true) (harg : nth (s.argWords k) 0 = n) (hn : n < 56) (h50 : n ≠ 50) (h51 : n ≠ 51)
    (h52 : n ≠ 52) (hfence : s.fencing n = true) : exec (.islFence k token) s = .next ((s.accepted k token 0x40).waitFor (.fence n)) := by
  rw [exec_islFence token h, harg, State.islFence_allowed _ hn h50 h51 h52, if_pos ((s.accepted_fencing k token 0x40 n).trans hfence)]

/-! ### ISL_UNFENCE (R65, R113) -/

theorem exec_islUnfence (token : Nat) (h : s.accepts k 0x41 = true) :
    exec (.islUnfence k token) s = .next ((s.accepted k token 0x41).islUnfence (nth (s.argWords k) 0)) :=
  State.command_of_accepts h token (fun a s => s.islUnfence (nth a 0))

theorem State.islUnfence_open {u : State} {n : Nat} (hn : n ≤ 55) (h : u.islState n = 2 ∨ u.islState n = 3) : u.islUnfence n = u.ended 0 := by
  rw [State.islUnfence, if_neg (by omega)]
  rcases h with h | h <;> simp only [h]

theorem State.islUnfence_fenced {u : State} {n : Nat} (hn : n ≤ 55) (h : u.islState n = 4) (hproofs : ∀ p ∈ u.port.proofs, p.typ = 5 → 32 + p.target ≠ n)
    (hrng : 32 ≤ n → n ≤ 41 → u.rngOk = true) : u.islUnfence n = (u.waitFor (.unfence n)).updIsl fun i => { i with resync := addTo n i.resync } := by
  have hnone : u.port.proofs.any (fun p => p.typ == 5 && 32 + p.target == n) = false := by
    refine List.any_eq_false.2 fun p hp => ?_
    simpa using hproofs p hp
  have hok : (32 ≤ n && n ≤ 41 && !u.rngOk) = false := by
    by_cases hq : 32 ≤ n ∧ n ≤ 41
    · simp [hrng hq.1 hq.2]
    · rw [Bool.and_assoc, ← Bool.and_assoc]
      simp only [Bool.and_eq_false_iff, decide_eq_false_iff_not]
      omega
  rw [State.islUnfence, if_neg (by omega)]
  simp only [h, hnone, hok, Bool.false_eq_true, if_false]

theorem State.islUnfence_closed {u : State} {n : Nat} (hn : n ≤ 55) (h : u.islState n = 0 ∨ u.islState n = 1 ∨ u.islState n = 5) :
    u.islUnfence n = u.ended 0x06 := by
  rw [State.islUnfence, if_neg (by omega)]
  rcases h with h | h | h <;> simp only [h]

theorem exec_islUnfence_open {token n : Nat} (h : s.accepts k 0x41 = true) (harg : nth (s.argWords k) 0 = n) (hn : n ≤ 55)
    (hstate : s.islState n = 2 ∨ s.islState n = 3) : exec (.islUnfence k token) s = .next ((s.accepted k token 0x41).ended 0) := by
  rw [exec_islUnfence token h, harg, State.islUnfence_open hn]
  rw [State.accepted_islState]
  split
  · exact .inl rfl
  · exact hstate

theorem exec_islUnfence_waits {token n : Nat} (h : s.accepts k 0x41 = true) (harg : nth (s.argWords k) 0 = n) (hn : n ≤ 55) (hstate : s.islState n = 4)
    (hproofs : ∀ p ∈ s.port.proofs, p.typ = 5 → 32 + p.target ≠ n) (hrng : 32 ≤ n → n ≤ 41 → s.rngOk = true) :
    ∃ t, exec (.islUnfence k token) s = .next t ∧ t.isl.resync.contains n = true ∧ t.islState n = 4 ∧ t.waitsFor = some (.unfence n) ∧ t.frame = s.frame := by
  have hkept : (s.accepted k token 0x41).islState n = 4 := (s.accepted_islState_of k token 0x41 (.inr (by omega))).trans hstate
  have hrng' : (s.accepted k token 0x41).rngOk = s.rngOk := s.accepted_on k token 0x41 0 rfl
  have hproofs' := s.accepted_proofs k token 0x41
  have hrun := s.accepted_port k token 0x41
  have hframe := s.accepted_frame k token 0x41
  refine ⟨_, exec_islUnfence token h, ?_⟩
  generalize s.accepted k token 0x41 = u at *
  rw [harg, State.islUnfence_fenced hn hkept (by rwa [hproofs']) (by rwa [hrng'])]
  refine ⟨contains_addTo n _, hkept, ?_, by rw [State.updIsl_frame, State.waitFor_frame, hframe]⟩
  simp [State.waitsFor, State.waitFor, State.updRun, hrun]

theorem exec_islUnfence_closed {token n : Nat} (h : s.accepts k 0x41 = true) (harg : nth (s.argWords k) 0 = n) (hn : n ≤ 55) (h52 : n ≠ 52)
    (hstate : s.islState n = 0 ∨ s.islState n = 1 ∨ s.islState n = 5) : exec (.islUnfence k token) s = .next ((s.accepted k token 0x41).ended 0x06) := by
  rw [exec_islUnfence token h, harg, State.islUnfence_closed hn]
  rwa [State.accepted_islState_of _ _ _ _ (.inl h52)]

end

end Sys2Proof.Machine
end

section
/-! The statement on the commands of islands, its clauses on ISL_RESET and ISL_POWER (R37, R60 to R64, R115, R202, R724). -/

namespace Sys2Proof.Machine

/-! ### Requests that lead into an island (R64, R68) -/

/-- Every request outstanding in `t` has the port and the quad of one outstanding in `s`. -/
def OutsFrom (s t : State) : Prop := ∀ o ∈ t.tr.outs, ∃ x ∈ s.tr.outs, x.port = o.port ∧ x.quad = o.quad

theorem OutsFrom.of_outs {s t : State} (h : t.tr.outs = s.tr.outs) : OutsFrom s t := fun o ho => ⟨o, h ▸ ho, rfl, rfl⟩

theorem OutsFrom.of_linkOuts {s t : State} (h : t.linkOuts = s.linkOuts) : OutsFrom s t := .of_outs (congrArg LinkView.outs h)

theorem OutsFrom.trans {s t u : State} (hst : OutsFrom s t) (htu : OutsFrom t u) : OutsFrom s u := by
  intro o ho
  obtain ⟨x, hx, hport, hquad⟩ := htu o ho
  obtain ⟨y, hy, hport', hquad'⟩ := hst x hx
  exact ⟨y, hy, hport'.trans hport, hquad'.trans hquad⟩

theorem OutsFrom.foldl {α : Type} {g : State → α → State} (h : ∀ s e, OutsFrom s (g s e)) : ∀ (l : List α) (s : State), OutsFrom s (l.foldl g s)
  | [], _ => .of_outs rfl
  | e :: l, s => (h s e).trans (OutsFrom.foldl h l (g s e))

theorem OutsFrom.outLost (s : State) (o : OutReq) : OutsFrom s (s.outLost o) := by
  intro x hx
  have houts : (s.outLost o).tr.outs = s.tr.outs.filter (fun x => x.id != o.id) := congrArg LinkView.outs (s.outLost_linkOuts o)
  rw [houts] at hx
  exact ⟨x, (List.mem_filter.1 hx).1, rfl, rfl⟩

theorem OutsFrom.discard (s : State) (p : Pkt) : OutsFrom s (s.discard p (fun s o => s.outLost o)) := by
  have hdrop : ((((s.delPkt p.id).work (32 + p.q.quad)).countDrop p).sampleEnd p 3 0).linkOuts = s.linkOuts := by simp [State.countDrop]
  unfold State.discard
  dsimp only
  split
  · split
    · split
      · exact (OutsFrom.of_linkOuts hdrop).trans (.outLost _ _)
      · exact .of_linkOuts hdrop
    · exact .of_linkOuts hdrop
  · exact .of_linkOuts hdrop

theorem OutsFrom.answered (s : State) (i : Nat) : OutsFrom s (s.updOut i fun o => { o with answered := true }) := by
  intro o ho
  obtain ⟨x, hx, rfl⟩ := List.mem_map.1 ho
  exact ⟨x, hx, by split <;> rfl, by split <;> rfl⟩

theorem OutsFrom.cplGone (s : State) (p : Pkt) : OutsFrom s (s.cplGone p) := by
  unfold State.cplGone
  split
  · exact .outLost _ _
  · exact .of_outs rfl
  · dsimp only
    split
    · exact .of_linkOuts (State.synthLost_linkOuts _ _ _ _)
    · exact (OutsFrom.of_linkOuts (State.synthLost_linkOuts _ _ _ _)).trans (.answered _ _)
    · exact .of_linkOuts (State.synthLost_linkOuts _ _ _ _)

theorem OutsFrom.dropPkts (s : State) (l : List Pkt) : OutsFrom s (s.dropPkts l false) := by
  unfold State.dropPkts
  dsimp only
  rw [if_neg Bool.false_ne_true]
  refine .trans (.trans ?_ (.foldl (fun s q => .of_linkOuts (s.settleQueue_linkOuts q)) _ _)) (.foldl (fun s p => .cplGone s p) _ _)
  exact OutsFrom.trans (.of_outs rfl) (.foldl (fun s p => .discard s p) l _)

theorem OutsFrom.flushInside (s : State) (n : Nat) : OutsFrom s (s.flushInside n) := by
  unfold State.flushInside
  dsimp only
  split
  · exact (OutsFrom.dropPkts s _).trans (.of_outs rfl)
  · exact .dropPkts s _

theorem State.endProof_outs (s : State) (h outcome : Nat) : (s.endProof h outcome).tr.outs = s.tr.outs := by
  have hvector : ∀ (u : State) (k : Nat), (u.vector k 4).tr.outs = u.tr.outs := fun u k => by
    obtain ⟨_, _, hk⟩ := u.vector_eq k 4
    rw [hk]
  have hsheets : ∀ (l : List Nat) (u : State), (l.foldl (fun s n => if s.reg .MEM_SHEET_STATE n == 5 then s.setReg .MEM_SHEET_STATE n 0 else s) u).tr.outs = u.tr.outs :=
    foldl_keeps (fun s => s.tr.outs) fun s n => by split <;> rfl
  have hlanes : ∀ (l : List Nat) (u : State), (l.foldl (fun s l => (s.clearTest l).laneOff l) u).tr.outs = u.tr.outs := foldl_keeps (fun s => s.tr.outs) fun s l => by
    change (s.checkerOff l).tr.outs = _
    unfold State.checkerOff
    split <;> rfl
  unfold State.endProof
  split
  · rfl
  · dsimp only
    rw [hvector]
    split
    · rw [hlanes]
      split
      · rw [hsheets]
        rfl
      · rfl
    · split
      · rw [hsheets]
        rfl
      · rfl

theorem State.resetIsl_tr (s : State) (n : Nat) : (s.resetIsl n).tr = ((s.flushInside n).abortProofs n).tr := by
  unfold State.resetIsl
  generalize (s.flushInside n).abortProofs n = u
  exact u.setIsl_tr n 1

theorem State.abortProofs_outs (s : State) (n : Nat) : (s.abortProofs n).tr.outs = s.tr.outs :=
  foldl_keeps (fun s => s.tr.outs) (fun s _ => s.endProof_outs _ _) _ s

theorem OutsFrom.resetIsl (s : State) (n : Nat) : OutsFrom s (s.resetIsl n) :=
  (OutsFrom.flushInside s n).trans (.of_outs (by rw [State.resetIsl_tr, State.abortProofs_outs]))

/-- After an island's crossings are emptied no request into it is outstanding. -/
theorem State.emptyCross_outs (s : State) (n : Nat) : ∀ o ∈ (s.emptyCross n).tr.outs, outInto n o = false := by
  intro o ho
  obtain ⟨hmem, hne⟩ := foldl_outLost_outs _ _ o ho
  refine Bool.eq_false_iff.2 fun hinto => ?_
  exact hne o (List.mem_filter.2 ⟨hmem, hinto⟩) rfl

theorem outInto_congr {n : Nat} {x o : OutReq} (hport : x.port = o.port) (hquad : x.quad = o.quad) : outInto n x = outInto n o := by
  rw [outInto, outInto, hport, hquad]

/-! ### ISL_RESET (R60 to R64) -/

/-- An island that is reset is in reset from now on; its supervisor's view is else as it was. -/
theorem State.resetIsl_supView (s : State) (n : Nat) :
    (s.resetIsl n).islState n = 1 ∧ (s.resetIsl n).isl.resets.contains (n, s.now) = true ∧ (s.resetIsl n).supView.run = s.supView.run ∧
      (∀ f i, isSupFld f = true → f ≠ .SUP_ISL_STATUS_STATE → (s.resetIsl n).reg f i = s.reg f i) := by
  have hview : ((s.flushInside n).abortProofs n).supView = s.supView := by simp
  have hnow : ((s.flushInside n).abortProofs n).now = s.now := by
    rw [← frame_now, State.abortProofs_frame, State.flushInside_frame, frame_now]
  unfold State.resetIsl
  dsimp only
  generalize (s.flushInside n).abortProofs n = u at hview hnow
  have hstate := u.setIsl_islState n 1
  have hframe : (u.setIsl n 1).now = s.now := by rw [← frame_now, State.setIsl_frame, frame_now, hnow]
  have hport : (u.setIsl n 1).port = u.port := u.setIsl_port n 1
  have hregs : ∀ f i, isSupFld f = true → f ≠ .SUP_ISL_STATUS_STATE → (u.setIsl n 1).reg f i = s.reg f i := fun f i hf hne =>
    (u.setIsl_reg_ne n 1 i hne).trans (State.reg_of_supView hview hf i)
  have hrun : u.port.running.map (fun r => (r.wait, r.result)) = s.supView.run := congrArg SupView.run hview
  generalize u.setIsl n 1 = v at *
  refine ⟨hstate, ?_, ?_, hregs⟩
  · change (_ ++ [(n, v.now)]).contains (n, s.now) = true
    simp [hframe]
  · rw [← hrun, ← hport]
    rfl

section
variable {s : State} {k : Nat}

theorem exec_islReset (token : Nat) (h : s.accepts k 0x42 = true) :
    exec (.islReset k token) s = .next ((s.accepted k token 0x42).islReset (arg64 (s.argWords k) 0)) :=
  State.command_of_accepts h token (fun a s => s.islReset (arg64 a 0))

theorem State.islReset_barred {u : State} {mask : Nat} (h : setBits 56 mask = [] ∨ ∃ n ∈ setBits 56 mask, 50 ≤ n ∧ n ≤ 52) : u.islReset mask = u.ended 0x02 := by
  rw [State.islReset]
  refine if_pos ?_
  rcases h with h | ⟨n, hn, hlo, hhi⟩
  · simp [h]
  · have hbar : (setBits 56 mask).any (fun n => n == 50 || n == 51 || n == 52) = true := List.any_eq_true.2 ⟨n, hn, by simp; omega⟩
    rw [hbar, Bool.or_true]

theorem State.islReset_one {u : State} {mask n : Nat} (hset : setBits 56 mask = [n]) (hn : n < 50 ∨ 52 < n) :
    u.islReset mask = if !(u.islState n == 0 || (partners n).all (fun p => u.closedToward [n] n p)) then u.ended 0x07 else
      ((([n].filter (fun n => u.islState n != 0)).foldl (fun s n => (s.emptyCross n).resetIsl n) (u.updIsl fun i =>
        { i with fences := i.fences.filter (fun f => !([n].filter (fun n => u.islState n != 0)).contains f.island) })).ended 0) := by
  have hbar : ¬ ([n].isEmpty || [n].any (fun n => n == 50 || n == 51 || n == 52)) = true := by simp; omega
  rw [State.islReset, hset]
  refine (if_neg hbar).trans ?_
  simp

/-- A fenced island is reset, with what its crossings hold. -/
theorem State.islReset_fenced {u : State} {mask n : Nat} (hset : setBits 56 mask = [n]) (hn : n < 50 ∨ 52 < n) (hstate : u.islState n = 4) :
    u.islReset mask = ((((u.updIsl fun i => { i with fences := i.fences.filter (fun f => !decide (f.island = n)) }).emptyCross n).resetIsl n).ended 0) := by
  have hclosed : (partners n).all (fun p => u.closedToward [n] n p) = true := List.all_eq_true.2 fun p _ => by simp [State.closedToward, hstate]
  rw [State.islReset_one hset hn, hclosed, Bool.or_true, Bool.not_true, if_neg Bool.false_ne_true]
  simp [hstate]

theorem exec_islReset_fenced {token n : Nat} (h : s.accepts k 0x42 = true) (hn : n < 50 ∨ 52 < n) (hset : setBits 56 (arg64 (s.argWords k) 0) = [n])
    (hstate : s.islState n = 4) :
    ∃ t, exec (.islReset k token) s = .next t ∧ t.islState n = 1 ∧ t.isl.resets.contains (n, s.now) = true ∧ (∀ o ∈ t.tr.outs, outInto n o = false) ∧
      t.resultCode = some 0 ∧ t.frame = s.frame := by
  have hkept := (s.accepted_islState_of k token 0x42 (.inr (by omega))).trans hstate
  have hrun := s.accepted_port k token 0x42
  have hframe := s.accepted_frame k token 0x42
  refine ⟨_, exec_islReset token h, ?_⟩
  generalize s.accepted k token 0x42 = u at *
  rw [State.islReset_fenced hset hn hkept]
  have hcross : ((u.updIsl fun i => { i with fences := i.fences.filter (fun f => !decide (f.island = n)) }).emptyCross n).supView.run = u.supView.run :=
    (congrArg SupView.run (State.emptyCross_supView _ n)).trans rfl
  have houts := State.emptyCross_outs (u.updIsl fun i => { i with fences := i.fences.filter (fun f => !decide (f.island = n)) }) n
  have hcframe : ((u.updIsl fun i => { i with fences := i.fences.filter (fun f => !decide (f.island = n)) }).emptyCross n).frame = s.frame := by
    rw [State.emptyCross_frame, State.updIsl_frame, hframe]
  generalize State.emptyCross _ n = v at *
  obtain ⟨hreset, hresets, hview, -⟩ := v.resetIsl_supView n
  have hkeeps : ∀ o ∈ (v.resetIsl n).tr.outs, outInto n o = false := fun o ho => by
    obtain ⟨x, hx, hport, hquad⟩ := OutsFrom.resetIsl v n o ho
    rw [← outInto_congr hport hquad]
    exact houts x hx
  have hrframe := v.resetIsl_frame n
  have hnow : v.now = s.now := congrArg Frame.now hcframe
  rw [hnow] at hresets
  generalize v.resetIsl n = w at *
  have hsome : w.port.running.map (fun r => (r.wait, r.result)) = some (.ready, none) := by
    refine (hview.trans hcross).trans ?_
    rw [State.supView, hrun]
    rfl
  obtain ⟨r, hr, -⟩ := Option.map_eq_some_iff.1 hsome
  exact ⟨hreset, hresets, hkeeps, State.resultCode_ended hr 0 [], by rw [State.ended_frame, hrframe, hcframe]⟩

theorem partners_not_core : ∀ n < 56, n ≠ 51 → ¬ 52 ∈ partners n := by decide

theorem exec_islReset_open {token n p : Nat} (h : s.accepts k 0x42 = true) (hn : n < 50 ∨ 52 < n) (hset : setBits 56 (arg64 (s.argWords k) 0) = [n])
    (hstate : s.islState n = 2) (hp : (partners n).contains p = true) (hne : p ≠ n) (h0 : s.islState p ≠ 0) (h5 : s.islState p ≠ 5) :
    exec (.islReset k token) s = .next ((s.accepted k token 0x42).ended 0x07) := by
  have hmem : p ∈ partners n := by simpa using hp
  have hn56 : n < 56 := by
    have : n ∈ setBits 56 (arg64 (s.argWords k) 0) := by rw [hset]; exact List.mem_singleton_self n
    exact List.mem_range.1 (List.mem_filter.1 this).1
  have hp52 : p ≠ 52 := fun e => partners_not_core n hn56 (by omega) (e ▸ hmem)
  have hkept := (s.accepted_islState_of k token 0x42 (.inl (by omega : n ≠ 52))).trans hstate
  have hpkept := s.accepted_islState_of k token 0x42 (.inl hp52)
  rw [exec_islReset token h, State.islReset_one hset hn, if_pos]
  have hopen : (s.accepted k token 0x42).closedToward [n] n p = false := by
    simp [State.closedToward, State.isolated, hkept, hpkept, hne, h0, h5]
  have hall : (partners n).all (fun p => (s.accepted k token 0x42).closedToward [n] n p) = false :=
    List.all_eq_false.2 ⟨p, hmem, by simp [hopen]⟩
  simp [hall, hkept]

/-! ### ISL_POWER (R37, R115, R202, R724) -/

theorem exec_islPower (token : Nat) (h : s.accepts k 0x43 = true) : exec (.islPower k token) s = .next ((s.accepted k token 0x43).islPower (s.argWords k)) :=
  State.command_of_accepts h token (fun a s => s.islPower a)

theorem State.islPower_barred {u : State} {a : List Nat} (h : bits (nth a 0) 6 0 = 86 ∨ 89 < bits (nth a 0) 6 0) : u.islPower a = u.ended 0x02 := by
  rw [State.islPower]
  exact if_pos (by simpa [or_comm] using h)

theorem State.islPower_on {u : State} {a : List Nat} {d : Nat} (hd : bits (nth a 0) 6 0 = d) (h90 : d < 90) (h86 : d ≠ 86) (hon : bit (nth a 0) 8 = true)
    (hgood : u.on .SUP_DOM_STATUS_PGOOD d = false) :
    u.islPower a = u.askSwitch (((islDomains (domIsland d)).takeWhile (fun x => x != d)).filter (fun x => !u.on .SUP_DOM_STATUS_PGOOD x)) d true := by
  rw [State.islPower, hd]
  rw [if_neg (by simp [h86]; omega), if_pos hon, hgood, Bool.not_false, if_pos rfl]

/-- The command that asks for a switch of a domain waits for it. -/
theorem State.askSwitch_spec {u : State} {r : Running} (hrun : u.port.running = some r) (first : List Nat) (d : Nat) (on : Bool) :
    (u.askSwitch first d on).isl.switchQ = u.isl.switchQ ++ (first ++ [d]).map (fun x => { dom := x, on }) ∧
      (u.askSwitch first d on).waitsFor = some (.power d) ∧ (u.askSwitch first d on).frame = u.frame := by
  refine ⟨rfl, ?_, by rw [State.askSwitch, State.updIsl_frame, State.waitFor_frame]⟩
  simp [State.askSwitch, State.waitsFor, State.waitFor, State.updRun, hrun]

theorem exec_islPower_on {token d : Nat} (h : s.accepts k 0x43 = true) (hd : bits (nth (s.argWords k) 0) 6 0 = d) (h90 : d < 90) (h86 : d ≠ 86)
    (hon : bit (nth (s.argWords k) 0) 8 = true) (hgood : s.on .SUP_DOM_STATUS_PGOOD d = false) :
    ∃ t, exec (.islPower k token) s = .next t ∧ t.isl.switchQ = s.isl.switchQ ++ ((((islDomains (domIsland d)).takeWhile (fun x => x != d)).filter
        (fun x => !s.on .SUP_DOM_STATUS_PGOOD x)) ++ [d]).map (fun x => { dom := x, on := true }) ∧
      t.waitsFor = some (.power d) ∧ t.frame = s.frame := by
  have hregs : ∀ x, (s.accepted k token 0x43).on .SUP_DOM_STATUS_PGOOD x = s.on .SUP_DOM_STATUS_PGOOD x := fun x => s.accepted_on k token 0x43 x rfl
  have hq : (s.accepted k token 0x43).isl.switchQ = s.isl.switchQ := s.accepted_isl k token 0x43 Islands.switchQ fun _ => rfl
  have hrun := s.accepted_port k token 0x43
  have hframe := s.accepted_frame k token 0x43
  refine ⟨_, exec_islPower token h, ?_⟩
  generalize s.accepted k token 0x43 = u at *
  rw [State.islPower_on hd h90 h86 hon ((hregs d).trans hgood)]
  obtain ⟨hasked, hwait, hkept⟩ := State.askSwitch_spec hrun
    (((islDomains (domIsland d)).takeWhile (fun x => x != d)).filter (fun x => !u.on .SUP_DOM_STATUS_PGOOD x)) d true
  refine ⟨?_, hwait, hkept.trans hframe⟩
  rw [hasked, hq]
  simp only [hregs]

/-- The domains that the reverse order switches off before domain `d`. -/
def State.offFirst (u : State) (d : Nat) : List Nat :=
  ((islDomains (domIsland d)).dropWhile (fun x => x != d)).filter (fun x => x != d && u.on .SUP_DOM_STATUS_ON x)

theorem State.islPower_off {u : State} {a : List Nat} {d : Nat} (hd : bits (nth a 0) 6 0 = d) (h90 : d < 90) (h86 : d ≠ 86) (hoff : bit (nth a 0) 8 = false) :
    u.islPower a = if (d :: u.offFirst d).any (fun x => decide (32 ≤ x) && decide (x ≤ 63)) && !u.analogFree (domIsland d) then u.ended 0x06
      else if !(u.islState (domIsland d) == 4 || u.islState (domIsland d) == 0 || u.islState (domIsland d) == 5) then u.ended 0x07
      else if u.on .SUP_DOM_STATUS_ON d || u.on .SUP_DOM_STATUS_PGOOD d then u.askSwitch (u.offFirst d) d false else u.ended 0 := by
  rw [State.islPower, hd]
  rw [if_neg (by simp [h86]; omega), if_neg (by simp [hoff])]
  rfl

theorem domIsland_core {d : Nat} (h90 : d < 90) (h86 : d ≠ 86) : domIsland d ≠ 52 := by
  unfold domIsland
  split
  · omega
  · split
    · omega
    · split <;> omega

theorem exec_islPower_off {token d : Nat} (h : s.accepts k 0x43 = true) (hd : bits (nth (s.argWords k) 0) 6 0 = d) (h90 : d < 90) (h86 : d ≠ 86)
    (hoff : bit (nth (s.argWords k) 0) 8 = false) (hstate : s.islState (domIsland d) = 4) (hon : s.on .SUP_DOM_STATUS_ON d = true) :
    ∃ t, exec (.islPower k token) s = .next t ∧ t.isl.switchQ = s.isl.switchQ ++ ((((islDomains (domIsland d)).dropWhile (fun x => x != d)).filter
        (fun x => x != d && s.on .SUP_DOM_STATUS_ON x)) ++ [d]).map (fun x => { dom := x, on := false }) ∧
      t.waitsFor = some (.power d) ∧ t.frame = s.frame := by
  have hregs : ∀ x, (s.accepted k token 0x43).on .SUP_DOM_STATUS_ON x = s.on .SUP_DOM_STATUS_ON x := fun x => s.accepted_on k token 0x43 x rfl
  have hq : (s.accepted k token 0x43).isl.switchQ = s.isl.switchQ := s.accepted_isl k token 0x43 Islands.switchQ fun _ => rfl
  have hkept := (s.accepted_islState_of k token 0x43 (.inl (domIsland_core h90 h86))).trans hstate
  have hrun := s.accepted_port k token 0x43
  have hframe := s.accepted_frame k token 0x43
  refine ⟨_, exec_islPower token h, ?_⟩
  generalize s.accepted k token 0x43 = u at *
  have hfree : u.analogFree (domIsland d) = true := by simp [State.analogFree, hkept]
  rw [State.islPower_off hd h90 h86 hoff, if_neg (by simp [hfree]), if_neg (by simp [hkept]), if_pos (by simp [hregs, hon])]
  obtain ⟨hasked, hwait, hasframe⟩ := State.askSwitch_spec hrun (u.offFirst d) d false
  refine ⟨?_, hwait, hasframe.trans hframe⟩
  rw [hasked, hq]
  simp only [State.offFirst, hregs]

/-- The domains of an island that is no tile are none of a tile's analog domains. -/
theorem islDomains_above {n x : Nat} (hn : 32 ≤ n) (hx : x ∈ islDomains n) : 64 ≤ x := by
  unfold islDomains at hx
  grind

theorem domIsland_above {d : Nat} (h : 32 ≤ domIsland d) : 64 ≤ d := by
  unfold domIsland at h
  split at h
  · omega
  · split at h <;> omega

theorem exec_islPower_running {token d : Nat} (h : s.accepts k 0x43 = true) (hd : bits (nth (s.argWords k) 0) 6 0 = d) (h90 : d < 90) (h86 : d ≠ 86)
    (hoff : bit (nth (s.argWords k) 0) 8 = false) (hisl : 32 ≤ domIsland d) (hstate : s.islState (domIsland d) = 2) :
    exec (.islPower k token) s = .next ((s.accepted k token 0x43).ended 0x07) := by
  have hkept := (s.accepted_islState_of k token 0x43 (.inl (domIsland_core h90 h86))).trans hstate
  rw [exec_islPower token h]
  generalize s.accepted k token 0x43 = u at *
  have hanalog : (d :: u.offFirst d).any (fun x => decide (32 ≤ x) && decide (x ≤ 63)) = false := by
    refine List.any_eq_false.2 fun x hx => ?_
    have habove : 64 ≤ x := by
      rcases List.mem_cons.1 hx with rfl | hx
      · exact domIsland_above hisl
      · exact islDomains_above hisl ((List.dropWhile_sublist _).subset (List.mem_filter.1 hx).1)
    simp
    omega
  rw [State.islPower_off hd h90 h86 hoff, hanalog, Bool.false_and, if_neg Bool.false_ne_true, if_pos (by simp [hkept])]

end

/-- Settles O39: an accepted command finds the islands as they were, but for a stopped management core; each clause is then one
branch of its command. -/
theorem islandCommands : Obligations.IslandCommands := by
  unfold Obligations.IslandCommands
  refine ⟨fun s k token h hn => (exec_islFence token h).trans (by rw [State.islFence_barred _ hn]),
    fun s k token n h harg hn h50 h51 h52 hstate hfence _ => exec_islFence_begins h harg hn h50 h51 h52 hstate hfence,
    fun s k token n h harg hn h50 h51 h52 hfence => exec_islFence_joins h harg hn h50 h51 h52 hfence,
    fun s k token n h harg hn hstate => exec_islUnfence_open h harg hn hstate,
    fun s k token n h harg hn hstate hproofs hrng => exec_islUnfence_waits h harg hn hstate hproofs hrng,
    fun s k token n h harg ⟨hn, h52, hstate⟩ => exec_islUnfence_closed h harg hn h52 hstate,
    fun s k token h hset => (exec_islReset token h).trans (by rw [State.islReset_barred hset]),
    fun s k token n h hn hset hstate => exec_islReset_fenced h hn hset hstate,
    fun s k token n p h hn hset hstate hp hne h0 h5 => exec_islReset_open h hn hset hstate hp hne h0 h5,
    fun s k token h hd => (exec_islPower token h).trans (by rw [State.islPower_barred hd]),
    fun s k token d h hd h90 h86 hon hgood => exec_islPower_on h hd h90 h86 hon hgood,
    fun s k token d h hd h90 h86 hoff hstate hon => exec_islPower_off h hd h90 h86 hoff hstate hon,
    fun s k token d h hd h90 h86 hoff hisl _ hstate => exec_islPower_running h hd h90 h86 hoff hisl hstate⟩

end Sys2Proof.Machine
end

section
/-! The statement on the switching of domains (R37, R38, R64, R69, R72, R138, R724), clause by clause. -/

namespace Sys2Proof.Machine

/-! ### A domain that ramps down (R38) -/

/-- What a domain shows after the ramps are over: one that is off no longer shows SWITCHING. -/
def rampOver (b : Nat × Nat) : Nat × Nat := if b.2 == 1 && !(b.1 == 1) then (b.1, 0) else b

/-- One domain's ramp is over. -/
def State.rampOff (s : State) (d : Nat) : State :=
  if s.on .SUP_DOM_STATUS_SWITCHING d && !s.on .SUP_DOM_STATUS_ON d then s.setReg .SUP_DOM_STATUS_SWITCHING d 0 else s

theorem State.rampsOver_eq (s : State) : s.rampsOver = (List.range 90).foldl (fun s d => s.rampOff d) s := rfl

/-- What a domain shows of its power. -/
def State.ramp (e : Nat) (s : State) : Nat × Nat := (s.reg .SUP_DOM_STATUS_ON e, s.reg .SUP_DOM_STATUS_SWITCHING e)

theorem State.ramp_snd (e : Nat) (s : State) : (State.ramp e s).2 = s.reg .SUP_DOM_STATUS_SWITCHING e := rfl

theorem State.ramp_rampOff_same (s : State) (d : Nat) : State.ramp d (s.rampOff d) = rampOver (State.ramp d s) := by
  by_cases h : (s.on .SUP_DOM_STATUS_SWITCHING d && !s.on .SUP_DOM_STATUS_ON d) = true
  · have hramp : ((State.ramp d s).2 == 1 && !((State.ramp d s).1 == 1)) = true := h
    rw [State.rampOff, if_pos h, rampOver, if_pos hramp, State.ramp, State.ramp, State.reg_setReg_self, State.reg_setReg_ne _ _ (by simp), Nat.zero_mod]
  · have hramp : ¬ ((State.ramp d s).2 == 1 && !((State.ramp d s).1 == 1)) = true := h
    rw [State.rampOff, if_neg h, rampOver, if_neg hramp]

theorem State.rampOff_reg_ne (s : State) {d : Nat} {f : Fld} {i : Nat} (h : f ≠ .SUP_DOM_STATUS_SWITCHING ∨ i ≠ d) : (s.rampOff d).reg f i = s.reg f i := by
  unfold State.rampOff
  split
  · exact s.reg_setReg_ne _ fun e => h.elim (fun h => h e.1) fun h => h e.2
  · rfl

theorem State.ramp_rampOff_ne (s : State) {l m : Nat} (h : l ≠ m) : State.ramp l (s.rampOff m) = State.ramp l s := by
  rw [State.ramp, State.ramp, State.rampOff_reg_ne s (.inr h), State.rampOff_reg_ne s (.inr h)]

theorem rampOver_idem (b : Nat × Nat) : rampOver (rampOver b) = rampOver b := by
  by_cases h : (b.2 == 1 && !(b.1 == 1)) = true
  · simp [rampOver, h]
  · simp [rampOver, h]

theorem State.ramp_foldl (e : Nat) (l : List Nat) (s : State) :
    State.ramp e (l.foldl (fun s d => s.rampOff d) s) = if e ∈ l then rampOver (State.ramp e s) else State.ramp e s :=
  foldl_at State.ramp (fun s l => s.ramp_rampOff_same l) (fun s _ _ h => s.ramp_rampOff_ne h) rampOver_idem l s e

/-- A domain that is off does not ramp any more. -/
theorem State.rampsOver_off (s : State) {e : Nat} (he : e < 90) (hoff : s.on .SUP_DOM_STATUS_ON e = false) : s.rampsOver.on .SUP_DOM_STATUS_SWITCHING e = false := by
  have hramp := State.ramp_foldl e (List.range 90) s
  rw [if_pos (List.mem_range.2 he), ← State.rampsOver_eq] at hramp
  have hnot : ¬ s.reg .SUP_DOM_STATUS_ON e = 1 := by simpa [State.on] using hoff
  rw [State.on, ← State.ramp_snd, hramp, rampOver]
  split
  · rfl
  · rename_i h
    simpa [State.ramp, hnot] using h

theorem State.rampOff_regs (s : State) (d : Nat) : ∃ rg, s.rampOff d = { s with regs := rg } := by
  unfold State.rampOff
  split <;> exact ⟨_, rfl⟩

theorem State.rampsOver_regs (s : State) : ∃ rg, s.rampsOver = { s with regs := rg } := by
  rw [State.rampsOver_eq]
  generalize List.range 90 = l
  induction l generalizing s with
  | nil => exact ⟨_, rfl⟩
  | cons d l ih =>
    obtain ⟨rg, h⟩ := s.rampOff_regs d
    obtain ⟨rg', h'⟩ := ih (s.rampOff d)
    exact ⟨rg', h'.trans (by rw [h])⟩

/-- The ramps that are over leave every other register. -/
theorem State.rampsOver_keeps (s : State) {f : Fld} {i : Nat} (h : f ≠ .SUP_DOM_STATUS_SWITCHING ∨ 90 ≤ i) : s.rampsOver.reg f i = s.reg f i := by
  have hkept : ∀ (l : List Nat) (u : State), (∀ d ∈ l, d < 90) → (l.foldl (fun s d => s.rampOff d) u).reg f i = u.reg f i := by
    intro l
    induction l with
    | nil => exact fun _ _ => rfl
    | cons d l ih =>
      intro u hl
      have hd : f ≠ .SUP_DOM_STATUS_SWITCHING ∨ i ≠ d := h.imp_right fun hi => by have := hl d (by simp); omega
      exact (ih _ fun e he => hl e (List.mem_cons_of_mem _ he)).trans (u.rampOff_reg_ne hd)
  exact hkept (List.range 90) s fun d hd => List.mem_range.1 hd

/-- Where no domain ramps down nothing changes. -/
theorem State.rampsOver_none {s : State} (h : ∀ e, e < 90 → (s.on .SUP_DOM_STATUS_SWITCHING e && !s.on .SUP_DOM_STATUS_ON e) = false) : s.rampsOver = s := by
  have hkept : ∀ l : List Nat, (∀ d ∈ l, d < 90) → l.foldl (fun s d => s.rampOff d) s = s := by
    intro l
    induction l with
    | nil => exact fun _ => rfl
    | cons d l ih =>
      intro hl
      rw [List.foldl_cons, State.rampOff, h d (hl d (by simp)), if_neg Bool.false_ne_true]
      exact ih fun e he => hl e (List.mem_cons_of_mem _ he)
  rw [State.rampsOver_eq]
  exact hkept (List.range 90) fun d hd => List.mem_range.1 hd

/-! ### The domain in front of the sequence (R38) -/

theorem exec_domainSwitchSlot_eq (s : State) : exec .domainSwitchSlot s = execDomainSwitchSlot s := rfl

theorem exec_domainSwitchSlot {s : State} (h : s.isl.heldRegs = []) : exec .domainSwitchSlot s = .next s.started.switchNext := by
  rw [exec_domainSwitchSlot_eq]
  rw [execDomainSwitchSlot, run_started, show s.started.isl.heldRegs = [] from h, List.map_nil, List.eraseDups_nil, List.foldl_nil]

/-- The instant of the slot, at the earliest 250 ns after the one before. -/
def State.slotAt (s : State) : State :=
  match s.isl.lastSwitch with
  | some t => s.atNow (t + 250)
  | none => s

theorem State.slotAt_eq (s : State) : s.slotAt = { s with now := max s.now ((s.isl.lastSwitch.map (· + 250)).getD 0) } := by
  unfold State.slotAt
  cases s.isl.lastSwitch with
  | none => rw [Option.map_none, Option.getD_none, Nat.max_zero]
  | some t => rfl

/-- The domain in front leaves the sequence. -/
def State.slotTaken (s : State) (rest : List SwitchOp) : State :=
  s.slotAt.updIsl fun i => { i with switchQ := rest, lastSwitch := some s.slotAt.now }

theorem State.switchNext_of {s : State} {o : SwitchOp} {rest : List SwitchOp} (h : s.isl.switchQ = o :: rest) :
    s.switchNext = if !o.on then (s.rampsOver.slotTaken rest).domainOff o.dom o.failed
      else if (s.rampsOver.slotTaken rest).on .SUP_DOM_STATUS_PGOOD o.dom then ((s.rampsOver.slotTaken rest).setReg .SUP_DOM_STATUS_ON o.dom 1).domainGood o.dom
      else (s.rampsOver.slotTaken rest).setRegs [(.SUP_DOM_STATUS_ON, o.dom, 1), (.SUP_DOM_STATUS_SWITCHING, o.dom, 1)] := by
  obtain ⟨rg, hramps⟩ := s.rampsOver_regs
  have hq : s.rampsOver.isl.switchQ = o :: rest := by rw [hramps]; exact h
  unfold State.switchNext
  generalize s.rampsOver = u at hq
  dsimp only
  rw [hq]
  rfl

theorem State.switchNext_empty {s : State} (h : s.isl.switchQ = []) (hramps : ∀ e, e < 90 → (s.on .SUP_DOM_STATUS_SWITCHING e && !s.on .SUP_DOM_STATUS_ON e) = false) :
    s.switchNext = s := by
  unfold State.switchNext
  rw [State.rampsOver_none hramps]
  dsimp only
  rw [h]

/-- The slot after the ramps: registers but SWITCHING, islands but the sequence, and all else but the clock are as they were. -/
theorem State.slot_spec (s : State) (rest : List SwitchOp) :
    (∀ f i, (s.rampsOver.slotTaken rest).reg f i = s.rampsOver.reg f i) ∧ (s.rampsOver.slotTaken rest).isl.switchQ = rest ∧
      (s.rampsOver.slotTaken rest).isl.lastSwitch = some (max s.now ((s.isl.lastSwitch.map (· + 250)).getD 0)) ∧ (s.rampsOver.slotTaken rest).now = max s.now ((s.isl.lastSwitch.map (· + 250)).getD 0) ∧
      (s.rampsOver.slotTaken rest).flash = s.flash ∧ (s.rampsOver.slotTaken rest).part = s.part ∧ (s.rampsOver.slotTaken rest).pool = s.pool := by
  obtain ⟨rg, hramps⟩ := s.rampsOver_regs
  rw [State.slotTaken, State.slotAt_eq, hramps]
  exact ⟨fun _ _ => rfl, rfl, rfl, rfl, rfl, rfl, rfl⟩

theorem State.setRegs_isl (l : List (Fld × Nat × Nat)) : ∀ s : State, (s.setRegs l).isl = s.isl := by
  induction l with
  | nil => exact fun _ => rfl
  | cons e l ih => exact fun s => ih (s.setReg e.1 e.2.1 e.2.2)

/-- A domain is switched on: it shows ON and ramps. -/
def State.switchedOn (s : State) (d : Nat) : State := s.setRegs [(.SUP_DOM_STATUS_ON, d, 1), (.SUP_DOM_STATUS_SWITCHING, d, 1)]

theorem State.switchedOn_spec (s : State) (d : Nat) :
    (s.switchedOn d).reg .SUP_DOM_STATUS_ON d = 1 ∧ (s.switchedOn d).reg .SUP_DOM_STATUS_SWITCHING d = 1 ∧
      KeepsRegs s (s.switchedOn d) [(.SUP_DOM_STATUS_ON, d), (.SUP_DOM_STATUS_SWITCHING, d)] ∧ (s.switchedOn d).isl = s.isl ∧ (s.switchedOn d).pool = s.pool ∧
      (s.switchedOn d).frame = s.frame := by
  refine ⟨?_, ?_, fun f i hf => State.reg_setRegs_notin _ _ _ _ (by simpa using hf), State.setRegs_isl _ _, rfl, State.setRegs_frame _ _⟩
  · rw [State.switchedOn, State.setRegs_cons, State.setRegs_cons, State.setRegs_nil, State.reg_setReg_ne _ _ (by simp), State.reg_setReg_self]
    rfl
  · rw [State.switchedOn, State.setRegs_cons, State.setRegs_cons, State.setRegs_nil, State.reg_setReg_self]
    rfl

theorem exec_domainSwitchSlot_on {s : State} {d : Nat} {rest : List SwitchOp} (hq : s.isl.switchQ = { dom := d, on := true } :: rest)
    (hgood : s.on .SUP_DOM_STATUS_PGOOD d = false) (hheld : s.isl.heldRegs = []) :
    ∃ t, exec .domainSwitchSlot s = .next t ∧ t.reg .SUP_DOM_STATUS_ON d = 1 ∧ t.reg .SUP_DOM_STATUS_SWITCHING d = 1 ∧
      t.isl.switchQ = rest ∧ t.isl.lastSwitch = some t.now ∧ t.now = max s.now ((s.isl.lastSwitch.map (· + 250)).getD 0) ∧
      (∀ e, e < 90 → e ≠ d → s.on .SUP_DOM_STATUS_ON e = false → t.on .SUP_DOM_STATUS_SWITCHING e = false) ∧
      KeepsRegs s t ((.SUP_DOM_STATUS_ON, d) :: (List.range 90).map (fun e => (Fld.SUP_DOM_STATUS_SWITCHING, e)) ++ [(.SUP_DOM_STATUS_SWITCHING, d)]) ∧
      t.flash = s.flash ∧ t.part = s.part ∧ t.pool = s.pool := by
  refine ⟨_, (exec_domainSwitchSlot hheld).trans (congrArg _ (State.switchNext_of (s := s.started) hq)), ?_⟩
  obtain ⟨hregs, hsq, hlast, hnow, hflash, hpart, hpool⟩ := s.started.slot_spec rest
  have hgood' : (s.started.rampsOver.slotTaken rest).on .SUP_DOM_STATUS_PGOOD d = false := by
    rw [State.on, hregs, s.started.rampsOver_keeps (.inl (by simp))]
    exact hgood
  have hoff : ∀ e, e < 90 → s.on .SUP_DOM_STATUS_ON e = false → (s.started.rampsOver.slotTaken rest).on .SUP_DOM_STATUS_SWITCHING e = false := fun e he hoff => by
    rw [State.on, hregs]
    exact s.started.rampsOver_off he hoff
  have hkeep : ∀ {f i}, (f ≠ .SUP_DOM_STATUS_SWITCHING ∨ 90 ≤ i) → (s.started.rampsOver.slotTaken rest).reg f i = s.reg f i := fun {f i} h =>
    (hregs f i).trans (s.started.rampsOver_keeps h)
  generalize s.started.rampsOver.slotTaken rest = u at *
  dsimp only
  rw [Bool.not_true, if_neg Bool.false_ne_true, hgood', if_neg Bool.false_ne_true]
  obtain ⟨hon, hswitching, hother, htisl, htpool, htframe⟩ := u.switchedOn_spec d
  rw [State.switchedOn] at *
  generalize u.setRegs _ = t at *
  have htnow : t.now = u.now := congrArg Frame.now htframe
  refine ⟨hon, hswitching, by rw [htisl, hsq], by rw [htisl, hlast, htnow, hnow], htnow.trans hnow, fun e he hne hon => ?_, fun f i hf => ?_,
    (congrArg Frame.flash htframe).trans hflash, (congrArg Frame.part htframe).trans hpart, htpool.trans hpool⟩
  · rw [State.on, hother _ _ (by simpa using hne)]
    exact hoff e he hon
  · have hnot : ¬ ((f, i) = (.SUP_DOM_STATUS_ON, d) ∨ (∃ e < 90, (Fld.SUP_DOM_STATUS_SWITCHING, e) = (f, i)) ∨ (f, i) = (.SUP_DOM_STATUS_SWITCHING, d)) := by
      simpa [or_assoc] using hf
    have hnew : (f, i) ∉ [(Fld.SUP_DOM_STATUS_ON, d), (Fld.SUP_DOM_STATUS_SWITCHING, d)] := fun h => by
      rcases List.mem_cons.1 h with h | h
      · exact hnot (.inl h)
      · exact hnot (.inr (.inr (List.mem_singleton.1 h)))
    rw [hother _ _ hnew]
    refine hkeep ?_
    by_contra hboth
    obtain ⟨hf, hi⟩ : f = .SUP_DOM_STATUS_SWITCHING ∧ i < 90 := by simpa using hboth
    exact hnot (.inr (.inl ⟨i, hi, by rw [hf]⟩))

/-! ### A domain goes off (R38, R49, R138) -/

/-- The registers of a domain that goes off, and of its island's clock. -/
def State.unpowered (s : State) (d : Nat) : State :=
  s.setRegs [(.SUP_DOM_STATUS_ON, d, 0), (.SUP_DOM_STATUS_PGOOD, d, 0), (.SUP_DOM_STATUS_SWITCHING, d, 1),
    (.SUP_ISL_STATUS_CLK_LOCK, domIsland d, 0), (.SUP_ISL_HEALTH_TEMP, domIsland d, 0)]

theorem State.unpowered_spec (s : State) (d : Nat) :
    (s.unpowered d).reg .SUP_DOM_STATUS_ON d = 0 ∧ (s.unpowered d).reg .SUP_DOM_STATUS_PGOOD d = 0 ∧ (s.unpowered d).reg .SUP_DOM_STATUS_SWITCHING d = 1 ∧
      (s.unpowered d).reg .SUP_ISL_STATUS_CLK_LOCK (domIsland d) = 0 ∧ (∀ n, (s.unpowered d).islState n = s.islState n) ∧ (s.unpowered d).isl = s.isl ∧
      (s.unpowered d).frame = s.frame := by
  refine ⟨?_, ?_, ?_, ?_, fun n => ?_, State.setRegs_isl _ _, State.setRegs_frame _ _⟩
  · rw [State.unpowered, State.setRegs_cons, State.reg_setRegs_notin _ _ _ _ (by simp), State.reg_setReg_self, Nat.zero_mod]
  · rw [State.unpowered, State.setRegs_cons, State.setRegs_cons, State.reg_setRegs_notin _ _ _ _ (by simp), State.reg_setReg_self, Nat.zero_mod]
  · rw [State.unpowered, State.setRegs_cons, State.setRegs_cons, State.setRegs_cons, State.reg_setRegs_notin _ _ _ _ (by simp), State.reg_setReg_self]
    rfl
  · rw [State.unpowered, State.setRegs_cons, State.setRegs_cons, State.setRegs_cons, State.setRegs_cons, State.reg_setRegs_notin _ _ _ _ (by simp),
      State.reg_setReg_self, Nat.zero_mod]
  · exact State.reg_setRegs_notin _ _ _ _ (by simp)

theorem State.domainOff_failed (s : State) (d : Nat) : s.domainOff d true = s.unpowered d := by
  rw [State.domainOff]
  exact if_pos (by simp)

/-- An island that is switched off is isolated and emptied. -/
def State.emptied (s : State) (n : Nat) : State :=
  let s := s.isolate n
  let s := if s.islState n == 5 then (s.causeOff 0x08 n).causeOff 0x09 n else s
  (s.flushInside n).loseBanks n

/-- It reads OFF, with nothing of it in progress, and the command that asked for it ends. -/
def State.readsOff (s : State) (d : Nat) : State :=
  ((s.setIsl (domIsland d) 0).updIsl fun i => { i with
    isolating := i.isolating.filter (fun e => e.1 != domIsland d), resets := i.resets.filter (fun e => e.1 != domIsland d) }).finish (.power d) 0

theorem State.domainOff_island (s : State) {d : Nat} (h : domIsland d ≠ 52) : s.domainOff d = ((s.unpowered d).emptied (domIsland d)).readsOff d := by
  rw [State.domainOff]
  exact if_neg (by simp [h])

theorem State.emptied_spec (s : State) (n : Nat) :
    (∀ f i, isSupFld f = true → (s.emptied n).reg f i = s.reg f i) ∧ (s.emptied n).isl.switchQ = s.isl.switchQ ∧ (s.emptied n).frame = s.frame := by
  have hisolate := s.isolate_supWaits n
  have hq : (s.isolate n).isl.switchQ = s.isl.switchQ := by
    have hview : (s.isolate n).isl.switchQ = _ := congrArg (fun v => v.isl.switchQ) hisolate
    rw [hview]
    split <;> rfl
  have hregs : ∀ f i, isSupFld f = true → (s.isolate n).reg f i = s.reg f i := fun f i hf => by
    rw [State.reg_of_supWaits hisolate hf]
    split <;> rfl
  have hframe := s.isolate_frame n
  have hlater : (s.emptied n).supView = (s.isolate n).supView := by
    have hbanks : ∀ u : State, (u.loseBanks n).supView = u.supView := fun u => by
      unfold State.loseBanks
      split <;> rfl
    rw [State.emptied, hbanks, State.flushInside_supView]
    split <;> rfl
  refine ⟨fun f i hf => (State.reg_of_supView hlater hf i).trans (hregs f i hf), (congrArg (fun v => v.isl.switchQ) hlater).trans hq, ?_⟩
  simp [State.emptied]

theorem State.readsOff_spec (s : State) (d : Nat) :
    (s.readsOff d).islState (domIsland d) = 0 ∧ (∀ f i, f ≠ .SUP_ISL_STATUS_STATE → (s.readsOff d).reg f i = s.reg f i) ∧
      (s.readsOff d).isl.switchQ = s.isl.switchQ ∧ (s.readsOff d).frame = s.frame := by
  have hstate := s.setIsl_islState (domIsland d) 0
  have hregs := fun f i hf => s.setIsl_reg_ne (domIsland d) 0 (f := f) i hf
  have hisl := s.setIsl_isl (domIsland d) 0
  have hframe := s.setIsl_frame (domIsland d) 0
  rw [State.readsOff]
  generalize s.setIsl (domIsland d) 0 = u at *
  have hq : u.isl.switchQ = s.isl.switchQ := congrArg Islands.switchQ hisl
  exact ⟨hstate, hregs, hq, hframe⟩

theorem exec_domainSwitchSlot_off {s : State} {d : Nat} {rest : List SwitchOp} (hq : s.isl.switchQ = { dom := d, on := false } :: rest)
    (hcore : domIsland d ≠ 52) (hheld : s.isl.heldRegs = []) :
    ∃ t, exec .domainSwitchSlot s = .next t ∧ t.reg .SUP_DOM_STATUS_ON d = 0 ∧ t.reg .SUP_DOM_STATUS_PGOOD d = 0 ∧ t.reg .SUP_DOM_STATUS_SWITCHING d = 1 ∧
      t.islState (domIsland d) = 0 ∧ t.reg .SUP_ISL_STATUS_CLK_LOCK (domIsland d) = 0 ∧ t.isl.switchQ = rest ∧
      t.now = max s.now ((s.isl.lastSwitch.map (· + 250)).getD 0) ∧ t.flash = s.flash ∧ t.part = s.part := by
  refine ⟨_, (exec_domainSwitchSlot hheld).trans (congrArg _ (State.switchNext_of (s := s.started) hq)), ?_⟩
  obtain ⟨-, hsq, -, hnow, hflash, hpart, -⟩ := s.started.slot_spec rest
  generalize s.started.rampsOver.slotTaken rest = u at *
  dsimp only
  rw [Bool.not_false, if_pos rfl, State.domainOff_island u hcore]
  obtain ⟨hon, hgood, hswitching, hclock, -, huisl, huframe⟩ := u.unpowered_spec d
  obtain ⟨hregs, hq', hframe⟩ := (u.unpowered d).emptied_spec (domIsland d)
  obtain ⟨hstate, hrest, hroff, hrframe⟩ := ((u.unpowered d).emptied (domIsland d)).readsOff_spec d
  have hall := hrframe.trans (hframe.trans huframe)
  generalize ((u.unpowered d).emptied (domIsland d)).readsOff d = x at *
  generalize (u.unpowered d).emptied (domIsland d) = w at *
  generalize u.unpowered d = v at *
  refine ⟨?_, ?_, ?_, hstate, ?_, ?_, (congrArg Frame.now hall).trans hnow, (congrArg Frame.flash hall).trans hflash, (congrArg Frame.part hall).trans hpart⟩
  · rw [hrest _ _ (by simp), hregs _ _ rfl, hon]
  · rw [hrest _ _ (by simp), hregs _ _ rfl, hgood]
  · rw [hrest _ _ (by simp), hregs _ _ rfl, hswitching]
  · rw [hrest _ _ (by simp), hregs _ _ rfl, hclock]
  · rw [hroff, hq', huisl, hsq]

theorem exec_domainSwitchSlot_failed {s : State} {d : Nat} {rest : List SwitchOp} (hq : s.isl.switchQ = { dom := d, on := false, failed := true } :: rest)
    (hheld : s.isl.heldRegs = []) :
    ∃ t, exec .domainSwitchSlot s = .next t ∧ t.reg .SUP_DOM_STATUS_ON d = 0 ∧ t.reg .SUP_DOM_STATUS_PGOOD d = 0 ∧ t.reg .SUP_DOM_STATUS_SWITCHING d = 1 ∧
      t.islState (domIsland d) = s.islState (domIsland d) ∧ t.isl.switchQ = rest ∧ t.flash = s.flash ∧ t.part = s.part := by
  refine ⟨_, (exec_domainSwitchSlot hheld).trans (congrArg _ (State.switchNext_of (s := s.started) hq)), ?_⟩
  obtain ⟨hregs, hsq, -, -, hflash, hpart, -⟩ := s.started.slot_spec rest
  have hislState : ∀ n, (s.started.rampsOver.slotTaken rest).islState n = s.islState n := fun n =>
    (hregs _ n).trans (s.started.rampsOver_keeps (.inl (by simp)))
  generalize s.started.rampsOver.slotTaken rest = u at *
  dsimp only
  rw [Bool.not_false, if_pos rfl, State.domainOff_failed]
  obtain ⟨hon, hgood, hswitching, -, hstate, huisl, huframe⟩ := u.unpowered_spec d
  refine ⟨hon, hgood, hswitching, (hstate _).trans (hislState _), ?_, (congrArg Frame.flash huframe).trans hflash, (congrArg Frame.part huframe).trans hpart⟩
  rw [huisl, hsq]

end Sys2Proof.Machine
end

section
/-! The statement on the switching of domains, its clauses on DOMAIN_POWER_GOOD and DOMAIN_PGOOD (R37, R64, R69, R72, R138, R724). -/

namespace Sys2Proof.Machine

/-! ### A domain reports power good (R37, R64, R69) -/

/-- A domain shows power good, and no ramp. -/
def State.showGood (s : State) (d : Nat) : State := s.setRegs [(.SUP_DOM_STATUS_PGOOD, d, 1), (.SUP_DOM_STATUS_SWITCHING, d, 0)]

theorem State.showGood_spec (s : State) (d : Nat) :
    (s.showGood d).reg .SUP_DOM_STATUS_PGOOD d = 1 ∧ (s.showGood d).reg .SUP_DOM_STATUS_SWITCHING d = 0 ∧
      KeepsRegs s (s.showGood d) [(.SUP_DOM_STATUS_PGOOD, d), (.SUP_DOM_STATUS_SWITCHING, d)] := by
  refine ⟨?_, ?_, fun f i hf => State.reg_setRegs_notin _ _ _ _ (by simpa using hf)⟩
  · rw [State.showGood, State.setRegs_cons, State.reg_setRegs_notin _ _ _ _ (by simp), State.reg_setReg_self]
    rfl
  · rw [State.showGood, State.setRegs_cons, State.setRegs_cons, State.setRegs_nil, State.reg_setReg_self, Nat.zero_mod]

theorem exec_domainPowerGood (s : State) (d : Nat) : exec (.domainPowerGood d) s = execDomainPowerGood d s := rfl

theorem exec_domainPowerGood_of {s : State} {d : Nat} (hd : d < 90) (hon : s.on .SUP_DOM_STATUS_ON d = true) (hgood : s.on .SUP_DOM_STATUS_PGOOD d = false) :
    exec (.domainPowerGood d) s = .next (if s.on .SUP_DOM_STATUS_SWITCHING d && !s.goesOff d then (s.started.showGood d).domainGood d else s.started.showGood d) := by
  have hguard : (d < 90 && s.started.on .SUP_DOM_STATUS_ON d && !s.started.on .SUP_DOM_STATUS_PGOOD d) = true := by
    change (d < 90 && s.on .SUP_DOM_STATUS_ON d && !s.on .SUP_DOM_STATUS_PGOOD d) = true
    simp [hd, hon, hgood]
  rw [exec_domainPowerGood, execDomainPowerGood, run_started]
  dsimp only
  rw [if_pos hguard]
  rfl

/-- With the last domain of its island good the island is powered. -/
theorem State.powered_showGood {s : State} {d : Nat} (h : ∀ e ∈ islDomains (domIsland d), e ≠ d → s.on .SUP_DOM_STATUS_PGOOD e = true) :
    (s.showGood d).powered (domIsland d) = true := by
  obtain ⟨hgood, -, hkept⟩ := s.showGood_spec d
  refine List.all_eq_true.2 fun e he => ?_
  by_cases hed : e = d
  · rw [hed, State.on, hgood]
    rfl
  · rw [State.on, hkept _ _ (by simp [hed])]
    exact h e he hed

/-- An island that runs in P3 with its last domain good. -/
def State.startsRunning (s : State) (n : Nat) : State := ((s.work n).setIsl n 2).setReg .SUP_ISL_STATUS_CLK_LOCK n 1

theorem State.startsRunning_spec (s : State) (n : Nat) :
    (s.startsRunning n).islState n = 2 ∧ (s.startsRunning n).reg .SUP_ISL_STATUS_CLK_LOCK n = 1 ∧
      (∀ f i, f ≠ .SUP_ISL_STATUS_STATE → f ≠ .SUP_ISL_STATUS_CLK_LOCK → (s.startsRunning n).reg f i = s.reg f i) ∧ (s.startsRunning n).frame = s.frame := by
  refine ⟨?_, ?_, fun f i hstate hlock => ?_, ?_⟩
  · refine (State.reg_setReg_ne _ _ (by simp)).trans ?_
    exact (s.work n).setIsl_islState n 2
  · rw [State.startsRunning, State.reg_setReg_self]
    rfl
  · rw [State.startsRunning, State.reg_setReg_ne _ _ fun e => hlock e.1, State.setIsl_reg_ne _ _ _ _ hstate]
    rfl
  · rw [State.startsRunning, State.setReg_frame, State.setIsl_frame]
    rfl

/-- Registers of bring-up's phase do not change as a domain shows power good. -/
theorem State.showGood_booting (s : State) (d p : Nat) : (s.showGood d).booting p = s.booting p := by
  obtain ⟨-, -, hkept⟩ := s.showGood_spec d
  have hphase : (s.showGood d).phase = s.phase := hkept _ _ (by simp)
  have hstalled : (s.showGood d).stalled = s.stalled := congrArg (· == 1) (hkept .SUP_COL_PHASE_STALLED 0 (by simp))
  rw [State.booting, State.booting, hphase, hstalled]
  rfl

theorem State.domainGood_p3 {s : State} {d : Nat} (hpowered : s.powered (domIsland d) = true) (hboot : s.booting 3 = true)
    (hfenced : s.isl.bootFenced.contains (domIsland d) = false) : s.domainGood d = (s.startsRunning (domIsland d)).seedReplicas := by
  rw [State.domainGood]
  rw [hpowered, Bool.not_true, if_neg Bool.false_ne_true, if_pos hboot, hfenced, if_neg Bool.false_ne_true]
  rfl

theorem State.domainGood_later {s : State} {d : Nat} (hpowered : s.powered (domIsland d) = true) (hphase : 4 ≤ s.phase) :
    s.domainGood d = s.resetIsl (domIsland d) := by
  have hboot : ¬ s.booting 3 = true := fun h => by
    have := State.phase_of_booting h
    omega
  rw [State.domainGood]
  rw [hpowered, Bool.not_true, if_neg Bool.false_ne_true, if_neg hboot, if_neg (by omega)]

section
variable {s : State} {d : Nat}

theorem exec_domainPowerGood_p3 (hd : d < 90) (hboot : s.booting 3 = true) (hon : s.on .SUP_DOM_STATUS_ON d = true)
    (hgood : s.on .SUP_DOM_STATUS_PGOOD d = false) (hsw : s.on .SUP_DOM_STATUS_SWITCHING d = true) (hoff : s.goesOff d = false)
    (hfenced : s.isl.bootFenced.contains (domIsland d) = false) (hall : ∀ e ∈ islDomains (domIsland d), e ≠ d → s.on .SUP_DOM_STATUS_PGOOD e = true) :
    ∃ t, exec (.domainPowerGood d) s = .next t ∧ t.reg .SUP_DOM_STATUS_PGOOD d = 1 ∧ t.reg .SUP_DOM_STATUS_SWITCHING d = 0 ∧
      t.islState (domIsland d) = 2 ∧ t.reg .SUP_ISL_STATUS_CLK_LOCK (domIsland d) = 1 ∧ t.frame = s.frame := by
  refine ⟨_, exec_domainPowerGood_of hd hon hgood, ?_⟩
  rw [hsw, hoff, Bool.not_false, Bool.and_true, if_pos rfl, State.domainGood_p3 (State.powered_showGood (s := s.started) hall)
    ((s.started.showGood_booting d 3).trans hboot) hfenced]
  obtain ⟨hpgood, hramp, -⟩ := s.started.showGood_spec d
  obtain ⟨hstate, hclock, hregs, hframe⟩ := (s.started.showGood d).startsRunning_spec (domIsland d)
  obtain ⟨hshows, -, -, hsframe⟩ := ((s.started.showGood d).startsRunning (domIsland d)).seedReplicas_spec
  refine ⟨?_, ?_, ?_, ?_, ?_⟩
  · rw [State.reg_of_shows hshows rfl, hregs _ _ (by simp) (by simp), hpgood]
  · rw [State.reg_of_shows hshows rfl, hregs _ _ (by simp) (by simp), hramp]
  · rw [State.islState, State.reg_of_shows hshows rfl]
    exact hstate
  · rw [State.reg_of_shows hshows rfl, hclock]
  · rw [hsframe, hframe, State.showGood, State.setRegs_frame]
    rfl

theorem exec_domainPowerGood_reset (hd : d < 90) (hphase : 4 ≤ s.phase) (hon : s.on .SUP_DOM_STATUS_ON d = true)
    (hgood : s.on .SUP_DOM_STATUS_PGOOD d = false) (hsw : s.on .SUP_DOM_STATUS_SWITCHING d = true) (hoff : s.goesOff d = false)
    (hall : ∀ e ∈ islDomains (domIsland d), e ≠ d → s.on .SUP_DOM_STATUS_PGOOD e = true) :
    ∃ t, exec (.domainPowerGood d) s = .next t ∧ t.reg .SUP_DOM_STATUS_PGOOD d = 1 ∧ t.reg .SUP_DOM_STATUS_SWITCHING d = 0 ∧
      t.islState (domIsland d) = 1 ∧ t.frame = s.frame := by
  obtain ⟨hpgood, hramp, hkept⟩ := s.started.showGood_spec d
  have hphase' : 4 ≤ (s.started.showGood d).phase := by
    rw [State.phase, hkept _ _ (by simp)]
    exact hphase
  refine ⟨_, exec_domainPowerGood_of hd hon hgood, ?_⟩
  rw [hsw, hoff, Bool.not_false, Bool.and_true, if_pos rfl, State.domainGood_later (State.powered_showGood (s := s.started) hall) hphase']
  obtain ⟨hstate, -, -, hregs⟩ := (s.started.showGood d).resetIsl_supView (domIsland d)
  refine ⟨?_, ?_, hstate, ?_⟩
  · rw [hregs _ _ rfl (by simp), hpgood]
  · rw [hregs _ _ rfl (by simp), hramp]
  · rw [State.resetIsl_frame, State.showGood, State.setRegs_frame]
    rfl

theorem exec_domainPowerGood_returns (hd : d < 90) (hon : s.on .SUP_DOM_STATUS_ON d = true) (hgood : s.on .SUP_DOM_STATUS_PGOOD d = false)
    (hsw : s.on .SUP_DOM_STATUS_SWITCHING d = false) :
    ∃ t, exec (.domainPowerGood d) s = .next t ∧ t.reg .SUP_DOM_STATUS_PGOOD d = 1 ∧
      KeepsRegs s t [(.SUP_DOM_STATUS_PGOOD, d), (.SUP_DOM_STATUS_SWITCHING, d)] ∧ t.isl = s.isl ∧ t.frame = s.frame := by
  refine ⟨_, exec_domainPowerGood_of hd hon hgood, ?_⟩
  rw [hsw, Bool.false_and, if_neg Bool.false_ne_true]
  obtain ⟨hpgood, -, hkept⟩ := s.started.showGood_spec d
  refine ⟨hpgood, hkept, rfl, ?_⟩
  rw [State.showGood, State.setRegs_frame]
  rfl

/-! ### A domain fails to report power good (R138, R724) -/

theorem exec_domainPgood (s : State) (d : Nat) : exec (.domainPgood d) s = execDomainPgood d s := rfl

theorem mem_islDomains : ∀ d < 90, d ∈ islDomains (domIsland d) := by decide

theorem foldl_finish_regs (l : List Nat) (s : State) : (l.foldl (fun s d => s.finish (.power d) 0x31) s).regs = s.regs :=
  foldl_keeps (fun s => s.regs) (fun s d => (rfl : (s.finish (.power d) 0x31).regs = s.regs)) l s

theorem foldl_finish_isl (l : List Nat) (s : State) : (l.foldl (fun s d => s.finish (.power d) 0x31) s).isl = s.isl :=
  foldl_keeps (fun s => s.isl) (fun s d => s.finish_isl (.power d) 0x31 []) l s

/-- A result that a command has stays. -/
theorem State.finish_keeps_result {s : State} {r : Running} (w : Wait) (code : Nat) (hr : s.port.running = some r) (hresult : r.result.isSome = true) :
    (s.finish w code).port.running = some r := by
  have hsome : r.result ≠ none := Option.isSome_iff_ne_none.1 hresult
  simp [State.finish, State.updRun, hr, hsome]

/-- A command that waits for something else goes on waiting. -/
theorem State.finish_other {s : State} {r : Running} {w : Wait} (code : Nat) (hr : s.port.running = some r) (hw : r.wait ≠ w) :
    (s.finish w code).port.running = some r := by
  simp [State.finish, State.updRun, hr, hw]

theorem foldl_finish_result (l : List Nat) {s : State} {r : Running} (hr : s.port.running = some r) (hresult : r.result.isSome = true) :
    (l.foldl (fun s d => s.finish (.power d) 0x31) s).port.running = some r := by
  induction l generalizing s with
  | nil => exact hr
  | cons e l ih => exact ih (State.finish_keeps_result _ _ hr hresult)

/-- The command that waits for one of a list of domains ends once. -/
theorem foldl_finish_resultCode {d : Nat} {l : List Nat} {s : State} {r : Running} (hd : d ∈ l) (hr : s.port.running = some r) (hw : r.wait = .power d)
    (hresult : r.result = none) : (l.foldl (fun s d => s.finish (.power d) 0x31) s).resultCode = some 0x31 := by
  induction l generalizing s with
  | nil => exact absurd hd List.not_mem_nil
  | cons e l ih =>
    by_cases hed : e = d
    · have hfirst : (s.finish (.power e) 0x31).port.running = some { r with result := some (0x31, []) } := by
        simp [State.finish, State.updRun, hr, hw, hresult, hed]
      rw [List.foldl_cons, State.resultCode, foldl_finish_result l hfirst rfl]
      rfl
    · have hmem : d ∈ l := (List.mem_cons.1 hd).resolve_left fun h => hed h.symm
      have hne : r.wait ≠ .power e := fun h => hed (Wait.power.inj (hw.symm.trans h)).symm
      exact ih hmem (State.finish_other _ hr hne)

theorem exec_domainPgood_of (hd : d < 90) (hboot : s.booting 3 = false) (hcore : domIsland d ≠ 52) (hon : s.on .SUP_DOM_STATUS_ON d = true)
    (hgood : s.on .SUP_DOM_STATUS_PGOOD d = false) (hsw : s.on .SUP_DOM_STATUS_SWITCHING d = true) (hoff : s.goesOff d = false) :
    exec (.domainPgood d) s = .next (s.started.powerFails d) := by
  have hguard : (d < 90 && s.started.on .SUP_DOM_STATUS_ON d && s.started.on .SUP_DOM_STATUS_SWITCHING d && !s.started.on .SUP_DOM_STATUS_PGOOD d &&
      !s.started.goesOff d) = true := by
    change (d < 90 && s.on .SUP_DOM_STATUS_ON d && s.on .SUP_DOM_STATUS_SWITCHING d && !s.on .SUP_DOM_STATUS_PGOOD d && !s.goesOff d) = true
    simp [hd, hon, hgood, hsw, hoff]
  have hboot' : ¬ s.started.booting 3 = true := by
    change ¬ s.booting 3 = true
    simp [hboot]
  rw [exec_domainPgood, execDomainPgood, run_started]
  dsimp only
  rw [if_pos hguard, if_neg hboot', if_neg (by simpa using hcore)]

theorem exec_domainPgood_fails (hd : d < 90) (hboot : s.booting 3 = false) (hcore : domIsland d ≠ 52) (hon : s.on .SUP_DOM_STATUS_ON d = true)
    (hgood : s.on .SUP_DOM_STATUS_PGOOD d = false) (hsw : s.on .SUP_DOM_STATUS_SWITCHING d = true) (hoff : s.goesOff d = false) :
    ∃ t, exec (.domainPgood d) s = .next t ∧ t.isl.switchQ = s.isl.switchQ.filter (fun o => domIsland o.dom != domIsland d) ++
        ((((islDomains (domIsland d)).dropWhile (fun x => x != d)).filter (fun x => s.on .SUP_DOM_STATUS_ON x)).reverse.map
          (fun x => { dom := x, on := false, failed := true })) ∧
      (s.waitsFor = some (.power d) → s.resultCode = none → t.resultCode = some 0x31) ∧ t.regs = s.regs ∧ t.frame = s.frame := by
  refine ⟨_, exec_domainPgood_of hd hboot hcore hon hgood hsw hoff, ?_, fun hw hr => ?_, ?_, ?_⟩
  · rw [State.powerFails, foldl_finish_isl]
    rfl
  · obtain ⟨r, hrun, hwait⟩ := Option.map_eq_some_iff.1 (hw : s.port.running.map (·.wait) = some (.power d))
    have hresult : r.result = none := by simpa [State.resultCode, hrun] using hr
    exact foldl_finish_resultCode (mem_islDomains d hd) hrun hwait hresult
  · rw [State.powerFails, foldl_finish_regs]
    rfl
  · rw [State.powerFails, foldl_keeps State.frame fun s e => s.finish_frame _ _ _, State.failOff_frame]
    rfl

/-- A domain that is off neither reports power good nor fails to. -/
theorem exec_domain_off (hon : s.on .SUP_DOM_STATUS_ON d = false) :
    exec (.domainPowerGood d) s = .next { s with out := [] } ∧ exec (.domainPgood d) s = .next { s with out := [] } := by
  have hoff : s.started.on .SUP_DOM_STATUS_ON d = false := hon
  constructor
  · rw [exec_domainPowerGood, execDomainPowerGood, run_started]
    dsimp only
    rw [hoff, Bool.and_false, Bool.false_and, if_neg Bool.false_ne_true]
    rfl
  · rw [exec_domainPgood, execDomainPgood, run_started]
    dsimp only
    rw [hoff, Bool.and_false, Bool.false_and, Bool.false_and, Bool.false_and, if_neg Bool.false_ne_true]
    rfl

end

theorem exec_domainSwitchSlot_idle {s : State} (hq : s.isl.switchQ = []) (hheld : s.isl.heldRegs = [])
    (hramps : ∀ e, e < 90 → (s.on .SUP_DOM_STATUS_SWITCHING e && !s.on .SUP_DOM_STATUS_ON e) = false) : exec .domainSwitchSlot s = .next { s with out := [] } := by
  rw [exec_domainSwitchSlot hheld, State.switchNext_empty (s := s.started) hq hramps]
  rfl

/-- Settles O17: a slot changes what its domain shows; the isolation of an island that goes off leaves the supervisor's view, and a
good domain changes its island alone. -/
theorem domainsAreSwitchedAndIslandsRun : Obligations.DomainsAreSwitchedAndIslandsRun := by
  unfold Obligations.DomainsAreSwitchedAndIslandsRun
  refine ⟨fun _ _ _ => exec_domainSwitchSlot_on, fun _ _ _ => exec_domainSwitchSlot_off, fun _ => exec_domainSwitchSlot_idle, fun _ _ => exec_domainPowerGood_p3,
    fun _ _ => exec_domainPowerGood_reset, fun _ _ => exec_domainPowerGood_returns, fun _ _ => exec_domainPgood_fails, fun _ _ _ => exec_domainSwitchSlot_failed,
    fun _ _ => exec_domain_off⟩

end Sys2Proof.Machine
end

section
/-! SUPPORT. That every command goes onward: an operation of the laws at a time, a command at a time, then all of them (R84, R90, R147,
R560, R583). -/

namespace Sys2Proof.Machine

/-! ### A command's clock -/

theorem Onward.run {s : State} {f : State → State} (h : ∀ u, Onward u (f u)) : Ends (Onward s) (run f s) :=
  ends_run (.trans (t := { s with out := [] }) (.of_frame rfl) (h _))

/-- The clock of a frame. -/
def Frame.clock (f : Frame) : Nat := f.now

@[simp] theorem Frame.clock_mk (pe : List Instr) (pa : Part) (fl : Flash) (m : List Host.Cell) (n : Nat) :
    (Frame.mk pe pa fl m n).clock = n := rfl

@[simp] theorem State.atNow_clock (s : State) (t : Nat) : (s.atNow t).frame.clock = max s.frame.clock t := rfl

@[simp] theorem State.atDev_clock (s : State) (t : Nat) :
    (s.atDev t).frame.clock = max s.frame.clock ((s.boot.timeBase.map (· + t)).getD 0) := by
  rw [State.atDev_frame]
  rfl

/-- A frame that stays but for a clock that does not go back. -/
theorem Onward.of_still {s t : State} (h : Same Frame.still s t) (hn : s.frame.clock ≤ t.frame.clock) : Onward s t :=
  .of_later ⟨t.now, hn, congrArg (fun f : Frame => { f with now := t.now }) h⟩

/-! ### Operations -/

theorem State.meterResume_onward (s : State) : Onward s s.meterResume := by
  unfold State.meterResume
  exact .ite (s.bankClose_onward.frame_right (by simp)) (.of_frame s.meterStart_frame)

theorem State.dmaCpl_onward (s : State) (k t : Nat) (last : Bool) : Onward s (s.dmaCpl k t last) := by
  unfold State.dmaCpl
  split
  · exact .refl s
  · split
    · exact .of_frame (by simp)
    · exact .ite (.trans (.of_frame (by simp)) (State.imageRead_onward _ _)) (.refl s)

theorem State.domainLoss_onward (s : State) (d : Nat) : Onward s (s.domainLoss d) :=
  .ite (.trans (.of_frame (State.setReg_frame _ _ _ _)) (State.lose_onward _ _ _)) (.refl s)

/-! ### Commands of bring-up and recovery -/

theorem execFirmwareVerified_onward (s : State) : Ends (Onward s) (execFirmwareVerified s) := by
  refine .run fun u => .ite ?_ (.refl u)
  dsimp only
  generalize ht : u.updBoot _ = t
  have hbad : Onward u t := .of_frame (by rw [← ht, State.updBoot_frame])
  refine hbad.trans (.ite (State.failBringup_onward _ _ _) (.of_frame ?_))
  rw [State.setRegs_frame, State.toPhase_frame, State.setReg_frame]
  exact (foldl_frame (fun t j => State.setRegs_frame _ _) _ _).trans (State.updBoot_frame _ _)

theorem execBankVerifyDone_onward (s : State) : Ends (Onward s) (execBankVerifyDone s) := by
  refine .run fun u => .ite ?_ (.refl u)
  dsimp only
  generalize hw : ite (2 ≤ _ && _) _ _ = w
  have hmark : Onward u w := by
    rw [← hw]
    exact .ite (.trans (.of_frame (State.setReg_frame _ _ _ _)) (State.markBank_onward _ _ _)) (.of_frame (State.setReg_frame _ _ _ _))
  split
  · exact hmark.frame_right (State.runForme_frame _ _ _ _)
  · exact .ite (hmark.trans (State.failBringup_onward _ _ _)) (hmark.frame_right (State.setReg_frame _ _ _ _))

theorem execDomainPgood_onward (d : Nat) (s : State) : Ends (Onward s) (execDomainPgood d s) := by
  refine .run fun u => .ite (.ite ?_ (.ite (.of_frame u.repairFails_frame) (.of_frame (u.powerFails_frame d)))) (.refl u)
  exact .ite (.of_frame (u.bootFence_frame _ _ _)) (.ite (.of_frame (u.bootFence_frame _ _ _)) (u.failBringup_onward _ _))

theorem execP4End_onward (s : State) : Ends (Onward s) (execP4End s) := by
  refine .run fun u => ?_
  split
  · rename_i im _
    refine .ite ?_ (.refl u)
    dsimp only
    have hclock : Onward u (if u.allTrained then u else u.atNow (u.boot.phaseAt + 500000000)) := .ite (.refl u) (u.atNow_onward _)
    refine (hclock.trans (State.confirmBank_onward _ im)).frame_right ?_
    refine (foldl_frame (fun t e => State.slotEvent_frame _ _ _ _ _ _) _ _).trans ?_
    refine (foldl_frame (fun t e => ?_) _ _).trans ?_
    · rw [ite_frame, State.causeOn_frame, State.report_frame, ite_self]
    refine (foldl_frame (fun t h => State.startSpan_frame _ _ _ _ _ _) _ _).trans ?_
    refine (foldl_frame (fun t p => State.installGate_frame _ _ _) _ _).trans ?_
    simp
  · exact .refl u

theorem execRecoveryLoadDone_onward (s : State) : Ends (Onward s) (execRecoveryLoadDone s) := by
  refine .run fun u => ?_
  split
  · dsimp only
    generalize hv : State.mk _ _ _ _ _ _ _ _ _ _ _ _ _ _ _ _ _ _ _ _ = v
    have hdma : Onward u (if v.reg .CMP_DMA_STATUS_STATE u.boot.recovHost == 1 then v.setReg .CMP_DMA_STATUS_STATE u.boot.recovHost 0 else v) := by
      have hv' : Onward u v := .of_frame (by rw [← hv]; rfl)
      exact .ite (hv'.frame_right (State.setReg_frame _ _ _ _)) hv'
    generalize (if v.reg .CMP_DMA_STATUS_STATE u.boot.recovHost == 1 then v.setReg .CMP_DMA_STATUS_STATE u.boot.recovHost 0 else v) = w at hdma ⊢
    refine .ite (hdma.frame_right (State.setRegs_frame _ _)) (.frame_right (hdma.trans ?_) ((State.updBoot_frame _ _).trans (State.setRegs_frame _ _)))
    split
    · exact State.setBank_onward _ _ _
    · exact ⟨rfl, le_rfl, by dsimp only; split <;> exact le_rfl, fun _ h => h, rfl, id⟩
  · exact .refl u

theorem execThermalSample_onward (temps hbm : List Nat) (s : State) : Ends (Onward s) (execThermalSample temps hbm s) := by
  refine .run fun u => .ite ?_ (.refl u)
  dsimp only
  generalize hw : List.foldl _ u (List.range 56) = w
  have hsample : Onward u w := by
    rw [← hw]
    exact .of_frame (foldl_frame (fun t n => by simp) _ _)
  generalize hv : ite (174 ≤ _) _ _ = v
  have hhot : Onward u v := by
    rw [← hv]
    exact hsample.frame_right (by simp)
  have htrip : Onward v { v with flash := { v.flash with trips := v.flash.trips + 1 } } := ⟨rfl, le_rfl, le_rfl, fun _ h => h, rfl, id⟩
  exact .ite (.frame_right ((hhot.trans htrip).trans (State.coldReset_onward _)) (State.updBoot_frame _ _)) hhot

/-! ### Resets -/

theorem execWarmReset_onward (s : State) : Ends (Onward s) (execWarmReset s) := by
  refine .run fun u => .ite ?_ (.refl u)
  have hlow : Onward u (u.updBoot (fun b => { b with sysResetN := false })) := .of_frame (State.updBoot_frame _ _)
  exact .ite (.ite (hlow.frame_right (State.setReg_frame _ _ _ _)) (hlow.trans (State.warmReset_onward _ _))) hlow

theorem execMeteringFlushDone_onward (s : State) : Ends (Onward s) (execMeteringFlushDone s) := by
  refine .run fun u => ?_
  split
  · refine .ite (.trans ?_ (State.warmProceed_onward _)) (.refl u)
    exact .trans (.foldl (fun t _ => .of_frame t.signBatch_frame) _ _) (.foldl (fun t _ => .of_frame t.writeBatch_frame) _ _)
  · exact .refl u

theorem execFlushTimeout_onward (s : State) : Ends (Onward s) (execFlushTimeout s) := by
  refine .run fun u => ?_
  split
  · exact (u.atNow_onward _).trans (State.warmProceed_onward _)
  · exact .refl u

theorem execDevResetStart_onward (s : State) : Ends (Onward s) (execDevResetStart s) := by
  refine .run fun u => ?_
  split
  · exact .ite (((u.atNow_onward _).frame_right (State.setReg_frame _ _ _ _)).trans (State.warmReset_onward _ _)) (.refl u)
  · exact .refl u

/-! ### Commits, commands and register accesses -/

theorem execCommitInstant_onward (s : State) : Ends (Onward s) (execCommitInstant s) := by
  refine .run fun u => ?_
  split
  · split
    · exact (u.atDev_onward _).trans (State.applyCommit_onward _ _)
    · exact (u.atDev_onward _).frame_right (State.abandonCommit_frame _)
    · exact .refl u
  · exact .refl u

theorem execCommandDone_onward (s : State) : Ends (Onward s) (execCommandDone s) := by
  refine .run fun u => ?_
  cases hr : u.port.running with
  | none =>
    simp only [hr]
    exact .refl u
  | some r =>
    have hend : Onward u (if decide (r.wait = Wait.dma) && r.result.isNone then u.dmaEnd r else u) := .ite (u.dmaEnd_onward r) (.refl u)
    simp only
    generalize (if decide (r.wait = Wait.dma) && r.result.isNone then u.dmaEnd r else u) = w at hend
    split
    · split
      · exact hend.frame_right (State.done_frame _ _ _ _)
      · exact hend
    · exact hend

theorem execCompletionReceived_onward (c : Cpl) (s : State) : Ends (Onward s) (execCompletionReceived c s) := by
  refine .run fun u => .ite ?_ (.refl u)
  dsimp only
  generalize hw : ite (c.poison = true) _ _ = w
  have hcount : Onward u w := by
    rw [← hw]
    exact (u.atDev_onward c.ts).frame_right (by simp)
  split
  · exact (hcount.frame_right (State.countCpl_frame _ _ _ _ _ _)).trans (State.dmaCpl_onward _ _ _ _)
  · exact hcount.frame_right (State.cplIn_frame _ _)

theorem execQuarantineLateCompletion_onward (k t : Nat) (last : Bool) (s : State) : Ends (Onward s) (execQuarantineLateCompletion k t last s) := by
  refine .run fun u => ?_
  split
  · exact .ite (State.dmaCpl_onward _ _ _ _) (.refl u)
  · exact .refl u

theorem execRequestArrival_onward (r : Req) (s : State) : Ends (Onward s) (execRequestArrival r s) := by
  refine .run fun u => ?_
  have hclock := u.atDev_onward r.ts
  have htile := hclock.frame_right (State.tally_frame _ (r.inPort / 4) 0x01 none)
  refine .ite hclock (htile.trans ?_)
  dsimp only
  generalize (u.atDev r.ts).tally (r.inPort / 4) 0x01 = w
  split
  · split
    · exact .ite (State.barMeet_onward _ _ _ _ _ _ _) (.of_frame (State.arrive_frame _ _))
    · exact .of_frame (State.arrive_frame _ _)
  · exact .of_frame (State.arrive_frame _ _)

/-! ### Pool requests -/

theorem execPoolRequest_onward (i : Nat) (ecc : EccResult) (s : State) : Ends (Onward s) (execPoolRequest i ecc s) := by
  refine .run fun u => ?_
  split
  · exact .ite (State.poolServe_onward _ _ _ _) (.ite (.of_frame (State.refuseNew_frame _ _)) (.refl u))
  · exact .refl u

theorem execPoolRmwReadDone_onward (i : Nat) (ecc : EccResult) (s : State) : Ends (Onward s) (execPoolRmwReadDone i ecc s) := by
  refine .run fun u => ?_
  split
  · rename_i e k _ _
    dsimp only
    split
    · exact .of_frame (by simp)
    · rename_i l _
      refine .ite (.of_frame (by simp)) (.ite ?_ (.refl u))
      have hline : Onward u ((u.updPool (fun p => { p with rmw := p.rmw.filter (fun x => x != e) })).rmwLine k l (k.dest - 128) e.2 ecc) :=
        .trans (.of_frame (by simp)) (State.rmwLine_onward _ _ _ _ _ _)
      refine .ite hline (hline.frame_right ?_)
      rw [State.served_frame]
      split <;> simp
  · exact .refl u

/-! ### Commands that move the clock, and long ones -/

theorem execFabricPacket_onward (p : Nat) (f : FabPkt) (ts : Nat) (s : State) : Ends (Onward s) (execFabricPacket p f ts s) := by
  refine .run fun u => ?_
  split
  · exact .refl u
  · rename_i live t h
    have htile : Onward u ((t.atDev ts).tally (p / 4) 0x01) :=
      .trans (.of_frame (State.takeInbox_frame h)) ((t.atDev_onward ts).frame_right (State.tally_frame _ _ _ _))
    dsimp only
    refine (htile.trans ?_).frame_right (State.fabTake_frame _ _ _ _ _)
    generalize (t.atDev ts).tally (p / 4) 0x01 = w
    exact .trans (.ite (.of_frame (State.report_frame _ _ _ _ _ _)) (.refl w)) (.ite (.of_frame rfl) (.refl _))

theorem execSlotSample_onward (k i v : Nat) (vgs : Bool) (s : State) : Ends (Onward s) (execSlotSample k i v vgs s) := by
  refine .run fun u => .ite (.trans (u.atNow_onward ((u.ch k).sampleAt + 2000)) ?_) (.refl u)
  generalize u.atNow ((u.ch k).sampleAt + 2000) = w
  dsimp only
  split
  · split
    · exact .of_frame (by simp)
    · exact .of_frame (by simp)
  · refine .trans ?_ (.ite (.of_frame (State.latch_frame _ _ _ _)) (.refl _))
    exact .of_frame (by simp)

theorem execTickBoundary_onward (s : State) : Ends (Onward s) (execTickBoundary s) := by
  refine .run fun u => .ite (.refl u) ?_
  have hclose : Onward u (u.bankClose.atDev u.met.nextEnd).drainRecs :=
    (u.bankClose_onward.trans (State.atDev_onward _ _)).frame_right (State.drainRecs_frame _)
  generalize (u.bankClose.atDev u.met.nextEnd).drainRecs = w at hclose
  refine hclose.frame_right ?_
  dsimp only
  split <;> simp

theorem execResyncComplete_onward (n : Nat) (s : State) : Ends (Onward s) (execResyncComplete n s) := by
  refine .run fun u => .ite (.frame_right ?_ (State.finish_frame _ _ _ _)) (.refl u)
  have hmeter : ∀ t : State, Onward t ((t.meterResume.updMet (fun m => { m with recQ := m.recQ ++ m.recHeld, recHeld := [] })).deliverWaiting 53) :=
    fun t => t.meterResume_onward.frame_right (by simp)
  have hports : ∀ (t : State) (l : List Nat), Onward t (l.foldl (fun s p => if s.role p == 3 then s else s.startTrain p) t) :=
    fun t l => .foldl (fun t p => .of_frame (by simp)) l t
  refine .trans ?_ (.ite (hports _ _) (.refl _))
  refine .trans ?_ (.ite (hmeter _) (.refl _))
  exact .of_frame (by simp)

theorem execScrubStep_onward (m ln row bank : Nat) (e : EccResult) (s : State) : Ends (Onward s) (execScrubStep m ln row bank e s) := by
  have hcorr : ∀ (t : State) (l : Option LineTag), ((match l with
      | some l => t.setTag ln { l with corr := false }
      | none => t).corrected m row bank).frame = t.frame := by
    intro t l
    cases l <;> simp
  have hbad : ∀ (t : State) (l : Option LineTag) (i : Nat), ((match l with
      | some l => t.setTag ln { l with ue := true }
      | none => t).uncorrected m row bank i).frame = t.frame := by
    intro t l i
    cases l <;> simp
  refine .run fun u => .ite ?_ (.refl u)
  refine .ite (.frame_right ?_ ((State.bump_frame _ _ _ _).trans (State.setReg_frame _ _ _ _))) (.frame_right ?_ (State.setReg_frame _ _ _ _))
  all_goals
    refine .trans ?_ (.ite (.of_frame (hbad _ _ _)) (.refl _))
    exact .ite (.of_frame (hcorr _ _)) (.refl u)

theorem execDetectExit_onward (p signal : Nat) (s : State) : Ends (Onward s) (execDetectExit p signal s) := by
  refine .run fun u => .ite ?_ (.refl u)
  refine .of_frame ((foldl_frame (fun t i => t.putEq_frame _ _ _ _) _ _).trans ((foldl_frame (fun t i => ?_) _ _).trans (by simp)))
  split <;> simp

theorem execEqExit_onward (p usable : Nat) (found : EqFound) (s : State) : Ends (Onward s) (execEqExit p usable found s) := by
  refine .run fun u => .ite ?_ (.refl u)
  dsimp only
  have hrounds := Onward.foldl (g := fun s r => s.eqRound p (s.dlink p).usable r) (fun t r => .of_frame (t.eqRound_frame _ _ _)) found.rounds u
  generalize found.rounds.foldl (fun s r => s.eqRound p (s.dlink p).usable r) u = w at hrounds
  refine .ite (hrounds.frame_right (State.setReg_frame _ _ _ _)) (hrounds.frame_right ?_)
  rw [State.putIdle_frame, State.putAlign_frame]
  refine (foldl_frame (fun t i => ?_) _ _).trans ?_
  · split
    · simp
    · rfl
  · rw [State.setRegs_frame, State.updDlink_frame]
    exact foldl_frame (fun t i => State.putEq_frame _ _ _ _ _) _ _

theorem execAutoDrop_onward (p lane : Nat) (s : State) : Ends (Onward s) (execAutoDrop p lane s) := by
  refine .run fun u => .ite ?_ (.refl u)
  dsimp only
  generalize ht : State.updDlink _ _ _ = t
  have hlane : Onward u t := by
    rw [← ht]
    refine .frame_right ?_ (State.updDlink_frame _ _ _)
    split
    · exact .of_frame (State.setRegs_frame _ _)
    · exact .refl u
  refine hlane.trans (.ite (.of_frame (State.fabDown_frame _ _ _ _)) (.ite ?_ (.refl t)))
  have hreport : Onward t (t.report 0x29 1 p (some 1)) := .of_frame (State.report_frame _ _ _ _ _ _)
  exact .ite hreport (hreport.frame_right (State.dropReq_frame _ _))

theorem execVbcdRise_onward (s : State) : Ends (Onward s) (execVbcdRise s) := by
  have hchan : ∀ t : State, Onward t { t with chan := [] } := fun t => .of_frame rfl
  refine .run fun u => .trans (.foldl (fun t k => ?_) _ _) (hchan _)
  have hplug : ∀ (w : State) (p : Nat), Onward w (State.hotplug (fun s => ((s.setReg .TILE_PORT_STATUS_PRESENT p 0).deviceDown p).updLink (fun l =>
      { l with devices := l.devices.filter (fun d => d.port != p) })) w) := fun w p => .of_frame (by simp)
  dsimp only
  generalize hw : State.setRegs _ _ = w
  have hoff : Onward t w := .of_frame (by rw [← hw]; simp)
  split
  · exact hoff.trans (.ite (hplug _ _) (.refl w))
  · exact hoff

/-! ### Every command -/

/-- What waited for an island is served once it can be, where the island's own step goes onward. -/
theorem Onward.serveRegs {s t : State} (h : Onward s t) (n : Nat) : Onward s (t.serveRegs n) := h.trans (t.serveRegs_onward n)

/-- Every command goes onward. Those that change the flash die, a fuse or pool memory, and those that need more than the frames of the
operations that they are made of, are named first; of the others each keeps the frame or moves the clock forward. -/
theorem exec_onward (c : Instr) (s : State) : Ends (Onward s) (exec c s) := by
  cases c <;> (unfold exec; dsimp only)
  case firmwareVerified => exact execFirmwareVerified_onward s
  case bankVerifyDone => exact execBankVerifyDone_onward s
  case domainPgood d => exact execDomainPgood_onward d s
  case p4End => exact execP4End_onward s
  case recoveryLoadDone => exact execRecoveryLoadDone_onward s
  case thermalSample => exact execThermalSample_onward _ _ s
  case phaseTimeout => exact .run fun u => .ite ((u.atNow_onward _).trans (State.failBringup_onward _ _ _)) (.refl u)
  case essentialFailure => exact .run fun u => .ite (u.failBringup_onward _ _) (.refl u)
  case coldReset => exact .run fun u => u.coldReset_onward
  case warmReset => exact execWarmReset_onward s
  case meteringFlushDone => exact execMeteringFlushDone_onward s
  case flushTimeout => exact execFlushTimeout_onward s
  case devResetStart => exact execDevResetStart_onward s
  case recoveryReboot => exact .run fun u => .ite ((u.wipe_onward keptAttempt).frame_right (by simp)) (.refl u)
  case clkUnlock n => exact .run fun u => u.clkLoss_onward n
  case pwrLoss d => exact .run fun u => u.domainLoss_onward d
  case supplyExcursion ds => exact .run fun u => .foldl (fun t d => t.domainLoss_onward d) ds u
  case refclkLoss => exact .run fun u => .ite (.trans (.of_frame (u.report_frame _ _ _ _ _)) (.foldl (fun t n => t.unlock_onward n) _ _)) (.refl u)
  case refclkQLoss q => exact .run fun u => .ite (.foldl (fun t n => t.unlock_onward n) _ u) (.refl u)
  case commitInstant => exact execCommitInstant_onward s
  case commandDone => exact execCommandDone_onward s
  case completionReceived c => exact execCompletionReceived_onward c s
  case quarantineLateCompletion => exact execQuarantineLateCompletion_onward _ _ _ s
  case requestArrival r => exact execRequestArrival_onward r s
  case formeSelect => exact .run fun u => u.command_onward _ _ _ _ _ fun a t => t.formeSelect_onward a
  case shFieldWrite => exact .run fun u => .ite (u.barMeet_onward _ _ _ _ _ _) (.refl u)
  case registerWrite => exact .run fun u => .ite (u.barMeet_onward _ _ _ _ _ _) (.refl u)
  case bar0Access => exact .run fun u => .ite (u.barMeet_onward _ _ _ _ _ _) (.refl u)
  case clearOnRead => exact .run fun u => .ite (u.barMeet_onward _ _ _ _ _ _) (.refl u)
  case wakeComplete n => exact .run fun u => (Onward.of_frame (u.wakeUp_frame n)).serveRegs n
  case fenceComplete n => exact .run fun u => (Onward.of_frame (u.fenceDone_frame n)).serveRegs n
  case fenceForced n => exact .run fun u => (u.fenceForce_onward n).serveRegs n
  case islandResetRelease n => exact .run fun u => (u.leaveReset_onward n).serveRegs n
  case islandIsolated n => exact .run fun u => (Onward.of_frame (u.isolate_frame n)).serveRegs n
  case domainSwitchSlot => exact .run fun u => u.switchNext_onward.trans (.foldl (fun t n => t.serveRegs_onward n) _ _)
  case poolRequest => exact execPoolRequest_onward _ _ s
  case poolRmwReadDone => exact execPoolRmwReadDone_onward _ _ s
  case fabricPacket => exact execFabricPacket_onward _ _ _ s
  case slotSample => exact execSlotSample_onward _ _ _ _ s
  case tickBoundary => exact execTickBoundary_onward s
  case bankClose => exact .run fun u => u.bankClose_onward
  case resyncComplete n => exact execResyncComplete_onward n s
  case scrubStep => exact execScrubStep_onward _ _ _ _ _ s
  case detectExit => exact execDetectExit_onward _ _ s
  case eqExit => exact execEqExit_onward _ _ _ s
  case autoDrop => exact execAutoDrop_onward _ _ s
  case vbcdRise => exact execVbcdRise_onward s
  case transitRecordExpiry =>
    refine .run fun u => ?_
    split
    · exact (u.atNow_onward _).frame_right rfl
    · exact .refl u
  all_goals refine .run fun u => ?_
  all_goals try dsimp only
  all_goals repeat' (first | (refine .of_frame ?_; simp; done) | split)
  all_goals refine .of_still ?_ ?_ <;> simp [Same]

end Sys2Proof.Machine
end

section
/-! The statements on the one-way facts of a part. -/

namespace Sys2Proof.Machine

theorem Ends.exists_next {P : State → Prop} {o : Res} (h : Ends P o) : ∃ t, o = .next t ∧ P t := by
  cases o with
  | next t => exact ⟨t, rfl, h⟩
  | _ => exact h.elim

theorem Kept.of_onward {t r m : Nat} {p : Part} {s u : State} (h : Kept t r m p s) (k : Onward s u) : Kept t r m p u :=
  ⟨k.mem h.mem, h.clock.trans k.clock, h.counter.trans k.counter, fun n hn => k.revoked n (h.revoked n hn), by rw [k.fuses, h.fuses]⟩

theorem Kept.of_queue {t r m : Nat} {p : Part} {s : State} (h : Kept t r m p s) (q : List Instr) : Kept t r m p { s with pending := q } :=
  ⟨h.mem, h.clock, h.counter, h.revoked, h.fuses⟩

/-- Settles O3: pool memory is empty at reset, and nothing is demanded of the rest. -/
theorem oneWayFactsHoldAtReset : Obligations.OneWayFactsHoldAtReset := by
  unfold Obligations.OneWayFactsHoldAtReset
  refine ⟨Memory.wf_nil, Nat.zero_le _, Nat.zero_le _, fun n hn => ?_, rfl⟩
  simp [bit] at hn

/-- Settles O5. -/
theorem everyCommandGoesOnward : Obligations.EveryCommandGoesOnward := by
  unfold Obligations.EveryCommandGoesOnward
  exact fun c s => (exec_onward c s).exists_next

/-- Settles O4: an idle step is a tick of the clock, any other step a command, which goes onward (`exec_onward`). -/
theorem everyStepKeepsTheOneWayFacts : Obligations.EveryStepKeepsTheOneWayFacts := by
  unfold Obligations.EveryStepKeepsTheOneWayFacts
  intro t r m p s s' hk hstep
  unfold step at hstep
  split at hstep
  · injection hstep with hstep
    exact hk.of_onward (hstep ▸ s.tick_onward)
  · exact (hk.of_queue _).of_onward ((exec_onward _ _).of_next hstep)

end Sys2Proof.Machine
end

section
/-! SUPPORT. The composing lock (R98, R714, R715): what an accepted command finds of it, and what its release leaves. -/

namespace Sys2Proof.Machine

theorem State.accepted_holdsLock (s : State) (k token op : Nat) : (s.accepted k token op).holdsLock k = s.holdsLock k := by
  simp only [State.holdsLock, State.on, State.accepted_reg, isAcceptanceFld, List.contains_eq_mem, List.mem_cons, List.not_mem_nil, reduceCtorEq, or_self,
    decide_false]

/-- A released lock is free, BROKEN only after a loss, and nothing is staged any more. -/
theorem State.releaseLock_spec (s : State) (broken : Bool) :
    (s.releaseLock broken).reg .CMP_LOCK_HELD 0 = 0 ∧
      (s.releaseLock broken).reg .CMP_LOCK_BROKEN 0 = (if broken then 1 else s.reg .CMP_LOCK_BROKEN 0) ∧
      (s.releaseLock broken).com.staged = [] ∧ (s.releaseLock broken).staged = [] := by
  have hunlocked : ∀ u : State, (u.setRegs [(.CMP_LOCK_HELD, 0, 0), (.CMP_LOCK_HOST_INDEX, 0, 0), (.CMP_LOCK_FUNCTION, 0, 0)]).reg .CMP_LOCK_HELD 0 = 0 ∧
      (u.setRegs [(.CMP_LOCK_HELD, 0, 0), (.CMP_LOCK_HOST_INDEX, 0, 0), (.CMP_LOCK_FUNCTION, 0, 0)]).reg .CMP_LOCK_BROKEN 0 = u.reg .CMP_LOCK_BROKEN 0 :=
    fun u => ⟨by simp [State.setRegs_cons, State.reg_setReg], State.reg_setRegs_notin _ _ _ _ (by simp)⟩
  unfold State.releaseLock
  dsimp only
  generalize hu : (if broken then s.setReg .CMP_LOCK_BROKEN 0 1 else s) = u
  obtain ⟨hheld, hbroken⟩ := hunlocked u
  generalize u.setRegs _ = v at hheld hbroken
  obtain ⟨hstaged, himp⟩ := v.discardScopes_all
  obtain ⟨_, _, hvector⟩ := (v.discardScopes 0xFF).vectorOps_eq 3
  rw [hvector]
  refine ⟨hheld, hbroken.trans ?_, himp, hstaged⟩
  subst hu
  cases broken with
  | true => exact (State.reg_setReg _ _ _ _ _ _).trans (if_pos ⟨rfl, rfl⟩)
  | false => rfl

/-- What a command that releases the lock leaves. -/
theorem State.released_spec (s : State) (k token op : Nat) (broken : Bool) :
    let t := ((s.accepted k token op).releaseLock broken).ended 0
    t.reg .CMP_LOCK_HELD 0 = 0 ∧ t.reg .CMP_LOCK_BROKEN 0 = (if broken then 1 else s.reg .CMP_LOCK_BROKEN 0) ∧ t.com.staged = [] ∧ t.staged = [] ∧
      t.resultCode = some 0 ∧ t.frame = s.frame := by
  obtain ⟨hheld, hbroken, himp, hstaged⟩ := (s.accepted k token op).releaseLock_spec broken
  refine ⟨hheld, hbroken.trans ?_, himp, hstaged, ?_, ?_⟩
  · rw [State.accepted_reg _ _ _ _ _ rfl]
  · exact State.resultCode_ended ((congrArg Port.running (State.releaseLock_port _ _)).trans (s.accepted_port k token op)) 0 []
  · rw [State.ended_frame, State.releaseLock_frame, State.accepted_frame]

/-- A free lock is taken (R98, R714). -/
theorem State.lockAcquire_of_free {s : State} {k : Nat} (hk : k < 32) (hfree : s.on .CMP_LOCK_HELD = false) :
    (s.lockAcquire k).reg .CMP_LOCK_HELD 0 = 1 ∧ (s.lockAcquire k).reg .CMP_LOCK_HOST_INDEX 0 = k ∧ (s.lockAcquire k).reg .CMP_LOCK_BROKEN 0 = 0 ∧
      (s.lockAcquire k).reg .CMP_LOCK_SEQ 0 = (s.reg .CMP_LOCK_SEQ 0 + 1) % 2 ^ 16 ∧
      (s.lockAcquire k).port.running.bind (·.result) =
        s.port.running.map fun _ => (0, [s.reg .CMP_LOCK_BROKEN 0 + 65536 * ((s.reg .CMP_LOCK_SEQ 0 + 1) % 2 ^ 16)]) := by
  have hnot : s.holdsLock k = false := by simp [State.holdsLock, hfree]
  have hregs : ∀ u : State, u = s.setRegs [(.CMP_LOCK_HELD, 0, 1), (.CMP_LOCK_HOST_INDEX, 0, k), (.CMP_LOCK_FUNCTION, 0, 0), (.CMP_LOCK_BROKEN, 0, 0),
      (.CMP_LOCK_SEQ, 0, s.reg .CMP_LOCK_SEQ 0 + 1)] →
      u.reg .CMP_LOCK_HELD 0 = 1 ∧ u.reg .CMP_LOCK_HOST_INDEX 0 = k ∧ u.reg .CMP_LOCK_BROKEN 0 = 0 ∧
        u.reg .CMP_LOCK_SEQ 0 = (s.reg .CMP_LOCK_SEQ 0 + 1) % 2 ^ 16 ∧ u.port = s.port := by
    rintro u rfl
    refine ⟨?_, ?_, ?_, ?_, rfl⟩ <;> simp only [State.setRegs_cons, State.setRegs_nil, State.reg_setReg, reduceCtorEq, false_and, and_self, if_true, if_false]
    · rfl
    · exact Nat.mod_eq_of_lt hk
    · rfl
    · rfl
  unfold State.lockAcquire
  simp only [hnot, hfree, Bool.false_eq_true, if_false]
  generalize hu : s.setRegs _ = u
  obtain ⟨hheld, hhost, hbroken, hseq, hport⟩ := hregs u hu.symm
  refine ⟨hheld, hhost, hbroken, hseq, ?_⟩
  rw [State.ended_running, hseq, hport]
  cases s.port.running <;> rfl

end Sys2Proof.Machine
end

section
/-! The statement on the composing lock. -/

namespace Sys2Proof.Machine

/-- Settles O32: the lock's registers are not among those of acceptance, so each command decides on the lock as it stood. -/
theorem theComposingLock : Obligations.TheComposingLock := by
  have hon : ∀ (s : State) (k token op : Nat), (s.accepted k token op).on .CMP_LOCK_HELD = s.on .CMP_LOCK_HELD := fun s k token op => by
    rw [State.on, State.on, State.accepted_reg _ _ _ _ _ rfl]
  unfold Obligations.TheComposingLock
  refine ⟨fun s k token hk h hfree => ⟨_, State.command_of_accepts h token _, ?_⟩, fun s k token h hheld => ?_, fun s k token h hheld hother => ?_,
    fun s k token h => ⟨_, State.command_of_accepts h token _, s.released_spec k token 0x02 false⟩,
    fun s k token h hheld hother => ⟨_, State.command_of_accepts h token _, ?_⟩, fun s k token h hfree => ?_⟩
  · obtain ⟨hheld, hhost, hbroken, hseq, hresult⟩ := State.lockAcquire_of_free hk ((hon s k token 0x01).trans hfree)
    rw [State.accepted_reg _ _ _ _ _ rfl] at hseq
    rw [State.accepted_port, State.accepted_reg _ _ _ _ _ rfl, State.accepted_reg _ _ _ _ _ rfl] at hresult
    exact ⟨hheld, hhost, hbroken, hseq, hresult, by rw [State.lockAcquire_frame, State.accepted_frame]⟩
  · refine (State.command_of_accepts h token _).trans ?_
    simp only [State.lockAcquire, State.accepted_holdsLock, hheld, if_true]
    rw [State.accepted_reg _ _ _ _ _ rfl, State.accepted_reg _ _ _ _ _ rfl]
  · refine (State.command_of_accepts h token _).trans ?_
    simp only [State.lockAcquire, State.accepted_holdsLock, hother, hon, hheld, Bool.false_eq_true, if_false, if_true]
    rw [State.accepted_reg _ _ _ _ _ rfl]
  · simp only [State.lockBreak, hon, hheld, State.accepted_holdsLock, hother, Bool.not_true, Bool.or_self, Bool.false_eq_true, if_false]
    exact s.released_spec k token 0x03 true
  · refine (State.command_of_accepts h token _).trans ?_
    simp only [State.lockBreak, hon, hfree, Bool.not_false, Bool.true_or, if_true]

end Sys2Proof.Machine
end

section
/-! SUPPORT. A commit that is asked for (R99, R102, R103, R387): the port's state when a command is taken with any arguments, and what the
commit's begin writes. -/

namespace Sys2Proof.Machine

/-! ### A command that the port takes -/

theorem AcceptsOnly.begin_ (s : State) (k token op : Nat) (a : List Nat) : AcceptsOnly (s.taken k token op a) (s.begin_ k token op a) := by
  have hregs := AcceptsOnly.setRegs [(.CMP_STATUS_BUSY, 0, 1), (.CMP_STATUS_OPCODE, 0, op), (.CMP_STATUS_HOST_INDEX, 0, k), (.CMP_RESULT_STATE, k, 1),
    (.CMP_RESULT_RESULT, k, 0), (.CMP_RESULT_OPCODE, k, op), (.CMP_RESULT_TOKEN, k, token)] s (by simp [isAcceptanceFld])
  have hret := (hregs.trans (.wakeNow _ 52)).trans (.foldl (fun s n => .setReg s (f := .CMP_RET_VALUE) (16 * k + n) 0 rfl) (List.range 16) _)
  exact (hret.taken k token op a).trans (.tally _ 52 0x60 none)

theorem State.beginCommand_com (s : State) (k token op : Nat) (a : List Nat) : (s.begin_ k token op a).com = s.com := by
  obtain ⟨_, _, _, h, -⟩ := AcceptsOnly.begin_ s k token op a
  rw [h]
  rfl

theorem State.beginCommand_running (s : State) (k token op : Nat) (a : List Nat) :
    (s.begin_ k token op a).port.running = some { host := k, opcode := op, token, args := a, since := s.now } := by
  obtain ⟨_, _, _, h, -⟩ := AcceptsOnly.begin_ s k token op a
  rw [h]
  rfl

theorem State.beginCommand_runs (s : State) (k token op : Nat) (a : List Nat) : ∃ r, (s.begin_ k token op a).port.running = some r :=
  ⟨_, State.beginCommand_running s k token op a⟩

theorem State.beginCommand_dev (s : State) (k token op : Nat) (a : List Nat) : (s.begin_ k token op a).dev = s.dev := by
  obtain ⟨_, _, _, h, -⟩ := AcceptsOnly.begin_ s k token op a
  rw [h]
  rfl

theorem State.wakeNow_reg (s : State) (n : Nat) {f : Fld} (i : Nat) (hstate : f ≠ .SUP_ISL_STATUS_STATE) (hpend : f ≠ .SUP_ISL_STATUS_WAKE_PEND)
    (hcount : f ≠ .SUP_ISL_STATUS_WAKE_COUNT) : (s.wakeNow n).reg f i = s.reg f i := by
  have hsnaps : (s.keepSnaps n).reg f i = s.reg f i := by
    obtain ⟨_, h⟩ : MetersOnly s (s.keepSnaps n) := .foldl MetersOnly.keepSnap _ s
    rw [h]
    rfl
  unfold State.wakeNow
  split
  · refine (State.reg_setReg_ne _ _ fun h => hcount h.1).trans ((State.reg_setRegs_notin _ _ _ _ ?_).trans hsnaps)
    simp [hstate, hpend]
  · rfl

/-- CMP_STATUS shows the command that the port has taken (R704). -/
theorem State.beginCommand_shown (s : State) (k token op : Nat) (a : List Nat) (hop : op < 256) :
    (s.begin_ k token op a).busy = true ∧ (s.begin_ k token op a).reg .CMP_STATUS_OPCODE 0 = op := by
  have htally : ∀ (u : State) (f : Fld), (u.tally 52 0x60).reg f 0 = u.reg f 0 := fun u f => by
    obtain ⟨_, _, h⟩ := u.tally_eq 52 0x60 none
    rw [h]
    rfl
  have hport : ∀ (u : State) (p : Port) (f : Fld), ({ u with port := p } : State).reg f 0 = u.reg f 0 := fun _ _ _ => rfl
  have hret : ∀ (f : Fld) (l : List Nat) (u : State), f ≠ .CMP_RET_VALUE →
      (l.foldl (fun s n => s.setReg .CMP_RET_VALUE (16 * k + n) 0) u).reg f 0 = u.reg f 0 := fun f l u hf =>
    foldl_keeps (fun s => s.reg f 0) (fun s n => s.reg_setReg_ne _ fun h => hf h.1) l u
  have hkeeps : ∀ f : Fld, f ≠ .CMP_RET_VALUE → f ≠ .SUP_ISL_STATUS_STATE → f ≠ .SUP_ISL_STATUS_WAKE_PEND → f ≠ .SUP_ISL_STATUS_WAKE_COUNT →
      (s.begin_ k token op a).reg f 0 = (s.setRegs [(.CMP_STATUS_BUSY, 0, 1), (.CMP_STATUS_OPCODE, 0, op), (.CMP_STATUS_HOST_INDEX, 0, k),
        (.CMP_RESULT_STATE, k, 1), (.CMP_RESULT_RESULT, k, 0), (.CMP_RESULT_OPCODE, k, op), (.CMP_RESULT_TOKEN, k, token)]).reg f 0 := fun f h1 h2 h3 h4 => by
    unfold State.begin_
    dsimp only
    rw [htally, hport, hret f _ _ h1, State.wakeNow_reg _ 52 0 h2 h3 h4]
  constructor
  · rw [State.busy, State.on, hkeeps _ (by simp) (by simp) (by simp) (by simp)]
    simp only [State.setRegs_cons, State.setRegs_nil, State.reg_setReg, reduceCtorEq, false_and, and_self, if_true, if_false]
    rfl
  · rw [hkeeps _ (by simp) (by simp) (by simp) (by simp)]
    simp only [State.setRegs_cons, State.setRegs_nil, State.reg_setReg, reduceCtorEq, false_and, and_self, if_true, if_false]
    exact Nat.mod_eq_of_lt hop

/-- A command without refusal is carried out by its body (R711). -/
theorem State.command_of_taken {s : State} {k op : Nat} {a : List Nat} (hissue : s.canIssue k = true) (hfree : s.portFree = true)
    (hrefusal : s.refusal k op a = none) (token : Nat) (body : List Nat → State → State) :
    s.command k token op a body = body a (s.begin_ k token op a) := by
  simp [State.command, hissue, hfree, hrefusal]

theorem State.command_of_busy {s : State} {k : Nat} (hissue : s.canIssue k = true) (hfree : s.portFree = false) (token op : Nat) (a : List Nat)
    (body : List Nat → State → State) : s.command k token op a body = s.dropBusy := by
  simp [State.command, hissue, hfree]

theorem State.hierWaits_of_portFree {s : State} (h : s.portFree = true) : s.hierWaits = false := by
  simp only [State.portFree, Bool.and_eq_true, Bool.not_eq_true'] at h
  exact h.1.2

theorem State.portFree_of_accepts {s : State} {k op : Nat} (h : s.accepts k op = true) : s.portFree = true := by
  simp only [State.accepts, Bool.and_eq_true] at h
  exact h.1.2

/-! ### The commit that is asked for -/

theorem State.commitOf_head (s : State) (o : Origin) (mask : Nat) :
    (s.commitOf o mask).mask = mask ∧ (s.commitOf o mask).origin = o ∧ (s.commitOf o mask).phase = .delivering := by
  cases o <;> exact ⟨rfl, rfl, rfl⟩

theorem State.commitMask_of_refusal {s : State} {mask e : Nat} (h : s.commitRefusal mask = some e) (o : Origin) : s.commitMask o mask = s.ended e := by
  simp [State.commitMask, h]

theorem State.commitMask_of_none {s : State} {mask : Nat} (h : s.commitRefusal mask = none) (o : Origin) :
    s.commitMask o mask = (s.waitFor .commit).askCommit o mask := by
  simp [State.commitMask, h]

/-- Nothing of the commit part changes after the commit has been noted. -/
theorem State.beginCommit_com (s : State) (o : Origin) (mask : Nat) : ∃ waitAck redo hierQ, (s.beginCommit o mask).com =
    { s.com with cur := some { s.commitOf o mask with tc := ceilDiv (s.dev + 2000) 1000 * 1000, waitAck }, redo, hierQ } := by
  have hwake : ∀ (l : List Nat) (u : State), (l.foldl (fun s i => s.setReg .SUP_ISL_STATUS_WAKE_PEND i 1) u).com = u.com :=
    foldl_keeps State.com fun _ _ => rfl
  refine ⟨(maskIslands mask).filter (fun i => s.running i || s.islState i == 3), if o = .hierarchy then [] else s.com.redo,
    if o = .hierarchy && s.com.redo.isEmpty then [] else s.com.hierQ, ?_⟩
  unfold State.beginCommit
  dsimp only
  split <;> exact hwake _ _

theorem State.beginCommit_reg (s : State) (o : Origin) (mask : Nat) {f : Fld} (i : Nat) (hpend : f ≠ .SUP_ISL_STATUS_WAKE_PEND)
    (hinternal : f ≠ .CMP_STATUS_INTERNAL) (hbusy : f ≠ .CMP_STATUS_BUSY) : (s.beginCommit o mask).reg f i = s.reg f i := by
  have hwake : ∀ (l : List Nat) (u : State), (l.foldl (fun s i => s.setReg .SUP_ISL_STATUS_WAKE_PEND i 1) u).reg f i = u.reg f i :=
    foldl_keeps (fun s => s.reg f i) fun s n => s.reg_setReg_ne 1 fun h => hpend h.1
  refine (State.reg_setReg_ne _ _ fun h => hbusy h.1).trans ?_
  dsimp only
  split
  · exact (State.reg_setReg_ne _ _ fun h => hinternal h.1).trans (hwake _ _)
  · exact hwake _ _

/-- A commit that begins delivers; the port is busy, and the command that runs stays as it was. -/
theorem State.beginCommit_spec (s : State) (o : Origin) (mask : Nat) :
    (s.beginCommit o mask).com.cur.map (fun c => (c.mask, c.origin, c.phase, c.tc)) = some (mask, o, .delivering, ceilDiv (s.dev + 2000) 1000 * 1000) ∧
      (s.beginCommit o mask).com.waiting = s.com.waiting ∧ (s.beginCommit o mask).busy = true ∧
      (s.beginCommit o mask).port.running = s.port.running ∧ (s.beginCommit o mask).frame = s.frame := by
  obtain ⟨_, _, _, hcom⟩ := s.beginCommit_com o mask
  obtain ⟨hmask, horigin, hphase⟩ := s.commitOf_head o mask
  have hview := s.beginCommit_outcomeView o mask
  refine ⟨?_, by rw [hcom], ?_, congrArg Prod.fst hview, congrArg (fun v => v.2.1) hview⟩
  · rw [hcom]
    simp [hmask, horigin, hphase]
  · exact beq_iff_eq.2 (State.reg_setReg_self _ _ _ _)

/-- A COMMIT behind a commit in progress waits for it (R387). -/
theorem State.commitMask_waits {s : State} {mask : Nat} {c : Commit} {r : Running} (hrefusal : s.commitRefusal mask = none) (hcur : s.com.cur = some c)
    (hwaits : s.hierWaits = false) (hr : s.port.running = some r) (o : Origin) :
    (s.commitMask o mask).com.waiting = some (mask, o, false) ∧ (s.commitMask o mask).com.cur = some c ∧ (s.commitMask o mask).regs = s.regs ∧
      (s.commitMask o mask).waitsFor = some .commit := by
  have hask : (s.waitFor .commit).askCommit o mask =
      (s.waitFor .commit).updCom (fun m => { m with waiting := some (mask, o, (s.waitFor .commit).hierWaits) }) := by
    unfold State.askCommit
    split
    · rename_i hnone
      rw [show (s.waitFor .commit).com.cur = some c from hcur] at hnone
      contradiction
    · rfl
  rw [State.commitMask_of_none hrefusal, hask]
  refine ⟨congrArg (fun b => some (mask, o, b)) hwaits, hcur, rfl, ?_⟩
  exact congrArg (Option.map Running.wait) (congrArg (Option.map _) hr)

/-- A COMMIT with none in progress begins (R103). -/
theorem State.commitMask_begins {s : State} {mask : Nat} {r : Running} (hrefusal : s.commitRefusal mask = none) (hcur : s.com.cur = none)
    (hr : s.port.running = some r) (o : Origin) :
    (s.commitMask o mask).com.cur.map (fun c => (c.mask, c.origin, c.phase, c.tc)) = some (mask, o, .delivering, ceilDiv (s.dev + 2000) 1000 * 1000) ∧
      (s.commitMask o mask).busy = true ∧ (s.commitMask o mask).waitsFor = some .commit ∧
      (s.commitMask o mask).reg .CMP_STATUS_OPCODE 0 = s.reg .CMP_STATUS_OPCODE 0 := by
  have hask : (s.waitFor .commit).askCommit o mask = (s.waitFor .commit).beginCommit o mask := by
    unfold State.askCommit
    split
    · rfl
    · rename_i hsome
      rw [show (s.waitFor .commit).com.cur = none from hcur] at hsome
      contradiction
  rw [State.commitMask_of_none hrefusal, hask]
  obtain ⟨hbegun, -, hbusy, hrunning, -⟩ := (s.waitFor .commit).beginCommit_spec o mask
  refine ⟨hbegun, hbusy, ?_, State.beginCommit_reg _ _ _ _ (by simp) (by simp) (by simp)⟩
  rw [State.waitsFor, hrunning]
  exact congrArg (Option.map Running.wait) (congrArg (Option.map _) hr)

/-! ### COMMIT (R99, R103) -/

section
variable {s : State} {k : Nat}

theorem exec_commit_of_accepts (h : s.accepts k 0x10 = true) (token : Nat) :
    exec (.commit k token) s = .next ((s.accepted k token 0x10).commitMask .command (nth (s.argWords k) 0)) :=
  State.command_of_accepts h token (fun a s => s.commitMask .command (nth a 0))

theorem exec_commit_waits (h : s.accepts k 0x10 = true) (token : Nat) (hrefusal : (s.accepted k token 0x10).commitRefusal (nth (s.argWords k) 0) = none)
    {c : Commit} (hcur : s.com.cur = some c) : ∃ t, exec (.commit k token) s = .next t ∧ t.com.waiting = some (nth (s.argWords k) 0, .command, false) ∧
      t.com.cur = some c ∧ t.waitsFor = some .commit ∧ t.frame = s.frame := by
  have hcom : (s.accepted k token 0x10).com = s.com := State.beginCommand_com _ _ _ _ _
  have hwaits : (s.accepted k token 0x10).hierWaits = false := by
    rw [State.hierWaits, hcom]
    exact State.hierWaits_of_portFree (State.portFree_of_accepts h)
  obtain ⟨hwaiting, hcur', -, hwait⟩ := State.commitMask_waits hrefusal ((congrArg Commits.cur hcom).trans hcur) hwaits (s.accepted_port k token 0x10) .command
  exact ⟨_, exec_commit_of_accepts h token, hwaiting, hcur', hwait, by rw [State.commitMask_frame, State.accepted_frame]⟩

theorem exec_commit_begins (h : s.accepts k 0x10 = true) (token : Nat) (hrefusal : (s.accepted k token 0x10).commitRefusal (nth (s.argWords k) 0) = none)
    (hcur : s.com.cur = none) : ∃ t, exec (.commit k token) s = .next t ∧
      t.com.cur.map (fun c => (c.mask, c.origin, c.phase, c.tc)) = some (nth (s.argWords k) 0, .command, .delivering, ceilDiv (s.dev + 2000) 1000 * 1000) ∧
      t.busy = true ∧ t.waitsFor = some .commit ∧ t.frame = s.frame := by
  have hcom : (s.accepted k token 0x10).com = s.com := State.beginCommand_com _ _ _ _ _
  have hdev : (s.accepted k token 0x10).dev = s.dev := State.beginCommand_dev s.started _ _ _ _
  obtain ⟨hbegun, hbusy, hwait, -⟩ := State.commitMask_begins hrefusal ((congrArg Commits.cur hcom).trans hcur) (s.accepted_port k token 0x10) .command
  rw [hdev] at hbegun
  exact ⟨_, exec_commit_of_accepts h token, hbegun, hbusy, hwait, by rw [State.commitMask_frame, State.accepted_frame]⟩

end

/-! ### ARB_COMMIT (R99, R702, R705) -/

/-- The state in which the commit of an operator's ARB_COMMIT is asked for: a COMMIT of scope ARB with TOKEN 0. -/
def State.arbBegun (s : State) (k : Nat) : State := { s with out := [] }.begin_ k 0 0x10 (2 :: List.replicate 31 0)

section
variable {s : State} {k : Nat}

theorem exec_arbCommit_of_operator (hop : s.operator k = true) : exec (.arbCommit k) s =
    .next (s.started.command k 0 0x10 (2 :: List.replicate 31 0) fun a s => s.commitMask .arb (nth a 0)) :=
  congrArg Host.Outcome.next (if_pos hop)

theorem exec_arbCommit_of_other (hop : s.operator k = false) : exec (.arbCommit k) s =
    .next (if s.started.canIssue k && (s.started.busy || !s.started.mgmtUp) then s.started.dropBusy else s.started) :=
  congrArg Host.Outcome.next (if_neg (Bool.eq_false_iff.1 hop))

theorem refusal_arbCommit (hop : s.operator k = true) (hhalted : s.halted = false) (hlock : s.holdsLock k = true) :
    s.started.refusal k 0x10 (2 :: List.replicate 31 0) = none := by
  have hlisted : argsListed [0xFF] (2 :: List.replicate 31 0) = true := by decide
  generalize 2 :: List.replicate 31 0 = a at hlisted
  have hop' : s.started.operator k = true := hop
  have hhalted' : s.started.halted = false := hhalted
  have hlock' : s.started.holdsLock k = true := hlock
  have hmasks : argMasks 0x10 = some [0xFF] := rfl
  have hneeds : needsLock 0x10 = true := rfl
  simp [State.refusal, hmasks, hneeds, State.privileged, hop', hhalted', hlock', hlisted]

/-- An operator's ARB_COMMIT that the port takes. -/
theorem exec_arbCommit_of_free (hop : s.operator k = true) (hissue : s.canIssue k = true) (hfree : s.portFree = true) (hhalted : s.halted = false)
    (hlock : s.holdsLock k = true) : exec (.arbCommit k) s = .next ((s.arbBegun k).commitMask .arb 2) :=
  (exec_arbCommit_of_operator hop).trans (congrArg Host.Outcome.next
    (State.command_of_taken (s := s.started) hissue hfree (refusal_arbCommit hop hhalted hlock) 0 _))

theorem State.arbBegun_com (s : State) (k : Nat) : (s.arbBegun k).com = s.com := State.beginCommand_com s.started _ _ _ _

theorem State.arbBegun_dev (s : State) (k : Nat) : (s.arbBegun k).dev = s.dev := State.beginCommand_dev s.started _ _ _ _

theorem State.arbBegun_running (s : State) (k : Nat) : ∃ r, (s.arbBegun k).port.running = some r := by
  have hbegun : s.arbBegun k = s.started.begin_ k 0 0x10 (2 :: List.replicate 31 0) := rfl
  rw [hbegun]
  exact State.beginCommand_runs _ _ _ _ _

theorem State.arbBegun_shown (s : State) (k : Nat) : (s.arbBegun k).busy = true ∧ (s.arbBegun k).reg .CMP_STATUS_OPCODE 0 = 0x10 :=
  s.started.beginCommand_shown k 0 0x10 _ (by decide)

theorem State.arbBegun_frame (s : State) (k : Nat) : (s.arbBegun k).frame = s.frame := State.begin__frame s.started _ _ _ _

theorem exec_arbCommit_waits (hop : s.operator k = true) (hissue : s.canIssue k = true) (hfree : s.portFree = true) (hhalted : s.halted = false)
    (hlock : s.holdsLock k = true) (hcur : s.com.cur ≠ none) (hrefusal : (s.arbBegun k).commitRefusal 2 = none) : ∃ t, exec (.arbCommit k) s = .next t ∧
      t.com.waiting = some (2, .arb, false) ∧ t.com.cur = s.com.cur ∧ t.reg .CMP_STATUS_OPCODE 0 = 0x10 ∧ t.busy = true ∧ t.waitsFor = some .commit ∧
      t.frame = s.frame := by
  obtain ⟨c, hc⟩ := Option.ne_none_iff_exists'.1 hcur
  obtain ⟨r, hr⟩ := s.arbBegun_running k
  obtain ⟨hbusy, hopcode⟩ := s.arbBegun_shown k
  have hwaits : (s.arbBegun k).hierWaits = false := by
    rw [State.hierWaits, State.arbBegun_com]
    exact State.hierWaits_of_portFree hfree
  obtain ⟨hwaiting, hcur', hregs, hwait⟩ := State.commitMask_waits hrefusal ((congrArg Commits.cur (s.arbBegun_com k)).trans hc) hwaits hr .arb
  have hreg : ∀ f i, ((s.arbBegun k).commitMask .arb 2).reg f i = (s.arbBegun k).reg f i := fun f i => by rw [State.reg, State.reg, hregs]
  refine ⟨_, exec_arbCommit_of_free hop hissue hfree hhalted hlock, hwaiting, hcur'.trans hc.symm, (hreg _ _).trans hopcode, ?_, hwait, ?_⟩
  · rw [State.busy, State.on, hreg]
    exact hbusy
  · rw [State.commitMask_frame, State.arbBegun_frame]

theorem exec_arbCommit_begins (hop : s.operator k = true) (hissue : s.canIssue k = true) (hfree : s.portFree = true) (hhalted : s.halted = false)
    (hlock : s.holdsLock k = true) (hcur : s.com.cur = none) (hrefusal : (s.arbBegun k).commitRefusal 2 = none) : ∃ t, exec (.arbCommit k) s = .next t ∧
      t.com.cur.map (fun c => (c.mask, c.origin, c.phase, c.tc)) = some (2, .arb, .delivering, ceilDiv (s.dev + 2000) 1000 * 1000) ∧
      t.reg .CMP_STATUS_OPCODE 0 = 0x10 ∧ t.busy = true ∧ t.waitsFor = some .commit ∧ t.frame = s.frame := by
  obtain ⟨r, hr⟩ := s.arbBegun_running k
  obtain ⟨-, hopcode⟩ := s.arbBegun_shown k
  obtain ⟨hbegun, hbusy, hwait, hkept⟩ := State.commitMask_begins hrefusal ((congrArg Commits.cur (s.arbBegun_com k)).trans hcur) hr .arb
  rw [State.arbBegun_dev] at hbegun
  refine ⟨_, exec_arbCommit_of_free hop hissue hfree hhalted hlock, hbegun, hkept.trans hopcode, hbusy, hwait, ?_⟩
  rw [State.commitMask_frame, State.arbBegun_frame]

/-- While the port is busy, an ARB_COMMIT is dropped, whoever makes it. -/
theorem exec_arbCommit_of_busy (hissue : s.canIssue k = true) (hbusy : s.busy = true) : exec (.arbCommit k) s = .next s.started.dropBusy := by
  have hissue' : s.started.canIssue k = true := hissue
  have hbusy' : s.started.busy = true := hbusy
  cases hop : s.operator k with
  | true =>
    rw [exec_arbCommit_of_operator hop, State.command_of_busy hissue' (by simp [State.portFree, hbusy'])]
  | false =>
    rw [exec_arbCommit_of_other hop]
    simp only [hissue', hbusy', Bool.true_or, Bool.and_self, if_true]

theorem exec_arbCommit_of_tenant (hop : s.operator k = false) (hfree : s.canIssue k = false ∨ (s.busy = false ∧ s.mgmtUp = true)) :
    exec (.arbCommit k) s = .next s.started := by
  have hdrop : (s.started.canIssue k && (s.started.busy || !s.started.mgmtUp)) = false := by
    rcases hfree with hissue | ⟨hbusy, hup⟩
    · rw [show s.started.canIssue k = false from hissue, Bool.false_and]
    · rw [show s.started.busy = false from hbusy, show s.started.mgmtUp = true from hup]
      simp
  rw [exec_arbCommit_of_other hop, hdrop]
  rfl

end

/-! ### STAGE_DISCARD (R97) -/

theorem sparse_get?_filter_out {κ α : Type} [DecidableEq κ] (p : κ → Bool) {k : κ} (hk : p k = false) :
    ∀ l : List (κ × α), Sparse.get? (l.filter fun e => p e.1) k = none
  | [] => rfl
  | e :: l => by
    by_cases he : p e.1 = true
    · have hne : e.1 ≠ k := fun h => by rw [h, hk] at he; contradiction
      simp [Sparse.get?, he, hne, sparse_get?_filter_out p hk l]
    · simp [he, sparse_get?_filter_out p hk l]

theorem State.discardScopes_port (s : State) (mask : Nat) : (s.discardScopes mask).port = s.port := rfl

/-- A field of a scope that is discarded reads its active value; another field's staged copy stays. -/
theorem State.discardScopes_spec (s : State) (mask : Nat) :
    (∀ f i, bit mask f.scope = true → (s.discardScopes mask).stagedReg f i = (s.discardScopes mask).reg f i) ∧
      (∀ f i, bit mask f.scope = false → Sparse.get? (s.discardScopes mask).staged ⟨f, i⟩ = Sparse.get? s.staged ⟨f, i⟩) ∧
      (bit mask 0 = true → (s.discardScopes mask).com.staged = []) := by
  refine ⟨fun f i h => ?_, fun f i h => ?_, fun h => if_pos h⟩
  · have hnone : Sparse.get? (s.discardScopes mask).staged ⟨f, i⟩ = none :=
      sparse_get?_filter_out (fun c : RegKey => !bit mask c.fld.scope) (by simp [h]) s.staged
    rw [State.stagedReg, hnone]
  · exact sparse_get?_filter (fun c : RegKey => !bit mask c.fld.scope) (by simp [h]) s.staged

theorem exec_stageDiscard_of_accepts {s : State} {k : Nat} (h : s.accepts k 0x11 = true) (token : Nat) : ∃ t, exec (.stageDiscard k token) s = .next t ∧
    (∀ f i, bit (nth (s.argWords k) 0) f.scope = true → t.stagedReg f i = t.reg f i) ∧
    (∀ f i, bit (nth (s.argWords k) 0) f.scope = false → Sparse.get? t.staged ⟨f, i⟩ = Sparse.get? s.staged ⟨f, i⟩) ∧
    (bit (nth (s.argWords k) 0) 0 = true → t.com.staged = []) ∧ t.resultCode = some 0 ∧ t.frame = s.frame := by
  have hstaged : (s.accepted k token 0x11).staged = s.staged := by
    obtain ⟨_, _, _, h, -⟩ := AcceptsOnly.accepted s k token 0x11
    rw [h]
    rfl
  obtain ⟨hactive, hkept, himp⟩ := (s.accepted k token 0x11).discardScopes_spec (nth (s.argWords k) 0)
  rw [hstaged] at hkept
  have hport := (congrArg Port.running (State.discardScopes_port (s.accepted k token 0x11) (nth (s.argWords k) 0))).trans (s.accepted_port k token 0x11)
  have hframe := (State.discardScopes_frame (s.accepted k token 0x11) (nth (s.argWords k) 0)).trans (s.accepted_frame k token 0x11)
  have hexec : exec (.stageDiscard k token) s = .next (((s.accepted k token 0x11).discardScopes (nth (s.argWords k) 0)).ended 0) :=
    State.command_of_accepts h token fun a s => s.stageDiscard a
  generalize (s.accepted k token 0x11).discardScopes (nth (s.argWords k) 0) = u at hactive hkept himp hport hframe hexec
  exact ⟨_, hexec, hactive, hkept, himp, State.resultCode_ended hport 0 [], (u.ended_frame 0 []).trans hframe⟩

end Sys2Proof.Machine
end

section
/-! The statement on COMMIT, ARB_COMMIT and STAGE_DISCARD. -/

namespace Sys2Proof.Machine

/-- Settles O33: COMMIT and ARB_COMMIT are both `commitMask` on the state in which the port has taken them, and that state has the
commits, the staged copies and the time base as they were. -/
theorem commitsAndDiscards : Obligations.CommitsAndDiscards := by
  unfold Obligations.CommitsAndDiscards
  refine ⟨fun s k token e h hrefusal => ?_, fun s k token c h hrefusal hcur => exec_commit_waits h token hrefusal hcur,
    fun s k token h hrefusal hcur => exec_commit_begins h token hrefusal hcur,
    fun s k _ hop hissue hfree hhalted hlock hcur hrefusal => exec_arbCommit_waits hop hissue hfree hhalted hlock hcur hrefusal,
    fun s k _ hop hissue hfree hhalted hlock hcur hrefusal => exec_arbCommit_begins hop hissue hfree hhalted hlock hcur hrefusal,
    fun s k e hop hissue hfree hhalted hlock hrefusal => ?_,
    fun s k hop hfree => exec_arbCommit_of_tenant hop hfree, fun s k hissue hbusy => exec_arbCommit_of_busy hissue hbusy,
    fun s k token h => exec_stageDiscard_of_accepts h token⟩
  · exact (exec_commit_of_accepts h token).trans (congrArg Host.Outcome.next (State.commitMask_of_refusal hrefusal _))
  · exact (exec_arbCommit_of_free hop hissue hfree hhalted hlock).trans
      (congrArg Host.Outcome.next (State.commitMask_of_refusal (s := s.arbBegun k) hrefusal _))

end Sys2Proof.Machine
end

section
/-! SUPPORT. The commit instant (R104, R106, R107): what the steps of a commit leave of the epoch, of the old-value window and of the flash die.
The instant is cut into the parts that the obligations speak of. -/

namespace Sys2Proof.Machine

/-! ### The parts of the instant -/

/-- The instant itself: absent islands are stale, the old values are kept, and the epoch advances. -/
def State.epochOpens (s : State) (c : Commit) : State :=
  let absent := (maskIslands c.mask).filter (fun i => !(s.running i || s.islState i == 3))
  let s := { s with isl := { s.isl with stale := absent.foldl (fun l i => addTo i l) s.isl.stale } }
  let s := s.updCom (fun m => { m with old := some (c.tc, m.active, m.hier) })
  s.setRegs [(.CMP_EPOCH_EPOCH, 0, s.reg .CMP_EPOCH_EPOCH 0 + 1), (.CMP_COMMIT_TIME_T_C, 0, c.tc)]

/-- The configuration writes of a hierarchy commit. -/
def State.hierWritten (s : State) (c : Commit) : State :=
  c.writes.foldl (fun s w => if w.reg = .other 0xFFFF then s else s.setVreg w.host w.target w.reg w.value) s

/-- The tables, what is staged from then on, and the window of the commit in progress. -/
def State.tablesSwitch (s : State) (before : Imp) (c : Commit) : State :=
  let act := applyImp before c.imps
  let act := s.withHier act s.com.hier
  let groups := (c.imps.filterMap (fun x => if x.key.typ == 5 then some x.key.index else none)).eraseDups
  let s := groups.foldl (fun s g => s.keepBuckets act g) s
  let covered := coveredBy before c.kills (c.imps.map (·.key))
  let s := s.updCom (fun m => { m with
    active := act, staged := if bit c.mask 0 && c.origin = .command then [] else m.staged,
    parts := (m.parts.map (fun a => if c.origin = .command || c.origin = .arb then { a with scopes := a.scopes - (a.scopes &&& c.mask) } else a)).filter (fun a => a.scopes != 0),
    cur := some { c with phase := .window, covered } })
  if c.origin = .command || c.origin = .arb then
    { s with staged := s.staged.filter (fun e => !(e.1.fld.scope != 0 && bit c.mask e.1.fld.scope)) } else s

theorem State.applyCommit_eq (s : State) (c : Commit) : s.applyCommit c =
    ((((((s.epochOpens c).hierWritten c).applyParts c.parts c.tc).applyCells c.cells c.tc).tablesSwitch s.com.active c).applyOrigin c).pruneRemoved := rfl

/-! ### The flash die -/

/-- A frame but for the high-water of amendments. -/
def Frame.unamended (f : Frame) : Frame := { f with flash := { f.flash with amendHigh := 0 } }

@[simp] theorem State.epochOpens_frame (s : State) (c : Commit) : (s.epochOpens c).frame = s.frame := by simp [State.epochOpens]

@[simp] theorem State.hierWritten_frame (s : State) (c : Commit) : (s.hierWritten c).frame = s.frame :=
  foldl_frame (fun s w => by split <;> simp) _ _

@[simp] theorem State.tablesSwitch_frame (s : State) (before : Imp) (c : Commit) : (s.tablesSwitch before c).frame = s.frame := by
  unfold State.tablesSwitch
  dsimp only
  split <;> simp

theorem State.applyParts_unamended (s : State) (parts : List AmendParts) (tc : Nat) : Same Frame.unamended s (s.applyParts parts tc) := by
  unfold State.applyParts
  refine .foldl _ _ fun s a _ => ?_
  dsimp only
  generalize ht : State.setDigest s _ = t
  have h : Same Frame.unamended s { t with flash := { t.flash with amendHigh := max t.flash.amendHigh a.seq } } :=
    .trans (t := t) (.of_frame (by rw [← ht, State.setDigest_frame])) rfl
  refine h.frame_right ?_
  repeat' (first | (simp; done) | split)

/-- A commit changes nothing of the frame but the high-water of amendments (R120). -/
theorem State.applyCommit_unamended (s : State) (c : Commit) : Same Frame.unamended s (s.applyCommit c) := by
  rw [State.applyCommit_eq]
  refine (Same.of_frame (s := s) (t := (s.epochOpens c).hierWritten c) (by simp)).trans ((State.applyParts_unamended _ c.parts c.tc).frame_right ?_)
  simp

theorem State.applyCommit_frame_of_no_parts (s : State) {c : Commit} (h : c.parts = []) : (s.applyCommit c).frame = s.frame := by
  have hparts : ∀ u : State, u.applyParts [] c.tc = u := fun _ => rfl
  rw [State.applyCommit_eq, h, hparts]
  simp

/-! ### The epoch and the window -/

/-- The fields of the epoch and of its instant. -/
@[simp] def isEpochFld (f : Fld) : Bool := [Fld.CMP_EPOCH_EPOCH, .CMP_COMMIT_TIME_T_C].contains f

/-- The epoch, the old values, and the commit in progress. -/
def State.epochView (s : State) : (Fld → Nat → Nat) × Option (Nat × Imp × List HierRec) × Option Commit := (s.shows isEpochFld, s.com.old, s.com.cur)

@[simp] theorem State.setReg_epochView (s : State) {f : Fld} (i v : Nat) (hf : isEpochFld f = false) : (s.setReg f i v).epochView = s.epochView :=
  congrArg (fun r => (r, s.com.old, s.com.cur)) (s.setReg_shows i v hf)

theorem State.setRegs_com : ∀ (l : List (Fld × Nat × Nat)) (s : State), (s.setRegs l).com = s.com
  | [], _ => rfl
  | _ :: l, _ => State.setRegs_com l _

theorem State.setRegs_epochView {l : List (Fld × Nat × Nat)} (s : State) (h : ∀ e ∈ l, isEpochFld e.1 = false) : (s.setRegs l).epochView = s.epochView := by
  rw [State.epochView, State.epochView, State.setRegs_shows l s h, State.setRegs_com]

theorem State.epochView_of {s t : State} (hregs : t.regs = s.regs) (hcom : t.com = s.com) : t.epochView = s.epochView := by
  rw [State.epochView, State.epochView, State.shows_of_regs hregs, hcom]

theorem SignalsOnly.epochView {s t : State} (h : SignalsOnly s t) : t.epochView = s.epochView := by
  obtain ⟨hregs, hcom, -⟩ := h.keeps
  exact State.epochView_of hregs hcom

theorem State.hierWritten_epochView (s : State) (c : Commit) : (s.hierWritten c).epochView = s.epochView :=
  (SignalsOnly.foldl (fun s _ => .ite (.refl s) (.setVreg s _ _ _ _)) c.writes s).epochView

theorem State.resetVfs_epochView (s : State) (p : Nat) : (s.resetVfs p).epochView = s.epochView := by
  unfold State.resetVfs
  split
  · exact (SignalsOnly.setupVfs s p).epochView
  · rfl

theorem State.applyHier_epochView (s : State) (new : List HierRec) (tc : Nat) : (s.applyHier new tc).epochView = s.epochView := by
  have hdrop : ∀ (l : List HierRec) (u : State), (u.dropAssigns l).epochView = u.epochView := fun l u =>
    (SignalsOnly.foldl (fun s _ => .ite (.refl s) (.slotEvent s _ _ _ _ _)) l u).epochView
  have hplug : ∀ u : State, (u.hotplug fun s => s.updCom fun m => { m with hier := new }).epochView = u.epochView := fun u =>
    (SignalsOnly.hotplug (fun s => s.updCom fun m => { m with hier := new }) u).epochView
  have hvfs : ∀ (l : List Nat) (u : State), (l.foldl (fun s p => s.resetVfs p) u).epochView = u.epochView := foldl_keeps State.epochView State.resetVfs_epochView
  unfold State.applyHier
  dsimp only
  refine (foldl_keeps State.epochView (fun _ _ => ?_) _ _).trans ((foldl_keeps State.epochView (fun _ _ => ?_) _ _).trans ?_)
  · rfl
  · rfl
  · rw [hvfs, hplug, hdrop]
    rfl

theorem epochFld_below : regTable.all (fun r => r.endsBy 0xC000 || !r.fields.any fun e => isEpochFld e.fld) = true := by decide

theorem slotCells_noEpoch (l : List SlotRec) : ∀ e ∈ slotCells l, isEpochFld e.1 = false := by
  have hcells : ∀ a v, 0xC000 ≤ a → ∀ e ∈ cellsAt a v, isEpochFld e.1 = false := by
    intro a v ha e he
    unfold cellsAt at he
    split at he
    · rename_i r i h
      obtain ⟨f, hf, rfl⟩ := List.mem_map.1 he
      obtain ⟨hmem, hends⟩ := regAtIn_some h
      have hr := List.all_eq_true.1 epochFld_below r hmem
      rw [hends _ ha, Bool.false_or, Bool.not_eq_true', List.any_eq_false] at hr
      exact Bool.eq_false_iff.2 (hr f hf)
    · exact absurd he List.not_mem_nil
  intro e he
  simp only [slotCells, List.mem_flatten, List.mem_map] at he
  obtain ⟨_, ⟨r, _, rfl⟩, he⟩ := he
  split at he
  · obtain ⟨_, hw, he⟩ := List.mem_flatten.1 he
    obtain ⟨w, _, rfl⟩ := List.mem_map.1 hw
    exact hcells _ _ (by omega) e he
  · rw [List.mem_singleton.1 he]
    rfl

theorem State.setDigest_epochView (s : State) (d : Nat) : (s.setDigest d).epochView = s.epochView :=
  foldl_keeps State.epochView (fun s _ => s.setReg_epochView _ _ rfl) _ s

/-- The digest and the high-water of an amendment that takes effect (R120, R122). -/
def State.amendCounted (s : State) (a : AmendParts) : State :=
  let s := s.setDigest (Config.digest (bytesOf 64 s.configDigest ++ bytesOf 64 a.digest ++ [a.scopes]))
  let s := { s with flash := { s.flash with amendHigh := max s.flash.amendHigh a.seq } }
  s.setReg .CMP_AMEND_SEQ_HIGH_WATER 0 s.flash.amendHigh

/-- Its assignments. -/
def State.amendHier (s : State) (a : AmendParts) (tc : Nat) : State :=
  match bit a.scopes 4, a.hier with
  | true, some h => s.applyHier h tc
  | _, _ => s

/-- Its fault reactions. -/
def State.amendFaults (s : State) (a : AmendParts) : State :=
  match bit a.scopes 5, a.flts with
  | true, some f => s.updCom (fun m => { m with faults := f })
  | _, _ => s

/-- Its slot-power registers. -/
def State.amendSlots (s : State) (a : AmendParts) : State :=
  match bit a.scopes 6, a.slots with
  | true, some l => s.setRegs (slotCells l)
  | _, _ => s

/-- Its metering record. -/
def State.amendMeter (s : State) (a : AmendParts) : State :=
  match bit a.scopes 7, a.meter with
  | true, some m => s.updCom (fun c => { c with meterNext := some m })
  | _, _ => s

theorem State.applyParts_eq (s : State) (parts : List AmendParts) (tc : Nat) : s.applyParts parts tc =
    (bySeq parts).foldl (fun s a => ((((s.amendCounted a).amendHier a tc).amendFaults a).amendSlots a).amendMeter a) s := rfl

/-- The amendments of a commit leave the epoch and the window alone. -/
theorem State.applyParts_epochView (s : State) (parts : List AmendParts) (tc : Nat) : (s.applyParts parts tc).epochView = s.epochView := by
  have hcounted : ∀ (u : State) (a : AmendParts), (u.amendCounted a).epochView = u.epochView := fun u a =>
    (State.setReg_epochView _ _ _ rfl).trans (u.setDigest_epochView (Config.digest (bytesOf 64 u.configDigest ++ bytesOf 64 a.digest ++ [a.scopes])))
  have hhier : ∀ (u : State) (a : AmendParts), (u.amendHier a tc).epochView = u.epochView := fun u a => by
    unfold State.amendHier
    split
    · exact u.applyHier_epochView _ tc
    · rfl
  have hfaults : ∀ (u : State) (a : AmendParts), (u.amendFaults a).epochView = u.epochView := fun u a => by
    unfold State.amendFaults
    split <;> rfl
  have hslots : ∀ (u : State) (a : AmendParts), (u.amendSlots a).epochView = u.epochView := fun u a => by
    unfold State.amendSlots
    split
    · exact u.setRegs_epochView (slotCells_noEpoch _)
    · rfl
  have hmeter : ∀ (u : State) (a : AmendParts), (u.amendMeter a).epochView = u.epochView := fun u a => by
    unfold State.amendMeter
    split <;> rfl
  rw [State.applyParts_eq]
  exact foldl_keeps State.epochView (fun u a => by rw [hmeter, hslots, hfaults, hhier, hcounted]) _ s

theorem State.capacityEvent_epochView (s : State) (l : Lease) (add : Bool) : (s.capacityEvent l add).epochView = s.epochView := by
  unfold State.capacityEvent
  split
  · split <;> rfl
  · rfl

theorem State.setSheets_epochView (l : List Nat) (v : Nat) (s : State) : (l.foldl (fun s n => s.setReg .MEM_SHEET_STATE n v) s).epochView = s.epochView :=
  foldl_keeps State.epochView (fun s _ => s.setReg_epochView _ _ rfl) l s

theorem State.endLeases_epochView (s : State) (ls : List Lease) (tc : Nat) : (s.endLeases ls tc).epochView = s.epochView := by
  refine foldl_keeps State.epochView (fun s l => ?_) ls s
  exact (State.capacityEvent_epochView _ _ _).trans (State.setSheets_epochView l.sheets 2 s)

theorem State.fenceKeys_epochView (s : State) (f : Revocation → Bool) (tc : Nat) : (s.fenceKeys f tc).epochView = s.epochView := by
  have hlast : ∀ (u : State) (kind : Nat) (r : Revocation), (u.revokeLast kind r true).epochView = u.epochView := fun u _ _ =>
    u.setRegs_epochView (by simp)
  refine foldl_keeps State.epochView (fun u r => ?_) _ s
  split
  · exact hlast _ _ _
  · exact hlast _ _ _

/-- What the origin of a commit gets leaves the epoch and the window alone. -/
theorem State.applyOrigin_epochView (s : State) (c : Commit) : (s.applyOrigin c).epochView = s.epochView := by
  unfold State.applyOrigin
  split
  · dsimp only
    split
    · rename_i l _
      exact (State.capacityEvent_epochView _ _ _).trans (State.setSheets_epochView l.sheets 1 s)
    · rfl
  · exact (State.fenceKeys_epochView _ _ _).trans (s.endLeases_epochView _ _)
  · exact (State.fenceKeys_epochView _ _ _).trans (s.endLeases_epochView _ _)
  · split
    · rfl
    · exact (SignalsOnly.foldl (fun s _ => .ite (.emit s _) (.refl s)) c.writes s).epochView
  · rfl

/-! ### The register cells (R475, R494) -/

theorem State.resetShaper_keeps (s : State) (sh : ShaperId) : (s.resetShaper sh).regs = s.regs ∧ (s.resetShaper sh).com = s.com := by
  unfold State.resetShaper
  dsimp only
  split <;> exact ⟨rfl, rfl⟩

/-- A list that is installed shows in GATE_START and GATE_STATUS. -/
theorem State.installGate_keeps (s : State) (p tc : Nat) : (s.installGate p tc).com = s.com ∧ ∀ q : Fld → Bool,
    (∀ f ∈ [Fld.GATE_START_START, .GATE_STATUS_LATE_START, .GATE_STATUS_STATE, .GATE_STATUS_ENTRY, .GATE_STATUS_GATES], q f = false) →
      (s.installGate p tc).shows q = s.shows q := by
  have hshow : ∀ u : State, (u.showGate p tc).com = u.com := fun u => State.setRegs_com _ u
  unfold State.installGate
  dsimp only
  constructor
  · rw [hshow]
    split <;> rfl
  · intro q hq
    simp only [List.forall_mem_cons] at hq
    obtain ⟨hstart, hlate, hstate, hentry, hgates, -⟩ := hq
    refine (State.setRegs_shows _ _ (by simp [hstate, hentry, hgates])).trans ?_
    have htr : ∀ (u : State) (tr : Traffic), ({ u with tr } : State).shows q = u.shows q := fun _ _ => rfl
    rw [htr]
    split
    · rw [State.setReg_shows _ _ _ hlate, State.setReg_shows _ _ _ hstart]
    · rw [State.setReg_shows _ _ _ hstart]

/-- The cells are written; what follows shows in the gate lists' status alone. -/
theorem State.applyCells_keeps (s : State) (cells : List RegCell) (tc : Nat) : (s.applyCells cells tc).com = s.com ∧ ∀ q : Fld → Bool,
    (∀ f ∈ [Fld.GATE_START_START, .GATE_STATUS_LATE_START, .GATE_STATUS_STATE, .GATE_STATUS_ENTRY, .GATE_STATUS_GATES], q f = false) →
      (s.applyCells cells tc).shows q = (cells.foldl (fun s c => s.setReg c.1.fld c.1.idx c.2) s).shows q := by
  have hgates : ∀ (l : List Nat) (u : State), (l.foldl (fun s p => s.installGate p tc) u).com = u.com :=
    foldl_keeps State.com fun s p => (s.installGate_keeps p tc).1
  have hshapers : ∀ (l : List ShaperId) (u : State), (l.foldl (fun s sh => s.resetShaper sh) u).com = u.com :=
    foldl_keeps State.com fun s sh => (s.resetShaper_keeps sh).2
  have hcells : ∀ u : State, (cells.foldl (fun s c => s.setReg c.1.fld c.1.idx c.2) u).com = u.com :=
    foldl_keeps State.com (fun (s : State) (c : RegCell) => (rfl : (s.setReg c.1.fld c.1.idx c.2).com = s.com)) _
  unfold State.applyCells
  dsimp only
  constructor
  · rw [hgates]
    exact (hshapers _ _).trans (hcells s)
  · intro q hq
    refine (foldl_keeps (fun s => s.shows q) (fun s p => (s.installGate_keeps p tc).2 q hq) _ _).trans ?_
    exact foldl_keeps (fun s => s.shows q) (fun s sh => State.shows_of_regs (s.resetShaper_keeps sh).1 q) _ _

/-! ### The tables (R104, R412) -/

theorem State.keepBuckets_tr (s : State) (new : Imp) (g : Nat) : ∃ tr, s.keepBuckets new g = { s with tr } := by
  have hfold : ∀ (f : State → Nat → State), (∀ u i, ∃ tr, f u i = { u with tr }) → ∀ (l : List Nat) (u : State), ∃ tr, l.foldl f u = { u with tr } := by
    intro f hf l
    induction l with
    | nil => exact fun u => ⟨_, rfl⟩
    | cons i l ih =>
      intro u
      obtain ⟨_, h⟩ := hf u i
      obtain ⟨tr, hl⟩ := ih (f u i)
      exact ⟨tr, hl.trans (by rw [h])⟩
  exact hfold _ (fun u i => ⟨_, rfl⟩) _ s

/-- The commit part once the tables have switched. -/
def Commits.switched (m : Commits) (act : Imp) (covered : List ImpKey) (c : Commit) : Commits :=
  { m with
    active := act, staged := if bit c.mask 0 && c.origin = .command then [] else m.staged,
    parts := (m.parts.map (fun a => if c.origin = .command || c.origin = .arb then { a with scopes := a.scopes - (a.scopes &&& c.mask) } else a)).filter (fun a => a.scopes != 0),
    cur := some { c with phase := .window, covered } }

theorem State.tablesSwitch_keeps (s : State) (before : Imp) (c : Commit) : (s.tablesSwitch before c).regs = s.regs ∧
    (s.tablesSwitch before c).com =
      s.com.switched (s.withHier (applyImp before c.imps) s.com.hier) (coveredBy before c.kills (c.imps.map (·.key))) c := by
  have hbuckets : ∀ (new : Imp) (l : List Nat) (u : State), (l.foldl (fun s g => s.keepBuckets new g) u).regs = u.regs ∧
      (l.foldl (fun s g => s.keepBuckets new g) u).com = u.com := fun new l u => by
    have hkeeps := foldl_keeps (fun s : State => (s.regs, s.com)) (g := fun s g => s.keepBuckets new g)
      (fun s g => by obtain ⟨_, h⟩ := s.keepBuckets_tr new g; rw [h]) l u
    exact ⟨congrArg Prod.fst hkeeps, congrArg Prod.snd hkeeps⟩
  unfold State.tablesSwitch
  dsimp only
  generalize hu : List.foldl _ s _ = u
  obtain ⟨hregs, hcom⟩ : u.regs = s.regs ∧ u.com = s.com := hu ▸ hbuckets _ _ s
  have hite : ∀ (p : Prop) [Decidable p] (x : State) (st : List RegCell),
      (if p then { x with staged := st } else x).regs = x.regs ∧ (if p then { x with staged := st } else x).com = x.com := fun p _ x st => by
    split <;> exact ⟨rfl, rfl⟩
  refine ⟨(hite _ _ _).1.trans hregs, (hite _ _ _).2.trans ?_⟩
  rw [← hcom]
  rfl

/-! ### The instant as a whole -/

/-- The window is open, and the commit is in it (R106). -/
theorem State.applyCommit_window (s : State) (c : Commit) : (s.applyCommit c).com.old = some (c.tc, s.com.active, s.com.hier) ∧
    (s.applyCommit c).com.cur.map (·.phase) = some .window := by
  have hopens : (s.epochOpens c).com.old = some (c.tc, s.com.active, s.com.hier) := rfl
  rw [State.applyCommit_eq]
  generalize hu : ((s.epochOpens c).hierWritten c).applyParts c.parts c.tc = u
  have hview : u.epochView = (s.epochOpens c).epochView := by
    rw [← hu, State.applyParts_epochView, State.hierWritten_epochView]
  have hold : u.com.old = some (c.tc, s.com.active, s.com.hier) := (congrArg (fun v => v.2.1) hview).trans hopens
  obtain ⟨hcells, -⟩ := u.applyCells_keeps c.cells c.tc
  generalize u.applyCells c.cells c.tc = v at *
  obtain ⟨-, hcom⟩ := v.tablesSwitch_keeps s.com.active c
  generalize v.tablesSwitch s.com.active c = w at *
  have hend : (w.applyOrigin c).pruneRemoved.epochView = w.epochView := w.applyOrigin_epochView c
  constructor
  · refine (congrArg (fun v => v.2.1) hend).trans ?_
    change w.com.old = _
    rw [hcom]
    exact (congrArg Commits.old hcells).trans hold
  · refine (congrArg (fun v => v.2.2.map (·.phase)) hend).trans ?_
    change w.com.cur.map (·.phase) = _
    rw [hcom]
    rfl

end Sys2Proof.Machine
end

section
/-! SUPPORT. The steps of a commit (R104 to R116): delivery, registration, the instant, the window, the replica write, the sweep and the end. -/

namespace Sys2Proof.Machine

theorem State.updCur_of {s : State} {c : Commit} (h : s.com.cur = some c) (f : Commit → Commit) :
    s.updCur f = { s with com := { s.com with cur := some (f c) } } := by
  rw [State.updCur, State.updCom, h]
  rfl

theorem State.atDev_eq (s : State) (t : Nat) : s.atDev t = { s with now := max s.now ((s.boot.timeBase.map (· + t)).getD 0) } := by
  unfold State.atDev
  split <;> rename_i h <;> simp [h]

section
variable {s : State} {c : Commit}

/-! ### Delivery and registration (R103, R112, R116) -/

theorem exec_commitDeliveryAck_running {i : Nat} (hcur : s.com.cur = some c) (hphase : c.phase = .delivering) (hwait : c.waitAck.contains i = true)
    (hrun : s.running i = true) : exec (.commitDeliveryAck i) s =
      .next { s with out := [], com := { s.com with cur := some { c with waitAck := dropFrom i c.waitAck } } } := by
  have hcur' : s.started.com.cur = some c := hcur
  have hrun' : s.started.running i = true := hrun
  change execCommitDeliveryAck i s = _
  rw [execCommitDeliveryAck, run_started]
  simp only [hcur', hphase, hwait, hrun', decide_true, Bool.and_self, if_true, State.updCur_of hcur']
  rfl

theorem exec_commitDeliveryAck_stale {i : Nat} (hcur : s.com.cur = some c) (hphase : c.phase = .delivering) (hwait : c.waitAck.contains i = true)
    (hrun : s.running i = false) (hstopped : s.islState i ≠ 3) : exec (.commitDeliveryAck i) s = .next { s with
      out := [], com := { s.com with cur := some { c with waitAck := dropFrom i c.waitAck } }, isl := { s.isl with stale := addTo i s.isl.stale } } := by
  have hcur' : s.started.com.cur = some c := hcur
  have hrun' : s.started.running i = false := hrun
  have hstopped' : (s.started.islState i == 3) = false := beq_eq_false_iff_ne.2 hstopped
  change execCommitDeliveryAck i s = _
  rw [execCommitDeliveryAck, run_started]
  simp only [hcur', hphase, hwait, hrun', hstopped', decide_true, Bool.and_self, Bool.false_eq_true, if_true, if_false, State.updCur_of hcur']
  rfl

/-- A registration that the Baldon core takes up at device time `x`. -/
theorem exec_commitRegistration_eq {x b : Nat} (hcur : s.com.cur = some c) (hphase : c.phase = .delivering) (hwait : c.waitAck = [])
    (hrun : s.running 52 = true) (hbase : s.boot.timeBase = some b) (hnow : s.now ≤ b + x) : exec (.commitRegistration x) s =
      .next (if x + 500 ≤ c.tc then ({ s with out := [], now := b + x } : State).updCur (fun c => { c with phase := .confirmed })
        else ({ s with out := [], now := b + x } : State).abandonCommit) := by
  have hcur' : s.started.com.cur = some c := hcur
  have hrun' : s.started.running 52 = true := hrun
  have hat : s.started.atDev x = { s with out := [], now := b + x } := by
    rw [State.atDev_eq]
    change ({ s with out := [], now := max s.now ((s.boot.timeBase.map (· + x)).getD 0) } : State) = _
    rw [hbase]
    exact congrArg (fun n => ({ s with out := [], now := n } : State)) (max_eq_right hnow)
  have hdev : ({ s with out := [], now := b + x } : State).dev = x := by
    have hbase' : ({ s with out := [], now := b + x } : State).boot.timeBase = some b := hbase
    rw [State.dev, hbase']
    exact Nat.add_sub_cancel_left b x
  change execCommitRegistration x s = _
  rw [execCommitRegistration, run_started]
  simp only [hcur', hphase, hwait, hrun', hat, hdev, List.isEmpty_nil, decide_true, Bool.and_self, if_true]

theorem exec_commitRegistration_confirms {x b : Nat} (hcur : s.com.cur = some c) (hphase : c.phase = .delivering) (hwait : c.waitAck = [])
    (hrun : s.running 52 = true) (hbase : s.boot.timeBase = some b) (hnow : s.now ≤ b + x) (htc : x + 500 ≤ c.tc) :
    exec (.commitRegistration x) s =
      .next { s with out := [], now := b + x, com := { s.com with cur := some { c with phase := .confirmed } } } := by
  rw [exec_commitRegistration_eq hcur hphase hwait hrun hbase hnow, if_pos htc]
  exact congrArg Host.Outcome.next (State.updCur_of (s := { s with out := [], now := b + x }) hcur _)

/-- A commit of COMMIT that is abandoned. -/
theorem State.abandonCommit_of_command (hcur : s.com.cur = some c) (horigin : c.origin = .command) :
    s.abandonCommit = (((((s.updCom fun m => { m with cur := none }).work 52).finish .commit 0x0B).nextCommit).freePort) := by
  simp only [State.abandonCommit, hcur, horigin]

theorem State.finish_of_waiting {w : Wait} (code : Nat) (ret : List Nat) {r : Running} (hr : s.port.running = some r) (hw : r.wait = w)
    (hresult : r.result = none) : (s.finish w code ret).port.running = some { r with result := some (code, ret) } := by
  simp [State.finish, State.updRun, hr, hw, hresult]

theorem exec_commitRegistration_late {x b : Nat} (hcur : s.com.cur = some c) (hphase : c.phase = .delivering) (hwait : c.waitAck = [])
    (hrun : s.running 52 = true) (hbase : s.boot.timeBase = some b) (hnow : s.now ≤ b + x) (htc : c.tc < x + 500) (horigin : c.origin = .command)
    (hwaiting : s.com.waiting = none) (hhier : s.com.hierQ = []) (hredo : s.com.redo = []) : ∃ t, exec (.commitRegistration x) s = .next t ∧
      t.com.cur = none ∧ t.com.active = s.com.active ∧ t.staged = s.staged ∧ (s.waitsFor = some .commit → s.resultCode = none → t.resultCode = some 0x0B) ∧
      t.reg .CMP_EPOCH_EPOCH 0 = s.reg .CMP_EPOCH_EPOCH 0 ∧ t.now = b + x := by
  have hexec := exec_commitRegistration_eq hcur hphase hwait hrun hbase hnow
  rw [if_neg (by omega), State.abandonCommit_of_command (s := { s with out := [], now := b + x }) hcur horigin] at hexec
  generalize hu : State.finish _ .commit 0x0B = u at hexec
  have hcom : u.com = { s.com with cur := none } := by rw [← hu]; rfl
  have hregs : u.regs = s.regs := by rw [← hu]; rfl
  have hstaged : u.staged = s.staged := by rw [← hu]; rfl
  have hnow' : u.frame.now = b + x := by rw [← hu, State.finish_frame]; rfl
  have hrunning : ∀ r, s.port.running = some r → r.wait = .commit → r.result = none → u.port.running = some { r with result := some (0x0B, []) } :=
    fun r hr hw hresult => by
      rw [← hu]
      exact State.finish_of_waiting 0x0B [] hr hw hresult
  have hidle : u.nextCommit = u := State.nextCommit_idle (.inr (by simp [hcom, hwaiting, hhier, hredo]))
  rw [hidle] at hexec
  obtain ⟨hkeeps, -, hstaged', hcom', -⟩ := u.freePort_keeps
  have hview := u.freePort_outcomeView
  refine ⟨_, hexec, by rw [hcom', hcom], by rw [hcom', hcom], hstaged'.trans hstaged, fun hw hresult => ?_, ?_, ?_⟩
  · obtain ⟨r, hr, hwr⟩ := Option.map_eq_some_iff.1 (hw : s.port.running.map (·.wait) = some .commit)
    have hnone : r.result = none := by simpa [State.resultCode, hr] using hresult
    have hport : u.freePort.port.running = u.port.running := congrArg Prod.fst hview
    rw [State.resultCode, hport, hrunning r hr hwr hnone]
    rfl
  · rw [hkeeps _ _ (by simp), State.reg, State.reg, hregs]
  · exact (congrArg (fun v => v.2.1.now) hview).trans hnow'

/-! ### The instant (R104) -/

theorem exec_commitInstant_eq (hcur : s.com.cur = some c) (hphase : c.phase = .confirmed) :
    exec .commitInstant s = .next ((s.started.atDev c.tc).applyCommit c) := by
  have hcur' : s.started.com.cur = some c := hcur
  change execCommitInstant s = _
  rw [execCommitInstant, run_started]
  simp only [hcur', hphase]

theorem exec_commitInstant_window (hcur : s.com.cur = some c) (hphase : c.phase = .confirmed) : ∃ t, exec .commitInstant s = .next t ∧
    (t.com.cur.map (·.phase)) = some .window ∧ t.com.old = some (c.tc, s.com.active, s.com.hier) ∧
    t.part = s.part ∧ t.pool.mem = s.pool.mem ∧ t.flash.rollback = s.flash.rollback ∧ t.pending = s.pending ∧
    t.now = max s.now ((s.boot.timeBase.map (· + c.tc)).getD 0) := by
  obtain ⟨hold, hwindow⟩ := (s.started.atDev c.tc).applyCommit_window c
  have hframe : ((s.started.atDev c.tc).applyCommit c).frame.unamended =
      ({ s.frame with now := max s.now ((s.boot.timeBase.map (· + c.tc)).getD 0) } : Frame).unamended :=
    Eq.trans (State.applyCommit_unamended (s.started.atDev c.tc) c) (congrArg Frame.unamended (State.atDev_frame s.started c.tc))
  rw [State.atDev_eq] at hold
  refine ⟨_, exec_commitInstant_eq hcur hphase, hwindow, ?_, congrArg Frame.part hframe, congrArg Frame.mem hframe,
    congrArg (fun f => f.flash.rollback) hframe, congrArg Frame.pending hframe, congrArg Frame.now hframe⟩
  rw [State.atDev_eq]
  exact hold

/-! ### The window closes (R106) -/

theorem exec_oldValueWindowClose_eq (hcur : s.com.cur = some c) (hphase : c.phase = .window) (p : CommitPhase)
    (hp : (if !c.imps.isEmpty || !c.writes.isEmpty || bit c.mask 4 then CommitPhase.writing else if c.kills.isEmpty then .finished else .sweeping) = p) :
    ∃ t, exec .oldValueWindowClose s = .next t ∧ t.com.old = none ∧ t.com.cur = some { c with phase := p } ∧ t.tr.policyOld = none ∧ t.regs = s.regs ∧
      t.now = max s.now ((s.boot.timeBase.map (· + (c.tc + 1000))).getD 0) := by
  have hcur' : s.started.com.cur = some c := hcur
  refine ⟨{ s with
    out := [], now := max s.now ((s.boot.timeBase.map (· + (c.tc + 1000))).getD 0), tr := { s.tr with policyOld := none }
    com := { s.com with old := none, cur := some { c with phase := p } } }, ?_, rfl, rfl, rfl, rfl, rfl⟩
  change execOldValueWindowClose s = _
  rw [execOldValueWindowClose, run_started]
  simp only [hcur', hphase, if_true, hp]
  rw [State.updCur_of (c := c) (by rw [State.atDev_eq]; exact hcur), State.atDev_eq]
  rfl

/-! ### The replica write and the sweep (R108, R109, R657) -/

theorem State.writeItem_of_unarmed {s : State} (h : s.flt.armed = none) (source target q : Nat) (k : ImpKey) : s.writeItem source target q k = s := by
  simp [State.writeItem, State.armedWrite, h]

/-- What the written items leave: the active table, the commit in progress and the flash die. -/
theorem State.writeItem_keeps (s : State) (source target q : Nat) (k : ImpKey) :
    ((s.writeItem source target q k).com.cur, (s.writeItem source target q k).com.active, (s.writeItem source target q k).frame) =
      (s.com.cur, s.com.active, s.frame) := by
  have harmed : (s.armedWrite [source] target).2.com = s.com := by
    unfold State.armedWrite
    split
    · split <;> rfl
    · rfl
  rw [State.writeItem_frame]
  unfold State.writeItem
  dsimp only
  split
  · rw [harmed]
  · rw [← harmed]
    rfl

/-- The items of a commit's changes, as the quads write them. -/
def State.itemsWritten (s : State) (c : Commit) : State :=
  (c.imps.filter (fun x => x.key.typ == 1)).foldl (fun s x => s.writeItem 0x32 (eImprint (x.val.getD 0)) 0 x.key)
    ((c.imps.take 1).foldl (fun s x => (List.range 8).foldl (fun s q => s.writeItem 0x42 q q x.key) s) s)

theorem exec_replicaWriteDone_eq (hcur : s.com.cur = some c) (hphase : c.phase = .writing) : exec .replicaWriteDone s =
    .next ((s.started.itemsWritten c).updCur (fun c => { c with phase := if c.kills.isEmpty then .finished else .sweeping })) := by
  have hcur' : s.started.com.cur = some c := hcur
  change execReplicaWriteDone s = _
  rw [execReplicaWriteDone, run_started]
  simp only [hcur', hphase, if_true]
  rfl

theorem State.itemsWritten_keeps (s : State) (c : Commit) : (s.itemsWritten c).com.cur = s.com.cur ∧ (s.itemsWritten c).com.active = s.com.active ∧
    (s.itemsWritten c).frame = s.frame := by
  have hkeeps := foldl_keeps (fun s : State => (s.com.cur, s.com.active, s.frame)) (g := fun s (x : ImpChange) => s.writeItem 0x32 (eImprint (x.val.getD 0)) 0 x.key)
    (fun s x => s.writeItem_keeps _ _ _ _) (c.imps.filter (fun x => x.key.typ == 1))
    ((c.imps.take 1).foldl (fun s x => (List.range 8).foldl (fun s q => s.writeItem 0x42 q q x.key) s) s)
  have hfirst := foldl_keeps (fun s : State => (s.com.cur, s.com.active, s.frame))
    (g := fun s (x : ImpChange) => (List.range 8).foldl (fun s q => s.writeItem 0x42 q q x.key) s)
    (fun s x => foldl_keeps (fun s : State => (s.com.cur, s.com.active, s.frame)) (fun s q => s.writeItem_keeps _ _ _ _) _ s) (c.imps.take 1) s
  have hall := hkeeps.trans hfirst
  exact ⟨congrArg Prod.fst hall, congrArg (fun v => v.2.1) hall, congrArg (fun v => v.2.2) hall⟩

theorem State.itemsWritten_of_unarmed {s : State} (h : s.flt.armed = none) (c : Commit) : s.itemsWritten c = s := by
  have hfold : ∀ {α : Type} (f : State → α → State) (l : List α), (∀ e, f s e = s) → l.foldl f s = s := fun f l hf => by
    induction l with
    | nil => rfl
    | cons e l ih => rw [List.foldl_cons, hf, ih]
  unfold State.itemsWritten
  rw [hfold _ (c.imps.take 1) fun x => hfold _ _ fun q => State.writeItem_of_unarmed h _ _ _ _, hfold _ _ fun x => State.writeItem_of_unarmed h _ _ _ _]

theorem exec_killMarkSweepDone_eq (hcur : s.com.cur = some c) (hphase : c.phase = .sweeping) : exec .killMarkSweepDone s = .next { s with
    out := [], com := { s.com with
      active := s.com.active.map (fun e => if c.covered.contains e.1 then (e.1, e.2 / 2 * 2) else e), cur := some { c with phase := .finished, covered := [] } } } := by
  have hcur' : s.started.com.cur = some c := hcur
  change execKillMarkSweepDone s = _
  rw [execKillMarkSweepDone, run_started]
  simp only [hcur', hphase, if_true]
  refine congrArg Host.Outcome.next ((State.updCur_of (c := c) ?_ _).trans ?_)
  · exact hcur
  · rfl

/-! ### The end (R110) -/

/-- The commit is over: COMMIT's result holds T_c and the epoch, a lease's its handle and the epoch that it was given. -/
def State.commitOver (s : State) (c : Commit) : State :=
  let s := (s.updCom (fun m => { m with cur := none })).work 52
  let e := s.reg .CMP_EPOCH_EPOCH 0
  match c.origin with
  | .command | .arb => s.finish .commit 0 [c.tc % 2 ^ 32, c.tc / 2 ^ 32, e % 2 ^ 32, e / 2 ^ 32]
  | .lease h =>
    let ep := ((s.pool.leases.find? (fun (l : Lease) => l.handle == h)).map (fun (l : Lease) => l.epoch)).getD 0
    s.finish (.lease h) 0 [h, 0, ep % 2 ^ 32, ep / 2 ^ 32]
  | _ => s

theorem exec_commitComplete_eq (hcur : s.com.cur = some c) (hphase : c.phase = .finished) :
    exec .commitComplete s = .next ((s.started.commitOver c).nextCommit.freePort) := by
  have hcur' : s.started.com.cur = some c := hcur
  change execCommitComplete s = _
  rw [execCommitComplete, run_started]
  simp only [hcur', hphase, if_true]
  rfl

theorem State.commitOver_keeps (s : State) (c : Commit) : (s.commitOver c).com = { s.com with cur := none } ∧ (s.commitOver c).regs = s.regs ∧
    (s.commitOver c).isl.mgmt = s.isl.mgmt ∧ (s.commitOver c).frame = s.frame := by
  unfold State.commitOver
  dsimp only
  split <;> exact ⟨rfl, rfl, rfl, rfl⟩

theorem State.mgmtUp_of {s t : State} (hregs : t.regs = s.regs) (hmgmt : t.isl.mgmt = s.isl.mgmt) : t.mgmtUp = s.mgmtUp := by
  rw [State.mgmtUp, State.mgmtUp, State.running, State.running, State.islState, State.islState, State.reg, State.reg, hregs, hmgmt]

theorem State.freePort_of_cur (h : s.com.cur.isSome = true) : s.freePort = s := by
  simp [State.freePort, h]

theorem State.freePort_internal (hcur : s.com.cur = none) (hup : s.mgmtUp = true) : s.freePort.reg .CMP_STATUS_INTERNAL 0 = 0 := by
  have hzero : (s.setReg .CMP_STATUS_INTERNAL 0 0).reg .CMP_STATUS_INTERNAL 0 = 0 := (State.reg_setReg_self _ _ _ _).trans (Nat.zero_mod _)
  unfold State.freePort
  simp only [hcur, hup, Option.isSome_none, Bool.not_true, Bool.or_self, Bool.false_eq_true, if_false]
  split
  · exact hzero
  · exact (State.reg_setReg_ne _ _ (by simp)).trans hzero

/-- COMMIT ends, and nothing waits behind it. -/
theorem exec_commitComplete_frees (hcur : s.com.cur = some c) (hphase : c.phase = .finished) (horigin : c.origin = .command)
    (hwaiting : s.com.waiting = none) (hhier : s.com.hierQ = []) (hredo : s.com.redo = []) (hup : s.mgmtUp = true) :
    ∃ t, exec .commitComplete s = .next t ∧ t.com.cur = none ∧ t.reg .CMP_STATUS_INTERNAL 0 = 0 ∧ (s.port.running = none → t.busy = false) ∧
      KeepsRegs s t [(.CMP_STATUS_INTERNAL, 0), (.CMP_STATUS_BUSY, 0)] ∧ t.com.active = s.com.active ∧ t.frame = s.frame ∧
      (∀ r, s.port.running = some r → r.wait = .commit → r.result = none →
        t.port.running = some { r with result := some (0, [c.tc % 2 ^ 32, c.tc / 2 ^ 32, s.reg .CMP_EPOCH_EPOCH 0 % 2 ^ 32, s.reg .CMP_EPOCH_EPOCH 0 / 2 ^ 32]) }) := by
  have hexec := exec_commitComplete_eq hcur hphase
  have hrunning : (s.started.commitOver c).port.running = s.port.running.map fun r =>
      if r.wait = Wait.commit && r.result.isNone then
        { r with result := some (0, [c.tc % 2 ^ 32, c.tc / 2 ^ 32, s.reg .CMP_EPOCH_EPOCH 0 % 2 ^ 32, s.reg .CMP_EPOCH_EPOCH 0 / 2 ^ 32]) } else r := by
    unfold State.commitOver
    simp only [horigin]
    rfl
  obtain ⟨hcom, hregs, hmgmt, hframe⟩ := s.started.commitOver_keeps c
  generalize s.started.commitOver c = u at *
  have hcur' : u.com.cur = none := by rw [hcom]
  have hup' : u.mgmtUp = true := (State.mgmtUp_of (s := s) hregs hmgmt).trans hup
  have hidle : u.nextCommit = u := State.nextCommit_idle (.inr (by rw [hcom]; exact ⟨hwaiting, hhier, hredo⟩))
  rw [hidle] at hexec
  obtain ⟨hkeeps, -, -, hcom', -⟩ := u.freePort_keeps
  have hview := u.freePort_outcomeView
  refine ⟨_, hexec, by rw [hcom', hcur'], State.freePort_internal hcur' hup', fun hnone => State.freePort_busy hcur' hup' (by rw [hrunning, hnone]; rfl),
    fun f i h => (hkeeps f i h).trans ?_, by rw [hcom', hcom]; rfl, (congrArg (fun v => v.2.1) hview).trans hframe, fun r hr hw hresult => ?_⟩
  · rw [State.reg, State.reg, hregs]
    rfl
  · refine (congrArg Prod.fst hview).trans (hrunning.trans ?_)
    simp [hr, hw, hresult]

/-- A commit that waits begins when another ends (R387). -/
theorem exec_commitComplete_next {mask : Nat} {o : Origin} (hcur : s.com.cur = some c) (hphase : c.phase = .finished)
    (hwaiting : s.com.waiting = some (mask, o, false)) (hup : s.mgmtUp = true) : ∃ t, exec .commitComplete s = .next t ∧
      (t.com.cur.map (fun c => (c.origin, c.mask, c.phase))) = some (o, mask, .delivering) ∧ t.com.waiting = none ∧ t.busy = true ∧ t.frame = s.frame := by
  have hexec := exec_commitComplete_eq hcur hphase
  obtain ⟨hcom, hregs, hmgmt, hframe⟩ := s.started.commitOver_keeps c
  generalize s.started.commitOver c = u at *
  have hup' : u.mgmtUp = true := (State.mgmtUp_of (s := s) hregs hmgmt).trans hup
  have hwaiting' : u.com.waiting = some (mask, o, false) := by rw [hcom]; exact hwaiting
  have hnext : u.nextCommit = (u.updCom (fun m => { m with waiting := none })).beginCommit o mask := by
    have hidle : u.com.cur = none := by rw [hcom]
    simp [State.nextCommit, hidle, hup', hwaiting']
  obtain ⟨hbegun, hfree, hbusy, -, hframe'⟩ := (u.updCom (fun m => { m with waiting := none })).beginCommit_spec o mask
  rw [hnext] at hexec
  generalize (u.updCom (fun m => { m with waiting := none })).beginCommit o mask = v at *
  obtain ⟨d, hd, hfields⟩ := Option.map_eq_some_iff.1 hbegun
  simp only [Prod.mk.injEq] at hfields
  obtain ⟨hmask, horigin, hdeliver, -⟩ := hfields
  rw [State.freePort_of_cur (by rw [hd]; rfl)] at hexec
  refine ⟨v, hexec, ?_, hfree, hbusy, hframe'.trans ((State.updCom_frame _ _).trans hframe)⟩
  rw [hd, ← hmask, ← horigin, ← hdeliver]
  rfl

/-- Without a commit in progress none of its steps does anything. -/
theorem exec_commitSteps_idle (hcur : s.com.cur = none) : exec .commitInstant s = .next { s with out := [] } ∧
    exec .oldValueWindowClose s = .next { s with out := [] } ∧ exec .replicaWriteDone s = .next { s with out := [] } ∧
    exec .killMarkSweepDone s = .next { s with out := [] } ∧ exec .commitComplete s = .next { s with out := [] } := by
  have hcur' : s.started.com.cur = none := hcur
  refine ⟨?_, ?_, ?_, ?_, ?_⟩
  · change execCommitInstant s = _
    rw [execCommitInstant, run_started]
    simp only [hcur']
    rfl
  · change execOldValueWindowClose s = _
    rw [execOldValueWindowClose, run_started]
    simp only [hcur']
    rfl
  · change execReplicaWriteDone s = _
    rw [execReplicaWriteDone, run_started]
    simp only [hcur']
    rfl
  · change execKillMarkSweepDone s = _
    rw [execKillMarkSweepDone, run_started]
    simp only [hcur']
    rfl
  · change execCommitComplete s = _
    rw [execCommitComplete, run_started]
    simp only [hcur']
    rfl

end

end Sys2Proof.Machine
end

section
/-! The statement on the life of a commit. -/

namespace Sys2Proof.Machine

/-- Settles O28: one lemma per step of a commit; what is applied at T_c leaves the window (`applyCommit_window`) and the frame
(`applyCommit_unamended`). -/
theorem commitsRunToCompletion : Obligations.CommitsRunToCompletion := by
  unfold Obligations.CommitsRunToCompletion
  refine ⟨fun s c i hcur hphase hwait hrun => exec_commitDeliveryAck_running hcur hphase hwait hrun,
    fun s c i hcur hphase hwait hrun hstopped => exec_commitDeliveryAck_stale hcur hphase hwait hrun hstopped,
    fun s c x b hcur hphase hwait hrun hbase hnow htc => exec_commitRegistration_confirms hcur hphase hwait hrun hbase hnow htc,
    fun s c x b hcur hphase hwait hrun hbase hnow htc horigin hwaiting hhier hredo =>
      exec_commitRegistration_late hcur hphase hwait hrun hbase hnow htc horigin hwaiting hhier hredo,
    fun s c hcur hphase => exec_commitInstant_window hcur hphase,
    fun s c hcur hphase himps hwrites hmask => exec_oldValueWindowClose_eq hcur hphase _ ?_,
    fun s c hcur hphase hany => exec_oldValueWindowClose_eq hcur hphase _ ?_,
    fun s c hcur hphase harmed => ?_, fun s c hcur hphase => ⟨_, exec_replicaWriteDone_eq hcur hphase, ?_⟩,
    fun s c hcur hphase => exec_killMarkSweepDone_eq hcur hphase,
    fun s c hcur hphase horigin hwaiting hhier hredo hup => exec_commitComplete_frees hcur hphase horigin hwaiting hhier hredo hup,
    fun s c mask o hcur hphase hwaiting hup => exec_commitComplete_next hcur hphase hwaiting hup, fun s hcur => exec_commitSteps_idle hcur⟩
  · simp [himps, hwrites, hmask]
  · refine if_pos ?_
    rcases hany with h | h | h <;> simp [h]
  · rw [exec_replicaWriteDone_eq hcur hphase, State.itemsWritten_of_unarmed (s := s.started) harmed]
    exact congrArg Host.Outcome.next (State.updCur_of (s := s.started) hcur _)
  · obtain ⟨hkept, hactive, hframe⟩ := s.started.itemsWritten_keeps c
    rw [State.updCur_of (hkept.trans hcur)]
    exact ⟨rfl, hactive, hframe⟩

end Sys2Proof.Machine
end

section
/-! SUPPORT. What is in force after the commit instant (R97, R104): the epoch, the register cells, and the software part of the imposition table. -/

namespace Sys2Proof.Machine

/-! ### Tables with an item set -/

theorem sparse_mem_insert {κ α : Type} (code : κ → Nat) (k : κ) (a : α) (e : κ × α) :
    ∀ l : List (κ × α), e ∈ Sparse.insert code l k a ↔ e = (k, a) ∨ e ∈ l
  | [] => by simp [Sparse.insert]
  | d :: l => by
    unfold Sparse.insert
    split
    · rw [List.mem_cons]
    · rw [List.mem_cons, List.mem_cons, sparse_mem_insert code k a e l]
      tauto

/-- An item of another key is set nowhere and erased nowhere. -/
theorem sparse_mem_set_of_ne {κ α : Type} [DecidableEq κ] (code : κ → Nat) {k : κ} (a : α) {e : κ × α} (h : e.1 ≠ k) (l : List (κ × α)) :
    e ∈ Sparse.set code l k a ↔ e ∈ l := by
  rw [Sparse.set, sparse_mem_insert, Sparse.erase, List.mem_filter]
  refine ⟨fun he => ?_, fun he => .inr ⟨he, by simp [h]⟩⟩
  rcases he with rfl | he
  · exact absurd rfl h
  · exact he.1

theorem impSet_mem_of_ne {e : ImpKey × Nat} : ∀ (l : List (ImpKey × Nat)) (v : Imp), (∀ d ∈ l, e.1 ≠ d.1) → (e ∈ impSet v l ↔ e ∈ v)
  | [], _, _ => .rfl
  | d :: l, _, h => (impSet_mem_of_ne l _ fun x hx => h x (List.mem_cons_of_mem _ hx)).trans (sparse_mem_set_of_ne _ d.2 (h d (by simp)) _)

/-! ### The hierarchy's items (R378, R384) -/

/-- The hierarchy's entries begin at 0xF_0000. -/
theorem State.hierItems_entries (s : State) (hier : List HierRec) : ∀ d ∈ s.hierItems hier, d.1.typ = 1 → 0xF0000 ≤ d.1.index := by
  intro d hd htyp
  simp only [State.hierItems, List.mem_append, List.mem_map, List.mem_flatten] at hd
  rcases hd with (⟨r, _, rfl⟩ | ⟨e, _, rfl⟩) | ⟨l, ⟨e, _, rfl⟩, hd⟩
  · exact absurd htyp (by simp [targetKey])
  · exact Nat.le_add_right _ _
  · simp only [List.mem_cons, List.not_mem_nil, or_false] at hd
    rcases hd with rfl | rfl
    · exact (Nat.le_add_right _ _).trans (Nat.le_add_right _ _)
    · exact absurd htyp (by simp [targetKey])

/-- The hierarchy's items leave the software entries of a table as they are. -/
theorem State.mem_withHier_software (s : State) (v : Imp) (hier : List HierRec) {e : ImpKey × Nat} (htyp : e.1.typ = 1) (hindex : e.1.index < 0xEFC00) :
    e ∈ s.withHier v hier ↔ e ∈ v := by
  have hne : ∀ d ∈ s.hierItems hier, e.1 ≠ d.1 := fun d hd h => by
    have hhigh := s.hierItems_entries hier d hd (h ▸ htyp)
    rw [← h] at hhigh
    omega
  rw [State.withHier, impSet_mem_of_ne _ _ hne, List.mem_filter]
  refine ⟨And.left, fun he => ⟨he, ?_⟩⟩
  simp only [htyp, Bool.not_eq_true', Bool.or_eq_false_iff, Bool.and_eq_false_iff, decide_eq_false_iff_not, beq_eq_false_iff_ne, ne_eq]
  exact ⟨.inr (by omega), .inl (by decide)⟩

/-! ### The register cells -/

theorem foldl_setCells_notin : ∀ (l : List RegCell) (s : State) (f : Fld) (i : Nat), (∀ e ∈ l, ⟨f, i⟩ ≠ e.1) →
    (l.foldl (fun s c => s.setReg c.1.fld c.1.idx c.2) s).reg f i = s.reg f i
  | [], _, _, _, _ => rfl
  | e :: l, s, f, i, h => (foldl_setCells_notin l _ f i fun d hd => h d (List.mem_cons_of_mem _ hd)).trans
      (s.reg_setReg_ne _ fun hk => h e (by simp) (by rw [hk.1, hk.2]))

/-- Of cells that write each field once, every one holds its value. -/
theorem foldl_setCells_mem : ∀ (l : List RegCell) (s : State), (l.map (·.1)).Nodup → ∀ e ∈ l,
    (l.foldl (fun s c => s.setReg c.1.fld c.1.idx c.2) s).reg e.1.fld e.1.idx = e.2 % 2 ^ e.1.fld.width
  | [], _, _, _, he => absurd he List.not_mem_nil
  | d :: l, s, hnodup, e, he => by
    rw [List.map_cons, List.nodup_cons] at hnodup
    obtain ⟨hd, hl⟩ := hnodup
    rcases List.mem_cons.1 he with rfl | he
    · refine (foldl_setCells_notin l _ _ _ fun x hx h => hd ?_).trans (State.reg_setReg_self _ _ _ _)
      exact List.mem_map.2 ⟨x, hx, h.symm⟩
    · exact foldl_setCells_mem l _ hl e he

/-- The fields that a commit stages (R96). -/
def isStagedFld (f : Fld) : Bool := f.scope != 0

theorem gateFlds_not_staged : ∀ f ∈ [Fld.GATE_START_START, .GATE_STATUS_LATE_START, .GATE_STATUS_STATE, .GATE_STATUS_ENTRY, .GATE_STATUS_GATES],
    isStagedFld f = false := by decide

theorem gateFlds_not_epoch : ∀ f ∈ [Fld.GATE_START_START, .GATE_STATUS_LATE_START, .GATE_STATUS_STATE, .GATE_STATUS_ENTRY, .GATE_STATUS_GATES],
    isEpochFld f = false := by decide

/-- Cells of staged fields leave the epoch alone. -/
theorem State.applyCells_epoch (s : State) {cells : List RegCell} (hscope : ∀ e ∈ cells, e.1.fld.scope ≠ 0) (tc : Nat) :
    (s.applyCells cells tc).shows isEpochFld = s.shows isEpochFld := by
  have hfld : ∀ f : Fld, f.scope ≠ 0 → isEpochFld f = false := by
    intro f hf
    refine Bool.eq_false_iff.2 fun he => hf ?_
    have hcases : f = .CMP_EPOCH_EPOCH ∨ f = .CMP_COMMIT_TIME_T_C := by simpa using he
    rcases hcases with rfl | rfl <;> rfl
  refine ((s.applyCells_keeps cells tc).2 _ gateFlds_not_epoch).trans ?_
  have hfold : ∀ (l : List RegCell) (u : State), (∀ e ∈ l, e.1.fld.scope ≠ 0) →
      (l.foldl (fun s c => s.setReg c.1.fld c.1.idx c.2) u).shows isEpochFld = u.shows isEpochFld := by
    intro l
    induction l with
    | nil => exact fun _ _ => rfl
    | cons e l ih =>
      exact fun u h => (ih _ fun d hd => h d (List.mem_cons_of_mem _ hd)).trans (u.setReg_shows _ _ (hfld _ (h e (by simp))))
  exact hfold cells s hscope

/-! ### The instant -/

/-- The epoch after a commit of staged fields (R104). -/
theorem State.applyCommit_epoch (s : State) {c : Commit} (hscope : ∀ e ∈ c.cells, e.1.fld.scope ≠ 0) :
    (s.applyCommit c).reg .CMP_EPOCH_EPOCH 0 = (s.reg .CMP_EPOCH_EPOCH 0 + 1) % 2 ^ Fld.CMP_EPOCH_EPOCH.width ∧
      (s.applyCommit c).reg .CMP_COMMIT_TIME_T_C 0 = c.tc % 2 ^ Fld.CMP_COMMIT_TIME_T_C.width := by
  have hopens : (s.epochOpens c).reg .CMP_EPOCH_EPOCH 0 = (s.reg .CMP_EPOCH_EPOCH 0 + 1) % 2 ^ Fld.CMP_EPOCH_EPOCH.width ∧
      (s.epochOpens c).reg .CMP_COMMIT_TIME_T_C 0 = c.tc % 2 ^ Fld.CMP_COMMIT_TIME_T_C.width :=
    ⟨(State.reg_setReg_ne _ _ (by simp)).trans (State.reg_setReg_self _ _ _ _), State.reg_setReg_self _ _ _ _⟩
  have hshows : (s.applyCommit c).shows isEpochFld = (s.epochOpens c).shows isEpochFld := by
    rw [State.applyCommit_eq]
    generalize hu : ((s.epochOpens c).hierWritten c).applyParts c.parts c.tc = u
    have hview : u.epochView = (s.epochOpens c).epochView := by
      rw [← hu, State.applyParts_epochView, State.hierWritten_epochView]
    have hcells := u.applyCells_epoch hscope c.tc
    generalize u.applyCells c.cells c.tc = v at *
    obtain ⟨hregs, -⟩ := v.tablesSwitch_keeps s.com.active c
    generalize v.tablesSwitch s.com.active c = w at *
    calc (w.applyOrigin c).pruneRemoved.shows isEpochFld = (w.applyOrigin c).shows isEpochFld := rfl
      _ = w.shows isEpochFld := congrArg Prod.fst (w.applyOrigin_epochView c)
      _ = v.shows isEpochFld := State.shows_of_regs hregs _
      _ = u.shows isEpochFld := hcells
      _ = (s.epochOpens c).shows isEpochFld := congrArg Prod.fst hview
  exact ⟨(State.reg_of_shows hshows rfl 0).trans hopens.1, (State.reg_of_shows hshows rfl 0).trans hopens.2⟩

/-- What a commit of COMMIT without amendments puts in force. -/
theorem State.applyCommit_of_command (s : State) {c : Commit} (hparts : c.parts = []) (hwrites : c.writes = []) (horigin : c.origin = .command)
    (hnodup : (c.cells.map (·.1)).Nodup) (hscope : ∀ e ∈ c.cells, e.1.fld.scope ≠ 0) :
    (∀ e ∈ c.cells, (s.applyCommit c).reg e.1.fld e.1.idx = e.2 % 2 ^ e.1.fld.width) ∧
      (∃ u : State, (s.applyCommit c).com.active = u.withHier (applyImp s.com.active c.imps) u.com.hier) ∧
      (bit c.mask 0 = true → (s.applyCommit c).com.staged = []) := by
  have happly : s.applyCommit c = (((s.epochOpens c).applyCells c.cells c.tc).tablesSwitch s.com.active c).pruneRemoved := by
    have horigin' : ∀ u : State, u.applyOrigin c = u := fun u => by simp only [State.applyOrigin, horigin]
    rw [State.applyCommit_eq, hparts, horigin', State.hierWritten, hwrites]
    rfl
  obtain ⟨-, hcells⟩ := (s.epochOpens c).applyCells_keeps c.cells c.tc
  have hvalues := foldl_setCells_mem c.cells (s.epochOpens c) hnodup
  rw [happly]
  have hcells := hcells isStagedFld gateFlds_not_staged
  generalize (s.epochOpens c).applyCells c.cells c.tc = v at *
  obtain ⟨hregs, hcom⟩ := v.tablesSwitch_keeps s.com.active c
  generalize v.tablesSwitch s.com.active c = w at *
  refine ⟨fun e he => ?_, ⟨v, congrArg Commits.active hcom⟩, fun hmask => ?_⟩
  · have hstaged : isStagedFld e.1.fld = true := bne_iff_ne.2 (hscope e he)
    calc w.pruneRemoved.reg e.1.fld e.1.idx = w.reg e.1.fld e.1.idx := rfl
      _ = v.reg e.1.fld e.1.idx := State.reg_of_shows (State.shows_of_regs hregs isStagedFld) hstaged _
      _ = _ := (State.reg_of_shows hcells hstaged _).trans (hvalues e he)
  · refine (congrArg Commits.staged hcom).trans ?_
    simp [Commits.switched, hmask, horigin]

end Sys2Proof.Machine
end

section
/-! The statement on the values in force after the commit instant. -/

namespace Sys2Proof.Machine

/-- Settles O29: the epoch fields are written at the instant alone (`applyCommit_epoch`); a commit of COMMIT without amendments is its
register cells and its table changes (`applyCommit_of_command`). -/
theorem commitInstantAdvancesTheEpoch : Obligations.CommitInstantAdvancesTheEpoch := by
  unfold Obligations.CommitInstantAdvancesTheEpoch
  refine ⟨fun s c hcur hphase hscope => ?_, fun s c hcur hphase hparts hwrites horigin hscope hnodup => ?_⟩
  · have hreg : (s.started.atDev c.tc).reg .CMP_EPOCH_EPOCH 0 = s.reg .CMP_EPOCH_EPOCH 0 := by
      rw [State.atDev_eq]
      rfl
    obtain ⟨hepoch, htime⟩ := (s.started.atDev c.tc).applyCommit_epoch hscope
    obtain ⟨hold, hwindow⟩ := (s.started.atDev c.tc).applyCommit_window c
    rw [hreg] at hepoch
    exact ⟨_, exec_commitInstant_eq hcur hphase, hepoch, htime, by rw [hold]; rfl, hwindow⟩
  · have hactive : (s.started.atDev c.tc).com.active = s.com.active := by
      rw [State.atDev_eq]
      rfl
    obtain ⟨hcells, ⟨u, htable⟩, hstaged⟩ := (s.started.atDev c.tc).applyCommit_of_command hparts hwrites horigin hnodup hscope
    have hframe := (State.applyCommit_frame_of_no_parts (s.started.atDev c.tc) hparts).trans (State.atDev_frame s.started c.tc)
    rw [hactive] at htable
    refine ⟨_, exec_commitInstant_eq hcur hphase, hcells, fun e he htyp hindex => ?_, fun e he htyp hindex => ?_, hstaged,
      congrArg Frame.flash hframe, congrArg Frame.part hframe, congrArg Frame.mem hframe⟩
    · rw [htable]
      exact (u.mem_withHier_software _ _ htyp hindex).2 he
    · rw [htable] at he
      exact (u.mem_withHier_software _ _ htyp hindex).1 he

end Sys2Proof.Machine
end

section
/-! SUPPORT. What runs after P1 and P2 (R88, R89, R131, R154): the firmware copy, and the bank whose forme verifies. -/

namespace Sys2Proof.Machine

theorem State.setRegs_boot : ∀ (l : List (Fld × Nat × Nat)) (s : State), (s.setRegs l).boot = s.boot
  | [], _ => rfl
  | _ :: l, _ => State.setRegs_boot l _

theorem State.toPhase_phase (s : State) {p : Nat} (hp : p < 8) : (s.toPhase p).phase = p := by
  have hreg : (s.toPhase p).phase = p % 2 ^ Fld.SUP_COL_PHASE_PHASE.width := s.reg_setReg_self .SUP_COL_PHASE_PHASE 0 p
  rw [hreg]
  exact Nat.mod_eq_of_lt hp

/-! ### The firmware copy (R154) -/

/-- The firmware copy of the higher version, copy 0 on equal versions. -/
def Flash.higherFw (f : Flash) : FwBundle := if fwVersion f.fw0 < fwVersion f.fw1 then f.fw1 else f.fw0

/-- The other one. -/
def Flash.lowerFw (f : Flash) : FwBundle := if fwVersion f.fw0 < fwVersion f.fw1 then f.fw0 else f.fw1

/-- The system keys are derived (R556). -/
def State.sysKeysReady (s : State) : State :=
  (List.range 6).foldl (fun s j => s.setRegs [(.BAL_SYS_SLOT_KIND, j, sysKind j), (.BAL_SYS_SLOT_READY, j, 1)]) s

theorem State.sysKeysReady_boot (s : State) : s.sysKeysReady.boot = s.boot := foldl_keeps State.boot (fun s _ => State.setRegs_boot _ s) _ s

theorem State.sysKeysReady_frame (s : State) : s.sysKeysReady.frame = s.frame := foldl_frame (fun s _ => State.setRegs_frame s _) _ s

/-- A firmware copy runs, and P2 begins. -/
def State.firmwareRuns (s : State) (bad : Option Nat) (fw : FwBundle) : State :=
  let s := s.updBoot (fun b => { b with badFw := bad })
  let s := s.updBoot (fun b => { b with fwSup := fw.supDigest, fwBal := fw.balDigest, prefAtP2B := s.flash.prefB })
  let s := s.sysKeysReady
  let s := s.setReg .BAL_STATUS_RNG_OK 0 (flag !(s.flt.causes.any (fun c => c.source == 0x0D)))
  (s.toPhase 2).setRegs [(.SUP_COL_PROGRESS_CODE, 0, 0x0201), (.CMP_FORME_STATUS_PREF, 0, flag s.flash.prefB),
    (.CMP_ROLLBACK_COUNTER, 0, s.flash.rollback)]

theorem State.firmwareRuns_spec (s : State) (bad : Option Nat) (fw : FwBundle) :
    (s.firmwareRuns bad fw).phase = 2 ∧ (s.firmwareRuns bad fw).reg .SUP_COL_PROGRESS_CODE 0 = 0x0201 ∧ (s.firmwareRuns bad fw).boot.fwSup = fw.supDigest ∧
      (s.firmwareRuns bad fw).boot.fwBal = fw.balDigest ∧ (s.firmwareRuns bad fw).boot.badFw = bad ∧
      (s.firmwareRuns bad fw).reg .CMP_ROLLBACK_COUNTER 0 = s.flash.rollback % 2 ^ 32 ∧ (s.firmwareRuns bad fw).frame = s.frame := by
  unfold State.firmwareRuns
  dsimp only
  generalize hu : s.updBoot _ = u
  have hframe : u.frame = s.frame := by rw [← hu, State.updBoot_frame]
  generalize hv : u.updBoot _ = v
  have hboot : v.boot.fwSup = fw.supDigest ∧ v.boot.fwBal = fw.balDigest ∧ v.boot.badFw = bad := by
    rw [← hv, ← hu]
    exact ⟨rfl, rfl, rfl⟩
  have hframe' : v.frame = s.frame := by rw [← hv, State.updBoot_frame, hframe]
  have hkboot := v.sysKeysReady_boot
  have hkframe := v.sysKeysReady_frame
  generalize v.sysKeysReady = w at *
  have hrollback : w.flash.rollback = s.flash.rollback := congrArg (fun f => f.flash.rollback) (hkframe.trans hframe')
  obtain ⟨hsup, hbal, hbad⟩ := hboot
  rw [← hkboot] at hsup hbal hbad
  refine ⟨?_, ?_, ?_, ?_, ?_, ?_, ?_⟩
  · exact (State.reg_setRegs_notin _ _ _ _ (by simp)).trans (State.toPhase_phase _ (by decide))
  · exact (State.reg_setRegs_notin [(.CMP_FORME_STATUS_PREF, 0, _), (.CMP_ROLLBACK_COUNTER, 0, _)] _ _ _ (by simp)).trans (State.reg_setReg_self _ _ _ _)
  · rw [State.setRegs_boot]
    exact hsup
  · rw [State.setRegs_boot]
    exact hbal
  · rw [State.setRegs_boot]
    exact hbad
  · refine (State.reg_setReg_self _ _ _ _).trans ?_
    exact congrArg (· % 2 ^ 32) hrollback
  · rw [State.setRegs_frame, State.toPhase_frame, State.setReg_frame, hkframe, hframe']

section
variable {s : State}

/-- The higher copy verifies. -/
theorem exec_firmwareVerified_higher (h : s.booting 1 = true) (hgood : fwGood s.flash.higherFw = true) :
    exec .firmwareVerified s = .next (s.started.firmwareRuns none s.flash.higherFw) := by
  change execFirmwareVerified s = _
  rw [execFirmwareVerified, run_started, if_pos (show s.started.booting 1 = true from h)]
  have hhi : (if decide (fwVersion s.started.flash.fw0 < fwVersion s.started.flash.fw1) = true then s.started.flash.fw1 else s.started.flash.fw0) =
      s.flash.higherFw := by
    simp only [decide_eq_true_eq]
    rfl
  simp only [hhi, hgood, Bool.not_true, Bool.false_and, Bool.false_eq_true, if_true, if_false]
  rfl

/-- The lower copy runs, and the higher one is named. -/
theorem exec_firmwareVerified_lower (h : s.booting 1 = true) (hbad : fwGood s.flash.higherFw = false) (hgood : fwGood s.flash.lowerFw = true) :
    exec .firmwareVerified s =
      .next (s.started.firmwareRuns (some (if fwVersion s.flash.fw0 < fwVersion s.flash.fw1 then 1 else 0)) s.flash.lowerFw) := by
  change execFirmwareVerified s = _
  rw [execFirmwareVerified, run_started, if_pos (show s.started.booting 1 = true from h)]
  have hhi : (if decide (fwVersion s.started.flash.fw0 < fwVersion s.started.flash.fw1) = true then s.started.flash.fw1 else s.started.flash.fw0) =
      s.flash.higherFw := by
    simp only [decide_eq_true_eq]
    rfl
  have hlo : (if decide (fwVersion s.started.flash.fw0 < fwVersion s.started.flash.fw1) = true then s.started.flash.fw0 else s.started.flash.fw1) =
      s.flash.lowerFw := by
    simp only [decide_eq_true_eq]
    rfl
  have hone : (if decide (fwVersion s.started.flash.fw0 < fwVersion s.started.flash.fw1) = true then 1 else 0) =
      if fwVersion s.flash.fw0 < fwVersion s.flash.fw1 then 1 else 0 := by
    simp only [decide_eq_true_eq]
    rfl
  simp only [hhi, hlo, hone, hbad, hgood, Bool.not_true, Bool.not_false, Bool.true_and, Bool.false_eq_true, if_true, if_false]
  rfl

end

/-! ### The bank under test (R88, R89, R91) -/

/-- The result of the bank under test: EMPTY and BAD banks are not run. -/
def State.bankResult (s : State) (b : Bool) : Nat :=
  match (s.bank b).state, (s.bank b).image with
  | .bad, _ => 0
  | .empty, _ => 6
  | _, none => 6
  | _, some im => s.formeResult im

/-- The field of CMP_FORME_STATUS that shows a bank's result. -/
def bankFld (b : Bool) : Fld := if b then .CMP_FORME_STATUS_BANK_B else .CMP_FORME_STATUS_BANK_A

/-- The bank's result shows, and a bank that fails is BAD. -/
def State.bankTested (s : State) (b : Bool) (res : Nat) : State :=
  let s := s.setReg (bankFld b) 0 res
  if 2 ≤ res && res ≤ 5 then s.markBank b .bad else s

theorem State.bankResult_idle {s : State} {b : Bool} (h : (s.bank b).state = .empty ∨ (s.bank b).state = .bad) :
    s.bankResult b = if (s.bank b).state = .bad then 0 else 6 := by
  rcases h with h | h <;> simp [State.bankResult, h]

theorem State.bankResult_image {s : State} {b : Bool} {im : Image} (h : (s.bank b).state = .trial ∨ (s.bank b).state = .confirmed)
    (him : (s.bank b).image = some im) : s.bankResult b = s.formeResult im := by
  rcases h with h | h <;> simp [State.bankResult, h, him]

/-- A forme that does not verify has one of the four codes of a bank that fails (R83, R85, R86). -/
theorem State.formeResult_range (s : State) (im : Image) (h : s.formeResult im ≠ 1) : 2 ≤ s.formeResult im ∧ s.formeResult im ≤ 5 := by
  have hverify : s.verifyImage im = 1 ∨ s.verifyImage im = 2 ∨ s.verifyImage im = 4 := by
    unfold State.verifyImage
    repeat' split
    all_goals omega
  revert h
  unfold State.formeResult
  dsimp only
  split
  · omega
  · split
    · rename_i hv
      have hne : s.verifyImage im ≠ 1 := by simpa using hv
      omega
    · split
      · omega
      · split
        · exact fun h => absurd rfl h
        · omega

theorem State.bankTested_frame {s : State} {b : Bool} {res : Nat} (h : ¬(2 ≤ res ∧ res ≤ 5)) : (s.bankTested b res).frame = s.frame := by
  have hno : (decide (2 ≤ res) && decide (res ≤ 5)) = false := by simpa using h
  simp [State.bankTested, hno]

theorem State.bankTested_marked {s : State} {b : Bool} {res : Nat} (h : 2 ≤ res ∧ res ≤ 5) : (s.bankTested b res).flash = (s.markBank b .bad).flash := by
  have hyes : (decide (2 ≤ res) && decide (res ≤ 5)) = true := by simpa using h
  simp only [State.bankTested, hyes, if_true]
  rfl

/-- What the test of a bank leaves: the registers but for its result, the boot state and the fuses. -/
theorem State.bankTested_keeps (s : State) (b : Bool) (res : Nat) : (s.bankTested b res).regs = (s.setReg (bankFld b) 0 res).regs ∧
    (s.bankTested b res).boot = s.boot ∧ (s.bankTested b res).part = s.part ∧ (s.bankTested b res).isl = s.isl := by
  unfold State.bankTested
  dsimp only
  split
  · cases b <;> exact ⟨rfl, rfl, rfl, rfl⟩
  · exact ⟨rfl, rfl, rfl, rfl⟩

theorem State.bankTested_reg (s : State) (b : Bool) {res : Nat} (hres : res < 8) : (s.bankTested b res).reg (bankFld b) 0 = res := by
  rw [State.reg, (s.bankTested_keeps b res).1]
  refine (State.reg_setReg_self _ _ _ _).trans ?_
  cases b <;> exact Nat.mod_eq_of_lt hres

theorem State.bankTested_reg_ne (s : State) (b : Bool) (res : Nat) {f : Fld} (i : Nat) (hf : f ≠ bankFld b) : (s.bankTested b res).reg f i = s.reg f i := by
  rw [State.reg, (s.bankTested_keeps b res).1]
  exact State.reg_setReg_ne _ _ fun h => hf h.1

theorem bankFld_ne (b : Bool) : Fld.SUP_COL_PHASE_PHASE ≠ bankFld b ∧ Fld.SUP_COL_PROGRESS_CODE ≠ bankFld b ∧ Fld.SUP_DOM_STATUS_ON ≠ bankFld b := by
  cases b <;> exact ⟨by decide, by decide, by decide⟩

section
variable {s : State} {b : Bool}

/-- Whether P2 tests its second bank (R131). -/
def State.secondBank (s : State) : Bool := s.reg .SUP_COL_PROGRESS_CODE 0 == 0x0202

/-- What follows the test of a bank: its forme runs, or P2 goes on with the other bank, or fails. -/
def State.bankEnds (s : State) (b second : Bool) (res : Nat) : State :=
  let s := s.bankTested b res
  match res, (s.bank b).image with
  | 1, some im => s.runForme b im second
  | _, _ =>
    if second then s.failBringup 0x1201 (s.reg .CMP_FORME_STATUS_BANK_A 0 + 8 * s.reg .CMP_FORME_STATUS_BANK_B 0)
    else s.setReg .SUP_COL_PROGRESS_CODE 0 0x0202

theorem exec_bankVerifyDone_eq (h : s.booting 2 = true) (hb : b = (s.boot.prefAtP2B != s.secondBank)) :
    exec .bankVerifyDone s = .next (s.started.bankEnds b s.secondBank (s.bankResult b)) := by
  rw [hb]
  exact congrArg Host.Outcome.next (if_pos h)

theorem State.bankEnds_of_pass {im : Image} (him : (s.bank b).image = some im) (second : Bool) :
    s.bankEnds b second 1 = (s.bankTested b 1).runForme b im second := by
  have him' : ((s.bankTested b 1).bank b).image = some im := him
  simp only [State.bankEnds, him']

theorem State.bankEnds_of_fail {res : Nat} (hres : res ≠ 1) (second : Bool) : ∃ detail, s.bankEnds b second res =
    if second then (s.bankTested b res).failBringup 0x1201 detail else (s.bankTested b res).setReg .SUP_COL_PROGRESS_CODE 0 0x0202 := by
  unfold State.bankEnds
  dsimp only
  split
  · exact absurd rfl hres
  · exact ⟨_, rfl⟩

/-- The first bank does not run: the other one is under test, and the first one's result shows. -/
theorem exec_bankVerifyDone_next (h : s.booting 2 = true) (hcode : s.reg .SUP_COL_PROGRESS_CODE 0 = 0x0201) (hres : s.bankResult s.boot.prefAtP2B ≠ 1)
    (hrange : s.bankResult s.boot.prefAtP2B < 8) : ∃ t, exec .bankVerifyDone s = .next t ∧ t.reg .SUP_COL_PROGRESS_CODE 0 = 0x0202 ∧ t.phase = 2 ∧
      t.reg (bankFld s.boot.prefAtP2B) 0 = s.bankResult s.boot.prefAtP2B ∧
      t.frame = (s.started.bankTested s.boot.prefAtP2B (s.bankResult s.boot.prefAtP2B)).frame := by
  have hfirst : s.secondBank = false := by rw [State.secondBank, hcode]; rfl
  have hexec := exec_bankVerifyDone_eq (b := s.boot.prefAtP2B) h (by rw [hfirst, Bool.bne_false])
  obtain ⟨detail, hends⟩ := State.bankEnds_of_fail (s := s.started) (b := s.boot.prefAtP2B) hres s.secondBank
  rw [hends, hfirst] at hexec
  obtain ⟨hphase, hprogress, -⟩ := bankFld_ne s.boot.prefAtP2B
  refine ⟨_, hexec, State.reg_setReg_self _ _ _ _, ?_, ?_, State.setReg_frame _ _ _ _⟩
  · exact (State.reg_setReg_ne _ _ (by simp)).trans ((State.bankTested_reg_ne s.started _ _ 0 hphase).trans (State.phase_of_booting h))
  · exact (State.reg_setReg_ne _ _ fun e => hprogress e.1.symm).trans (State.bankTested_reg s.started _ hrange)

end

/-! ### The bank runs (R37, R128, R776) -/

/-- Islands that are off already read OFF at once. -/
def State.readOff (s : State) (l : List Nat) : State :=
  l.foldl (fun s n => if (islDomains n).any (fun d => s.on .SUP_DOM_STATUS_ON d) then s else s.setIsl n 0) s

theorem EntersOnly.readOff (s : State) (l : List Nat) : EntersOnly s (s.readOff l) :=
  .foldl (fun s n => by
    split
    · exact .refl s
    · exact .setIsl s n 0) l s

theorem EntersOnly.keeps {s t : State} : EntersOnly s t → t.boot = s.boot ∧ t.com = s.com ∧ t.isl = s.isl := by
  rintro ⟨_, _, rfl, -⟩
  exact ⟨rfl, rfl, rfl⟩

theorem EntersOnly.phase {s t : State} : EntersOnly s t → t.phase = s.phase := by
  rintro ⟨_, _, -, h⟩
  exact h _ _ (by simp)

/-- What the switched islands of a plan and the others are. -/
theorem filter_unplanned (p : Nat → Bool) (l : List Nat) : l.filter (fun n => !(l.filter p).contains n) = l.filter (fun n => !p n) :=
  List.filter_congr fun n hn => by simp [hn]

theorem State.domsOff_congr {s t : State} (h : ∀ d, t.on .SUP_DOM_STATUS_ON d = s.on .SUP_DOM_STATUS_ON d) (l : List Nat) : t.domsOff l = s.domsOff l := by
  simp only [State.domsOff, h]

/-- The registers that an accepted bank writes. -/
theorem State.runForme_spec (s : State) (b : Bool) (im : Image) (fallback : Bool) :
    (s.runForme b im fallback).phase = 3 ∧ (s.runForme b im fallback).boot.running = some im ∧ (s.runForme b im fallback).boot.runB = b ∧
      (s.runForme b im fallback).com.hier = im.hier ∧ (s.runForme b im fallback).com.faults = im.flts ∧
      (s.runForme b im fallback).isl.switchQ = s.isl.switchQ ++ s.domsOff (switched.filter (fun n => (powerRec im.power n).state != 2)) ++
        (((switched.filter (fun n => (powerRec im.power n).state == 2)).map islDomains).flatten).map (fun d => { dom := d, on := true }) := by
  unfold State.runForme
  dsimp only
  rw [filter_unplanned]
  generalize hu : State.setRegs s _ = u
  have hislu : u.isl = s.isl := hu ▸ State.setRegs_isl _ s
  have honu : ∀ d, u.on .SUP_DOM_STATUS_ON d = s.on .SUP_DOM_STATUS_ON d := fun d => by
    rw [State.on, State.on, ← hu, State.reg_setRegs_notin _ _ _ _ (by simp)]
  generalize hv : State.updCom _ _ = v
  have hbegun := State.toPhase_phase (u.updBoot fun x => { x with runB := b, running := some im }) (p := 3) (by decide)
  have hv' : v.phase = 3 ∧ v.boot.running = some im ∧ v.boot.runB = b ∧ v.com.hier = im.hier ∧ v.com.faults = im.flts ∧ v.isl = u.isl := by
    rw [← hv]
    exact ⟨hbegun, rfl, rfl, rfl, rfl, rfl⟩
  have honv : ∀ d, v.on .SUP_DOM_STATUS_ON d = s.on .SUP_DOM_STATUS_ON d := fun d => by
    rw [← honu d, ← hv]
    exact congrArg (· == 1) (State.reg_setReg_ne (f := .SUP_COL_PHASE_PHASE) (i := 0) (State.updBoot u _) 3 (by simp))
  obtain ⟨hphase, hrunning, hrunB, hhier, hflts, hisl⟩ := hv'
  have hreads := EntersOnly.readOff v (switched.filter fun n => !(powerRec im.power n).state == 2)
  obtain ⟨hboot, hcom, hisl'⟩ := hreads.keeps
  refine ⟨hreads.phase.trans hphase, ?_, ?_, ?_, ?_, ?_⟩
  · exact (congrArg Boot.running hboot).trans hrunning
  · exact (congrArg Boot.runB hboot).trans hrunB
  · exact (congrArg Commits.hier hcom).trans hhier
  · exact (congrArg Commits.faults hcom).trans hflts
  · rw [State.domsOff_congr honv]
    refine congrArg (fun q => q ++ _ ++ _) ?_
    exact congrArg Islands.switchQ (hisl'.trans (hisl.trans hislu))

end Sys2Proof.Machine
end

section
/-! The statement on the firmware copy and the bank that run. -/

namespace Sys2Proof.Machine

/-- Settles O16: the copy that runs is `higherFw` or `lowerFw` (`firmwareRuns_spec`); a bank that passes runs its forme (`runForme_spec`),
one that does not leaves P2 with the second bank, or stalled (`failBringup_spec`). -/
theorem firmwareCopiesAndBanksAreChosen : Obligations.FirmwareCopiesAndBanksAreChosen := by
  unfold Obligations.FirmwareCopiesAndBanksAreChosen
  refine ⟨fun s h hle hgood => ?_, fun s h hlt hgood => ?_, fun s h hlt hbad hgood => ?_, fun s h hle hbad hgood => ?_,
    fun s b im h hb hstate him hres => ?_, fun s h hcode hstate => ?_, fun s im h hcode hstate him hres => ?_, fun s h hcode hstate => ?_⟩
  · have hhi : s.flash.higherFw = s.flash.fw0 := if_neg (by omega)
    have hexec := exec_firmwareVerified_higher h (by rw [hhi]; exact hgood)
    rw [hhi] at hexec
    obtain ⟨hphase, hprogress, hsup, hbal, hnone, hrollback, hframe⟩ := s.started.firmwareRuns_spec none s.flash.fw0
    exact ⟨_, hexec, hphase, hprogress, hsup, hbal, hnone, hrollback, hframe⟩
  · have hhi : s.flash.higherFw = s.flash.fw1 := if_pos hlt
    have hexec := exec_firmwareVerified_higher h (by rw [hhi]; exact hgood)
    rw [hhi] at hexec
    obtain ⟨hphase, -, hsup, hbal, hnone, -, hframe⟩ := s.started.firmwareRuns_spec none s.flash.fw1
    exact ⟨_, hexec, hphase, hsup, hbal, hnone, hframe⟩
  · have hhi : s.flash.higherFw = s.flash.fw1 := if_pos hlt
    have hlo : s.flash.lowerFw = s.flash.fw0 := if_pos hlt
    have hexec := exec_firmwareVerified_lower h (by rw [hhi]; exact hbad) (by rw [hlo]; exact hgood)
    rw [hlo, if_pos hlt] at hexec
    obtain ⟨hphase, -, hsup, -, hnamed, -, hframe⟩ := s.started.firmwareRuns_spec (some 1) s.flash.fw0
    exact ⟨_, hexec, hphase, hsup, hnamed, hframe⟩
  · have hnot : ¬fwVersion s.flash.fw0 < fwVersion s.flash.fw1 := by omega
    have hhi : s.flash.higherFw = s.flash.fw0 := if_neg hnot
    have hlo : s.flash.lowerFw = s.flash.fw1 := if_neg hnot
    have hexec := exec_firmwareVerified_lower h (by rw [hhi]; exact hbad) (by rw [hlo]; exact hgood)
    rw [hlo, if_neg hnot] at hexec
    obtain ⟨hphase, -, hsup, -, hnamed, -, hframe⟩ := s.started.firmwareRuns_spec (some 0) s.flash.fw1
    exact ⟨_, hexec, hphase, hsup, hnamed, hframe⟩
  · have hone : s.bankResult b = 1 := (State.bankResult_image hstate him).trans hres
    have hframe : (s.started.bankTested b 1).frame = s.frame := State.bankTested_frame (s := s.started) (by omega)
    obtain ⟨-, -, -, hisl⟩ := s.started.bankTested_keeps b 1
    have hon : ∀ d, (s.started.bankTested b 1).on .SUP_DOM_STATUS_ON d = s.on .SUP_DOM_STATUS_ON d := fun d =>
      congrArg (· == 1) (s.started.bankTested_reg_ne b 1 d (bankFld_ne b).2.2)
    obtain ⟨hphase, hrunning, hrunB, hhier, hflts, hq⟩ := (s.started.bankTested b 1).runForme_spec b im s.secondBank
    rw [hisl, State.domsOff_congr hon] at hq
    refine ⟨_, ?_, hphase, hrunning, hrunB, hhier, hflts, hq, by rw [State.runForme_frame, hframe]⟩
    rw [exec_bankVerifyDone_eq h hb, hone, State.bankEnds_of_pass (s := s.started) him]
  · have hresult := State.bankResult_idle hstate
    have hcase : s.bankResult s.boot.prefAtP2B = 0 ∨ s.bankResult s.boot.prefAtP2B = 6 := by
      rw [hresult]
      split
      · exact .inl rfl
      · exact .inr rfl
    obtain ⟨t, hexec, hprogress, hphase, hshown, hframe⟩ := exec_bankVerifyDone_next h hcode (by omega) (by omega)
    exact ⟨t, hexec, hprogress, hphase, hshown.trans hresult, hframe.trans (State.bankTested_frame (s := s.started) (by omega))⟩
  · have hresult := State.bankResult_image hstate him
    have hrange := s.formeResult_range im hres
    obtain ⟨t, hexec, hprogress, hphase, hshown, hframe⟩ := exec_bankVerifyDone_next h hcode (by omega) (by omega)
    refine ⟨t, hexec, hprogress, hphase, hshown.trans hresult, ?_, ?_⟩
    · exact (congrArg Frame.flash hframe).trans (State.bankTested_marked (s := s.started) (by omega))
    · exact (congrArg Frame.part hframe).trans (s.started.bankTested_keeps _ _).2.2.1
  · have hsecond : s.secondBank = true := by rw [State.secondBank, hcode]; rfl
    have hresult := State.bankResult_idle hstate
    have hne : s.bankResult (!s.boot.prefAtP2B) ≠ 1 := by
      rw [hresult]
      split <;> decide
    have hexec := exec_bankVerifyDone_eq (b := !s.boot.prefAtP2B) h (by rw [hsecond, Bool.bne_true])
    obtain ⟨detail, hends⟩ := State.bankEnds_of_fail (s := s.started) (b := !s.boot.prefAtP2B) hne s.secondBank
    rw [hends, hsecond] at hexec
    obtain ⟨-, -, hpart, -⟩ := s.started.bankTested_keeps (!s.boot.prefAtP2B) (s.bankResult (!s.boot.prefAtP2B))
    have hphase := (s.started.bankTested_reg_ne (!s.boot.prefAtP2B) (s.bankResult (!s.boot.prefAtP2B)) 0 (bankFld_ne _).1).trans (State.phase_of_booting h)
    obtain ⟨hends, -, hstall⟩ := State.failBringup_spec (s.started.bankTested (!s.boot.prefAtP2B) (s.bankResult (!s.boot.prefAtP2B))) 0x1201 detail
    exact ⟨_, hexec, hstall (.inl (le_of_eq hphase)), hends.code, hends.part.trans hpart⟩

end Sys2Proof.Machine
end

section
/-! SUPPORT. What a list of register writes keeps, and bring-up from its start: an attempt that begins at P1 (R131, R138, R149). -/

namespace Sys2Proof.Machine

/-- A list of writes keeps every register that it does not name. -/
theorem KeepsRegs.setRegs (s : State) (l : List (Fld × Nat × Nat)) : KeepsRegs s (s.setRegs l) (l.map fun e => (e.1, e.2.1)) :=
  fun f i h => State.reg_setRegs_notin l s f i fun e he hfi => h (List.mem_map.2 ⟨e, he, Prod.ext hfi.1.symm hfi.2.symm⟩)

theorem KeepsRegs.mono {s t : State} {l m : List (Fld × Nat)} (h : KeepsRegs s t l) (hlm : ∀ e ∈ l, e ∈ m) : KeepsRegs s t m :=
  fun f i hf => h f i fun he => hf (hlm _ he)

theorem State.beginP1_keeps (s : State) (n : Nat) :
    KeepsRegs s (s.beginP1 n) [(.SUP_COL_PHASE_PHASE, 0), (.SUP_COL_PHASE_STALLED, 0), (.SUP_COL_PHASE_ATTEMPT, 0),
      (.SUP_COL_PROGRESS_CODE, 0), (.SUP_THERM_TRIPS, 0)] :=
  KeepsRegs.setRegs s [(.SUP_COL_PHASE_PHASE, 0, 1), (.SUP_COL_PHASE_STALLED, 0, 0), (.SUP_COL_PHASE_ATTEMPT, 0, n),
    (.SUP_COL_PROGRESS_CODE, 0, 0x0101), (.SUP_THERM_TRIPS, 0, min 255 s.flash.trips)]

theorem State.beginP1_code (s : State) (n : Nat) : (s.beginP1 n).reg .SUP_COL_PROGRESS_CODE 0 = 0x0101 := by
  rw [State.beginP1, State.updBoot_reg]
  simp [State.setRegs_cons, State.reg_setReg, show Fld.SUP_COL_PROGRESS_CODE.width = 16 from rfl]

end Sys2Proof.Machine
end

section
/-! The statement on power-up and the release of SYS_RESET_N (R131, R132, R149, R160, R766). -/

namespace Sys2Proof.Machine

theorem exec_powerUp (s : State) : exec .powerUp s = execPowerUp s := rfl

theorem exec_powerUp_of_low {s : State} (hp : s.boot.pwrok = false) (hst : s.boot.stage = .powerLow) :
    exec .powerUp s = .next { s with
      out := [], boot := { s.boot with pwrok := true, sysResetN := true, stage := .none, origin := s.now, attemptAt := s.now, phaseAt := s.now } } := by
  simp [exec_powerUp, execPowerUp, run, State.updBoot, hp, hst]

/-- A thermal hold goes on when PWROK rises (R766). -/
theorem exec_powerUp_of_held {s : State} (hp : s.boot.pwrok = false) (hst : s.boot.stage ≠ .powerLow) :
    exec .powerUp s = .next { s with out := [], boot := { s.boot with pwrok := true, sysResetN := true } } := by
  simp [exec_powerUp, execPowerUp, run, State.updBoot, hp, hst]

theorem exec_powerUp_of_high {s : State} (hp : s.boot.pwrok = true) : exec .powerUp s = .next { s with out := [] } := by
  simp [exec_powerUp, execPowerUp, run, hp]

theorem exec_p0ClocksLocked (s : State) :
    exec .p0ClocksLocked s = .next (if s.booting 0 && s.boot.sysResetN then s.started.beginP1 1 else s.started) := rfl

theorem exec_sysResetNRise (s : State) : exec .sysResetNRise s = execSysResetNRise s := rfl

/-- The state in which SYS_RESET_N has left the hold at P1 (R160). -/
def State.released (s : State) : State := { s with boot := { s.boot with sysResetN := true, stage := .none } }

theorem exec_sysResetNRise_of_heldWarm {s : State} (hlow : s.boot.sysResetN = false) (hst : s.boot.stage = .heldWarm) :
    exec .sysResetNRise s = .next (s.started.released.beginP1 1) := by
  simp [exec_sysResetNRise, execSysResetNRise, run, State.updBoot, State.released, State.started, hlow, hst]

theorem exec_sysResetNRise_of_p0 {s : State} (hlow : s.boot.sysResetN = false) (hst : s.boot.stage ≠ .heldWarm) (hp : s.phase = 0) :
    exec .sysResetNRise s = .next { s with out := [], boot := { s.boot with sysResetN := true, origin := s.now } } := by
  have hphase : ∀ b : Boot, ({ s with out := [], boot := b } : State).phase = 0 := fun _ => hp
  simp [exec_sysResetNRise, execSysResetNRise, run, State.updBoot, hlow, hst, hphase]

theorem exec_sysResetNRise_of_high {s : State} (hhigh : s.boot.sysResetN = true) : exec .sysResetNRise s = .next { s with out := [] } := by
  simp [exec_sysResetNRise, execSysResetNRise, run, hhigh]

/-- Settles O15: each event by the cases of its condition; attempts 1 begin with `beginP1`. -/
theorem powerUpAndReleaseStartP1 : Obligations.PowerUpAndReleaseStartP1 := by
  unfold Obligations.PowerUpAndReleaseStartP1
  refine ⟨fun s => exec_powerUp_of_low, fun s => exec_powerUp_of_held, fun s => exec_powerUp_of_high, fun s hboot hhigh => ?_,
    fun s hno => ?_, fun s hlow hst => ?_, fun s => exec_sysResetNRise_of_p0, fun s => exec_sysResetNRise_of_high⟩
  · have hexec : exec .p0ClocksLocked s = .next (s.started.beginP1 1) := by rw [exec_p0ClocksLocked, hboot, hhigh]; rfl
    obtain ⟨hphase, hattempt, -⟩ := s.started.beginP1_reg (n := 1) (by decide)
    have hstalled : (s.started.beginP1 1).reg .SUP_COL_PHASE_STALLED 0 = 0 := by
      rw [State.beginP1, State.updBoot_reg]
      simp [State.setRegs_cons, State.reg_setReg]
    exact ⟨_, hexec, hphase, hattempt, hstalled, State.beginP1_code _ _, rfl, s.started.beginP1_frame 1,
      (s.started.beginP1_keeps 1).mono (by simp)⟩
  · have hcond : (s.booting 0 && s.boot.sysResetN) = false := by rcases hno with h | h <;> simp [h]
    rw [exec_p0ClocksLocked, hcond]
    rfl
  · obtain ⟨hphase, hattempt, -⟩ := s.started.released.beginP1_reg (n := 1) (by decide)
    exact ⟨_, exec_sysResetNRise_of_heldWarm hlow hst, hphase, hattempt, rfl, State.beginP1_frame _ _⟩

end Sys2Proof.Machine
end

section
/-! The statement on BAR0 before P5 and on AtomicOps to it (R144, R242). -/

namespace Sys2Proof.Machine

/-! ### Offsets that do not answer a host -/

theorem State.reaches_of_early {s : State} {k a : Nat} (hp : s.phase < 5) (ha : 0x1000 ≤ a) : s.reaches k a = false := by
  rw [State.reaches, if_pos hp]
  exact decide_eq_false (by omega)

section
variable {s : State} {k a : Nat}

theorem State.barMeet_of_unreached (h : s.reaches k a = false) (tag size : Nat) (kind : ReqKind) (v : Nat) :
    s.barMeet k tag a size kind v = s.barAccess k tag a size kind v := by
  unfold State.barMeet
  split
  · rw [h]
    rfl
  · rfl

theorem State.barWord_of_unreached (h : s.reaches k a = false) : s.barWord k a = 0 := by
  rw [State.barWord, h]
  rfl

theorem State.readClears_of_unreached (h : s.reaches k a = false) (n : Nat) : s.readClears k a n = s := by
  rw [State.readClears, h]
  rfl

/-- Before P5 a write beyond the colophon page is dropped without a count (R144). -/
theorem State.writeAt_of_early (hp : s.phase < 5) (ha : 0x1000 ≤ a) (n v : Nat) : s.writeAt k a n v = s := by
  rw [State.writeAt, State.reaches_of_early hp ha, State.tenantWrite, if_pos hp]
  rfl

end

theorem leBytes_zero : ∀ n : Nat, leBytes n 0 = List.replicate n 0
  | 0 => rfl
  | n + 1 => congrArg (List.cons 0) (leBytes_zero n)

/-! ### Accesses before P5 -/

theorem State.barRead_of_early {s : State} {k a size : Nat} (hp : s.phase < 5) (ha : 0x1000 ≤ a) (hal : aligned a size = true) :
    s.barRead k a size = (some 0, s) := by
  have hreach : ∀ b, a ≤ b → s.reaches k b = false := fun b hb => State.reaches_of_early hp (ha.trans hb)
  have hword : ∀ b, a ≤ b → s.barWord k b = 0 := fun b hb => State.barWord_of_unreached (hreach b hb)
  have hclear : ∀ b n, a ≤ b → s.readClears k b n = s := fun b n hb => State.readClears_of_unreached (hreach b hb) n
  simp [State.barRead, hal, hreach, hword, hclear]

theorem State.barWrite_of_early {s : State} {k a size : Nat} (hp : s.phase < 5) (ha : 0x1000 ≤ a) (hal : aligned a size = true) (v : Nat) :
    s.barWrite k a size v = s := by
  have hwrite : ∀ b n w, a ≤ b → s.writeAt k b n w = s := fun b n w hb => State.writeAt_of_early hp (ha.trans hb) n w
  simp [State.barWrite, hal, State.reaches_of_early hp ha, hwrite]

/-- Settles O10: before P5 an offset beyond the colophon page reaches no host (`reaches_of_early`), and an AtomicOp is turned down before
the register is looked up. -/
theorem beforeP5OnlyTheColophonPageAnswersAndNoAtomicOpDoes : Obligations.BeforeP5OnlyTheColophonPageAnswersAndNoAtomicOpDoes := by
  unfold Obligations.BeforeP5OnlyTheColophonPageAnswersAndNoAtomicOpDoes
  refine ⟨fun k a size v s hk hp ho hsize hmod ha => ?_, fun k a size v write s hk ho => ?_⟩
  · have hal : aligned a size = true := by simp [aligned, hsize, hmod]
    have hreach : s.started.reaches k a = false := State.reaches_of_early (s := s.started) hp ha
    rw [exec_bar0Access _ _ _ _ hk ho, exec_bar0Access _ _ _ _ hk ho, State.barMeet_of_unreached hreach, State.barMeet_of_unreached hreach]
    constructor
    · have hread := State.barRead_of_early (s := s.started) (k := k) hp ha hal
      simp only [Bool.false_eq_true, if_false, State.barAccess, hread, State.barAnswer, leBytes_zero]
      rfl
    · simp only [Bool.false_eq_true, if_false, if_true, State.barAccess, State.barWrite_of_early (s := s.started) hp ha hal]
      rfl
  · rw [exec_bar0Access _ _ _ _ hk ho, if_pos rfl]
    unfold State.barMeet
    split <;> simp [State.barAccess, State.barAnswer, State.started, State.emit]

end Sys2Proof.Machine
end

section
/-! SUPPORT. The responses that the reporter holds, and its answers to a requester (R589 to R592). -/

namespace Sys2Proof.Machine

theorem State.started_readWord (s : State) (k a : Nat) : s.started.readWord k a = s.readWord k a := by
  simp only [State.readWord, State.readReg, State.started_shown]

/-! ### The held response (R590) -/

/-- The response held for a requester. -/
def State.heldFor (s : State) (w : Requester) : Option HeldResp := s.keys.held.find? fun h => decide (h.who = w)

theorem State.dropHeld_who (s : State) (w : Requester) : ∀ h ∈ (s.dropHeld w).keys.held, h.who ≠ w := fun h hh => by
  simpa using (List.mem_filter.1 hh).2

/-- A response that is held takes the place of the requester's former one, and its first chunk goes out. -/
theorem State.holdResponse_spec (s : State) (w : Requester) (cmd : Nat) (body : List Nat) :
    (s.holdResponse w cmd body).heldFor w = some { who := w, body, since := s.now } ∧
      (s.holdResponse w cmd body).keys.reports = s.keys.reports ∧ (s.holdResponse w cmd body).out = s.out ++ [.reply w 0 (chunkOf cmd body 0)] ∧
      (s.holdResponse w cmd body).regs = s.regs ∧ (s.holdResponse w cmd body).frame = s.frame := by
  refine ⟨?_, rfl, rfl, rfl, rfl⟩
  have hnone : (s.dropHeld w).heldFor w = none := by
    simpa [State.heldFor] using s.dropHeld_who w
  have hold : (s.holdResponse w cmd body).heldFor w =
      ((s.dropHeld w).keys.held ++ [({ who := w, body, since := s.now } : HeldResp)]).find? fun h => decide (h.who = w) := rfl
  rw [hold, List.find?_append, show (s.dropHeld w).keys.held.find? _ = none from hnone]
  simp

/-- The answer to a request for a later chunk (R589, R590). -/
def State.laterReply (s : State) (w : Requester) (cmd n : Nat) : Output :=
  match s.heldFor w with
  | some h => if 1024 * n < h.body.length then .reply w 0 (chunkOf cmd h.body n) else .reply w 3 (message cmd 3 n 0 [])
  | none => .reply w 3 (message cmd 3 n 0 [])

theorem State.laterChunk_eq (s : State) (w : Requester) (cmd n : Nat) : s.laterChunk w cmd n = s.emit (s.laterReply w cmd n) := by
  unfold State.laterChunk State.laterReply State.heldFor
  cases s.keys.held.find? fun h => decide (h.who = w) with
  | none => rfl
  | some h => exact (apply_ite s.emit _ _ _).symm

/-! ### Requests (R146, R587 to R592) -/

theorem exec_getColophon (w : Requester) (n : Nat) (s : State) : exec (.getColophon w n) s = execGetColophon w n s := rfl
theorem exec_getReport (w : Requester) (y i x n : Nat) (s : State) : exec (.getReport w y i x n) s = execGetReport w y i x n s := rfl
theorem exec_getCert (w : Requester) (c n : Nat) (s : State) : exec (.getCert w c n) s = execGetCert w c n s := rfl
theorem exec_reportSigned (s : State) : exec .reportSigned s = execReportSigned s := rfl
theorem exec_heldResponseExpiry (w : Requester) (s : State) : exec (.heldResponseExpiry w) s = execHeldResponseExpiry w s := rfl

/-- GET_REPORT and GET_CERT of a later INDEX ask for a chunk of the held response, whichever it is. -/
theorem exec_laterChunk {n : Nat} (hn : n ≠ 0) (s : State) (w : Requester) (y i x c : Nat) :
    exec (.getReport w y i x n) s = .next { s with out := [s.laterReply w 2 n] } ∧ exec (.getCert w c n) s = .next { s with out := [s.laterReply w 3 n] } := by
  have hindex : (n != 0) = true := by simpa using hn
  constructor
  · rw [exec_getReport, execGetReport, run_started, if_pos hindex, State.laterChunk_eq]
    rfl
  · rw [exec_getCert, execGetCert, run_started, if_pos hindex, State.laterChunk_eq]
    rfl

/-- Whether a report request passes the checks of its fields and of its requester (R587, R592). -/
def State.reportAllowed (s : State) (w : Requester) (y i : Nat) : Prop :=
  s.phase = 5 ∧ i < 1024 ∧ (y = 1 ∨ (y = 2 ∧ s.tenant w = false))

theorem exec_getReport_of_allowed {s : State} {w : Requester} {y i : Nat} (h : s.reportAllowed w y i) (x : Nat) :
    exec (.getReport w y i x 0) s = .next (if 8 ≤ s.keys.reports.length then s.started.turnDown w 2 1 0
      else (s.started.dropHeld w).updKeys fun k => { k with reports := k.reports ++ [{ who := w, typ := y, imprint := i, nonce := x }] }) := by
  obtain ⟨hp, hi, hy⟩ := h
  have hphase : s.started.phase = 5 := hp
  have htenant : s.started.tenant w = s.tenant w := by cases w <;> rfl
  have hrange : ¬1024 ≤ i := by omega
  have hkeys : s.started.keys = s.keys := rfl
  rw [exec_getReport, execGetReport, run_started]
  rcases hy with rfl | ⟨rfl, ht⟩
  · simp [hphase, hrange, hkeys]
  · simp [hphase, hrange, hkeys, htenant, ht]

theorem exec_getReport_of_foreign {s : State} {k i : Nat} (hi : i < 1024) (hk : s.operator k = false)
    (hown : (s.ownImprints k).contains i = false) (x : Nat) :
    exec (.getReport (.doe k) 2 i x 0) s = .next (s.started.turnDown (.doe k) 2 2 0) := by
  have htenant : s.started.tenant (.doe k) = true := by
    rw [State.tenant, show s.started.operator k = s.operator k from rfl, hk]
    rfl
  have hforeign : (s.started.ownImprints k).contains i = false := hown
  have hrange : ¬1024 ≤ i := by omega
  rw [exec_getReport, execGetReport, run_started]
  simp only [whoHost, hforeign, htenant]
  simp [hrange]

theorem exec_getCert_of_valid {s : State} {c : Nat} (hp : 2 ≤ s.phase) (h1 : 1 ≤ c) (h5 : c ≤ 5) (w : Requester) :
    exec (.getCert w c 0) s = .next (s.started.holdResponse w 3 (s.certBody c)) := by
  have hphase : ¬s.started.phase < 2 := not_lt.2 hp
  have hcert : (c == 0 || decide (6 ≤ c)) = false := by simp; omega
  rw [exec_getCert, execGetCert, run_started, if_neg (by decide), if_neg (by rw [hcert]; decide), if_neg hphase]
  rfl

/-- The state in which the oldest report has left the queue (R591). -/
def State.reportTaken (s : State) (rest : List ReportReq) : State := s.updKeys fun k => { k with reports := rest }

theorem exec_reportSigned_of_free {s : State} {q : ReportReq} {rest : List ReportReq} (hq : s.keys.reports = q :: rest)
    (hfree : s.keyCommand = false) :
    exec .reportSigned s = .next ((s.started.reportTaken rest).holdResponse q.who 2 (s.signedReport q)) := by
  have hreports : s.started.keys.reports = q :: rest := hq
  have hkey : s.started.keyCommand = false := hfree
  rw [exec_reportSigned, execReportSigned, run_started]
  simp only [hreports, hkey]
  rfl

theorem exec_reportSigned_of_idle {s : State} (h : s.keys.reports = [] ∨ s.keyCommand = true) :
    exec .reportSigned s = .next { s with out := [] } := by
  rw [exec_reportSigned, execReportSigned, run_started]
  split
  · rename_i q rest hq
    rcases h with hnil | hkey
    · exact absurd (hq.symm.trans hnil) (List.cons_ne_nil _ _)
    · rw [if_pos (show s.started.keyCommand = true from hkey)]
      rfl
  · rfl

end Sys2Proof.Machine
end

section
/-! The statement on reports and certificates (R146, R587 to R592). -/

namespace Sys2Proof.Machine

/-- Settles O52: a request is turned down, queued, or answered from the response that is held (`holdResponse_spec`, `exec_laterChunk`). -/
theorem reportsAreQueuedAndAnswered : Obligations.ReportsAreQueuedAndAnswered := by
  unfold Obligations.ReportsAreQueuedAndAnswered
  refine ⟨fun s w hp => ?_, fun s w i hp => ?_, fun s w y i x hp hi hy hroom => ?_, fun s k i x _ hi hk hown => exec_getReport_of_foreign hi hk hown x,
    fun s w i x hp hi hfull => ?_, fun s w t i x n hn hnone => ?_, fun s w t i x n h hn hheld hlen => ?_, fun s w c hp h1 h5 => ?_,
    fun s q rest hq hfree => ?_, fun s => exec_reportSigned_of_idle, fun s w h hheld => ?_, fun s w hnone => ?_⟩
  · have hphase : ¬s.started.phase < 1 := not_lt.2 hp
    rw [exec_getColophon, execGetColophon, run_started, if_neg hphase, if_neg (by decide)]
    simp only [State.started_readWord]
    rfl
  · have hphase : s.started.phase < 1 := lt_of_eq_of_lt hp Nat.one_pos
    rw [exec_getColophon, execGetColophon, run_started, if_pos hphase]
    rfl
  · have hexec := exec_getReport_of_allowed ⟨hp, hi, hy⟩ x
    rw [if_neg (not_le.2 hroom)] at hexec
    exact ⟨_, hexec, rfl, s.started.dropHeld_who w, rfl, rfl, rfl⟩
  · rw [exec_getReport_of_allowed ⟨hp, hi, .inl rfl⟩, if_pos hfull]
    rfl
  · have hreply : ∀ cmd, s.laterReply w cmd n = .reply w 3 (message cmd 3 n 0 []) := fun cmd => by
      rw [State.laterReply, show s.heldFor w = none from hnone]
    simpa only [hreply] using exec_laterChunk hn s w t i x t
  · have hreply : ∀ cmd, s.laterReply w cmd n = .reply w 0 (chunkOf cmd h.body n) := fun cmd => by
      rw [State.laterReply, show s.heldFor w = some h from hheld]
      exact if_pos hlen
    simpa only [hreply] using exec_laterChunk hn s w t i x t
  · obtain ⟨hheld, -, hout, hregs, hframe⟩ := s.started.holdResponse_spec w 3 (s.certBody c)
    exact ⟨_, exec_getCert_of_valid hp h1 h5 w, hout, hheld, hregs, hframe⟩
  · obtain ⟨hheld, hreports, hout, hregs, hframe⟩ := (s.started.reportTaken rest).holdResponse_spec q.who 2 (s.signedReport q)
    exact ⟨_, exec_reportSigned_of_free hq hfree, hreports, hheld, hout, hregs, hframe⟩
  · have hexec : exec (.heldResponseExpiry w) s = .next ((s.started.atNow (h.since + 1000000000)).dropHeld w) := by
      rw [exec_heldResponseExpiry, execHeldResponseExpiry, run_started]
      simp only [show s.started.keys = s.keys from rfl, hheld]
    exact ⟨_, hexec, State.dropHeld_who _ w, rfl, rfl, rfl, rfl, rfl⟩
  · rw [exec_heldResponseExpiry, execHeldResponseExpiry, run_started]
    simp only [show s.started.keys = s.keys from rfl, hnone]
    rfl

end Sys2Proof.Machine
end

section
/-! The statement on configuration requests and hierarchy changes (R143, R230, R235, R236, R239, R275). -/

namespace Sys2Proof.Machine

theorem exec_configRequest {s : State} {k : Nat} (hk : s.cfgHost k = true) (t : CfgTarget) (r : CfgReg) (v : Nat) :
    exec (.configRequest k t r false v) s = .next (s.started.cfgRead k t r) ∧
      exec (.configRequest k t r true v) s = .next (s.started.cfgWrite k t r v) :=
  ⟨congrArg Host.Outcome.next (if_pos hk), congrArg Host.Outcome.next (if_pos hk)⟩

/-! ### Requests to nothing and to a lost device (R230, R275) -/

section
variable {s : State} {k : Nat} {t : CfgTarget}

theorem State.cfg_of_nothing (h : s.findTarget k t = .nothing) (r : CfgReg) (v : Nat) :
    s.cfgRead k t r = s.emit (.cfg k .ur 0) ∧ s.cfgWrite k t r v = s.emit (.cfg k .ur 0) := by
  simp [State.cfgRead, State.cfgWrite, h]

theorem State.cfg_of_lost (h : s.findTarget k t = .lost) (r : CfgReg) (v : Nat) :
    s.cfgRead k t r = s.emit (.cfg k .sc (2 ^ 32 - 1)) ∧ s.cfgWrite k t r v = s.emit (.cfg k .ur 0) := by
  simp [State.cfgRead, State.cfgWrite, h]

end

/-! ### The management endpoint (R239) -/

theorem State.cfgRead_mep_vendor (s : State) (k : Nat) : s.cfgRead k .mep .vendorDevice = s.emit (.cfg k .sc 0x92561F3E) := rfl

/-- No register of the management endpoint takes part in the hierarchy's address decoding: a write acts at once. -/
theorem State.cfgWrite_mep (s : State) (k : Nat) (r : CfgReg) (v : Nat) :
    s.cfgWrite k .mep r v = (s.ownWrite k .mep r v).emit (.cfg k .sc 0) := rfl

theorem State.ownWrite_mep_vendor (s : State) (k v : Nat) : s.ownWrite k .mep .vendorDevice v = s := rfl

theorem State.ownWrite_mep_devCtl2 (s : State) (k v : Nat) : s.ownWrite k .mep .devCtl2 v = s.setVreg k .mep .devCtl2 (v % 16) := rfl

/-! ### Writes that move a decode range (R235, R236) -/

theorem State.nextCommit_of_cur {s : State} (h : s.com.cur ≠ none) : s.nextCommit = s := by
  have hcur : s.com.cur.isSome = true := Option.isSome_iff_ne_none.2 h
  rw [State.nextCommit, hcur]
  rfl

/-- A write of R235 that is not refused waits for the hierarchy change that it asks for, behind the commit in progress. -/
theorem State.decodeWrite_waits {s : State} (hsafe : s.safeMode = false) (hmgmt : s.isl.mgmt = none) (hcur : s.com.cur ≠ none)
    (k : Nat) (t : CfgTarget) (r : CfgReg) (w : Nat) {fwd : State → State} (hcom : (fwd s).com = s.com) :
    s.decodeWrite k t r w fwd =
      (fwd s).updCom fun m => { m with hierQ := m.hierQ ++ [{ host := k, target := s.keepTarget k t, reg := r, value := w }] } := by
  have hwaits : s.decodeWrite k t r w fwd = (fwd s).askHierWrite { host := k, target := s.keepTarget k t, reg := r, value := w } := by
    simp [State.decodeWrite, hsafe, hmgmt]
  rw [hwaits, State.askHierWrite]
  exact State.nextCommit_of_cur (by simpa [hcom] using hcur)

/-- What a write to a Command register also sends to the device is an output. -/
theorem State.fwdCommand_eq (s : State) (k : Nat) (t : CfgTarget) (r : CfgReg) (u : State) : ∃ o, s.fwdCommand k t r u = { u with out := o } := by
  unfold State.fwdCommand
  split
  · exact ⟨_, rfl⟩
  · exact ⟨_, rfl⟩

theorem exec_hierarchyChange (k : Nat) (t : CfgTarget) (r : CfgReg) (v : Nat) (s : State) :
    exec (.hierarchyChange k t r v) s = execHierarchyChange k t r v s := rfl

theorem exec_hierarchyChange_of_moves {s : State} {k p v w : Nat} {t : CfgTarget} {r : CfgReg} (hp : s.hostPort k = some p)
    (hkeep : s.decodeKeep k t r v = some w) (hphase : s.phase = 5) (hup : s.on .TILE_PORT_STATUS_LINK_UP p = true)
    (hmoves : s.movesDecode k t r v = true) :
    exec (.hierarchyChange k t r v) s = .next (s.started.decodeWrite k t r w (s.started.fwdCommand k t r)) := by
  have hcond : (s.started.phase == 5 && s.started.on .TILE_PORT_STATUS_LINK_UP p && s.started.movesDecode k t r v) = true := by
    rw [show s.started.phase = 5 from hphase, show s.started.on .TILE_PORT_STATUS_LINK_UP p = true from hup,
      show s.started.movesDecode k t r v = true from hmoves]
    rfl
  rw [exec_hierarchyChange, execHierarchyChange, run_started]
  simp only [show s.started.hostPort k = some p from hp, show s.started.decodeKeep k t r v = some w from hkeep]
  rw [if_pos hcond]

/-- Settles O43: what a request finds decides the answer (`cfg_of_nothing`, `cfg_of_lost`, `cfgWrite_mep`); a write that moves a decode range
joins the hierarchy changes that wait (`decodeWrite_waits`). -/
theorem configurationRequestsAreAnswered : Obligations.ConfigurationRequestsAreAnswered := by
  unfold Obligations.ConfigurationRequestsAreAnswered
  refine ⟨fun s k v t r w hk hfind => ?_, fun s k v t r hk hfind => ?_, fun s k v hk => ?_, fun s k v hk => ?_, fun s k v t r w hk => ?_,
    fun s k p v w g r hp hkeep hphase hup hmoves hsafe hmgmt hcur => ?_, fun s k v g r hp => ?_⟩
  · obtain ⟨hread, hwrite⟩ := State.cfg_of_nothing (s := s.started) hfind r v
    obtain ⟨hexecR, hexecW⟩ := exec_configRequest hk t r v
    cases w with
    | false => rw [hexecR, hread]; rfl
    | true => rw [hexecW, hwrite]; rfl
  · obtain ⟨hread, hwrite⟩ := State.cfg_of_lost (s := s.started) hfind r v
    obtain ⟨hexecR, hexecW⟩ := exec_configRequest hk t r v
    rw [hexecR, hexecW, hread, hwrite]
    exact ⟨rfl, rfl⟩
  · obtain ⟨hexecR, hexecW⟩ := exec_configRequest hk .mep .vendorDevice v
    rw [hexecR, hexecW, State.cfgRead_mep_vendor, State.cfgWrite_mep, State.ownWrite_mep_vendor]
    exact ⟨rfl, rfl⟩
  · obtain ⟨-, hexec⟩ := exec_configRequest hk .mep .devCtl2 v
    rw [State.cfgWrite_mep, State.ownWrite_mep_devCtl2] at hexec
    exact ⟨_, hexec, s.started.vreg_setVreg_self _ _ _ _, fun j g r hne => s.started.vreg_setVreg_ne _ hne, rfl, rfl, rfl⟩
  · exact congrArg Host.Outcome.next (if_neg (Bool.eq_false_iff.1 hk))
  · obtain ⟨o, hfwd⟩ := s.started.fwdCommand_eq k g r s.started
    have hwaits := State.decodeWrite_waits (s := s.started) hsafe hmgmt hcur k g r w (fwd := s.started.fwdCommand k g r)
      (by rw [hfwd])
    rw [hfwd] at hwaits
    exact ⟨_, (exec_hierarchyChange_of_moves hp hkeep hphase hup hmoves).trans (congrArg _ hwaits), rfl, rfl, rfl, rfl⟩
  · rw [exec_hierarchyChange, execHierarchyChange, run_started]
    simp only [show s.started.hostPort k = none from hp]
    rfl

end Sys2Proof.Machine
end

section
/-! SUPPORT. A recovery load from its start to the image in flash (R151 to R155, R281). -/

namespace Sys2Proof.Machine

/-! ### The start (R151, R152, R281) -/

/-- How many reads a recovery load makes: none where the image is too long or the engine may not master. -/
def State.loadReads (s : State) (k : Nat) : Nat :=
  if s.recovLimit < s.reg .SUP_COL_RECOV_LEN_LEN 0 || !s.mayMaster k then 0
  else readCount (s.reg .SUP_COL_RECOV_ADDR_ADDR 0) (s.reg .SUP_COL_RECOV_LEN_LEN 0) (ctlSize (bits (s.vreg k .mep .devCtl) 14 12))

/-- A load of `n` reads stands as BUSY (R152). -/
def State.loadBegun (s : State) (k : Nat) (img : RecoveryImage) (n : Nat) : State :=
  (s.setRegs [(.SUP_COL_RECOV_STATUS_STATE, 0, 1), (.SUP_COL_RECOV_STATUS_RESULT, 0, 0)]).updBoot fun b =>
    { b with recov := some img, recovHost := k, recovReads := n, rebootAt := none }

theorem State.recovGo_of_open {s : State} (h : s.recovOpen = true) (k : Nat) (img : RecoveryImage) :
    s.recovGo k img = if s.loadReads k = 0 then s.loadBegun k img (s.loadReads k) else (s.loadBegun k img (s.loadReads k)).startReads k (s.loadReads k) :=
  if_pos h

/-- What a recovery load is while its reads go out. -/
def State.recovLoad (s : State) : Option RecoveryImage × Nat × Option Nat := (s.boot.recov, s.boot.recovHost, s.boot.rebootAt)

theorem State.issueRead_recovLoad (s : State) (k : Nat) : (s.issueRead k).recovLoad = s.recovLoad := by
  unfold State.issueRead
  split
  · rfl
  · dsimp only
    split
    · rfl
    · split
      · split <;> rfl
      · split <;> rfl
      · rfl

theorem State.startReads_recovLoad (s : State) (k n : Nat) : (s.startReads k n).recovLoad = s.recovLoad :=
  foldl_keeps State.recovLoad (fun s _ => s.issueRead_recovLoad k) _ _

theorem State.startReads_regs (s : State) (k n : Nat) : (s.startReads k n).regs = (s.setReg .CMP_DMA_STATUS_STATE k 1).regs :=
  foldl_keeps State.regs (fun s _ => congrArg Prod.fst (s.issueRead_reading k)) _ _

theorem State.startReads_reg (s : State) (k n : Nat) (f : Fld) (i : Nat) :
    (s.startReads k n).reg f i = if f = .CMP_DMA_STATUS_STATE ∧ i = k then 1 else s.reg f i := by
  rw [State.reg, State.startReads_regs]
  exact s.reg_setReg _ _ _ _ _

theorem readCount_pos {len : Nat} (h : 0 < len) (addr unit : Nat) : 0 < readCount addr len unit := by
  rw [readCount, if_neg h.ne']
  exact Nat.succ_pos _

theorem State.loadReads_pos {s : State} {k : Nat} (hmaster : s.mayMaster k = true) (hlen : 0 < s.reg .SUP_COL_RECOV_LEN_LEN 0)
    (hlimit : s.reg .SUP_COL_RECOV_LEN_LEN 0 ≤ s.recovLimit) : 0 < s.loadReads k := by
  have hcond : (decide (s.recovLimit < s.reg .SUP_COL_RECOV_LEN_LEN 0) || !s.mayMaster k) = false := by simp [hmaster, hlimit]
  rw [State.loadReads, hcond]
  exact readCount_pos hlen _ _

theorem State.loadBegun_reg (s : State) (k : Nat) (img : RecoveryImage) (n : Nat) :
    (s.loadBegun k img n).reg .SUP_COL_RECOV_STATUS_STATE 0 = 1 ∧ (s.loadBegun k img n).reg .SUP_COL_RECOV_STATUS_RESULT 0 = 0 ∧
      KeepsRegs s (s.loadBegun k img n) [(.SUP_COL_RECOV_STATUS_STATE, 0), (.SUP_COL_RECOV_STATUS_RESULT, 0)] := by
  refine ⟨?_, ?_, KeepsRegs.setRegs s [(.SUP_COL_RECOV_STATUS_STATE, 0, 1), (.SUP_COL_RECOV_STATUS_RESULT, 0, 0)]⟩
  all_goals
    rw [State.loadBegun, State.updBoot_reg]
    simp [State.setRegs_cons, State.reg_setReg, show Fld.SUP_COL_RECOV_STATUS_STATE.width = 2 from rfl]

/-- A load that starts: BUSY, with the engine reading where there is something to read that it may read. -/
theorem State.recovGo_spec {s : State} (h : s.recovOpen = true) (k : Nat) (img : RecoveryImage) :
    (s.recovGo k img).reg .SUP_COL_RECOV_STATUS_STATE 0 = 1 ∧ (s.recovGo k img).reg .SUP_COL_RECOV_STATUS_RESULT 0 = 0 ∧
      (s.recovGo k img).recovLoad = (some img, k, none) ∧ (0 < s.loadReads k → (s.recovGo k img).reg .CMP_DMA_STATUS_STATE k = 1) ∧
      KeepsRegs s (s.recovGo k img) [(.SUP_COL_RECOV_STATUS_STATE, 0), (.SUP_COL_RECOV_STATUS_RESULT, 0), (.CMP_DMA_STATUS_STATE, k)] := by
  obtain ⟨hstate, hresult, hkeeps⟩ := s.loadBegun_reg k img (s.loadReads k)
  rw [State.recovGo_of_open h]
  split
  · rename_i hn
    exact ⟨hstate, hresult, rfl, fun hpos => absurd hn hpos.ne', hkeeps.mono (by simp)⟩
  · refine ⟨?_, ?_, State.startReads_recovLoad _ _ _, fun _ => ?_, fun f i hf => ?_⟩
    · rw [State.startReads_reg]
      exact hstate
    · rw [State.startReads_reg]
      exact hresult
    · rw [State.startReads_reg, if_pos ⟨rfl, rfl⟩]
    · simp only [List.mem_cons, Prod.mk.injEq, List.not_mem_nil, or_false, not_or] at hf
      obtain ⟨hs, hr, hd⟩ := hf
      rw [State.startReads_reg, if_neg hd]
      exact hkeeps f i (by simp [hs, hr])

theorem exec_recoveryLoad (k : Nat) (img : RecoveryImage) (s : State) :
    exec (.recoveryLoad k img) s = .next (if k == 0 && s.on .TILE_PORT_STATUS_LINK_UP s.recovPort then s.started.recovGo k img else s.started) := rfl

/-! ### The end (R153, R154) -/

/-- The load is over: its reads are gone, and its engine is free. -/
def State.loadOver (s : State) : State :=
  let t := (s.updBoot fun b => { b with recov := none, recovReads := 0 }).updLink fun l =>
    { l with dma := l.dma.filter fun e => e.host != s.boot.recovHost || e.quarantined }
  if t.reg .CMP_DMA_STATUS_STATE s.boot.recovHost == 1 then t.setReg .CMP_DMA_STATUS_STATE s.boot.recovHost 0 else t

theorem State.loadOver_eq (s : State) : ∃ rg l, s.loadOver = { s with regs := rg, link := l, boot := { s.boot with recov := none, recovReads := 0 } } ∧
    ∀ f i, f ≠ .CMP_DMA_STATUS_STATE → s.loadOver.reg f i = s.reg f i := by
  unfold State.loadOver
  dsimp only
  split
  · exact ⟨_, _, rfl, fun f i hf => State.reg_setReg_ne _ _ fun h => hf h.1⟩
  · exact ⟨_, _, rfl, fun _ _ _ => rfl⟩

/-- A good image goes to flash: a forme to the target bank, in TRIAL, a firmware bundle over the copy that R154 names. -/
def State.imageKept (s : State) : RecoveryImage → State
  | .forme im => s.setBank (s.reg .SUP_COL_RECOV_CTL_TARGET 0 == 1) { state := .trial, image := some im }
  | .firmware f => { s with flash := if s.recovCopy then { s.flash with fw1 := f } else { s.flash with fw0 := f } }

theorem State.imageKept_eq (s : State) (img : RecoveryImage) : ∃ fl, s.imageKept img = { s with flash := fl } := by
  cases img with
  | forme im => exact ⟨_, rfl⟩
  | firmware f => exact ⟨_, rfl⟩

/-- DONE and OK, with a new bring-up due within 10 ms (R155). -/
def State.loadDone (s : State) : State :=
  (s.setRegs [(.SUP_COL_RECOV_STATUS_STATE, 0, 2), (.SUP_COL_RECOV_STATUS_RESULT, 0, 0)]).updBoot fun b => { b with rebootAt := some (s.now + 10000000) }

theorem exec_recoveryLoadDone (s : State) : exec .recoveryLoadDone s = execRecoveryLoadDone s := rfl

section
variable {s : State} {img : RecoveryImage} (hrecov : s.boot.recov = some img)
include hrecov

theorem exec_recoveryLoadDone_of_bad (hbad : s.recovResult img ≠ 0) : exec .recoveryLoadDone s =
    .next (s.started.loadOver.setRegs [(.SUP_COL_RECOV_STATUS_STATE, 0, 3), (.SUP_COL_RECOV_STATUS_RESULT, 0, s.recovResult img)]) := by
  rw [exec_recoveryLoadDone, execRecoveryLoadDone, run_started]
  simp only [show s.started.boot.recov = some img from hrecov]
  exact congrArg Host.Outcome.next (if_pos (bne_iff_ne.2 hbad))

theorem exec_recoveryLoadDone_of_good (hgood : s.recovResult img = 0) :
    exec .recoveryLoadDone s = .next (s.started.loadOver.imageKept img).loadDone := by
  rw [exec_recoveryLoadDone, execRecoveryLoadDone, run_started]
  simp only [show s.started.boot.recov = some img from hrecov]
  refine congrArg Host.Outcome.next ((if_neg ?_).trans ?_)
  · rw [show s.started.recovResult img = 0 from hgood]
    decide
  · cases img <;> rfl

/-- A good image ends its load as DONE and OK. -/
theorem recoveryLoadDone_spec (hgood : s.recovResult img = 0) : ∃ t, exec .recoveryLoadDone s = .next t ∧
    t.flash = (s.started.loadOver.imageKept img).flash ∧ t.reg .SUP_COL_RECOV_STATUS_STATE 0 = 2 ∧ t.reg .SUP_COL_RECOV_STATUS_RESULT 0 = 0 ∧
    t.boot.rebootAt = some (s.now + 10000000) ∧ t.part = s.part := by
  obtain ⟨fl, hkept⟩ := s.started.loadOver.imageKept_eq img
  obtain ⟨rg, l, hover, -⟩ := s.started.loadOver_eq
  refine ⟨_, exec_recoveryLoadDone_of_good hrecov hgood, rfl, ?_, ?_, ?_, ?_⟩
  · rw [State.loadDone, State.updBoot_reg]
    simp [State.setRegs_cons, State.reg_setReg, show Fld.SUP_COL_RECOV_STATUS_STATE.width = 2 from rfl]
  · rw [State.loadDone, State.updBoot_reg]
    simp [State.setRegs_cons]
  · rw [hkept, hover]
    rfl
  · rw [hkept, hover]
    rfl

end

theorem State.recovResult_le (s : State) (img : RecoveryImage) : s.recovResult img ≤ 5 := by
  unfold State.recovResult
  dsimp only
  repeat' split
  all_goals decide

end Sys2Proof.Machine
end

section
/-! The statement on recovery loads (R151 to R156, R281). -/

namespace Sys2Proof.Machine

theorem exec_recoveryReboot_of_due {s : State} (hstalled : s.stalled = true) (hdue : s.boot.rebootAt ≠ none) :
    exec .recoveryReboot s = .next (((s.started.wipe keptAttempt).setReg .SUP_COL_RESET_CAUSE_CAUSE 0 3).beginP1 1) :=
  congrArg Host.Outcome.next (if_pos (Bool.and_eq_true_iff.2 ⟨hstalled, Option.isSome_iff_ne_none.2 hdue⟩))

/-- Settles O21: the start is `recovGo_spec`, a good image's end `recoveryLoadDone_spec`, and a reboot begins attempt 1 at P1. -/
theorem recoveryLoadsAnImage : Obligations.RecoveryLoadsAnImage := by
  unfold Obligations.RecoveryLoadsAnImage
  refine ⟨fun s img hup hstalled hidle => ?_, fun s img k hk => ?_, fun s im hrecov hgood => ?_, fun s f hrecov hgood => ?_,
    fun s img hrecov hbad => ?_, fun s hstalled hdue => ?_⟩
  · have hopen : s.started.recovOpen = true := Bool.and_eq_true_iff.2 ⟨hstalled, by simpa using hidle⟩
    obtain ⟨hstate, hresult, hload, hreads, hkeeps⟩ := State.recovGo_spec hopen 0 img
    simp only [State.recovLoad, Prod.mk.injEq] at hload
    obtain ⟨hrecov, hhost, hreboot⟩ := hload
    have hexec : exec (.recoveryLoad 0 img) s = .next (s.started.recovGo 0 img) := by
      rw [exec_recoveryLoad, hup]
      exact congrArg _ (if_pos rfl)
    exact ⟨_, hexec, hstate, hresult, hrecov, hhost, hreboot, fun hm hl hlim => hreads (State.loadReads_pos (s := s.started) hm hl hlim), hkeeps,
      s.started.recovGo_frame 0 img⟩
  · have hk0 : (k == 0) = false := by simpa using hk
    rw [exec_recoveryLoad, hk0]
    rfl
  · obtain ⟨t, hexec, hflash, hshown⟩ := recoveryLoadDone_spec hrecov hgood
    obtain ⟨rg, l, hover, hreg⟩ := s.started.loadOver_eq
    refine ⟨t, hexec, ?_, hshown⟩
    rw [hflash, State.imageKept, State.setBank, hreg _ _ (by decide), State.started_reg, hover]
    by_cases htarget : s.reg .SUP_COL_RECOV_CTL_TARGET 0 = 1 <;> simp [htarget, State.started]
  · obtain ⟨t, hexec, hflash, hshown⟩ := recoveryLoadDone_spec hrecov hgood
    obtain ⟨rg, l, hover, -⟩ := s.started.loadOver_eq
    refine ⟨t, hexec, ?_, hshown⟩
    rw [hflash, State.imageKept, hover]
    rfl
  · obtain ⟨rg, l, hover, -⟩ := s.started.loadOver_eq
    have hle := s.recovResult_le img
    refine ⟨_, exec_recoveryLoadDone_of_bad hrecov hbad, ?_, ?_, ?_, ?_⟩
    · simp [State.setRegs_cons, State.reg_setReg, show Fld.SUP_COL_RECOV_STATUS_STATE.width = 2 from rfl]
    · simp [State.setRegs_cons, show Fld.SUP_COL_RECOV_STATUS_RESULT.width = 8 from rfl]
      omega
    · rw [State.setRegs_boot, hover]
    · rw [State.setRegs_frame, hover]
      rfl
  · obtain ⟨hphase, -, hstall⟩ := State.beginP1_reg ((s.started.wipe keptAttempt).setReg .SUP_COL_RESET_CAUSE_CAUSE 0 3) (n := 1) (by decide)
    have hframe := State.beginP1_frame ((s.started.wipe keptAttempt).setReg .SUP_COL_RESET_CAUSE_CAUSE 0 3) 1
    refine ⟨_, exec_recoveryReboot_of_due hstalled hdue, hphase, hstall, ?_, congrArg Frame.flash hframe, congrArg Frame.part hframe⟩
    rw [State.beginP1_keeps _ 1 _ _ (by decide), State.reg_setReg_self]
    rfl

end Sys2Proof.Machine
end

section
/-! SUPPORT. Resets of the whole switch: what a wipe puts back, what metering leaves of registers and bring-up, and the reset of a warm reset
(R15, R157 to R161, R164). -/

namespace Sys2Proof.Machine

theorem State.wipe_reg_reset (s : State) {keep : Fld → Bool} {f : Fld} (hf : keep f = false) (i : Nat) : (s.wipe keep).reg f i = rstVal f i := by
  unfold State.reg rget State.wipe
  rw [sparse_get?_filter_out (fun r : RegKey => keep r.fld) hf]

/-! ### Metering (R158, R159, R604, R619) -/

/-- The register file and bring-up's part. -/
def State.regsBoot (s : State) : List RegCell × Boot := (s.regs, s.boot)

theorem State.reg_of_regsBoot {s t : State} (h : t.regsBoot = s.regsBoot) (f : Fld) (i : Nat) : t.reg f i = s.reg f i := by
  rw [State.reg, State.reg, show t.regs = s.regs from congrArg Prod.fst h]

theorem State.boot_of_regsBoot {s t : State} (h : t.regsBoot = s.regsBoot) : t.boot = s.boot := congrArg Prod.snd h

theorem State.tally_regsBoot (s : State) (n e : Nat) (imprint : Option Nat) : (s.tally n e imprint).regsBoot = s.regsBoot := by
  obtain ⟨_, _, h⟩ := s.tally_eq n e imprint
  rw [h]
  rfl

theorem State.takeRec_regsBoot (s : State) (c : CountRec) : (s.takeRec c).regsBoot = s.regsBoot := by
  have htake : ∀ (t : State) (n : Nat) (g : Meter → Meter), ((t.work n).updMet g).regsBoot = t.regsBoot := fun _ _ _ => rfl
  rw [State.takeRec, htake]
  split
  · rw [State.tally_regsBoot, State.tally_regsBoot]
  · exact s.tally_regsBoot _ _ _

theorem State.drainRecs_regsBoot (s : State) : s.drainRecs.regsBoot = s.regsBoot := by
  unfold State.drainRecs
  split
  · exact foldl_keeps State.regsBoot State.takeRec_regsBoot _ _
  · rfl

theorem State.closePartial_regsBoot (s : State) : s.closePartial.regsBoot = s.regsBoot := by
  refine Eq.trans ?_ s.drainRecs_regsBoot
  unfold State.closePartial
  dsimp only
  split <;> rfl

theorem State.signBatch_regsBoot (s : State) : s.signBatch.regsBoot = s.regsBoot := rfl

theorem State.deferBatches_regsBoot (s : State) : s.deferBatches.regsBoot = s.regsBoot := by
  unfold State.deferBatches
  split
  · rfl
  · exact foldl_keeps State.regsBoot (fun s _ => s.signBatch_regsBoot) _ _

/-! ### The reset takes place (R157, R160) -/

/-- What the reset of a warm reset leaves: bring-up at P1, or held there, with its cause recorded and every SLOT_PERST_N low. -/
theorem State.warmProceed_spec (s : State) :
    s.warmProceed.boot.stage = (if s.boot.sysResetN then .none else .heldWarm) ∧ s.warmProceed.phase = 1 ∧ s.warmProceed.pool.mem = [] ∧
      s.warmProceed.now = s.now ∧ s.warmProceed.flash = s.flash ∧ s.warmProceed.part = s.part ∧
      s.warmProceed.reg .SUP_COL_RESET_CAUSE_CAUSE 0 = s.reg .SUP_COL_RESET_CAUSE_CAUSE 0 ∧ ∀ k, s.warmProceed.reg .SLT_STATUS_PERST k = 1 := by
  let u := (s.deferBatches.wipe keptWarm).setReg .FLT_STATUS_HALTED 0 0
  have hreg : ∀ f i, s.warmProceed.reg f i = (u.beginP1 1).reg f i := fun _ _ => rfl
  have hkeeps : ∀ f i, f ∉ [Fld.SUP_COL_PHASE_PHASE, .SUP_COL_PHASE_STALLED, .SUP_COL_PHASE_ATTEMPT, .SUP_COL_PROGRESS_CODE, .SUP_THERM_TRIPS, .FLT_STATUS_HALTED] →
      s.warmProceed.reg f i = (s.deferBatches.wipe keptWarm).reg f i := fun f i hf => by
    simp only [List.mem_cons, List.not_mem_nil, or_false, not_or] at hf
    obtain ⟨h1, h2, h3, h4, h5, h6⟩ := hf
    rw [hreg, u.beginP1_keeps 1 f i (by simp [h1, h2, h3, h4, h5])]
    exact State.reg_setReg_ne _ _ fun h => h6 h.1
  have hframe : s.warmProceed.frame = (s.deferBatches.wipe keptWarm).frame := by
    simp [State.warmProceed]
  have hdefer := s.deferBatches_frame
  refine ⟨?_, (u.beginP1_reg (n := 1) (by decide)).1, congrArg Frame.mem hframe, (congrArg Frame.now hframe).trans (congrArg Frame.now hdefer),
    (congrArg Frame.flash hframe).trans (congrArg Frame.flash hdefer), (congrArg Frame.part hframe).trans (congrArg Frame.part hdefer), ?_, fun k => ?_⟩
  · have hstage : s.warmProceed.boot.stage = if s.deferBatches.boot.sysResetN then .none else .heldWarm := rfl
    rw [hstage, State.boot_of_regsBoot s.deferBatches_regsBoot]
  · rw [hkeeps _ _ (by decide), State.wipe_reg _ (by decide)]
    exact State.reg_of_regsBoot s.deferBatches_regsBoot _ _
  · rw [hkeeps _ _ (by decide), State.wipe_reg_reset _ (by decide)]
    rfl

/-! ### A warm reset begins (R148, R158, R166) -/

/-- The cause is recorded, and every SLOT_PERST_N is low. -/
def State.resetMarked (s : State) (cause : Nat) : State :=
  (List.range 32).foldl (fun s k => s.setReg .SLT_STATUS_PERST k 1) (s.setReg .SUP_COL_RESET_CAUSE_CAUSE 0 cause)

theorem State.resetMarked_reg_ne (s : State) (cause : Nat) {f : Fld} (i : Nat) (hf : f ≠ .SLT_STATUS_PERST) :
    (s.resetMarked cause).reg f i = (s.setReg .SUP_COL_RESET_CAUSE_CAUSE 0 cause).reg f i :=
  foldl_keeps (fun s => s.reg f i) (fun s _ => s.reg_setReg_ne _ fun h => hf h.1) _ _

theorem State.resetMarked_cause (s : State) {cause : Nat} (hc : cause < 8) : (s.resetMarked cause).reg .SUP_COL_RESET_CAUSE_CAUSE 0 = cause := by
  rw [State.resetMarked_reg_ne _ _ _ (by decide), State.reg_setReg_self]
  exact Nat.mod_eq_of_lt hc

theorem State.resetMarked_perst (s : State) (cause : Nat) {k : Nat} (hk : k < 32) : (s.resetMarked cause).reg .SLT_STATUS_PERST k = 1 := by
  have hall := foldl_setRegs_reg (f := .SLT_STATUS_PERST) (v := fun _ => 1) (g := fun s k => s.setReg .SLT_STATUS_PERST k 1)
    (fun s n i => by simp [State.reg_setReg]) k (List.range 32) (s.setReg .SUP_COL_RESET_CAUSE_CAUSE 0 cause)
  exact hall.trans (if_pos (List.mem_range.2 hk))

theorem State.resetMarked_boot (s : State) (cause : Nat) : (s.resetMarked cause).boot = s.boot :=
  (foldl_keeps State.boot (fun s k => s.setReg_boot .SLT_STATUS_PERST k 1) _ _).trans (s.setReg_boot _ _ _)

theorem State.resetMarked_frame (s : State) (cause : Nat) : (s.resetMarked cause).frame = s.frame :=
  (foldl_keeps State.frame (fun s k => s.setReg_frame .SLT_STATUS_PERST k 1) _ _).trans (s.setReg_frame _ _ _)

theorem State.resetMarked_phase (s : State) (cause : Nat) : (s.resetMarked cause).phase = s.phase :=
  (s.resetMarked_reg_ne cause 0 (by decide)).trans (s.reg_setReg_ne _ (by decide))

theorem State.resetMarked_metRuns (s : State) (cause : Nat) : (s.resetMarked cause).metRuns = s.metRuns := by
  have hstate : (s.resetMarked cause).reg .SUP_ISL_STATUS_STATE 53 = s.reg .SUP_ISL_STATUS_STATE 53 :=
    (s.resetMarked_reg_ne cause 53 (by decide)).trans (s.reg_setReg_ne _ (by decide))
  rw [State.metRuns, State.metRuns, State.running, State.running, State.islState, State.islState, hstate]

theorem State.resetMarked_now (s : State) (cause : Nat) : (s.resetMarked cause).now = s.now := by
  rw [← frame_now, State.resetMarked_frame, frame_now]

/-- A warm reset marks itself in the registers; then it flushes, or proceeds at once. -/
theorem State.warmReset_eq (s : State) (cause : Nat) : s.warmReset cause = if s.phase == 5 && s.metRuns then
    (s.resetMarked cause).closePartial.updBoot fun b => { b with stage := .flush s.now, origin := s.now }
    else ((s.resetMarked cause).updBoot fun b => { b with origin := s.now }).warmProceed := by
  have hmark : (List.range 32).foldl (fun s k => s.setReg .SLT_STATUS_PERST k 1) (s.setReg .SUP_COL_RESET_CAUSE_CAUSE 0 cause) = s.resetMarked cause := rfl
  rw [State.warmReset, hmark, State.resetMarked_phase, State.resetMarked_metRuns, State.resetMarked_now]

/-- From P5 with the metering island running, a warm reset begins with a flush: nothing is reset yet. -/
theorem State.warmReset_flushes {s : State} (hp : s.phase = 5) (hm : s.metRuns = true) {cause : Nat} (hc : cause < 8) :
    (s.warmReset cause).boot = { s.boot with stage := .flush s.now, origin := s.now } ∧
      (s.warmReset cause).reg .SUP_COL_RESET_CAUSE_CAUSE 0 = cause ∧ (∀ k, k < 32 → (s.warmReset cause).reg .SLT_STATUS_PERST k = 1) ∧
      (∀ f i, f ≠ .SLT_STATUS_PERST → f ≠ .SUP_COL_RESET_CAUSE_CAUSE → (s.warmReset cause).reg f i = s.reg f i) ∧
      (s.warmReset cause).frame = s.frame := by
  have hclose := (s.resetMarked cause).closePartial_regsBoot
  have hframe := (s.resetMarked cause).closePartial_frame
  have heq : s.warmReset cause = (s.resetMarked cause).closePartial.updBoot fun b => { b with stage := .flush s.now, origin := s.now } :=
    (s.warmReset_eq cause).trans (if_pos (by rw [hp, hm]; rfl))
  have hreg : ∀ f i, (s.warmReset cause).reg f i = (s.resetMarked cause).reg f i := fun f i => by
    rw [heq, State.updBoot_reg]
    exact State.reg_of_regsBoot hclose f i
  refine ⟨?_, ?_, fun k hk => ?_, fun f i hslot hcause => ?_, ?_⟩
  · rw [heq, State.updBoot_boot, State.boot_of_regsBoot hclose, State.resetMarked_boot]
  · rw [hreg, State.resetMarked_cause _ hc]
  · rw [hreg, State.resetMarked_perst _ _ hk]
  · rw [hreg, State.resetMarked_reg_ne _ _ _ hslot]
    exact s.reg_setReg_ne _ fun h => hcause h.1
  · rw [heq, State.updBoot_frame, hframe, State.resetMarked_frame]

/-- Otherwise the reset takes place at once. -/
theorem State.warmReset_proceeds {s : State} (hp : s.phase ≠ 5) {cause : Nat} (hc : cause < 8) :
    (s.warmReset cause).boot.stage = (if s.boot.sysResetN then .none else .heldWarm) ∧ (s.warmReset cause).phase = 1 ∧
      (s.warmReset cause).pool.mem = [] ∧ (s.warmReset cause).flash = s.flash ∧ (s.warmReset cause).part = s.part ∧
      (s.warmReset cause).reg .SUP_COL_RESET_CAUSE_CAUSE 0 = cause ∧ ∀ k, (s.warmReset cause).reg .SLT_STATUS_PERST k = 1 := by
  have heq : s.warmReset cause = ((s.resetMarked cause).updBoot fun b => { b with origin := s.now }).warmProceed :=
    (s.warmReset_eq cause).trans (if_neg (by simp [hp]))
  have hboot := s.resetMarked_boot cause
  have hframe := s.resetMarked_frame cause
  have hcause := s.resetMarked_cause hc
  rw [heq]
  generalize s.resetMarked cause = u at *
  obtain ⟨hst, hphase, hmem, -, hflash, hpart, hreg, hperst⟩ := (u.updBoot fun b => { b with origin := s.now }).warmProceed_spec
  refine ⟨?_, hphase, hmem, hflash.trans (congrArg Frame.flash hframe), hpart.trans (congrArg Frame.part hframe), hreg.trans hcause, hperst⟩
  rw [hst, State.updBoot_boot, hboot]

end Sys2Proof.Machine
end

section
/-! The statement on resets of the whole switch (R136, R148, R157 to R161, R164, R709). -/

namespace Sys2Proof.Machine

theorem exec_coldReset (s : State) : exec .coldReset s = .next s.started.coldReset := rfl

/-- The state in which SYS_RESET_N has fallen. -/
def State.resetLow (s : State) : State := s.updBoot fun b => { b with sysResetN := false }

theorem exec_warmReset_of_running {s : State} (hpower : s.boot.pwrok = true) (hhigh : s.boot.sysResetN = true) (hstage : s.boot.stage = .none)
    (hphase : s.phase ≠ 0) : exec .warmReset s = .next (s.started.resetLow.warmReset 1) := by
  have hcond : (s.started.boot.pwrok && s.started.boot.sysResetN) = true := Bool.and_eq_true_iff.2 ⟨hpower, hhigh⟩
  have hzero : ¬(s.started.resetLow.phase == 0) = true := fun h => hphase (eq_of_beq h)
  exact congrArg Host.Outcome.next ((if_pos hcond).trans ((if_pos hstage).trans (if_neg hzero)))

theorem exec_flushTimeout (s : State) : exec .flushTimeout s = execFlushTimeout s := rfl

theorem exec_flushTimeout_of_flush {s : State} {t0 : Nat} (h : s.boot.stage = .flush t0) :
    exec .flushTimeout s = .next (s.started.atNow (t0 + 2000000)).warmProceed := by
  rw [exec_flushTimeout, execFlushTimeout, run_started]
  simp only [show s.started.boot = s.boot from rfl, h]

theorem exec_meteringFlushDone (s : State) : exec .meteringFlushDone s = execMeteringFlushDone s := rfl

theorem exec_meteringFlushDone_of_empty {s : State} {t0 : Nat} (h : s.boot.stage = .flush t0) (hb : s.met.batches = []) :
    exec .meteringFlushDone s = .next s.started.warmProceed := by
  rw [exec_meteringFlushDone, execMeteringFlushDone, run_started]
  simp [show s.started.boot = s.boot from rfl, show s.started.met = s.met from rfl, h, hb]

/-- The state in which an accepted DEV_RESET takes place: RESET_PEND has gone (R709). -/
def State.devResetDue (s : State) (t0 : Nat) : State := (s.atNow t0).setReg .CMP_STATUS_RESET_PEND 0 0

theorem exec_devResetStart (s : State) : exec .devResetStart s = execDevResetStart s := rfl

theorem exec_devResetStart_of_due {s : State} {t0 : Nat} (hat : s.port.resetAt = some t0) (hrun : s.port.running = none)
    (hstage : s.boot.stage = .none) : exec .devResetStart s = .next ((s.started.devResetDue t0).warmReset 2) := by
  have hcond : (s.started.port.running.isNone && decide (s.started.boot.stage = .none)) = true := by
    rw [show s.started.port = s.port from rfl, show s.started.boot = s.boot from rfl, hrun, hstage]
    rfl
  rw [exec_devResetStart, execDevResetStart, run_started]
  simp only [show s.started.port.resetAt = some t0 from hat]
  exact congrArg _ (if_pos hcond)

/-- Settles O20: a cold reset is a wipe; a warm reset flushes first (`warmReset_flushes`) or proceeds at once, as it does when the flush ends
(`warmProceed_spec`). -/
theorem resetsOfTheWholeSwitch : Obligations.ResetsOfTheWholeSwitch := by
  unfold Obligations.ResetsOfTheWholeSwitch
  refine ⟨fun s => ?_, fun s hpower hhigh hstage hp hm => ?_, fun s hpower hhigh hstage h1 h5 => ?_, fun s t0 hflush => ?_,
    fun s t0 hflush hb => ?_, fun s t0 hat hrun hstage hp hm => ?_⟩
  · exact ⟨_, exec_coldReset s, fun f i hf => s.started.wipe_reg_reset hf i, fun f i hf => s.started.wipe_reg hf i, rfl, rfl, rfl, rfl, rfl, rfl⟩
  · obtain ⟨hboot, hcause, hperst, -, hframe⟩ := State.warmReset_flushes (s := s.started.resetLow) hp hm (cause := 1) (by decide)
    exact ⟨_, exec_warmReset_of_running hpower hhigh hstage (by omega), congrArg Boot.stage hboot, congrArg Boot.origin hboot,
      congrArg Boot.sysResetN hboot, hcause, hperst, hframe⟩
  · obtain ⟨hst, hphase, hmem, hflash, hpart, hcause, hperst⟩ :=
      State.warmReset_proceeds (s := s.started.resetLow) (show s.phase ≠ 5 by omega) (cause := 1) (by decide)
    exact ⟨_, exec_warmReset_of_running hpower hhigh hstage (by omega), hst, hphase, hcause, fun k _ => hperst k, hmem, hflash, hpart⟩
  · obtain ⟨hst, hphase, hmem, hnow, hflash, hpart, -⟩ := (s.started.atNow (t0 + 2000000)).warmProceed_spec
    exact ⟨_, exec_flushTimeout_of_flush hflush, hst, hphase, hmem, hnow, hflash, hpart⟩
  · obtain ⟨hst, hphase, hmem, hnow, hflash, hpart, -⟩ := s.started.warmProceed_spec
    exact ⟨_, exec_meteringFlushDone_of_empty hflush hb, hst, hphase, hmem, hnow, hflash, hpart⟩
  · have hkeeps : ∀ f i, f ≠ .CMP_STATUS_RESET_PEND → (s.started.devResetDue t0).reg f i = s.reg f i := fun f i hf =>
      State.reg_setReg_ne _ _ fun h => hf h.1
    have hphase : (s.started.devResetDue t0).phase = 5 := (hkeeps _ _ (by decide)).trans hp
    have hmet : (s.started.devResetDue t0).metRuns = true := (congrArg (· == 2) (hkeeps .SUP_ISL_STATUS_STATE 53 (by decide))).trans hm
    obtain ⟨hboot, hcause, hperst, hreg, hframe⟩ := State.warmReset_flushes hphase hmet (cause := 2) (by decide)
    have hpend : (s.started.devResetDue t0).reg .CMP_STATUS_RESET_PEND 0 = 0 := State.reg_setReg_self _ _ _ _
    rw [exec_devResetStart_of_due hat hrun hstage]
    generalize (s.started.devResetDue t0).warmReset 2 = t at *
    exact ⟨t, rfl, ⟨_, congrArg Boot.stage hboot⟩, hcause, (hreg _ _ (by decide) (by decide)).trans hpend, hperst, congrArg Frame.now hframe,
      congrArg Frame.flash hframe, congrArg Frame.part hframe⟩

end Sys2Proof.Machine
end

section
/-! The statement on resets of host ports and functions (R18, R135). -/

namespace Sys2Proof.Machine

/-- An image whose one port is that of a host sixteen lanes wide: tiles 0 and 1 are paired (mode 4), and tile 1 carries the
port's upper eight lanes (R18, R182). -/
def wideHost : Image :=
  { magic := 0x46444C48, imageLen := 0, sectionCount := 0, dir := [], sigOffset := 0, laneTiles := [{ tile := 0, mode := 4 }, { tile := 1, mode := 4 }],
    ports := [{ tile := 0, slot := 0, role := 1, hostIndex := 0 }] }

/-- P4 with the PERST_N of host 0 low: of the two tiles of its port, tile 0 runs and tile 1 is OFF. -/
def upperTileOff : State :=
  ({ boot := { stage := .none, pwrok := true, running := some wideHost }, link := { perstLow := [0] } } : State).setRegs
    [(.SUP_COL_PHASE_PHASE, 0, 4), (.SUP_ISL_STATUS_STATE, 0, 2)]

theorem upperTileOff_hostPort : upperTileOff.hostPort 0 = some 0 := by decide

theorem upperTileOff_portTiles : upperTileOff.portTiles 0 = [0, 1] := by decide

theorem upperTileOff_running : upperTileOff.running 0 = true ∧ upperTileOff.running 1 = false := by decide

theorem upperTileOff_lanes_inTest : ∀ l ∈ upperTileOff.lanes 0, upperTileOff.inTest l = false := by decide

/-- A port with a tile that does not run does not train. -/
theorem State.mayTrain_of_not_running {s : State} {p t : Nat} (ht : t ∈ s.portTiles p) (hr : s.running t = false) : s.mayTrain p = false := by
  have hall : (s.portTiles p).all (fun t => !s.closed t && s.running t) = false := List.all_eq_false.2 ⟨t, ht, by simp [hr]⟩
  simp [State.mayTrain, hall]

/-- Refutes O42: its first clause asks of the port's tiles only that tile `p / 4` run, but a port sixteen lanes wide has its upper
lanes on the next tile (R18), and it trains only when both run (`State.mayTrain_of_not_running`). In `upperTileOff` tile 1 is OFF: PERST_N rises and nothing trains. -/
theorem not_hostPortsAndFunctionsAreReset : ¬ Obligations.HostPortsAndFunctionsAreReset := by
  unfold Obligations.HostPortsAndFunctionsAreReset
  rintro ⟨hclause, -⟩
  obtain ⟨t, hexec, htraining, -⟩ := hclause upperTileOff 0 0 (by decide) (by decide) upperTileOff_hostPort (by decide) (by decide) (by decide)
    (by decide) upperTileOff_running.1 (by decide) upperTileOff_lanes_inTest
  let u := upperTileOff.started.updLink fun l => { l with perstLow := dropFrom 0 l.perstLow }
  have hmay : u.mayTrain 0 = false :=
    State.mayTrain_of_not_running (t := 1) (by rw [show u.portTiles 0 = [0, 1] from upperTileOff_portTiles]; decide) upperTileOff_running.2
  have hrise : exec (.perstNRise 0) upperTileOff = .next (u.startTrain 0) := rfl
  rw [State.startTrain, hmay] at hrise
  rw [← Host.Outcome.next.inj (hrise.symm.trans hexec)] at htraining
  exact absurd htraining (by decide)

end Sys2Proof.Machine
end

section
/-! SUPPORT. Commands that act on one condition, and register writes inside a list of fields. -/

namespace Sys2Proof.Machine

/-- A command that acts on a condition acts where it holds. -/
theorem run_of_true {c : State → Bool} {f g : State → State} {s : State} (h : c s.started = true) :
    run (fun s => if c s = true then f s else g s) s = .next (f s.started) := congrArg Host.Outcome.next (if_pos h)

theorem run_of_false {c : State → Bool} {f g : State → State} {s : State} (h : c s.started = false) :
    run (fun s => if c s = true then f s else g s) s = .next (g s.started) := congrArg Host.Outcome.next (if_neg fun hc => Bool.false_ne_true (h.symm.trans hc))

theorem KeepsRegs.refl (s : State) (l : List (Fld × Nat)) : KeepsRegs s s l := fun _ _ _ => rfl

/-- One more write to a register of the list. -/
theorem KeepsRegs.write {s t : State} {l : List (Fld × Nat)} (h : KeepsRegs s t l) {f : Fld} {i : Nat} (v : Nat) (hm : (f, i) ∈ l) :
    KeepsRegs s (t.setReg f i v) l := fun g j hg => (t.reg_setReg_ne v (by rintro ⟨rfl, rfl⟩; exact hg hm)).trans (h g j hg)

theorem KeepsRegs.writes {s t : State} {l : List (Fld × Nat)} (h : KeepsRegs s t l) {w : List (Fld × Nat × Nat)}
    (hm : ∀ e ∈ w, (e.1, e.2.1) ∈ l) : KeepsRegs s (t.setRegs w) l := by
  intro g j hg
  rw [State.reg_setRegs_notin w t g j, h g j hg]
  rintro e he ⟨rfl, rfl⟩
  exact hg (hm e he)

/-- A register after a counter's step. -/
theorem State.reg_bump (s : State) (f g : Fld) (i j n : Nat) :
    (s.bump f i n).reg g j = if g = f ∧ j = i then min (2 ^ f.width - 1) (s.reg f i + n) else s.reg g j := by
  by_cases h : g = f ∧ j = i
  · rw [if_pos h, h.1, h.2, State.reg_bump_self]
  · rw [if_neg h, State.bump, State.reg_setReg_ne _ _ h]

end Sys2Proof.Machine
end

section
/-! SUPPORT. A lane that sleeps, wakes and adapts (R193 to R195, R197 to R201). -/

namespace Sys2Proof.Machine

/-! ### Adaptation (R193, R195) -/

/-- A receiver after one step of its eye. -/
def State.eyeMoved (s : State) (l h w c : Nat) : State :=
  s.setRegs [(.TILE_LANE_ADAPT_EYE_H, l, eyeStep (s.reg .TILE_LANE_ADAPT_EYE_H l) (min 255 h)),
    (.TILE_LANE_ADAPT_EYE_W, l, eyeStep (s.reg .TILE_LANE_ADAPT_EYE_W l) (min 255 w)), (.TILE_LANE_ADAPT_CTLE, l, c)]

/-- A receiver whose eye has fallen low. -/
def State.eyeLow (s : State) (l : Nat) : State := (s.setReg .TILE_LANE_STATUS_MARGIN_LOW l 1).report 0x57 0 l

theorem State.adaptTo_cases (s : State) (l h w c : Nat) : s.adaptTo l h w c = s.eyeMoved l h w c ∨ s.adaptTo l h w c = (s.eyeMoved l h w c).eyeLow l := by
  unfold State.adaptTo
  dsimp only
  split
  · exact .inr rfl
  · exact .inl rfl

/-- An eye that was not low before its step is marked and logged where it falls below a quarter of its trained height. -/
theorem State.adaptTo_of_trained {s : State} {l e : Nat} (h w c : Nat) (he : Sparse.get? s.link.trainedEye l = some e)
    (hok : e ≤ 4 * s.reg .TILE_LANE_ADAPT_EYE_H l) : s.adaptTo l h w c =
      if 4 * eyeStep (s.reg .TILE_LANE_ADAPT_EYE_H l) (min 255 h) < e then (s.eyeMoved l h w c).eyeLow l else s.eyeMoved l h w c := by
  have hwas : decide (4 * s.reg .TILE_LANE_ADAPT_EYE_H l < e) = false := decide_eq_false (by omega)
  unfold State.adaptTo
  dsimp only
  rw [he, Option.getD_some, hwas]
  simp only [Bool.not_false, Bool.and_true, decide_eq_true_eq]
  rfl

theorem State.eyeMoved_reg (s : State) (l h w c : Nat) :
    (s.eyeMoved l h w c).reg .TILE_LANE_ADAPT_EYE_H l = eyeStep (s.reg .TILE_LANE_ADAPT_EYE_H l) (min 255 h) % 2 ^ Fld.TILE_LANE_ADAPT_EYE_H.width ∧
      (s.eyeMoved l h w c).reg .TILE_LANE_ADAPT_EYE_W l = eyeStep (s.reg .TILE_LANE_ADAPT_EYE_W l) (min 255 w) % 2 ^ Fld.TILE_LANE_ADAPT_EYE_W.width ∧
      (s.eyeMoved l h w c).reg .TILE_LANE_ADAPT_CTLE l = c % 2 ^ Fld.TILE_LANE_ADAPT_CTLE.width ∧
      (s.eyeMoved l h w c).reg .TILE_LANE_STATUS_MARGIN_LOW l = s.reg .TILE_LANE_STATUS_MARGIN_LOW l := by
  simp [State.eyeMoved, State.setRegs_cons, State.reg_setReg]

/-- The registers that a step of a receiver's eye may change. -/
def eyeRegs (l : Nat) : List (Fld × Nat) :=
  [(.TILE_LANE_ADAPT_EYE_H, l), (.TILE_LANE_ADAPT_EYE_W, l), (.TILE_LANE_ADAPT_CTLE, l), (.TILE_LANE_STATUS_MARGIN_LOW, l)]

theorem State.adaptTo_keeps (s : State) (l h w c : Nat) : KeepsRegs s (s.adaptTo l h w c) (eyeRegs l) := by
  have hmoved : KeepsRegs s (s.eyeMoved l h w c) (eyeRegs l) := (KeepsRegs.refl s _).writes (by simp [eyeRegs])
  rcases s.adaptTo_cases l h w c with ht | ht
  · exact ht ▸ hmoved
  · exact ht ▸ (hmoved.write 1 (by simp [eyeRegs]) : KeepsRegs s ((s.eyeMoved l h w c).setReg .TILE_LANE_STATUS_MARGIN_LOW l 1) (eyeRegs l))

theorem State.adaptTo_tr (s : State) (l h w c : Nat) : (s.adaptTo l h w c).tr = s.tr := congrArg Prod.fst (s.adaptTo_quietTraffic l h w c)

/-! ### A direction that wakes (R200) -/

/-- A receiver that is ready again and locked. -/
def State.relocked (s : State) (l : Nat) : State :=
  ((s.setReg .TILE_LANE_STATUS_RX_STATE l 1).updLink fun k => { k with asleep := Sparse.erase k.asleep (dirKey l .rx) }).setRegs
    [(.TILE_LANE_STATUS_CDR_LOCK, l, 1), (.TILE_LANE_STATUS_SIG_DET, l, 1)]

/-- A receiver calibrates its offsets and adapts for a short time. -/
def State.recalibrated (s : State) (l : Nat) (e : Nat × Nat × Nat) : State := (s.bump .TILE_LANE_ADAPT_CAL_COUNT l).adaptTo l e.1 e.2.1 e.2.2

theorem State.wakeDir_rx (s : State) (l : Nat) : s.wakeDir l .rx =
    if s.reg .TILE_LANE_STATUS_RX_STATE l = 3 then (s.relocked l).recalibrated l (Config.wakeEye l (s.relocked l).now) else s.relocked l := by
  simp only [State.wakeDir, laneField, beq_iff_eq]
  rfl

theorem State.relocked_reg (s : State) (l : Nat) : (s.relocked l).reg .TILE_LANE_STATUS_RX_STATE l = 1 ∧ (s.relocked l).reg .TILE_LANE_STATUS_CDR_LOCK l = 1 ∧
    (s.relocked l).reg .TILE_LANE_STATUS_SIG_DET l = 1 ∧ (s.relocked l).reg .TILE_LANE_ADAPT_CAL_COUNT l = s.reg .TILE_LANE_ADAPT_CAL_COUNT l := by
  have hstate : 1 % 2 ^ Fld.TILE_LANE_STATUS_RX_STATE.width = 1 := rfl
  have hlock : 1 % 2 ^ Fld.TILE_LANE_STATUS_CDR_LOCK.width = 1 := rfl
  have hsignal : 1 % 2 ^ Fld.TILE_LANE_STATUS_SIG_DET.width = 1 := rfl
  simp [State.relocked, State.setRegs_cons, State.reg_setReg, hstate, hlock, hsignal]

theorem State.relocked_keeps (s : State) (l : Nat) :
    KeepsRegs s (s.relocked l) [(.TILE_LANE_STATUS_RX_STATE, l), (.TILE_LANE_STATUS_CDR_LOCK, l), (.TILE_LANE_STATUS_SIG_DET, l)] := by
  have hready : KeepsRegs s ((s.setReg .TILE_LANE_STATUS_RX_STATE l 1).updLink fun k => { k with asleep := Sparse.erase k.asleep (dirKey l .rx) })
      [(.TILE_LANE_STATUS_RX_STATE, l), (.TILE_LANE_STATUS_CDR_LOCK, l), (.TILE_LANE_STATUS_SIG_DET, l)] :=
    (KeepsRegs.setReg s .TILE_LANE_STATUS_RX_STATE l 1).mono (by simp)
  exact hready.writes (by simp)

theorem State.recalibrated_keeps (s : State) (l : Nat) (e : Nat × Nat × Nat) :
    KeepsRegs s (s.recalibrated l e) ((.TILE_LANE_ADAPT_CAL_COUNT, l) :: eyeRegs l) := fun f i hf =>
  (State.adaptTo_keeps _ l _ _ _ f i fun h => hf (List.mem_cons_of_mem _ h)).trans (KeepsRegs.bump s _ l 1 f i fun h => hf (by simp_all))

theorem State.recalibrated_reg (s : State) (l : Nat) (e : Nat × Nat × Nat) : (s.recalibrated l e).reg .TILE_LANE_ADAPT_CAL_COUNT l =
    min (2 ^ Fld.TILE_LANE_ADAPT_CAL_COUNT.width - 1) (s.reg .TILE_LANE_ADAPT_CAL_COUNT l + 1) :=
  (State.adaptTo_keeps _ l _ _ _ _ l (by simp [eyeRegs])).trans (State.reg_bump_self ..)

theorem State.wakeDir_tr (s : State) (l : Nat) (d : Dir) : (s.wakeDir l d).tr = s.tr := by
  cases d
  · rfl
  · rw [State.wakeDir_rx]
    split
    · exact State.adaptTo_tr ..
    · rfl

/-- What the registers of a receiver that wakes show. -/
theorem State.wakeDir_rx_spec (s : State) (l : Nat) : (s.wakeDir l .rx).reg .TILE_LANE_STATUS_RX_STATE l = 1 ∧
    (s.wakeDir l .rx).reg .TILE_LANE_STATUS_CDR_LOCK l = 1 ∧ (s.wakeDir l .rx).reg .TILE_LANE_STATUS_SIG_DET l = 1 ∧
    (s.wakeDir l .rx).reg .TILE_LANE_ADAPT_CAL_COUNT l = if s.reg .TILE_LANE_STATUS_RX_STATE l = 3 then
      min (2 ^ Fld.TILE_LANE_ADAPT_CAL_COUNT.width - 1) (s.reg .TILE_LANE_ADAPT_CAL_COUNT l + 1) else s.reg .TILE_LANE_ADAPT_CAL_COUNT l := by
  obtain ⟨hstate, hlock, hsignal, hcount⟩ := s.relocked_reg l
  rw [State.wakeDir_rx]
  split
  · have hkept : ∀ f, (f, l) ∉ (.TILE_LANE_ADAPT_CAL_COUNT, l) :: eyeRegs l → _ := fun f hf =>
      (s.relocked l).recalibrated_keeps l (Config.wakeEye l (s.relocked l).now) f l hf
    exact ⟨(hkept _ (by simp [eyeRegs])).trans hstate, (hkept _ (by simp [eyeRegs])).trans hlock, (hkept _ (by simp [eyeRegs])).trans hsignal,
      by rw [State.recalibrated_reg, hcount]⟩
  · exact ⟨hstate, hlock, hsignal, hcount⟩

/-- The registers that a direction that wakes may change. -/
def wakeRegs (l : Nat) (d : Dir) : List (Fld × Nat) :=
  [(laneField d, l), (.TILE_LANE_STATUS_CDR_LOCK, l), (.TILE_LANE_STATUS_SIG_DET, l)]

theorem State.wakeDir_keeps (s : State) (l : Nat) (d : Dir) :
    KeepsRegs s (s.wakeDir l d) (wakeRegs l d ++ (.TILE_LANE_ADAPT_CAL_COUNT, l) :: eyeRegs l) := by
  cases d
  · exact (KeepsRegs.setReg s .TILE_LANE_STATUS_TX_STATE l 1).mono (by simp [wakeRegs, laneField])
  · have hlocked := (s.relocked_keeps l).mono (m := wakeRegs l .rx ++ (.TILE_LANE_ADAPT_CAL_COUNT, l) :: eyeRegs l) (by simp [wakeRegs, laneField])
    rw [State.wakeDir_rx]
    split
    · exact fun f i hf => ((s.relocked l).recalibrated_keeps l _ f i fun h => hf (List.mem_append_right _ h)).trans (hlocked f i hf)
    · exact hlocked

theorem State.wakeDir_light_keeps {s : State} {l : Nat} {d : Dir} (h : s.reg (laneField d) l = 2) : KeepsRegs s (s.wakeDir l d) (wakeRegs l d) := by
  cases d
  · exact (KeepsRegs.setReg s .TILE_LANE_STATUS_TX_STATE l 1).mono (by simp [wakeRegs, laneField])
  · rw [State.wakeDir_rx, if_neg (by simp_all [laneField])]
    exact s.relocked_keeps l

end Sys2Proof.Machine
end

section
/-! SUPPORT. A lane's generator, its checker and the errors injected between them (R207, R212 to R217). -/

namespace Sys2Proof.Machine

/-! ### The checker (R214, R215) -/

theorem checkRun_lane (pat : Nat) : ∀ (bs : List Nat) (c : Checker), (checkRun pat c bs).2.1.lane = c.lane
  | [], _ => rfl
  | b :: bs, c => by
    unfold checkRun
    dsimp only
    split
    · exact checkRun_lane pat bs _
    · split
      · rfl
      · exact checkRun_lane pat bs _

/-- One bit that a checker without errors does not expect is one error, and its lock stays. -/
theorem checkRun_inverted (pat : Nat) {c : Checker} (h : c.errs = []) :
    ∃ d, checkRun pat c [(Folio.prbsBit pat c.reg + 1) % 2] = (1, d, false) := by
  have hne : Folio.prbsBit pat c.reg ≠ (Folio.prbsBit pat c.reg + 1) % 2 := by omega
  refine ⟨{ c with reg := Folio.shiftIn pat c.reg (Folio.prbsBit pat c.reg), met := c.met + 1, errs := [c.met] }, ?_⟩
  rw [checkRun]
  simp only [if_neg hne, h, List.filter_nil, List.nil_append, List.length_singleton, if_neg (show ¬ 32 ≤ 1 by decide)]
  rfl

theorem State.checker_lane (s : State) (l : Nat) : (s.checker l).lane = l := by
  unfold State.checker
  cases h : s.link.checkers.find? (fun c => c.lane == l) with
  | none => rfl
  | some c => simpa using List.find?_some h

theorem State.checker_setChecker (s : State) (c : Checker) : (s.setChecker c).checker c.lane = c := by
  have hnone : (s.link.checkers.filter fun x => x.lane != c.lane).find? (fun x => x.lane == c.lane) = none := by
    simp [List.find?_eq_none]
  simp [State.setChecker, State.checker, List.find?_append, hnone]

theorem State.setChecker_reg (s : State) (c : Checker) (f : Fld) (i : Nat) : (s.setChecker c).reg f i = s.reg f i := rfl

/-- A checker that stops is no longer synchronised; no other register changes. -/
theorem State.checkerOff_reg (s : State) (l : Nat) (f : Fld) (i : Nat) : (s.checkerOff l).reg f i =
    if (f = .TILE_LANE_TEST_CHK_SYNC ∧ i = l) ∧ s.reg .TILE_LANE_TEST_CHK_SYNC l = 1 then 0 else s.reg f i := by
  unfold State.checkerOff
  by_cases h : s.reg .TILE_LANE_TEST_CHK_SYNC l = 1
  · simp only [h, beq_self_eq_true, if_true, and_true, State.reg_setReg]
    rfl
  · simp [h]

theorem State.checkerOff_tr (s : State) (l : Nat) : (s.checkerOff l).tr = s.tr := by
  unfold State.checkerOff
  split <;> rfl

/-- What a lane has checked does not change with the state's other parts. -/
theorem State.checkedBits_congr {s t : State} {l : Nat} (hlink : t.link.prbs = s.link.prbs) (hnow : t.now = s.now)
    (hsync : t.reg .TILE_LANE_TEST_CHK_SYNC l = s.reg .TILE_LANE_TEST_CHK_SYNC l) (hrate : t.reg .TILE_LANE_STATUS_RATE l = s.reg .TILE_LANE_STATUS_RATE l) :
    t.checkedBits l = s.checkedBits l := by
  simp only [State.checkedBits, hlink, hnow, hsync, hrate]

/-- A count that goes on from `n` now stands at `n`. -/
theorem State.checkedBits_of_now {s : State} {l n : Nat} (h : Sparse.get? s.link.prbs l = some (s.now, n)) : s.checkedBits l = n := by
  simp [State.checkedBits, h]

theorem State.countFrom_prbs (s : State) (l n : Nat) : Sparse.get? (s.countFrom l n).link.prbs l = some (s.now, n) := Sparse.get?_set_self _ _ _

theorem State.checkerOff_checkedBits (s : State) (l : Nat) : (s.checkerOff l).checkedBits l = s.checkedBits l := by
  unfold State.checkerOff
  split
  · exact State.checkedBits_of_now (s.countFrom_prbs l (s.checkedBits l))
  · rfl

/-- The bits taken cost the checker nothing but errors. -/
theorem State.checkIn_of_held {s : State} {l n : Nat} {c : Checker} {bs : List Nat}
    (h : checkRun (s.reg .TILE_LANE_TEST_CHK_PAT l) (s.checker l) bs = (n, c, false)) :
    s.checkIn l bs = (s.bump .TILE_PRBS_ERR_COUNT l n).setChecker c := by
  simp only [State.checkIn, h, Bool.false_eq_true, if_false]

theorem State.checkIn_of_lost {s : State} {l n : Nat} {c : Checker} {bs : List Nat}
    (h : checkRun (s.reg .TILE_LANE_TEST_CHK_PAT l) (s.checker l) bs = (n, c, true)) :
    s.checkIn l bs = (((s.bump .TILE_PRBS_ERR_COUNT l n).setChecker c).checkerOff l).bump .TILE_PRBS_SYNC_LOCK_LOSS l := by
  simp only [State.checkIn, h, if_true]

/-! ### What a lane receives (R207, R212) -/

/-- `t` is `s` but for the registers of generators. -/
def GensOnly (s t : State) : Prop := ∃ g, t = s.updLink fun k => { k with gens := g }

theorem GensOnly.generate (s : State) (l n : Nat) : GensOnly s (s.generate l n).2 := by
  unfold State.generate
  split
  · exact ⟨_, rfl⟩
  · exact ⟨s.link.gens, rfl⟩

theorem GensOnly.received (s : State) (r : LaneRx) : GensOnly s (s.received r).2 := by
  unfold State.received
  dsimp only
  split
  · exact .generate ..
  · split <;> exact ⟨s.link.gens, rfl⟩

section
variable {s t : State} (h : GensOnly s t)
include h

theorem GensOnly.reg (f : Fld) (i : Nat) : t.reg f i = s.reg f i := by
  obtain ⟨g, rfl⟩ := h
  rfl

theorem GensOnly.checker (l : Nat) : t.checker l = s.checker l := by
  obtain ⟨g, rfl⟩ := h
  rfl

theorem GensOnly.checkedBits (l : Nat) : t.checkedBits l = s.checkedBits l := by
  obtain ⟨g, rfl⟩ := h
  rfl

theorem GensOnly.tr : t.tr = s.tr := by
  obtain ⟨g, rfl⟩ := h
  rfl

theorem GensOnly.now : t.now = s.now := by
  obtain ⟨g, rfl⟩ := h
  rfl

end

/-! ### An inverted bit (R217) -/

/-- A synchronised checker without errors sees the lane's own generator, of its own pattern and in step with it, through a near-end
loopback at a rate below PAM4. -/
structure State.SeesOwn (s : State) (l : Nat) : Prop where
  near : s.nearEnd l = true
  loop : s.reg .TILE_LANE_TEST_LPBK l ≠ 3
  rate : s.reg .TILE_LANE_STATUS_RATE l < 6
  sync : s.reg .TILE_LANE_TEST_CHK_SYNC l = 1
  pattern : s.reg .TILE_LANE_TEST_GEN_PAT l = s.reg .TILE_LANE_TEST_CHK_PAT l
  step : Sparse.get? s.link.gens l = some (s.checker l).reg
  clean : (s.checker l).errs = []

/-- Such a checker meets an inverted bit as one error. -/
theorem State.injectBit_of_seesOwn {s : State} {l : Nat} (h : s.SeesOwn l) :
    ∃ g c, s.injectBit l = ((s.updLink fun k => { k with gens := g }).bump .TILE_PRBS_ERR_COUNT l 1).setChecker c := by
  obtain ⟨hnear, hloop, hrate, hsync, hpattern, hstep, hclean⟩ := h
  let g := Sparse.set id s.link.gens l (Folio.prbsBits (s.reg .TILE_LANE_TEST_GEN_PAT l) 1 (s.checker l).reg).2
  have hgen : s.generate l 1 = ([Folio.prbsBit (s.reg .TILE_LANE_TEST_CHK_PAT l) (s.checker l).reg], s.updLink fun k => { k with gens := g }) := by
    rw [State.generate, hstep, ← hpattern]
    rfl
  have hloop' : (s.reg .TILE_LANE_TEST_LPBK l == 3) = false := beq_eq_false_iff_ne.2 hloop
  have hon : s.on .TILE_LANE_TEST_CHK_SYNC l = true := beq_iff_eq.2 hsync
  obtain ⟨c, hrun⟩ := checkRun_inverted (s.reg .TILE_LANE_TEST_CHK_PAT l) hclean
  refine ⟨g, c, ?_⟩
  unfold State.injectBit
  dsimp only
  rw [if_neg (by omega : ¬ 6 ≤ s.reg .TILE_LANE_STATUS_RATE l), hgen, hloop']
  dsimp only
  rw [if_pos hnear, if_pos hon]
  exact State.checkIn_of_held hrun

theorem State.injNext_injecting (s : State) (l t r : Nat) : Sparse.get? (s.injNext l t r).link.injecting l =
    some (t + (2 ^ (s.reg .TILE_LANE_TEST_INJ_EXP l + 1) + r) / max 1 (rate2 (s.reg .TILE_LANE_STATUS_RATE l)),
      (2 ^ (s.reg .TILE_LANE_TEST_INJ_EXP l + 1) + r) % max 1 (rate2 (s.reg .TILE_LANE_STATUS_RATE l))) := Sparse.get?_set_self _ _ _

/-! ### A write of the test register (R206, R213, R217, R220) -/

/-- A field of a lane's test register takes a listed encoding. -/
def State.takeField (s : State) (l : Nat) (f : Fld) (x : Nat) (ok : Bool) : State := if ok then s.setReg f l x else s

theorem State.takeField_reg (s : State) (l : Nat) (f : Fld) (x : Nat) (ok : Bool) (g : Fld) (j : Nat) :
    (s.takeField l f x ok).reg g j = if ok = true ∧ g = f ∧ j = l then x % 2 ^ f.width else s.reg g j := by
  unfold State.takeField
  cases ok <;> simp [State.reg_setReg]

theorem State.takeField_tr (s : State) (l : Nat) (f : Fld) (x : Nat) (ok : Bool) : (s.takeField l f x ok).tr = s.tr := by
  cases ok <;> rfl

theorem State.setGen_reg (s : State) (l old : Nat) (f : Fld) (i : Nat) : (s.setGen l old).reg f i = s.reg f i := by
  unfold State.setGen
  dsimp only
  split <;> rfl

theorem State.setGen_tr (s : State) (l old : Nat) : (s.setGen l old).tr = s.tr := by
  unfold State.setGen
  dsimp only
  split <;> rfl

/-- A lane's LPBK has taken its encoding of a word. -/
def State.testLoop (s : State) (l v : Nat) : State := s.takeField l .TILE_LANE_TEST_LPBK (bits v 2 0) (decide (bits v 2 0 ≤ 3))

/-- The fields of a lane's test register have taken a word, and its generator has started anew where its pattern changes. -/
def State.testFields (s : State) (l v : Nat) : State :=
  ((((((s.testLoop l v).takeField l .TILE_LANE_TEST_GEN_PAT (bits v 6 3) (patOk (s.reg .TILE_LANE_STATUS_RATE l) (bits v 6 3))).setGen l
    ((s.testLoop l v).reg .TILE_LANE_TEST_GEN_PAT l)).takeField l .TILE_LANE_TEST_CHK_PAT (bits v 10 7)
    (patOk (s.reg .TILE_LANE_STATUS_RATE l) (bits v 10 7))).takeField l .TILE_LANE_TEST_INJ_MODE (bits v 12 11) (decide (bits v 12 11 ≤ 2))).takeField l
    .TILE_LANE_TEST_INJ_EXP (bits v 18 13) (decide (8 ≤ bits v 18 13) && decide (bits v 18 13 ≤ 40))).setReg .TILE_LANE_TEST_TX_IDLE l (bits v 21 21)

/-- Rate injection stops in another mode than RATE. -/
def State.injectionKept (s : State) (l : Nat) : State :=
  if s.reg .TILE_LANE_TEST_INJ_MODE l == 2 then s else s.updLink fun k => { k with injecting := Sparse.erase k.injecting l }

theorem State.injectionKept_reg (s : State) (l : Nat) (f : Fld) (i : Nat) : (s.injectionKept l).reg f i = s.reg f i := by
  unfold State.injectionKept
  split <;> rfl

theorem State.injectionKept_tr (s : State) (l : Nat) : (s.injectionKept l).tr = s.tr := by
  unfold State.injectionKept
  split <;> rfl

/-- A write of the test register: the checker stops where its pattern changes. -/
theorem State.laneTest_eq {s : State} {l v : Nat} (hin : s.inTest l = true) (hgo : bit v 19 = false) : s.laneTest l v =
    if ((s.testFields l v).injectionKept l).reg .TILE_LANE_TEST_CHK_PAT l == (s.testLoop l v).reg .TILE_LANE_TEST_CHK_PAT l then
      (s.testFields l v).injectionKept l
    else ((s.testFields l v).injectionKept l).checkerOff l := by
  unfold State.laneTest
  rw [if_neg (by simp [hin]), hgo]
  rfl

theorem State.testFields_tr (s : State) (l v : Nat) : (s.testFields l v).tr = s.tr := by
  simp only [State.testFields, State.testLoop, State.setReg_tr, State.takeField_tr, State.setGen_tr]

/-- What the fields of a test register show after a write of a word. -/
theorem State.testFields_reg (s : State) (l v : Nat) :
    (s.testFields l v).reg .TILE_LANE_TEST_LPBK l = (if bits v 2 0 ≤ 3 then bits v 2 0 else s.reg .TILE_LANE_TEST_LPBK l) ∧
      (s.testFields l v).reg .TILE_LANE_TEST_GEN_PAT l =
        (if patOk (s.reg .TILE_LANE_STATUS_RATE l) (bits v 6 3) then bits v 6 3 else s.reg .TILE_LANE_TEST_GEN_PAT l) ∧
      (s.testFields l v).reg .TILE_LANE_TEST_CHK_PAT l =
        (if patOk (s.reg .TILE_LANE_STATUS_RATE l) (bits v 10 7) then bits v 10 7 else s.reg .TILE_LANE_TEST_CHK_PAT l) ∧
      (s.testFields l v).reg .TILE_LANE_TEST_INJ_MODE l = (if bits v 12 11 ≤ 2 then bits v 12 11 else s.reg .TILE_LANE_TEST_INJ_MODE l) ∧
      (s.testFields l v).reg .TILE_LANE_TEST_CHK_SYNC l = s.reg .TILE_LANE_TEST_CHK_SYNC l := by
  have hloop : bits v 2 0 % 2 ^ Fld.TILE_LANE_TEST_LPBK.width = bits v 2 0 := Nat.mod_eq_of_lt (Nat.mod_lt _ (by decide))
  have hgen : bits v 6 3 % 2 ^ Fld.TILE_LANE_TEST_GEN_PAT.width = bits v 6 3 := Nat.mod_eq_of_lt (Nat.mod_lt _ (by decide))
  have hchk : bits v 10 7 % 2 ^ Fld.TILE_LANE_TEST_CHK_PAT.width = bits v 10 7 := Nat.mod_eq_of_lt (Nat.mod_lt _ (by decide))
  have hmode : bits v 12 11 % 2 ^ Fld.TILE_LANE_TEST_INJ_MODE.width = bits v 12 11 := Nat.mod_eq_of_lt (Nat.mod_lt _ (by decide))
  simp [State.testFields, State.testLoop, State.takeField_reg, State.setGen_reg, State.reg_setReg, hloop, hgen, hchk, hmode]

end Sys2Proof.Machine
end

section
/-! The statement on lanes that sleep, adapt and are tested (05_lanes.md), clause by clause (R193 to R201, R206 to R217). -/

namespace Sys2Proof.Machine

/-! ### Sleep and adaptation (R193 to R201) -/

theorem exec_laneSleepDeep {s : State} {l : Nat} (d : Dir) (hl : l < 256) (h : s.reg (laneField d) l = 2) : exec (.laneSleepDeep l d) s =
    .next ((s.started.atNow ((Sparse.get? s.link.asleep (dirKey l d)).getD s.now + 10000000)).setReg (laneField d) l 3) :=
  run_of_true (c := fun s => decide (l < 256) && s.reg (laneField d) l == 2)
    (f := fun s => (s.atNow ((Sparse.get? s.link.asleep (dirKey l d)).getD s.now + 10000000)).setReg (laneField d) l 3) (g := fun s => s) (s := s) (by simp [hl, h])

theorem exec_laneSleepDeep_of_not {s : State} {l : Nat} {d : Dir} (h : s.reg (laneField d) l ≠ 2) : exec (.laneSleepDeep l d) s = .next s.started :=
  run_of_false (c := fun s => decide (l < 256) && s.reg (laneField d) l == 2)
    (f := fun s => (s.atNow ((Sparse.get? s.link.asleep (dirKey l d)).getD s.now + 10000000)).setReg (laneField d) l 3) (g := fun s => s) (s := s) (by simp [h])

/-- Whether LANE_WAKE acts on a direction. -/
def State.readyToWake (s : State) (l : Nat) (d : Dir) : Bool :=
  decide (l < 256) && (s.reg (laneField d) l == 2 || s.reg (laneField d) l == 3) && s.wakes l d

theorem exec_laneWake {s : State} {l : Nat} {d : Dir} (h : s.readyToWake l d = true) : exec (.laneWake l d) s = .next (s.started.wakeDir l d) :=
  run_of_true (c := fun s => s.readyToWake l d) (f := fun s => s.wakeDir l d) (g := fun s => s) h

theorem exec_laneWake_of_not {s : State} {l : Nat} {d : Dir} (h : s.readyToWake l d = false) : exec (.laneWake l d) s = .next s.started :=
  run_of_false (c := fun s => s.readyToWake l d) (f := fun s => s.wakeDir l d) (g := fun s => s) h

theorem laneWake_answers (s : State) (l : Nat) (d : Dir) (hl : l < 256) (hasleep : s.reg (laneField d) l = 2 ∨ s.reg (laneField d) l = 3)
    (hwakes : s.wakes l d = true) : ∃ t, exec (.laneWake l d) s = .next t ∧
    t.reg (laneField d) l = 1 ∧ (d = .rx → t.reg .TILE_LANE_STATUS_CDR_LOCK l = 1 ∧ t.reg .TILE_LANE_STATUS_SIG_DET l = 1 ∧
      t.reg .TILE_LANE_ADAPT_CAL_COUNT l = (if s.reg (laneField d) l = 3 then min (2 ^ Fld.TILE_LANE_ADAPT_CAL_COUNT.width - 1)
        (s.reg .TILE_LANE_ADAPT_CAL_COUNT l + 1) else s.reg .TILE_LANE_ADAPT_CAL_COUNT l)) ∧
    (d = .tx → t.regs = (s.setReg (laneField d) l 1).regs) ∧
    (s.reg (laneField d) l = 2 → KeepsRegs s t (wakeRegs l d)) ∧
    KeepsRegs s t (wakeRegs l d ++ (.TILE_LANE_ADAPT_CAL_COUNT, l) :: eyeRegs l) ∧ t.tr = s.tr ∧ t.frame = s.frame := by
  have hready : s.readyToWake l d = true := by simp [State.readyToWake, hl, hasleep, hwakes]
  refine ⟨_, exec_laneWake hready, ?_, ?_, ?_, fun hlight => State.wakeDir_light_keeps (s := s.started) hlight, s.started.wakeDir_keeps l d,
    s.started.wakeDir_tr l d, s.started.wakeDir_frame l d⟩
  · cases d
    · exact State.reg_setReg_self s .TILE_LANE_STATUS_TX_STATE l 1
    · exact (s.started.wakeDir_rx_spec l).1
  · rintro rfl
    exact (s.started.wakeDir_rx_spec l).2
  · rintro rfl
    rfl

theorem exec_adaptationStep {s : State} {l : Nat} (h w c : Nat) (hl : l < 256) (ha : s.adapts l = true) :
    exec (.adaptationStep l h w c) s = .next (s.started.adaptTo l h w c) :=
  run_of_true (c := fun s => decide (l < 256) && s.adapts l) (f := fun s => s.adaptTo l h w c) (g := fun s => s)
    (Bool.and_eq_true_iff.2 ⟨decide_eq_true hl, ha⟩)

theorem exec_offsetCalibration {s : State} {l : Nat} (hl : l < 256) (ha : s.adapts l = true) :
    exec (.offsetCalibration l) s = .next (s.started.bump .TILE_LANE_ADAPT_CAL_COUNT l) :=
  run_of_true (c := fun s => decide (l < 256) && s.adapts l) (f := fun s => s.bump .TILE_LANE_ADAPT_CAL_COUNT l) (g := fun s => s)
    (Bool.and_eq_true_iff.2 ⟨decide_eq_true hl, ha⟩)

theorem exec_adaptation_of_not {s : State} {l : Nat} (h w c : Nat) (ha : s.adapts l = false) :
    exec (.adaptationStep l h w c) s = .next s.started ∧ exec (.offsetCalibration l) s = .next s.started := by
  have hcond : (fun s => decide (l < 256) && State.adapts s l) s.started = false := Bool.and_eq_false_iff.2 (.inr ha)
  exact ⟨run_of_false (c := fun s => decide (l < 256) && s.adapts l) (f := fun s => s.adaptTo l h w c) (g := fun s => s) hcond,
    run_of_false (c := fun s => decide (l < 256) && s.adapts l) (f := fun s => s.bump .TILE_LANE_ADAPT_CAL_COUNT l) (g := fun s => s) hcond⟩

theorem adaptationStep_answers (s : State) (l h w c e : Nat) (hl : l < 256) (ha : s.adapts l = true)
    (he : Sparse.get? s.link.trainedEye l = some e) (hok : e ≤ 4 * s.reg .TILE_LANE_ADAPT_EYE_H l) : ∃ t, exec (.adaptationStep l h w c) s = .next t ∧
    t.reg .TILE_LANE_ADAPT_EYE_H l = eyeStep (s.reg .TILE_LANE_ADAPT_EYE_H l) (min 255 h) % 2 ^ Fld.TILE_LANE_ADAPT_EYE_H.width ∧
    t.reg .TILE_LANE_ADAPT_EYE_W l = eyeStep (s.reg .TILE_LANE_ADAPT_EYE_W l) (min 255 w) % 2 ^ Fld.TILE_LANE_ADAPT_EYE_W.width ∧
    t.reg .TILE_LANE_ADAPT_CTLE l = c % 2 ^ Fld.TILE_LANE_ADAPT_CTLE.width ∧
    (4 * eyeStep (s.reg .TILE_LANE_ADAPT_EYE_H l) (min 255 h) < e → t.reg .TILE_LANE_STATUS_MARGIN_LOW l = 1 ∧
      t.flt.reportQ = queueReport (s.effSev 0x57 none) s.flt.reportQ { source := 0x57, kind := 0, scope := l, sev := none, isl := l / 8 }) ∧
    (e ≤ 4 * eyeStep (s.reg .TILE_LANE_ADAPT_EYE_H l) (min 255 h) →
      t.reg .TILE_LANE_STATUS_MARGIN_LOW l = s.reg .TILE_LANE_STATUS_MARGIN_LOW l ∧ t.flt = s.flt) ∧ t.frame = s.frame := by
  obtain ⟨hheight, hwidth, hctle, hmark⟩ := s.started.eyeMoved_reg l h w c
  refine ⟨_, exec_adaptationStep h w c hl ha, ?_⟩
  rw [State.adaptTo_of_trained (s := s.started) h w c he hok]
  have hkept : ∀ f, f ≠ .TILE_LANE_STATUS_MARGIN_LOW → ((s.started.eyeMoved l h w c).eyeLow l).reg f l = (s.started.eyeMoved l h w c).reg f l :=
    fun f hf => State.reg_setReg_ne _ 1 fun e => hf e.1
  split
  case isTrue hlow =>
    refine ⟨(hkept _ (by decide)).trans hheight, (hkept _ (by decide)).trans hwidth, (hkept _ (by decide)).trans hctle,
      fun _ => ⟨(State.reg_setReg_self (s.started.eyeMoved l h w c) .TILE_LANE_STATUS_MARGIN_LOW l 1 :), rfl⟩, fun hhigh => absurd hlow (by simpa using hhigh), ?_⟩
    simp [State.eyeLow, State.eyeMoved]
  case isFalse hhigh =>
    exact ⟨hheight, hwidth, hctle, fun hlow => absurd hlow hhigh, fun _ => ⟨hmark, rfl⟩, by simp [State.eyeMoved]⟩

/-! ### Writes of the test register (R206, R213, R217, R220) -/

theorem State.meetReg_of_open {s : State} {n : Nat} (a : RegAccess) (go : State → State) (ho : s.regOpen n = true) (hw : s.regWaits n = false) :
    s.meetReg n a go = go s := by
  simp [State.meetReg, ho, hw]

theorem State.regOpen_of_waits {s : State} {n : Nat} (h : s.regWaits n = true) : s.regOpen n = true := by
  simp only [State.regWaits, Bool.or_eq_true, beq_iff_eq] at h
  rcases h with h | h <;> simp [State.regOpen, h]

theorem State.meetReg_of_waits {s : State} {n : Nat} (a : RegAccess) (go : State → State) (h : s.regWaits n = true) : s.meetReg n a go = s.holdReg n a := by
  simp [State.meetReg, State.regOpen_of_waits h, h]

/-- A write that waits wakes its island, where that is stopped, and changes nothing else. -/
theorem State.holdReg_spec (s : State) (n : Nat) (a : RegAccess) : (s.holdReg n a).isl.heldRegs = s.isl.heldRegs ++ [(n, a)] ∧
    KeepsRegs s (s.holdReg n a) [(.SUP_ISL_STATUS_WAKE_PEND, n)] ∧ (s.holdReg n a).link = s.link := by
  simp only [KeepsRegs, State.holdReg, State.touch]
  split
  · exact ⟨rfl, KeepsRegs.setReg s _ n 1, rfl⟩
  · exact ⟨rfl, fun _ _ _ => rfl, rfl⟩

/-- A tile's lane that a command of an operator names. -/
def State.mayTest (s : State) (k l : Nat) : Bool := decide (l < 256) && s.operator k

/-- The write that a command waits with. -/
def testWrite (k l v : Nat) : RegAccess := { host := k, tag := 0, offset := laneReg l, size := 4, kind := .write, value := v }

theorem exec_tileLaneTestWrite {s : State} {k l : Nat} (v : Nat) (h : s.mayTest k l = true) :
    exec (.tileLaneTestWrite k l v) s = .next (s.started.meetReg (l / 8) (testWrite k l v) fun s => s.laneTest l v) :=
  run_of_true (c := fun s => s.mayTest k l) (f := fun s => s.meetReg (l / 8) (testWrite k l v) fun s => s.laneTest l v) (g := fun s => s) h

theorem exec_injGo {s : State} {k l : Nat} (h : s.mayTest k l = true) :
    exec (.injGo k l) s = .next (s.started.meetReg (l / 8) (testWrite k l (s.started.laneTestWord l + 2 ^ 19)) fun s => s.injGo l) :=
  run_of_true (c := fun s => s.mayTest k l) (f := fun s => s.meetReg (l / 8) (testWrite k l (s.laneTestWord l + 2 ^ 19)) fun s => s.injGo l)
    (g := fun s => s) h

theorem exec_laneTest_of_not {s : State} {k l : Nat} (v : Nat) (h : s.mayTest k l = false) :
    exec (.tileLaneTestWrite k l v) s = .next s.started ∧ exec (.injGo k l) s = .next s.started :=
  ⟨run_of_false (c := fun s => s.mayTest k l) (f := fun s => s.meetReg (l / 8) (testWrite k l v) fun s => s.laneTest l v) (g := fun s => s) h,
    run_of_false (c := fun s => s.mayTest k l) (f := fun s => s.meetReg (l / 8) (testWrite k l (s.laneTestWord l + 2 ^ 19)) fun s => s.injGo l)
      (g := fun s => s) h⟩

theorem State.mayTest_of {s : State} {k l : Nat} (hl : l < 256) (hk : s.operator k = true) : s.mayTest k l = true :=
  Bool.and_eq_true_iff.2 ⟨decide_eq_true hl, hk⟩

/-- A test register's write of a tenant, or outside TEST, changes nothing. -/
theorem laneTest_of_not {s : State} {k l : Nat} (v : Nat)
    (h : s.operator k = false ∨ (s.regOpen (l / 8) = true ∧ s.regWaits (l / 8) = false ∧ s.inTest l = false)) :
    exec (.tileLaneTestWrite k l v) s = .next s.started ∧ exec (.injGo k l) s = .next s.started := by
  cases hmay : s.mayTest k l with
  | false => exact exec_laneTest_of_not v hmay
  | true =>
    obtain ⟨ho, hw, htest⟩ := h.resolve_left (by simp [(Bool.and_eq_true_iff.1 hmay).2])
    have hout : (!s.started.inTest l) = true := congrArg Bool.not htest
    have hwrite : s.started.laneTest l v = s.started := if_pos hout
    have hgo : s.started.injGo l = s.started := if_pos hout
    rw [exec_tileLaneTestWrite v hmay, exec_injGo hmay, State.meetReg_of_open (s := s.started) _ _ ho hw, State.meetReg_of_open (s := s.started) _ _ ho hw,
      hwrite, hgo]
    exact ⟨rfl, rfl⟩

theorem tileLaneTestWrite_answers (s : State) (k l v : Nat) (hl : l < 256) (hk : s.operator k = true) (ho : s.regOpen (l / 8) = true)
    (hw : s.regWaits (l / 8) = false) (hin : s.inTest l = true) (hgo : bit v 19 = false) : ∃ t, exec (.tileLaneTestWrite k l v) s = .next t ∧
    t.reg .TILE_LANE_TEST_LPBK l = (if bits v 2 0 ≤ 3 then bits v 2 0 else s.reg .TILE_LANE_TEST_LPBK l) ∧
    t.reg .TILE_LANE_TEST_GEN_PAT l = (if patOk (s.reg .TILE_LANE_STATUS_RATE l) (bits v 6 3) then bits v 6 3 else s.reg .TILE_LANE_TEST_GEN_PAT l) ∧
    t.reg .TILE_LANE_TEST_CHK_PAT l = (if patOk (s.reg .TILE_LANE_STATUS_RATE l) (bits v 10 7) then bits v 10 7 else s.reg .TILE_LANE_TEST_CHK_PAT l) ∧
    t.reg .TILE_LANE_TEST_INJ_MODE l = (if bits v 12 11 ≤ 2 then bits v 12 11 else s.reg .TILE_LANE_TEST_INJ_MODE l) ∧
    (t.reg .TILE_LANE_TEST_CHK_PAT l ≠ s.reg .TILE_LANE_TEST_CHK_PAT l → s.reg .TILE_LANE_TEST_CHK_SYNC l = 1 → t.reg .TILE_LANE_TEST_CHK_SYNC l = 0) ∧
    t.tr = s.tr ∧ t.frame = s.frame := by
  obtain ⟨hloop, hgen, hchk, hmode, hsync⟩ := s.started.testFields_reg l v
  have hold : (s.started.testLoop l v).reg .TILE_LANE_TEST_CHK_PAT l = s.reg .TILE_LANE_TEST_CHK_PAT l := by simp [State.testLoop, State.takeField_reg]
  have hframe : (s.started.laneTest l v).frame = s.frame := s.started.laneTest_frame l v
  have htr : ((s.started.testFields l v).injectionKept l).tr = s.tr := (State.injectionKept_tr _ l).trans (s.started.testFields_tr l v)
  refine ⟨_, (exec_tileLaneTestWrite v (State.mayTest_of hl hk)).trans (congrArg Host.Outcome.next (State.meetReg_of_open (s := s.started) _ _ ho hw)), ?_⟩
  rw [State.laneTest_eq (s := s.started) hin hgo, hold] at hframe ⊢
  simp only [← State.injectionKept_reg (s.started.testFields l v) l] at hloop hgen hchk hmode hsync
  generalize (s.started.testFields l v).injectionKept l = u at hloop hgen hchk hmode hsync htr hframe ⊢
  split
  case isTrue hsame =>
    rw [if_pos hsame] at hframe
    exact ⟨hloop, hgen, hchk, hmode, fun hne => absurd (beq_iff_eq.1 hsame) hne, htr, hframe⟩
  case isFalse hnew =>
    rw [if_neg hnew] at hframe
    have hkept : ∀ f, f ≠ .TILE_LANE_TEST_CHK_SYNC → (u.checkerOff l).reg f l = u.reg f l := fun f hf => by
      rw [State.checkerOff_reg, if_neg fun h => hf h.1.1]
    refine ⟨(hkept _ (by decide)).trans hloop, (hkept _ (by decide)).trans hgen, (hkept _ (by decide)).trans hchk, (hkept _ (by decide)).trans hmode,
      fun _ hs => ?_, (u.checkerOff_tr l).trans htr, hframe⟩
    rw [State.checkerOff_reg, if_pos ⟨⟨rfl, rfl⟩, hsync.trans hs⟩]

theorem tileLaneTestWrite_waits (s : State) (k l v : Nat) (hl : l < 256) (hk : s.operator k = true) (hw : s.regWaits (l / 8) = true) :
    ∃ t, exec (.tileLaneTestWrite k l v) s = .next t ∧
      t.isl.heldRegs = s.isl.heldRegs ++ [(l / 8, { host := k, tag := 0, offset := laneReg l, size := 4, kind := .write, value := v })] ∧
      KeepsRegs s t [(.SUP_ISL_STATUS_WAKE_PEND, l / 8)] ∧ t.link = s.link ∧ t.frame = s.frame := by
  obtain ⟨hheld, hkeeps, hlink⟩ := s.started.holdReg_spec (l / 8) (testWrite k l v)
  exact ⟨_, (exec_tileLaneTestWrite v (State.mayTest_of hl hk)).trans (congrArg Host.Outcome.next (State.meetReg_of_waits (s := s.started) _ _ hw)), hheld, hkeeps, hlink,
    s.started.holdReg_frame ..⟩

/-! ### Injected errors (R217) -/

theorem State.injGo_single {s : State} {l : Nat} (hin : s.inTest l = true) (hmode : s.reg .TILE_LANE_TEST_INJ_MODE l = 1) : s.injGo l = s.injectBit l := by
  rw [State.injGo, if_neg (by simp [hin]), hmode]
  rfl

theorem State.injGo_rate {s : State} {l : Nat} (hin : s.inTest l = true) (hmode : s.reg .TILE_LANE_TEST_INJ_MODE l = 2) :
    s.injGo l = s.injNext l s.now 0 := by
  rw [State.injGo, if_neg (by simp [hin]), hmode]
  rfl

/-- What one bit injected before the lane's own checker changes. -/
theorem State.injectBit_spec {s : State} {l : Nat} (h : s.SeesOwn l) :
    (s.injectBit l).reg .TILE_PRBS_ERR_COUNT l = min (2 ^ Fld.TILE_PRBS_ERR_COUNT.width - 1) (s.reg .TILE_PRBS_ERR_COUNT l + 1) ∧
      KeepsRegs s (s.injectBit l) [(.TILE_PRBS_ERR_COUNT, l)] ∧ (s.injectBit l).tr = s.tr := by
  obtain ⟨g, c, ht⟩ := State.injectBit_of_seesOwn h
  rw [ht]
  exact ⟨State.reg_bump_self .., KeepsRegs.bump (s.updLink fun k => { k with gens := g }) .TILE_PRBS_ERR_COUNT l 1, rfl⟩

theorem injGo_inverts {s : State} {k l : Nat} (hl : l < 256) (hk : s.operator k = true) (ho : s.regOpen (l / 8) = true) (hw : s.regWaits (l / 8) = false)
    (hmode : s.reg .TILE_LANE_TEST_INJ_MODE l = 1) (hin : s.inTest l = true) (h : s.SeesOwn l) : ∃ t, exec (.injGo k l) s = .next t ∧
      t.reg .TILE_PRBS_ERR_COUNT l = min (2 ^ Fld.TILE_PRBS_ERR_COUNT.width - 1) (s.reg .TILE_PRBS_ERR_COUNT l + 1) ∧
      KeepsRegs s t [(.TILE_PRBS_ERR_COUNT, l)] ∧ t.tr = s.tr ∧ t.frame = s.frame := by
  have hgo : s.started.injGo l = s.started.injectBit l := State.injGo_single hin hmode
  have hsees : s.started.SeesOwn l := ⟨h.near, h.loop, h.rate, h.sync, h.pattern, h.step, h.clean⟩
  obtain ⟨hcount, hkeeps, htr⟩ := State.injectBit_spec hsees
  rw [exec_injGo (State.mayTest_of hl hk), State.meetReg_of_open (s := s.started) _ _ ho hw, hgo]
  exact ⟨_, rfl, hcount, hkeeps, htr, s.started.injectBit_frame l⟩

theorem injGo_starts {s : State} {k l : Nat} (hl : l < 256) (hk : s.operator k = true) (ho : s.regOpen (l / 8) = true) (hw : s.regWaits (l / 8) = false)
    (hin : s.inTest l = true) (hmode : s.reg .TILE_LANE_TEST_INJ_MODE l = 2) : exec (.injGo k l) s = .next (s.started.injNext l s.now 0) := by
  rw [exec_injGo (State.mayTest_of hl hk), State.meetReg_of_open (s := s.started) _ _ ho hw, State.injGo_rate (s := s.started) hin hmode]
  rfl

theorem exec_rateInjection {s : State} {l x r : Nat} (hinj : Sparse.get? s.link.injecting l = some (x, r)) (hmode : s.reg .TILE_LANE_TEST_INJ_MODE l = 2)
    (hin : s.inTest l = true) : exec (.rateInjection l) s = .next (((s.started.atNow x).injectBit l).injNext l x r) := by
  have hcond : (s.started.inTest l && s.started.reg .TILE_LANE_TEST_INJ_MODE l == 2) = true :=
    Bool.and_eq_true_iff.2 ⟨hin, beq_iff_eq.2 hmode⟩
  show execRateInjection l s = _
  rw [execRateInjection, run_started]
  simp only [show s.started.link = s.link from rfl, hinj]
  exact congrArg Host.Outcome.next (if_pos hcond)

theorem exec_rateInjection_of_none {s : State} {l : Nat} (hinj : Sparse.get? s.link.injecting l = none) : exec (.rateInjection l) s = .next s.started := by
  show execRateInjection l s = _
  rw [execRateInjection, run_started]
  simp only [show s.started.link = s.link from rfl, hinj]

theorem rateInjection_inverts {s : State} {l x r : Nat} (hinj : Sparse.get? s.link.injecting l = some (x, r)) (hmode : s.reg .TILE_LANE_TEST_INJ_MODE l = 2)
    (hin : s.inTest l = true) (h : s.SeesOwn l) : ∃ t, exec (.rateInjection l) s = .next t ∧
      t.reg .TILE_PRBS_ERR_COUNT l = min (2 ^ Fld.TILE_PRBS_ERR_COUNT.width - 1) (s.reg .TILE_PRBS_ERR_COUNT l + 1) ∧
      KeepsRegs s t [(.TILE_PRBS_ERR_COUNT, l)] ∧
      Sparse.get? t.link.injecting l = some (x + (2 ^ (s.reg .TILE_LANE_TEST_INJ_EXP l + 1) + r) / max 1 (rate2 (s.reg .TILE_LANE_STATUS_RATE l)),
        (2 ^ (s.reg .TILE_LANE_TEST_INJ_EXP l + 1) + r) % max 1 (rate2 (s.reg .TILE_LANE_STATUS_RATE l))) ∧
      t.now = max s.now x ∧ t.tr = s.tr ∧ t.pool = s.pool := by
  have hsees : (s.started.atNow x).SeesOwn l := ⟨h.near, h.loop, h.rate, h.sync, h.pattern, h.step, h.clean⟩
  obtain ⟨hcount, hkeeps, htr⟩ := State.injectBit_spec hsees
  have hstays : ((s.started.atNow x).injectBit l).now = max s.now x ∧ ((s.started.atNow x).injectBit l).pool = s.pool := by
    obtain ⟨g, c, ht⟩ := State.injectBit_of_seesOwn hsees
    rw [ht]
    exact ⟨rfl, rfl⟩
  refine ⟨_, exec_rateInjection hinj hmode hin, hcount, hkeeps, ?_, hstays.1, htr, hstays.2⟩
  rw [State.injNext_injecting, hkeeps _ _ (by simp), hkeeps _ _ (by simp)]
  rfl

/-! ### The checker's lock (R214, R215) -/

/-- The run of a checker that seeds itself from the first bits of what it receives. -/
def seedRun (p l : Nat) (bs : List Nat) : Nat × Checker × Bool :=
  checkRun p { lane := l, reg := (bs.take (Folio.patDegree p)).foldl (Folio.shiftIn p) 0 } (bs.drop (Folio.patDegree p))

/-- A checker is synchronised from now on, with what it has checked before. -/
def State.synced (s : State) (l n : Nat) (c : Checker) : State := ((s.countFrom l n).setReg .TILE_LANE_TEST_CHK_SYNC l 1).setChecker c

/-- A signal is there for the checker to lock on. -/
def State.signalFound (s : State) (l : Nat) : State :=
  if s.reg .TILE_LANE_TEST_LPBK l == 2 then s else s.setRegs [(.TILE_LANE_STATUS_SIG_DET, l, 1), (.TILE_LANE_STATUS_CDR_LOCK, l, 1)]

/-- The bits that a lane receives do not turn on the observable events. -/
theorem State.started_generate (s : State) (l n : Nat) : (s.started.generate l n).1 = (s.generate l n).1 := by
  unfold State.generate
  rw [show s.started.link = s.link from rfl]
  cases Sparse.get? s.link.gens l <;> rfl

theorem State.received_fst (s : State) (r : LaneRx) : (s.received r).1 =
    let bs := symBits (s.reg .TILE_LANE_STATUS_RATE r.lane) r.rx
    if s.nearEnd r.lane then
      if s.reg .TILE_LANE_TEST_LPBK r.lane == 2 then (s.generate r.lane bs.length).1 else ((s.generate r.lane bs.length).1.zip bs).map fun e => (e.1 + e.2) % 2
    else if s.reg .TILE_LANE_TEST_LPBK r.lane == 1 then [] else bs := by
  unfold State.received
  dsimp only
  split
  · rfl
  · split <;> rfl

theorem State.started_received (s : State) (r : LaneRx) : (s.started.received r).1 = (s.received r).1 := by
  simp only [State.received_fst, State.started_generate]
  rfl

theorem State.signalFound_keeps (s : State) (l : Nat) : KeepsRegs s (s.signalFound l) [(.TILE_LANE_STATUS_SIG_DET, l), (.TILE_LANE_STATUS_CDR_LOCK, l)] := by
  unfold State.signalFound
  split
  · exact fun _ _ _ => rfl
  · exact (KeepsRegs.refl s _).writes (by simp)

theorem State.signalFound_frame (s : State) (l : Nat) : (s.signalFound l).frame = s.frame := by
  unfold State.signalFound
  split
  · rfl
  · exact State.setRegs_frame ..

theorem State.signalFound_reg {s : State} {l : Nat} (h : s.reg .TILE_LANE_TEST_LPBK l ≠ 2) :
    (s.signalFound l).reg .TILE_LANE_STATUS_SIG_DET l = 1 ∧ (s.signalFound l).reg .TILE_LANE_STATUS_CDR_LOCK l = 1 := by
  have hsignal : 1 % 2 ^ Fld.TILE_LANE_STATUS_SIG_DET.width = 1 := rfl
  have hlock : 1 % 2 ^ Fld.TILE_LANE_STATUS_CDR_LOCK.width = 1 := rfl
  simp [State.signalFound, h, State.setRegs_cons, State.reg_setReg, hsignal, hlock]

theorem State.signalFound_link (s : State) (l : Nat) : (s.signalFound l).link = s.link ∧ (s.signalFound l).now = s.now := by
  unfold State.signalFound
  split <;> exact ⟨rfl, rfl⟩

theorem State.synced_keeps (s : State) (l n : Nat) (c : Checker) : KeepsRegs s (s.synced l n c) [(.TILE_LANE_TEST_CHK_SYNC, l)] :=
  KeepsRegs.setReg (s.countFrom l n) .TILE_LANE_TEST_CHK_SYNC l 1

theorem State.synced_reg (s : State) (l n : Nat) (c : Checker) : (s.synced l n c).reg .TILE_LANE_TEST_CHK_SYNC l = 1 :=
  State.reg_setReg_self (s.countFrom l n) .TILE_LANE_TEST_CHK_SYNC l 1

theorem exec_chkSync {s : State} {l : Nat} {rx : List Nat} (hin : s.inTest l = true) (h0 : s.reg .TILE_LANE_TEST_CHK_PAT l ≠ 0)
    (hsync : s.reg .TILE_LANE_TEST_CHK_SYNC l = 0) (hlen : Folio.patDegree (s.reg .TILE_LANE_TEST_CHK_PAT l) + 256 ≤ (s.received ⟨l, rx⟩).1.length)
    (hclean : (seedRun (s.reg .TILE_LANE_TEST_CHK_PAT l) l (s.received ⟨l, rx⟩).1).1 = 0) : ∃ c, exec (.chkSync ⟨l, rx⟩) s =
      .next (((s.started.received ⟨l, rx⟩).2.synced l (s.checkedBits l) c).signalFound l) := by
  rw [← s.started_received] at hlen hclean
  refine ⟨{ lane := l, reg := (seedRun (s.reg .TILE_LANE_TEST_CHK_PAT l) l (s.started.received ⟨l, rx⟩).1).2.1.reg }, ?_⟩
  have hnot : s.started.on .TILE_LANE_TEST_CHK_SYNC l = false := beq_eq_false_iff_ne.2 (by rw [State.started_reg, hsync]; decide)
  show execChkSync ⟨l, rx⟩ s = _
  rw [execChkSync, run_started]
  refine congrArg Host.Outcome.next (if_pos ?_)
  simp only [Bool.and_eq_true, bne_iff_ne, Bool.not_eq_true', decide_eq_true_eq, beq_iff_eq]
  exact ⟨⟨⟨⟨hin, h0⟩, hnot⟩, hlen⟩, hclean⟩

theorem chkSync_answers (s : State) (l p : Nat) (rx bs : List Nat) (hin : s.inTest l = true) (hp : p = s.reg .TILE_LANE_TEST_CHK_PAT l) (h0 : p ≠ 0)
    (hsync : s.reg .TILE_LANE_TEST_CHK_SYNC l = 0) (hbs : bs = (s.received ⟨l, rx⟩).1) (hlen : Folio.patDegree p + 256 ≤ bs.length)
    (hclean : (seedRun p l bs).1 = 0) : ∃ t, exec (.chkSync ⟨l, rx⟩) s = .next t ∧ t.reg .TILE_LANE_TEST_CHK_SYNC l = 1 ∧
      (s.reg .TILE_LANE_TEST_LPBK l ≠ 2 → t.reg .TILE_LANE_STATUS_SIG_DET l = 1 ∧ t.reg .TILE_LANE_STATUS_CDR_LOCK l = 1) ∧
      KeepsRegs s t [(.TILE_LANE_TEST_CHK_SYNC, l), (.TILE_LANE_STATUS_SIG_DET, l), (.TILE_LANE_STATUS_CDR_LOCK, l)] ∧
      t.checkedBits l = s.checkedBits l ∧ t.frame = s.frame := by
  subst hp hbs
  obtain ⟨c, hexec⟩ := exec_chkSync hin h0 hsync hlen hclean
  have hgens := GensOnly.received s.started ⟨l, rx⟩
  have hframe := s.started.received_frame ⟨l, rx⟩
  generalize (s.started.received ⟨l, rx⟩).2 = b at hexec hgens hframe
  have hsynced := b.synced_keeps l (s.checkedBits l) c
  have hfound := (b.synced l (s.checkedBits l) c).signalFound_keeps l
  obtain ⟨hlink, hnow⟩ := (b.synced l (s.checkedBits l) c).signalFound_link l
  refine ⟨_, hexec, ?_, fun hloop => State.signalFound_reg ?_, fun f i hf => ?_, ?_, ?_⟩
  · rw [hfound _ _ (by simp), State.synced_reg]
  · rwa [hsynced _ _ (by simp), hgens.reg]
  · rw [hfound f i fun h => hf (List.mem_cons_of_mem _ h), hsynced f i fun h => hf (by simp_all), hgens.reg, State.started_reg]
  · refine State.checkedBits_of_now (n := s.checkedBits l) ?_
    rw [hlink, hnow]
    exact b.countFrom_prbs l _
  · exact (State.signalFound_frame _ l).trans hframe

theorem exec_lockLoss {s : State} {l : Nat} {rx : List Nat} (hin : s.inTest l = true) (hsync : s.reg .TILE_LANE_TEST_CHK_SYNC l = 1)
    (hlen : (s.received ⟨l, rx⟩).1.length ≤ 1024) :
    exec (.lockLoss ⟨l, rx⟩) s = .next ((s.started.received ⟨l, rx⟩).2.checkIn l (s.received ⟨l, rx⟩).1) := by
  rw [← s.started_received] at hlen ⊢
  have hon : s.started.on .TILE_LANE_TEST_CHK_SYNC l = true := beq_iff_eq.2 hsync
  show execLockLoss ⟨l, rx⟩ s = _
  rw [execLockLoss, run_started]
  exact congrArg Host.Outcome.next (if_pos (by simp only [Bool.and_eq_true, decide_eq_true_eq]; exact ⟨⟨hin, hon⟩, hlen⟩))

/-- The checker of a lane has lost its lock with `n` errors. -/
def State.lockLost (s : State) (l n : Nat) (c : Checker) : State :=
  (((s.bump .TILE_PRBS_ERR_COUNT l n).setChecker c).checkerOff l).bump .TILE_PRBS_SYNC_LOCK_LOSS l

theorem State.lockLost_reg (s : State) (l n : Nat) (c : Checker) (f : Fld) (i : Nat) : (s.lockLost l n c).reg f i =
    if f = .TILE_PRBS_SYNC_LOCK_LOSS ∧ i = l then min (2 ^ Fld.TILE_PRBS_SYNC_LOCK_LOSS.width - 1) (s.reg .TILE_PRBS_SYNC_LOCK_LOSS l + 1)
    else if (f = .TILE_LANE_TEST_CHK_SYNC ∧ i = l) ∧ s.reg .TILE_LANE_TEST_CHK_SYNC l = 1 then 0
    else if f = .TILE_PRBS_ERR_COUNT ∧ i = l then min (2 ^ Fld.TILE_PRBS_ERR_COUNT.width - 1) (s.reg .TILE_PRBS_ERR_COUNT l + n) else s.reg f i := by
  have hloss : (((s.bump .TILE_PRBS_ERR_COUNT l n).setChecker c).checkerOff l).reg .TILE_PRBS_SYNC_LOCK_LOSS l = s.reg .TILE_PRBS_SYNC_LOCK_LOSS l := by
    rw [State.checkerOff_reg, if_neg (fun h => by simp at h), State.setChecker_reg, State.reg_bump, if_neg (fun h => by simp at h)]
  have hsync : ((s.bump .TILE_PRBS_ERR_COUNT l n).setChecker c).reg .TILE_LANE_TEST_CHK_SYNC l = s.reg .TILE_LANE_TEST_CHK_SYNC l := by
    rw [State.setChecker_reg, State.reg_bump, if_neg (fun h => by simp at h)]
  rw [State.lockLost, State.reg_bump, hloss, State.checkerOff_reg, hsync, State.setChecker_reg, State.reg_bump]

theorem State.lockLost_keeps (s : State) (l n : Nat) (c : Checker) :
    KeepsRegs s (s.lockLost l n c) [(.TILE_LANE_TEST_CHK_SYNC, l), (.TILE_PRBS_SYNC_LOCK_LOSS, l), (.TILE_PRBS_ERR_COUNT, l)] := by
  intro f i hf
  simp only [List.mem_cons, Prod.mk.injEq, List.not_mem_nil, or_false, not_or] at hf
  obtain ⟨hsync, hloss, herr⟩ := hf
  rw [State.lockLost_reg, if_neg hloss, if_neg fun h => hsync h.1, if_neg herr]

theorem State.lockLost_checkedBits (s : State) (l n : Nat) (c : Checker) : (s.lockLost l n c).checkedBits l = s.checkedBits l := by
  let counted := (s.bump .TILE_PRBS_ERR_COUNT l n).setChecker c
  have hcount : counted.checkedBits l = s.checkedBits l :=
    State.checkedBits_congr rfl rfl (State.reg_setReg_ne _ _ (by simp)) (State.reg_setReg_ne _ _ (by simp))
  have hloss : (s.lockLost l n c).checkedBits l = (counted.checkerOff l).checkedBits l :=
    State.checkedBits_congr rfl rfl (State.reg_setReg_ne _ _ (by simp)) (State.reg_setReg_ne _ _ (by simp))
  rw [hloss, State.checkerOff_checkedBits, hcount]

section
variable (s : State) (l n : Nat) (c : Checker) (rx bs : List Nat) (hin : s.inTest l = true) (hsync : s.reg .TILE_LANE_TEST_CHK_SYNC l = 1)
  (hbs : bs = (s.received ⟨l, rx⟩).1) (hlen : bs.length ≤ 1024)
include hin hsync hbs hlen

theorem lockLoss_loses (hrun : checkRun (s.reg .TILE_LANE_TEST_CHK_PAT l) (s.checker l) bs = (n, c, true)) : ∃ t, exec (.lockLoss ⟨l, rx⟩) s = .next t ∧
    t.reg .TILE_LANE_TEST_CHK_SYNC l = 0 ∧
    t.reg .TILE_PRBS_ERR_COUNT l = min (2 ^ Fld.TILE_PRBS_ERR_COUNT.width - 1) (s.reg .TILE_PRBS_ERR_COUNT l + n) ∧
    t.reg .TILE_PRBS_SYNC_LOCK_LOSS l = min (2 ^ Fld.TILE_PRBS_SYNC_LOCK_LOSS.width - 1) (s.reg .TILE_PRBS_SYNC_LOCK_LOSS l + 1) ∧
    KeepsRegs s t [(.TILE_LANE_TEST_CHK_SYNC, l), (.TILE_PRBS_SYNC_LOCK_LOSS, l), (.TILE_PRBS_ERR_COUNT, l)] ∧
    t.checkedBits l = s.checkedBits l ∧ t.frame = s.frame := by
  subst hbs
  have hgens := GensOnly.received s.started ⟨l, rx⟩
  have hframe := (State.checkIn_frame (s.started.received ⟨l, rx⟩).2 l (s.received ⟨l, rx⟩).1).trans (s.started.received_frame ⟨l, rx⟩)
  refine ⟨_, exec_lockLoss hin hsync hlen, ?_⟩
  generalize (s.started.received ⟨l, rx⟩).2 = b at hgens hframe ⊢
  have hreg : ∀ f i, b.reg f i = s.reg f i := hgens.reg
  have hlost : b.checkIn l (s.received ⟨l, rx⟩).1 = b.lockLost l n c := State.checkIn_of_lost (by rw [hreg, hgens.checker]; exact hrun)
  rw [hlost] at hframe ⊢
  refine ⟨?_, ?_, ?_, fun f i hf => (b.lockLost_keeps l n c f i hf).trans (hreg f i), (b.lockLost_checkedBits l n c).trans (hgens.checkedBits l), hframe⟩
  · rw [State.lockLost_reg, if_neg (by simp), if_pos ⟨⟨rfl, rfl⟩, (hreg _ _).trans hsync⟩]
  · rw [State.lockLost_reg, if_neg (by simp), if_neg (by simp), if_pos ⟨rfl, rfl⟩, hreg]
  · rw [State.lockLost_reg, if_pos ⟨rfl, rfl⟩, hreg]

theorem lockLoss_counts (hrun : checkRun (s.reg .TILE_LANE_TEST_CHK_PAT l) (s.checker l) bs = (n, c, false)) : ∃ t, exec (.lockLoss ⟨l, rx⟩) s = .next t ∧
    t.reg .TILE_PRBS_ERR_COUNT l = min (2 ^ Fld.TILE_PRBS_ERR_COUNT.width - 1) (s.reg .TILE_PRBS_ERR_COUNT l + n) ∧
    KeepsRegs s t [(.TILE_PRBS_ERR_COUNT, l)] ∧ (t.checker l).reg = c.reg ∧ t.frame = s.frame := by
  subst hbs
  have hgens := GensOnly.received s.started ⟨l, rx⟩
  have hframe := (State.checkIn_frame (s.started.received ⟨l, rx⟩).2 l (s.received ⟨l, rx⟩).1).trans (s.started.received_frame ⟨l, rx⟩)
  refine ⟨_, exec_lockLoss hin hsync hlen, ?_⟩
  generalize (s.started.received ⟨l, rx⟩).2 = b at hgens hframe ⊢
  have hreg : ∀ f i, b.reg f i = s.reg f i := hgens.reg
  rw [State.checkIn_of_held (by rw [hreg, hgens.checker]; exact hrun)] at hframe ⊢
  have hlane : c.lane = l := by
    have hstays := checkRun_lane (s.reg .TILE_LANE_TEST_CHK_PAT l) (s.received ⟨l, rx⟩).1 (s.checker l)
    rwa [hrun, s.checker_lane] at hstays
  refine ⟨?_, fun f i hf => ?_, ?_, hframe⟩
  · rw [State.setChecker_reg, State.reg_bump_self, hreg]
  · rw [State.setChecker_reg, KeepsRegs.bump b _ l n f i hf, hreg]
  · rw [← hlane, State.checker_setChecker]

end

theorem checker_of_not_inTest {s : State} {l : Nat} (rx : List Nat) (hin : s.inTest l = false) :
    exec (.chkSync ⟨l, rx⟩) s = .next s.started ∧ exec (.lockLoss ⟨l, rx⟩) s = .next s.started := by
  have hout : s.started.inTest l = false := hin
  constructor
  · show execChkSync ⟨l, rx⟩ s = _
    rw [execChkSync, run_started]
    exact congrArg Host.Outcome.next (if_neg (by simp [hout]))
  · show execLockLoss ⟨l, rx⟩ s = _
    rw [execLockLoss, run_started]
    exact congrArg Host.Outcome.next (if_neg (by simp [hout]))

/-! ### A read of the error count (R216) -/

theorem exec_tilePrbsErrRead {s : State} {k l : Nat} (h : s.mayTest k l = true) : exec (.tilePrbsErrRead k l) s =
    .next (if s.islState (l / 8) == 0 then s.started.emit (.read 0)
      else if s.islState (l / 8) == 5 then s.started.emit (.cpl (.host k) 0 .ur [] false)
      else if s.regWaits (l / 8) then s.started.holdReg (l / 8) { host := k, tag := 0, offset := laneReg l + 8, size := 8, kind := .read, value := 0 }
      else (s.started.prbsRead l).2.emit (.read (s.started.prbsRead l).1)) := by
  obtain ⟨hl, hk⟩ := Bool.and_eq_true_iff.1 h
  have hmay : ¬ (decide (256 ≤ l) || !s.started.operator k) = true := by
    rw [show s.started.operator k = true from hk]
    simpa using hl
  show execTilePrbsErrRead k l s = _
  rw [execTilePrbsErrRead, run_started]
  exact congrArg Host.Outcome.next (if_neg hmay)

theorem tilePrbsErrRead_off (s : State) (k l : Nat) (hl : l < 256) (hk : s.operator k = true) (h : s.islState (l / 8) = 0) :
    exec (.tilePrbsErrRead k l) s = .next { s with out := [.read 0] } := by
  rw [exec_tilePrbsErrRead (State.mayTest_of hl hk), if_pos (beq_iff_eq.2 h)]
  rfl

theorem State.prbsRead_reg (s : State) (l : Nat) : (s.prbsRead l).2.reg .TILE_PRBS_ERR_COUNT l = 0 ∧
    (s.prbsRead l).2.reg .TILE_PRBS_BITS_COUNT l = s.checkedBits l % 2 ^ Fld.TILE_PRBS_BITS_COUNT.width ∧
    KeepsRegs s (s.prbsRead l).2 [(.TILE_PRBS_ERR_COUNT, l), (.TILE_PRBS_BITS_COUNT, l)] := by
  let t := s.setRegs [(.TILE_PRBS_ERR_COUNT, l, 0), (.TILE_PRBS_BITS_COUNT, l, s.checkedBits l)]
  have hreg : ∀ f i, (s.prbsRead l).2.reg f i = t.reg f i := fun _ _ => rfl
  have hkeeps : KeepsRegs s t [(.TILE_PRBS_ERR_COUNT, l), (.TILE_PRBS_BITS_COUNT, l)] := (KeepsRegs.refl s _).writes (by simp)
  refine ⟨?_, ?_, fun f i hf => (hreg f i).trans (hkeeps f i hf)⟩
  · simp [hreg, t, State.setRegs_cons, State.reg_setReg]
  · simp [hreg, t, State.setRegs_cons]

theorem tilePrbsErrRead_answers (s : State) (k l : Nat) (hl : l < 256) (hk : s.operator k = true) (ho : s.regOpen (l / 8) = true)
    (hw : s.regWaits (l / 8) = false) : ∃ t, exec (.tilePrbsErrRead k l) s = .next t ∧ t.out = [.read (s.reg .TILE_PRBS_ERR_COUNT l)] ∧
    t.reg .TILE_PRBS_ERR_COUNT l = 0 ∧ t.reg .TILE_PRBS_BITS_COUNT l = s.checkedBits l % 2 ^ Fld.TILE_PRBS_BITS_COUNT.width ∧ t.checkedBits l = 0 ∧
    KeepsRegs s t [(.TILE_PRBS_ERR_COUNT, l), (.TILE_PRBS_BITS_COUNT, l)] ∧ t.frame = s.frame := by
  obtain ⟨hon, hthere⟩ := Bool.and_eq_true_iff.1 ho
  obtain ⟨herr, hbits, hkeeps⟩ := s.started.prbsRead_reg l
  rw [exec_tilePrbsErrRead (State.mayTest_of hl hk), if_neg (by simpa using hon), if_neg (by simpa using hthere), if_neg (by simp [hw])]
  exact ⟨_, rfl, rfl, herr, hbits, State.checkedBits_of_now (s := (s.started.prbsRead l).2) (State.countFrom_prbs _ l 0), hkeeps, State.setRegs_frame s.started _⟩

end Sys2Proof.Machine
end

section
/-! The statement on lanes that sleep, adapt and are tested (05_lanes.md). -/

namespace Sys2Proof.Machine

/-- Settles O57, clause by clause. -/
theorem lanesSleepAdaptAndTest : Obligations.LanesSleepAdaptAndTest := by
  unfold Obligations.LanesSleepAdaptAndTest
  refine ⟨fun s l d hl h => exec_laneSleepDeep d hl h, fun s l d h => exec_laneSleepDeep_of_not h, laneWake_answers, fun s l d h => ?_,
    adaptationStep_answers, fun s l h w c ha => exec_adaptation_of_not h w c ha, fun s l hl ha => exec_offsetCalibration hl ha,
    tileLaneTestWrite_answers, tileLaneTestWrite_waits, fun s k l v h => laneTest_of_not v h,
    fun s k l hl hk ho hw hmode hin hnear hloop hrate hsync hpattern hstep hclean =>
      injGo_inverts hl hk ho hw hmode hin ⟨hnear, hloop, hrate, hsync, hpattern, hstep, hclean⟩, ?_, ?_,
    fun s l hinj => exec_rateInjection_of_none hinj, chkSync_answers, lockLoss_loses, lockLoss_counts,
    fun s l rx hin => checker_of_not_inTest rx hin, tilePrbsErrRead_answers, tilePrbsErrRead_off⟩
  · refine exec_laneWake_of_not ?_
    rcases h with hwakes | ⟨hlight, hdeep⟩
    · simp [State.readyToWake, hwakes]
    · simp [State.readyToWake, hlight, hdeep]
  · rintro s k l _ hl hk ho hw hin hmode rfl
    exact ⟨_, injGo_starts hl hk ho hw hin hmode, State.injNext_injecting s.started l s.now 0, rfl, rfl, rfl⟩
  · rintro s l x r _ _ hinj hmode rfl rfl hin hnear hloop hrate hsync hpattern hstep hclean
    exact rateInjection_inverts hinj hmode hin ⟨hnear, hloop, hrate, hsync, hpattern, hstep, hclean⟩

end Sys2Proof.Machine
end

section
/-! SUPPORT. What a port that goes down leaves of the registers: the answers that the switch makes to requests, drops of packets, lanes and
failed sealed writes change counters and the status of links and lanes alone (R275, R276, R649). -/

namespace Sys2Proof.Machine

/-! ### Registers and counters -/

/-- The fields that a port that goes down may change: counters of traffic, and the status of links and lanes. -/
@[simp] def isLossFld (f : Fld) : Bool :=
  [Fld.SUP_XING_DROP_COUNT, .FLT_INJECT_DONE, .QD_SPILL_COUNT_SPILLED, .QD_SPILL_COUNT_BLOCKED, .QD_SPILL_COUNT_XOFF, .FLT_PORT_DISCARD,
    .IMP_Q_SEAL_RMW_FAIL, .TILE_PORT_STATUS_LINK_UP, .TILE_PORT_STATUS_RATE, .TILE_PORT_STATUS_WIDTH, .TILE_PORT_STATUS_FLIT, .TILE_PORT_STATUS_CXL,
    .TILE_PORT_STATUS_IDE, .TILE_PORT_STATUS_LINK_DOWN_COUNT, .GATE_GUARD_GUARD, .TILE_LANE_STATUS_TX_STATE, .TILE_LANE_STATUS_RX_STATE,
    .TILE_LANE_STATUS_RATE, .TILE_LANE_STATUS_SIG_DET, .TILE_LANE_STATUS_CDR_LOCK].contains f

/-- The registers but for those fields. -/
def State.steady (s : State) : Fld → Nat → Nat := s.shows fun f => !isLossFld f

theorem State.reg_of_steady {s t : State} (h : t.steady = s.steady) {f : Fld} (hf : isLossFld f = false) (i : Nat) : t.reg f i = s.reg f i :=
  State.reg_of_shows h (by rw [hf]; rfl) i

@[simp] theorem ite_steady {c : Prop} [Decidable c] (a b : State) : (if c then a else b).steady = if c then a.steady else b.steady := apply_ite _ _ _ _

@[simp] theorem State.setReg_steady (s : State) {f : Fld} (i v : Nat) (hf : isLossFld f = true) : (s.setReg f i v).steady = s.steady :=
  s.setReg_shows i v (by rw [hf]; rfl)

@[simp] theorem State.bump_steady (s : State) {f : Fld} (i n : Nat) (hf : isLossFld f = true) : (s.bump f i n).steady = s.steady := s.setReg_steady i _ hf

theorem State.setRegs_steady {l : List (Fld × Nat × Nat)} (s : State) (h : ∀ e ∈ l, isLossFld e.1 = true) : (s.setRegs l).steady = s.steady :=
  State.setRegs_shows l s fun e he => by rw [h e he]; rfl

@[simp] theorem State.emit_steady (s : State) (o : Output) : (s.emit o).steady = s.steady := rfl
@[simp] theorem State.work_steady (s : State) (n : Nat) : (s.work n).steady = s.steady := rfl
@[simp] theorem State.updMet_steady (s : State) (f : Meter → Meter) : (s.updMet f).steady = s.steady := rfl
@[simp] theorem State.updLink_steady (s : State) (f : Links → Links) : (s.updLink f).steady = s.steady := rfl
@[simp] theorem State.report_steady (s : State) (source kind scope : Nat) (sev isl : Option Nat) : (s.report source kind scope sev isl).steady = s.steady := rfl

@[simp] theorem State.keepSnap_steady (s : State) (i : Nat) : (s.keepSnap i).steady = s.steady := by
  unfold State.keepSnap
  split
  · rfl
  · simp

@[simp] theorem State.tally_steady (s : State) (n e : Nat) (imprint : Option Nat) : (s.tally n e imprint).steady = s.steady := by
  simp only [State.tally, ite_steady]
  split
  · rfl
  · rw [foldl_keeps State.steady fun s i => by simp]
    simp

@[simp] theorem State.armedWrite_steady (s : State) (sources : List Nat) (target : Nat) : (s.armedWrite sources target).2.steady = s.steady := by
  unfold State.armedWrite
  split
  · split
    · exact s.setReg_steady (f := .FLT_INJECT_DONE) 0 1 rfl
    · rfl
  · rfl

@[simp] theorem State.count_steady (s : State) (c : CountRec) : (s.count c).steady = s.steady := by
  unfold State.count
  split
  · exact s.bump_steady _ _ rfl
  · split <;> rfl

/-! ### Packets in queues -/

@[simp] theorem State.setQueue_steady (s : State) (q : QId) (v : Queue) : (s.setQueue q v).steady = s.steady := rfl
@[simp] theorem State.updPkt_steady (s : State) (i : Nat) (f : Pkt → Pkt) : (s.updPkt i f).steady = s.steady := rfl
@[simp] theorem State.delPkt_steady (s : State) (i : Nat) : (s.delPkt i).steady = s.steady := rfl
@[simp] theorem State.addPkt_steady (s : State) (p : Pkt) : (s.addPkt p).steady = s.steady := rfl

theorem State.toGalley_steady {s t : State} {i : Nat} (h : s.toGalley i = some t) : t.steady = s.steady := by
  unfold State.toGalley at h
  split at h
  · contradiction
  · split at h
    · contradiction
    · dsimp only at h
      generalize hu : State.setQueue _ _ _ = u at h
      obtain rfl := Option.some.inj h
      refine (congrArg State.steady hu).symm.trans ?_
      simp

@[simp] theorem State.settleQueue_steady (s : State) (q : QId) : (s.settleQueue q).steady = s.steady := by simp [State.settleQueue]

@[simp] theorem State.spillPkt_steady (s : State) (i : Nat) (q : QId) : (s.spillPkt i q).steady = s.steady := by
  unfold State.spillPkt
  dsimp only
  generalize hu : State.setQueue _ q _ = u
  have hkept : u.steady = s.steady := by simp [← hu]
  split
  · rename_i t ht
    split at ht
    · contradiction
    · rw [State.toGalley_steady ht, hkept]
  · cases q <;> simp [hkept]

@[simp] theorem State.placePkt_steady (s : State) (i : Nat) : (s.placePkt i).steady = s.steady := by
  unfold State.placePkt
  split
  · rfl
  · simp

@[simp] theorem State.enqueue_steady (s : State) (p : Pkt) : (s.enqueue p).steady = s.steady := by simp [State.enqueue, State.bindFirst]

@[simp] theorem State.keepBucket_steady (s : State) (dst c sw port tc : Nat) : (s.keepBucket dst c sw port tc).steady = s.steady := by
  unfold State.keepBucket
  split
  · dsimp only
    split
    · split <;> rfl
    · rfl
  · rfl

@[simp] theorem State.sendFabric_steady (s : State) (p : Nat) (fp : FabPkt) (cls : PClass) (imprint sub quad : Option Nat) :
    (s.sendFabric p fp cls imprint sub quad).steady = s.steady := by
  unfold State.sendFabric
  split <;> simp

/-! ### Answers and drops -/

@[simp] theorem State.synth_steady (s : State) (a : Asked) (st : CplStatus) : (s.synth a st).steady = s.steady := by
  unfold State.synth State.countSynth State.sayFail
  split <;> simp

@[simp] theorem State.synthLost_steady (s : State) (a : Asked) (len : Nat) (data : Bool) : (s.synthLost a len data).steady = s.steady := by
  unfold State.synthLost
  split <;> simp [State.countSynth]

@[simp] theorem State.sampleEnd_steady (s : State) (p : Pkt) (o egress : Nat) : (s.sampleEnd p o egress).steady = s.steady := by
  unfold State.sampleEnd
  split <;> simp

@[simp] theorem State.delOut_steady (s : State) (i : Nat) : (s.delOut i).steady = s.steady := by
  have hwork : ∀ (u : State) (p : Nat), (u.workPort p).steady = u.steady := fun u p => by simp [State.workPort]
  unfold State.delOut
  dsimp only
  split
  · rw [hwork, hwork]
    rfl
  · rfl

@[simp] theorem State.outLost_steady (s : State) (o : OutReq) : (s.outLost o).steady = s.steady := by simp [State.outLost]

@[simp] theorem State.pieceFail_steady (s : State) (o : OutReq) (st : CplStatus) : (s.pieceFail o st).steady = s.steady := by
  have hkept : ∀ (u : State) (g : OutReq → OutReq), (u.updOut o.id g).steady = u.steady := fun _ _ => rfl
  simp [State.pieceFail, State.outFail, hkept]

theorem State.discard_steady (s : State) (p : Pkt) {f : State → OutReq → State} (outcome : Nat) (hf : ∀ s o, (f s o).steady = s.steady) :
    (s.discard p f outcome).steady = s.steady := by
  unfold State.discard
  dsimp only
  split
  · split
    · simp [hf, State.countDrop]
    · simp [State.countDrop]
  · simp [State.countDrop]

theorem State.settleAll_steady (s : State) (l : List Pkt) : (s.settleAll l).steady = s.steady := foldl_keeps State.steady (fun s q => s.settleQueue_steady q) _ s

@[simp] theorem State.loseDest_steady (s : State) (p : Nat) (cpls : Bool) : (s.loseDest p cpls).steady = s.steady := by
  have hdrop : ∀ (l : List Pkt) (u : State) (n : Nat), (u.discardAll l (fun s o => s.outLost o) n).steady = u.steady := fun l u n =>
    foldl_keeps State.steady (fun s p => s.discard_steady p n fun s o => s.outLost_steady o) l u
  unfold State.loseDest
  dsimp only
  rw [foldl_keeps State.steady fun s o => s.outLost_steady o]
  simp [State.bumpDiscard, State.settleAll_steady, hdrop]

@[simp] theorem State.sealFailPort_steady (s : State) (p : Nat) : (s.sealFailPort p).steady = s.steady := by
  refine foldl_keeps State.steady (fun s x => ?_) _ s
  have hcounted : ((s.delSeal x.pkt x.line).bump .IMP_Q_SEAL_RMW_FAIL x.quad).steady = s.steady := State.bump_steady _ _ _ rfl
  unfold State.sealFail
  dsimp only
  split
  · exact hcounted
  · rw [State.settleQueue_steady, State.discard_steady _ _ _ fun s o => s.pieceFail_steady o .ca, State.report_steady, hcounted]

/-! ### Links that go down -/

theorem State.lanesOff_steady (s : State) (p : Nat) : (s.lanesOff p).steady = s.steady := by
  refine foldl_keeps State.steady (fun s l => ?_) _ s
  rw [ite_steady, State.laneOff, State.setRegs_steady _ (by simp), State.updLink_steady, State.laneTo, State.setRegs_steady _ (by simp), ite_self]

theorem State.lanesSleep_steady (s : State) (p : Nat) : (s.lanesSleep p).steady = s.steady := by
  have hslept : ∀ (u : State) (l : Nat) (d : Dir), (u.sleepDir l d).steady = u.steady := fun u l d => by
    unfold State.sleepDir
    split
    · cases d <;> simp [laneField]
    · rfl
  exact foldl_keeps State.steady (fun s l => by rw [hslept, hslept]) _ s

@[simp] theorem State.linkGone_steady (s : State) (p : Nat) (disabled : Bool) : (s.linkGone p disabled).steady = s.steady := by
  have hwork : ∀ (l : List Nat) (u : State), (l.foldl (fun s t => s.work t) u).steady = u.steady := foldl_keeps State.steady fun s t => s.work_steady t
  unfold State.linkGone
  dsimp only
  rw [ite_steady, State.lanesSleep_steady, State.lanesOff_steady, ite_self, hwork, State.updLink_steady, State.bump_steady _ _ _ rfl,
    State.setRegs_steady _ (by simp)]

theorem State.deviceDown_steady (s : State) (p : Nat) : (s.deviceDown p).steady = s.steady := by
  unfold State.deviceDown
  split
  · refine Eq.trans ?_ (show (((s.linkGone p (s.reg .FLT_PORT_STATE p == 1)).sealFailPort p).loseDest p).steady = s.steady by simp)
    obtain ⟨_, _, h⟩ := SignalsOnly.hotplug (fun s => ((s.linkGone p (s.reg .FLT_PORT_STATE p == 1)).sealFailPort p).loseDest p) s
    rw [h]
    rfl
  · simp only [State.trainStop, ite_steady, State.lanesOff_steady, State.updLink_steady, ite_self]

end Sys2Proof.Machine
end

section
/-! The statement on messages, time and the security of links (05_lanes.md), clause by clause (R196, R254, R257 to R262, R266, R359, R360, R586). -/

namespace Sys2Proof.Machine

/-! ### Time (R257, R258) -/

theorem exec_ptmRequest {s : State} {p : Nat} (hrole : s.role p = 2) (hup : s.on .TILE_PORT_STATUS_LINK_UP p = true) :
    exec (.ptmRequest p) s = .next { s with out := [.time p s.dev] } := by
  have hcond : (s.started.role p == 2 && s.started.on .TILE_PORT_STATUS_LINK_UP p) = true := Bool.and_eq_true_iff.2 ⟨beq_iff_eq.2 hrole, hup⟩
  exact congrArg Host.Outcome.next (if_pos hcond)

theorem exec_ptmHostRequest {s : State} {k p : Nat} (hport : s.hostPort k = some p) (hup : s.on .TILE_PORT_STATUS_LINK_UP p = true) :
    exec (.ptmHostRequest k) s = .next { s with out := [.time p s.dev] } := by
  show execPtmHostRequest k s = _
  rw [execPtmHostRequest, run_started, show s.started.hostPort k = some p from hport]
  exact congrArg Host.Outcome.next (if_pos hup)

/-! ### Secure links (R259 to R262, R266) -/

/-- The stream of a link is secure under its key. -/
theorem State.ideOn_spec (s : State) (p key : Nat) : (s.ideOn p key).reg .TILE_PORT_STATUS_IDE p = 1 ∧
    (s.ideOn p key).link.ideKeys = s.link.ideKeys.filter (fun e => e.1 != p) ++ [(p, key)] ∧ KeepsRegs s (s.ideOn p key) [(.TILE_PORT_STATUS_IDE, p)] ∧
    (s.ideOn p key).frame = s.frame :=
  ⟨State.reg_setReg_self _ .TILE_PORT_STATUS_IDE p 1, rfl,
    KeepsRegs.setReg (s.updLink fun l => { l with ideKeys := l.ideKeys.filter (fun e => e.1 != p) ++ [(p, key)] }) .TILE_PORT_STATUS_IDE p 1,
    by simp [State.ideOn]⟩

theorem exec_ideKm {s : State} {k p : Nat} (key : IdeKey) (hport : s.hostPort k = some p) (hup : s.on .TILE_PORT_STATUS_LINK_UP p = true) :
    exec (.ideKm k key) s = .next (if key.skid then s.started.emit (.message k "IDE mode not supported")
      else if !key.mem then s.started.ideOn p key.value
      else if s.on .TILE_PORT_STATUS_CXL p then s.started.updLink fun l => { l with ideMem := Sparse.set id l.ideMem p key.value }
      else s.started) := by
  have hnot : ¬ (!s.started.on .TILE_PORT_STATUS_LINK_UP p) = true := by
    rw [show s.started.on .TILE_PORT_STATUS_LINK_UP p = true from hup]
    decide
  show execIdeKm k key s = _
  rw [execIdeKm, run_started, show s.started.hostPort k = some p from hport]
  exact congrArg Host.Outcome.next (if_neg hnot)

theorem exec_deviceIdeSetup {s : State} {p : Nat} (good : Bool) (x : Nat) (hrole : s.role p = 2) (hup : s.on .TILE_PORT_STATUS_LINK_UP p = true) :
    exec (.deviceIdeSetup p good x) s = .next (if good then s.started.ideOn p (Config.linkKey (s.sysKey 4) x)
      else if s.ideRequired p then (s.started.report 0x21 1 p).containPort p else s.started) := by
  have hcond : (s.started.role p == 2 && s.started.on .TILE_PORT_STATUS_LINK_UP p) = true := Bool.and_eq_true_iff.2 ⟨beq_iff_eq.2 hrole, hup⟩
  exact congrArg Host.Outcome.next (if_pos hcond)

theorem ideKm_secures (s : State) (k p key : Nat) (hport : s.hostPort k = some p) (hup : s.on .TILE_PORT_STATUS_LINK_UP p = true) :
    ∃ t, exec (.ideKm k ⟨key, false, false⟩) s = .next t ∧ t.reg .TILE_PORT_STATUS_IDE p = 1 ∧
      t.link.ideKeys = s.link.ideKeys.filter (fun e => e.1 != p) ++ [(p, key)] ∧ KeepsRegs s t [(.TILE_PORT_STATUS_IDE, p)] ∧ t.frame = s.frame :=
  ⟨_, exec_ideKm ⟨key, false, false⟩ hport hup, s.started.ideOn_spec p key⟩

theorem ideKm_securesMem (s : State) (k p key : Nat) (hport : s.hostPort k = some p) (hup : s.on .TILE_PORT_STATUS_LINK_UP p = true)
    (hcxl : s.on .TILE_PORT_STATUS_CXL p = true) : ∃ t, exec (.ideKm k ⟨key, true, false⟩) s = .next t ∧
      Sparse.get? t.link.ideMem p = some key ∧ t.link.ideKeys = s.link.ideKeys ∧ t.regs = s.regs ∧ t.frame = s.frame := by
  have hexec := exec_ideKm ⟨key, true, false⟩ hport hup
  simp only [hcxl, if_true, Bool.not_true, Bool.false_eq_true, if_false] at hexec
  exact ⟨_, hexec, Sparse.get?_set_self _ _ _, rfl, rfl, rfl⟩

theorem deviceIdeSetup_secures (s : State) (p x : Nat) (hrole : s.role p = 2) (hup : s.on .TILE_PORT_STATUS_LINK_UP p = true) :
    ∃ t, exec (.deviceIdeSetup p true x) s = .next t ∧ t.reg .TILE_PORT_STATUS_IDE p = 1 ∧
      t.link.ideKeys = s.link.ideKeys.filter (fun e => e.1 != p) ++ [(p, Config.linkKey (s.sysKey 4) x)] ∧ KeepsRegs s t [(.TILE_PORT_STATUS_IDE, p)] ∧
      t.frame = s.frame :=
  ⟨_, exec_deviceIdeSetup true x hrole hup, s.started.ideOn_spec p _⟩

theorem State.slotPerst_reg (s : State) (p : Nat) (low : Bool) {f : Fld} (hf : f ≠ .SLT_STATUS_PERST) (i : Nat) : (s.slotPerst p low).reg f i = s.reg f i := by
  unfold State.slotPerst
  split
  · exact State.reg_setReg_ne _ _ fun h => hf h.1
  · rfl

theorem SignalsOnly.dpcTrigger (s : State) (p : Nat) : SignalsOnly s (s.dpcTrigger p) := by
  have hemit : ∀ (c : Prop) [Decidable c] (t : State) (o : Output), SignalsOnly t (if c then t.emit o else t) := fun _ _ t o => .ite (.emit t o) (.refl t)
  unfold State.dpcTrigger
  refine .foldl (fun s h => ?_) _ s
  dsimp only
  exact ((SignalsOnly.setVreg s _ _ _ _).trans (hemit _ _ _)).trans (hemit _ _ _)

/-- A device port that is not contained yet is contained by DPC (R645). -/
theorem State.containPort_device {s : State} {p : Nat} (hrole : s.role p = 2) (h : s.reg .FLT_PORT_STATE p = 0) :
    (s.containPort p).reg .FLT_PORT_STATE p = 1 := by
  have hdown : ((s.setReg .FLT_PORT_STATE p 1).deviceDown p).reg .FLT_PORT_STATE p = 1 :=
    (State.reg_of_steady (State.deviceDown_steady _ p) rfl p).trans (State.reg_setReg_self s .FLT_PORT_STATE p 1)
  rw [State.containPort, hrole]
  show (s.dpc p).reg .FLT_PORT_STATE p = 1
  rw [State.dpc, if_neg (by simp [h]), (SignalsOnly.dpcTrigger _ p).reg, State.slotPerst_reg _ _ _ (by decide),
    (SignalsOnly.hotplug (fun s => (s.setReg .FLT_PORT_STATE p 1).deviceDown p) s).reg]
  exact hdown

theorem deviceIdeSetup_contains (s : State) (p x : Nat) (hrole : s.role p = 2) (hup : s.on .TILE_PORT_STATUS_LINK_UP p = true)
    (hreq : s.ideRequired p = true) (h : s.reg .FLT_PORT_STATE p = 0) :
    ∃ t, exec (.deviceIdeSetup p false x) s = .next t ∧ t.reg .FLT_PORT_STATE p = 1 ∧ t.frame = s.frame := by
  rw [exec_deviceIdeSetup false x hrole hup, if_neg (by decide), if_pos hreq]
  exact ⟨_, rfl, State.containPort_device (s := s.started.report 0x21 1 p) hrole h, (State.containPort_frame _ p).trans (State.report_frame ..)⟩

/-- A port whose streams are insecure after a failure. -/
def State.ideOff (s : State) (p : Nat) : State :=
  (s.setReg .TILE_PORT_STATUS_IDE p 0).updLink fun l => { l with ideKeys := l.ideKeys.filter (fun e => e.1 != p), ideMem := Sparse.erase l.ideMem p }

theorem exec_ideFail {s : State} {p : Nat} (h : s.on .TILE_PORT_STATUS_IDE p = true ∨ (Sparse.get? s.link.ideMem p).isSome = true) :
    exec (.ideFail p) s = .next ((s.started.ideOff p).report 0x21 1 p) := by
  have hcond : (s.started.on .TILE_PORT_STATUS_IDE p || (Sparse.get? s.started.link.ideMem p).isSome) = true := Bool.or_eq_true_iff.2 h
  exact congrArg Host.Outcome.next (if_pos hcond)

theorem ideFail_answers (s : State) (p : Nat) (h : s.on .TILE_PORT_STATUS_IDE p = true ∨ (Sparse.get? s.link.ideMem p).isSome = true) :
    ∃ t, exec (.ideFail p) s = .next t ∧ t.reg .TILE_PORT_STATUS_IDE p = 0 ∧ (∀ e ∈ t.link.ideKeys, e.1 ≠ p) ∧ Sparse.get? t.link.ideMem p = none ∧
      t.flt.reportQ = queueReport (s.effSev 0x21 none) s.flt.reportQ { source := 0x21, kind := 1, scope := p, sev := none, isl := p / 4 } ∧
      KeepsRegs s t [(.TILE_PORT_STATUS_IDE, p)] ∧ t.frame = s.frame := by
  refine ⟨_, exec_ideFail h, State.reg_setReg_self s .TILE_PORT_STATUS_IDE p 0, fun e he => ?_, Sparse.get?_erase_self _ _, rfl,
    KeepsRegs.setReg s .TILE_PORT_STATUS_IDE p 0, ?_⟩
  · exact bne_iff_ne.1 (List.mem_filter.1 he).2
  · rw [State.report_frame, State.ideOff, State.updLink_frame, State.setReg_frame, State.started_frame]

/-! ### SPDM (R586) -/

theorem exec_spdmCertificate {s : State} {i : Nat} (k : Nat) (hp : 2 ≤ s.phase) (h1 : 1 ≤ i) (h5 : i ≤ 5) :
    exec (.spdmRequest (.doe k) (.getCertificate i)) s = .next { s with out := [.reply (.doe k) 0 (s.certBody i)] } := by
  have hready : ¬ s.started.phase < 2 := Nat.not_lt.2 hp
  have hlisted : (decide (1 ≤ i) && decide (i ≤ 5)) = true := by simp [h1, h5]
  exact congrArg Host.Outcome.next ((if_neg hready).trans (if_pos hlisted))

theorem exec_spdmRequest_early {s : State} (k : Nat) (q : SpdmReq) (hp : s.phase < 2) : exec (.spdmRequest (.doe k) q) s = .next { s with out := [] } :=
  congrArg Host.Outcome.next (if_pos (show s.started.phase < 2 from hp))

/-! ### Messages (R254, R359) -/

theorem State.postOn_of_up {s : State} {p : Nat} {ok : Bool} (o : Output) (hup : s.portUp p = true) (hok : ok = true) : s.postOn p ok o = s.emit o := by
  rw [State.postOn, if_pos hup, if_pos hok]

theorem State.postOn_of_down {s : State} {p : Nat} (ok : Bool) (o : Output) (hup : s.portUp p = false) (hshut : s.shutPort p = false) : s.postOn p ok o = s := by
  rw [State.postOn, if_neg (by simp [hup]), if_neg (by simp [hshut])]

theorem exec_atsToHost {s : State} {k p q rid : Nat} {h : HierRec} {a : AtsKind} (pre : List Nat) (hown : s.ownerOf p rid = some h)
    (hport : s.hostPort h.host = some q) (hup : s.portUp q = true) (ha : a = .translation ∨ a = .pageRequest) :
    exec (.atsRequest true k p rid ⟨a, pre⟩) s = .next { s with out := [.ats true h.host p (s.srcRid (.device p rid) q) a pre] } := by
  show execAtsRequest true k p rid ⟨a, pre⟩ s = _
  rw [execAtsRequest, run_started, show s.started.ownerOf p rid = some h from hown]
  dsimp only
  rw [if_pos (by simpa using ha), show s.started.hostPort h.host = some q from hport]
  exact congrArg Host.Outcome.next (State.postOn_of_up (s := s.started) _ hup rfl)

theorem exec_atsToDevice {s : State} {p rid : Nat} {h : HierRec} {a : AtsKind} (pre : List Nat) (hown : s.ownerOf p rid = some h)
    (hup : s.portUp p = true) (hopen : s.funcClosed p rid = false) (ha : a = .invalidation ∨ a = .pageResponse) :
    exec (.atsRequest false h.host p rid ⟨a, pre⟩) s = .next { s with out := [.ats false h.host p rid a pre] } := by
  show execAtsRequest false h.host p rid ⟨a, pre⟩ s = _
  rw [execAtsRequest, run_started, show s.started.ownerOf p rid = some h from hown]
  dsimp only
  rw [if_neg (by simp), if_pos (by simpa using ha)]
  exact congrArg Host.Outcome.next (State.postOn_of_up (s := s.started) _ hup (congrArg Bool.not hopen))

theorem exec_messageToHost {s : State} {p q rid : Nat} {h : HierRec} (m : MsgRoute) (w : Bool) (hown : s.ownerOf p rid = some h)
    (hport : s.hostPort h.host = some q) (hup : s.portUp q = true) (hopen : s.reg .FLT_PORT_STATE p = 0) :
    exec (.messageReceived (.device p rid) m w) s = .next { s with out := [.msg true h.host p rid m.pre] } := by
  show execMessageReceived (.device p rid) m w s = _
  rw [execMessageReceived, run_started]
  dsimp only
  rw [show s.started.ownerOf p rid = some h from hown]
  dsimp only
  rw [show s.started.hostPort h.host = some q from hport]
  dsimp only
  exact congrArg Host.Outcome.next ((if_pos (beq_iff_eq.2 hopen)).trans (State.postOn_of_up (s := s.started) _ hup rfl))

theorem exec_messageToFunction {s : State} {k id p rid : Nat} (pre : List Nat) (w : Bool) (hfn : s.fnOfId k id = some (p, rid))
    (hup : s.portUp p = true) (hopen : s.funcClosed p rid = false) :
    exec (.messageReceived (.host k) ⟨some id, pre⟩ w) s = .next { s with out := [.msg false k p rid pre] } := by
  show execMessageReceived (.host k) ⟨some id, pre⟩ w s = _
  rw [execMessageReceived, run_started]
  dsimp only
  rw [show s.started.fnOfId k id = some (p, rid) from hfn]
  exact congrArg Host.Outcome.next (State.postOn_of_up (s := s.started) _ hup (congrArg Bool.not hopen))

/-- Messages to ports none of which is shut go out on those that are up. -/
theorem foldl_postOn (msg : HierRec → Output) : ∀ (l : List HierRec) (s : State), (∀ h ∈ l, s.shutPort (hierPort h) = false) →
    l.foldl (fun s h => s.postOn (hierPort h) true (msg h)) s = { s with out := s.out ++ (l.filter fun h => s.portUp (hierPort h)).map msg }
  | [], s, _ => by simp
  | h :: l, s, hshut => by
    obtain ⟨hh, hl⟩ := List.forall_mem_cons.1 hshut
    rw [List.foldl_cons]
    cases hup : s.portUp (hierPort h) with
    | true =>
      rw [State.postOn_of_up _ hup rfl, foldl_postOn msg l (s.emit (msg h)) hl, List.filter_cons_of_pos (p := fun h => s.portUp (hierPort h)) hup, List.map_cons]
      simp only [State.emit, List.append_assoc, List.singleton_append]
      rfl
    | false => rw [State.postOn_of_down _ _ hup hh, foldl_postOn msg l s hl, List.filter_cons_of_neg (p := fun h => s.portUp (hierPort h)) (by simp [hup])]

theorem exec_messageToDevices {s : State} {k : Nat} (pre : List Nat)
    (hshut : ∀ h ∈ s.com.hier, isAssign h = true → h.host = k → s.shutPort (hierPort h) = false) :
    exec (.messageReceived (.host k) ⟨none, pre⟩ false) s = .next { s with
      out := (s.com.hier.filter fun h => isAssign h && h.host == k && s.portUp (hierPort h)).map fun h => .msg false k (hierPort h) 0 pre } := by
  have hopen : ∀ h ∈ s.com.hier.filter (fun h => isAssign h && h.host == k), s.started.shutPort (hierPort h) = false := fun h hh => by
    obtain ⟨hmem, hmine⟩ := List.mem_filter.1 hh
    obtain ⟨hassign, hhost⟩ := Bool.and_eq_true_iff.1 hmine
    exact hshut h hmem hassign (beq_iff_eq.1 hhost)
  have hfold := foldl_postOn (fun h => .msg false k (hierPort h) 0 pre) _ s.started hopen
  rw [List.filter_filter] at hfold
  refine congrArg Host.Outcome.next (hfold.trans ?_)
  simp only [Bool.and_comm (s.started.portUp _)]
  rfl

theorem exec_message_unowned {s : State} {p rid : Nat} (k : Nat) (m : MsgRoute) (w : Bool) (a : AtsKind) (pre : List Nat) (hown : s.ownerOf p rid = none) :
    exec (.messageReceived (.device p rid) m w) s = .next { s with out := [] } ∧ exec (.atsRequest w k p rid ⟨a, pre⟩) s = .next { s with out := [] } := by
  constructor
  · show execMessageReceived (.device p rid) m w s = _
    rw [execMessageReceived, run_started]
    dsimp only
    rw [show s.started.ownerOf p rid = none from hown]
    rfl
  · show execAtsRequest w k p rid ⟨a, pre⟩ s = _
    rw [execAtsRequest, run_started, show s.started.ownerOf p rid = none from hown]
    rfl

/-! ### Lane margining (R196) -/

theorem exec_laneMargining {s : State} {l p x v : Nat} (hlane : s.lanePort l = some p) (hrole : s.role p ≠ 3) (hrx : s.reg .TILE_LANE_STATUS_RX_STATE l = 1)
    (hrate : 4 ≤ s.reg .TILE_LANE_STATUS_RATE l) (hx : x ≤ 32) (hv : v ≤ 64) :
    exec (.laneMargining l x v) s = .next { s with out := [.ctl p "margin" x v] } := by
  have hrole' : s.started.role p ≠ 3 := hrole
  show execLaneMargining l x v s = _
  rw [execLaneMargining, run_started, show s.started.lanePort l = some p from hlane]
  exact congrArg Host.Outcome.next (if_pos (by simp [hrole', hrx, hrate, hx, hv]))

theorem exec_laneMargining_none {s : State} {l : Nat} (x v : Nat) (hlane : s.lanePort l = none) : exec (.laneMargining l x v) s = .next { s with out := [] } := by
  show execLaneMargining l x v s = _
  rw [execLaneMargining, run_started, show s.started.lanePort l = none from hlane]
  rfl

/-- Settles O46, clause by clause; a port that is contained stays so while its link goes down. -/
theorem messagesTimeAndSecurityOfLinks : Obligations.MessagesTimeAndSecurityOfLinks := by
  unfold Obligations.MessagesTimeAndSecurityOfLinks
  exact ⟨fun _ _ => exec_ptmRequest, fun _ _ _ => exec_ptmHostRequest, ideKm_secures, fun _ _ _ key mem hport hup => exec_ideKm ⟨key, mem, true⟩ hport hup,
    ideKm_securesMem, deviceIdeSetup_secures,
    fun _ _ x hrole hup hnot => (exec_deviceIdeSetup false x hrole hup).trans (congrArg Host.Outcome.next ((if_neg Bool.false_ne_true).trans (if_neg (by simp [hnot])))),
    deviceIdeSetup_contains, ideFail_answers, fun _ k _ => exec_spdmCertificate k, fun _ => exec_spdmRequest_early,
    fun _ _ _ _ _ _ _ pre => exec_atsToHost pre, fun _ _ _ _ _ pre => exec_atsToDevice pre, fun _ _ _ _ _ m w => exec_messageToHost m w,
    fun _ _ pre => exec_messageToDevices pre, fun _ _ _ _ _ pre w => exec_messageToFunction pre w,
    fun _ _ _ k m w a pre => exec_message_unowned k m w a pre, fun _ _ _ => rfl, fun _ _ _ _ _ => exec_laneMargining,
    fun _ _ x v => exec_laneMargining_none x v⟩

end Sys2Proof.Machine
end

section
/-! SUPPORT. What an accepted command finds as it was, containment of imprints, and proofs (R645 to R651, R704, R726 to R729). -/

namespace Sys2Proof.Machine

/-! ### The state that an accepted command finds -/

theorem State.accepted_rest (s : State) (k token op : Nat) : (s.accepted k token op).com = s.com ∧ (s.accepted k token op).dl = s.dl ∧
    (s.accepted k token op).link = s.link ∧ (s.accepted k token op).flt = s.flt := by
  obtain ⟨_, _, _, h, -⟩ := AcceptsOnly.accepted s k token op
  rw [h]
  exact ⟨rfl, rfl, rfl, rfl⟩

theorem State.portRec_of_boot {s t : State} (h : t.boot = s.boot) (p : Nat) : t.portRec p = s.portRec p := by
  simp only [State.portRec, State.portRecs, h]

theorem State.role_of_boot {s t : State} (h : t.boot = s.boot) (p : Nat) : t.role p = s.role p := by simp only [State.role, State.portRec_of_boot h]

theorem State.accepted_role (s : State) (k token op p : Nat) : (s.accepted k token op).role p = s.role p := State.role_of_boot (s.accepted_boot k token op) p

theorem State.accepted_lanes (s : State) (k token op p : Nat) : (s.accepted k token op).lanes p = s.lanes p := State.lanes_of_boot (s.accepted_boot k token op) p

theorem State.accepted_scopeOk (s : State) (k token op kind scope : Nat) : (s.accepted k token op).scopeOk kind scope = s.scopeOk kind scope := by
  simp only [State.scopeOk, State.accepted_role, State.portRec_of_boot (s.accepted_boot k token op)]

theorem State.ended_reg (s : State) (code : Nat) (ret : List Nat) (f : Fld) (i : Nat) : (s.ended code ret).reg f i = s.reg f i := rfl

/-! ### Containment (R645, R648, R650) -/

theorem bit_mod {v n w : Nat} (h : n < w) : bit (v % 2 ^ w) n = bit v n := by
  have hbit : ∀ x, bit x n = x.testBit n := fun x => by rw [Nat.testBit_eq_decide_div_mod_eq, bit, beq_eq_decide]
  rw [hbit, hbit, Nat.testBit_mod_two_pow, decide_eq_true h, Bool.true_and]

/-- An imprint's quarantine bit after a write of its word. -/
theorem State.quarantined_setReg (s : State) (i : Nat) (b : Bool) : (s.setReg .FLT_QUAR_QUARANTINED (i / 32)
    (putBit (s.reg .FLT_QUAR_QUARANTINED (i / 32)) (i % 32) b)).quarantined i = b := by
  have hwidth : i % 32 < Fld.FLT_QUAR_QUARANTINED.width := Nat.mod_lt i (by decide)
  rw [State.quarantined, State.reg_setReg_self, bit_mod hwidth]
  cases b
  · exact bit_putBit_false _ _
  · exact bit_putBit_same _ _

theorem exec_contain {s : State} {k : Nat} (token : Nat) (h : s.accepts k 0x50 = true) :
    exec (.contain k token) s = .next ((s.accepted k token 0x50).containCmd (s.argWords k)) := State.command_of_accepts h token (fun a s => s.containCmd a)

theorem exec_containRelease {s : State} {k : Nat} (token : Nat) (h : s.accepts k 0x51 = true) :
    exec (.containRelease k token) s = .next ((s.accepted k token 0x51).releaseCmd (s.argWords k)) := State.command_of_accepts h token (fun a s => s.releaseCmd a)

theorem State.containCmd_badScope {s : State} {a : List Nat} (h : s.scopeOk (nth a 0) (nth a 1) = false) : s.containCmd a = s.ended 0x02 := by
  rw [State.containCmd, h]
  rfl

theorem State.containCmd_imprint {s : State} {a : List Nat} {i : Nat} (hkind : nth a 0 = 2) (hi : nth a 1 = i) (hrange : i < 1024) :
    s.containCmd a = (s.quarantine i).ended 0 := by
  have hok : s.scopeOk 2 i = true := decide_eq_true hrange
  have hcontain : s.contain 2 i = s.quarantine (i % 1024) := rfl
  rw [State.containCmd, hkind, hi, hok, hcontain, Nat.mod_eq_of_lt hrange]
  rfl

theorem State.releaseCmd_badScope {s : State} {a : List Nat} (h : s.scopeOk (nth a 0) (nth a 1) = false) : s.releaseCmd a = s.ended 0x02 := by
  rw [State.releaseCmd, h]
  rfl

/-- A scope with a cause of kind C present is not released (R650). -/
theorem State.releaseCmd_caused {s : State} {a : List Nat} (h : s.scopeOk (nth a 0) (nth a 1) = true)
    (hcause : s.flt.causes.any (fun c => c.kind == nth a 0 && c.scope == nth a 1) = true) : s.releaseCmd a = s.ended 0x0D := by
  obtain ⟨c, hc, hits⟩ := List.any_eq_true.1 hcause
  rw [State.releaseCmd, h, if_neg (by decide), if_pos (List.any_eq_true.2 ⟨c, hc, Bool.or_eq_true_iff.2 (.inl hits)⟩)]

theorem State.releaseScope_imprint {s : State} {i : Nat} (hrange : i < 1024) : s.releaseScope 2 i =
    s.setReg .FLT_QUAR_QUARANTINED (i / 32) (putBit (s.reg .FLT_QUAR_QUARANTINED (i / 32)) (i % 32) false) := by
  have hrelease : s.releaseScope 2 i = s.setReg .FLT_QUAR_QUARANTINED (i % 1024 / 32)
    (putBit (s.reg .FLT_QUAR_QUARANTINED (i % 1024 / 32)) (i % 1024 % 32) false) := rfl
  rw [hrelease, Nat.mod_eq_of_lt hrange]

theorem State.releaseCmd_imprint {s : State} {a : List Nat} {i : Nat} (hkind : nth a 0 = 2) (hi : nth a 1 = i) (hrange : i < 1024)
    (hcause : s.flt.causes.any (fun c => c.kind == 2 && c.scope == i) = false) : s.releaseCmd a = (s.releaseScope 2 i).ended 0 := by
  have hok : s.scopeOk 2 i = true := decide_eq_true hrange
  simp only [State.releaseCmd, hkind, hi, hok, hcause, Nat.reduceBEq, Bool.false_and, Bool.false_eq_true, if_false, Bool.not_true, Bool.or_self]

theorem contain_imprint (s : State) (k token i : Nat) (h : s.accepts k 0x50 = true) (hkind : nth (s.argWords k) 0 = 2) (hi : nth (s.argWords k) 1 = i)
    (hrange : i < 1024) : ∃ t, exec (.contain k token) s = .next t ∧ t.quarantined i = true ∧ t.resultCode = some 0 ∧ t.frame = s.frame := by
  rw [exec_contain token h, State.containCmd_imprint hkind hi hrange]
  have hport := s.accepted_port k token 0x50
  have hframe := s.accepted_frame k token 0x50
  generalize s.accepted k token 0x50 = u at hport hframe
  exact ⟨_, rfl, u.quarantined_setReg i true, State.resultCode_ended (s := u.quarantine i) hport 0 [],
    (State.ended_frame _ 0 []).trans ((u.quarantine_frame i).trans hframe)⟩

theorem containRelease_imprint (s : State) (k token i : Nat) (h : s.accepts k 0x51 = true) (hkind : nth (s.argWords k) 0 = 2)
    (hi : nth (s.argWords k) 1 = i) (hrange : i < 1024) (hcause : s.flt.causes.any (fun c => c.kind == 2 && c.scope == i) = false) :
    ∃ t, exec (.containRelease k token) s = .next t ∧ t.quarantined i = false ∧ t.resultCode = some 0 ∧ t.frame = s.frame := by
  rw [← (s.accepted_rest k token 0x51).2.2.2] at hcause
  rw [exec_containRelease token h, State.releaseCmd_imprint hkind hi hrange hcause, State.releaseScope_imprint hrange]
  have hport := s.accepted_port k token 0x51
  have hframe := s.accepted_frame k token 0x51
  generalize s.accepted k token 0x51 = u at hport hframe
  exact ⟨_, rfl, u.quarantined_setReg i false, State.resultCode_ended (by exact hport) 0 [],
    (State.ended_frame _ 0 []).trans ((u.setReg_frame _ _ _).trans hframe)⟩

/-! ### Proofs that start (R726, R727) -/

/-- The handle of a proof is RUNNING, for its issuer. -/
def State.proofTaken (s : State) (k h : Nat) (a : List Nat) : State :=
  let s := s.setRegs [(.CMP_PROOF_STATE, h, 1), (.CMP_PROOF_OUTCOME, h, 0), (.CMP_PROOF_TYPE, h, nth a 0), (.CMP_PROOF_PROGRESS, h, 0),
    (.CMP_PROOF_HOST_INDEX, h, k)]
  { s with port := { s.port with proofs := s.port.proofs ++ [{ handle := h, typ := nth a 0, target := nth a 1, param := nth a 2 }] } }

/-- What a proof takes: a lane test its lanes, a march its sheets. -/
def State.proofSetUp (s : State) (a : List Nat) : State :=
  match nth a 0 with
  | 1 => s.testLanes (nth a 1) (nth a 2)
  | 2 => (span (nth a 1) (nth a 1 + nth a 2 - 1)).foldl (fun s n => s.setReg .MEM_SHEET_STATE n 5) s
  | _ => s

theorem State.proofStart_free {s : State} {k h : Nat} {a : List Nat} (hargs : s.proofArgs (nth a 0) (nth a 1) (nth a 2) = true)
    (hfree : (List.range 8).find? (fun h => s.reg .CMP_PROOF_STATE h == 0) = some h) : s.proofStart k a =
      if s.proofBlocked (nth a 0) (nth a 1) (nth a 2) then s.ended 0x06 else ((s.proofTaken k h a).proofSetUp a).ended 0 [h] := by
  rw [State.proofStart]
  dsimp only
  rw [hargs, if_neg (by simp), hfree]
  rfl

theorem State.proofTaken_reg (s : State) {k h : Nat} (a : List Nat) (hk : k < 32) (htyp : nth a 0 < 8) : (s.proofTaken k h a).reg .CMP_PROOF_STATE h = 1 ∧
    (s.proofTaken k h a).reg .CMP_PROOF_TYPE h = nth a 0 ∧ (s.proofTaken k h a).reg .CMP_PROOF_HOST_INDEX h = k := by
  have hreg : ∀ f i, (s.proofTaken k h a).reg f i = (s.setRegs [(.CMP_PROOF_STATE, h, 1), (.CMP_PROOF_OUTCOME, h, 0), (.CMP_PROOF_TYPE, h, nth a 0),
    (.CMP_PROOF_PROGRESS, h, 0), (.CMP_PROOF_HOST_INDEX, h, k)]).reg f i := fun _ _ => rfl
  have hstate : 1 % 2 ^ Fld.CMP_PROOF_STATE.width = 1 := rfl
  have htype : nth a 0 % 2 ^ Fld.CMP_PROOF_TYPE.width = nth a 0 := Nat.mod_eq_of_lt (lt_of_lt_of_le htyp (by decide))
  have hhost : k % 2 ^ Fld.CMP_PROOF_HOST_INDEX.width = k := Nat.mod_eq_of_lt (lt_of_lt_of_le hk (by decide))
  simp [hreg, State.setRegs_cons, State.reg_setReg, hstate, htype, hhost]

theorem State.setRegs_port : ∀ (l : List (Fld × Nat × Nat)) (s : State), (s.setRegs l).port = s.port
  | [], _ => rfl
  | e :: l, s => State.setRegs_port l (s.setReg e.1 e.2.1 e.2.2)

theorem State.proofTaken_proofs (s : State) (k h : Nat) (a : List Nat) :
    (s.proofTaken k h a).port.proofs = s.port.proofs ++ [{ handle := h, typ := nth a 0, target := nth a 1, param := nth a 2 }] :=
  congrArg (fun p => p.proofs ++ _) (State.setRegs_port _ s)

theorem State.proofTaken_running (s : State) (k h : Nat) (a : List Nat) : (s.proofTaken k h a).port.running = s.port.running := by
  unfold State.proofTaken
  dsimp only
  rw [State.setRegs_port]

theorem State.proofTaken_frame (s : State) (k h : Nat) (a : List Nat) : (s.proofTaken k h a).frame = s.frame := State.setRegs_frame s _

theorem State.accepted_proofHandle (s : State) (k token op : Nat) : (List.range 8).find? (fun h => (s.accepted k token op).reg .CMP_PROOF_STATE h == 0) =
    (List.range 8).find? (fun h => s.reg .CMP_PROOF_STATE h == 0) := by
  simp only [s.accepted_reg k token op _ (show isAcceptanceFld .CMP_PROOF_STATE = false from rfl)]

theorem State.accepted_proofArgs (s : State) (k token op typ target param : Nat) :
    (s.accepted k token op).proofArgs typ target param = s.proofArgs typ target param := by
  unfold State.proofArgs State.slotRec State.tileRec
  rw [State.portRec_of_boot (s.accepted_boot k token op), s.accepted_boot k token op]

/-- What a proof would take is in use for an accepted command where it was before: island 52 is no target. -/
theorem State.accepted_proofBlocked (s : State) (k token op : Nat) {typ target param : Nat} (hargs : s.proofArgs typ target param = true) :
    (s.accepted k token op).proofBlocked typ target param = s.proofBlocked typ target param := by
  have hreg : ∀ f i, isAcceptanceFld f = false → (s.accepted k token op).reg f i = s.reg f i := fun f i => s.accepted_reg k token op i
  have hrole := fun p => s.accepted_role k token op p
  have hlanes := fun p => s.accepted_lanes k token op p
  have hisl := fun (h : 32 + target ≠ 52) => s.accepted_islState_of k token op (.inl h)
  obtain ⟨hcom, -, hlink, -⟩ := s.accepted_rest k token op
  generalize s.accepted k token op = u at *
  have hup : u.on .TILE_PORT_STATUS_LINK_UP target = s.on .TILE_PORT_STATUS_LINK_UP target := congrArg (· == 1) (hreg _ _ rfl)
  have hdl : u.dlState target = s.dlState target := hreg _ _ rfl
  have htest : u.inTest = s.inTest := funext fun l => congrArg (· == 4) (hreg _ _ rfl)
  have hsheet : ∀ n, u.reg .MEM_SHEET_STATE n = s.reg .MEM_SHEET_STATE n := fun n => hreg _ _ rfl
  have hgalley : u.galleySheets = s.galleySheets := by rw [State.galleySheets, State.galleySheets, hcom]
  have hway : u.way1 = s.way1 := by rw [State.way1, State.way1, hcom]
  have hplaced : u.sheetOn = s.sheetOn := by
    funext n m
    simp only [State.sheetOn, State.place, hway, hgalley]
  unfold State.proofBlocked
  split
  · rw [hup, hlink, hrole, hdl, hlanes, htest]
  · simp only [hsheet]
  · simp only [hgalley, hplaced, hsheet]
  · have htarget : target < 8 := by
      simp only [State.proofArgs, Bool.and_eq_true, decide_eq_true_eq] at hargs
      exact hargs.1
    rw [hisl (by omega)]
  · rfl

theorem exec_proofStart {s : State} {k h : Nat} (token : Nat) (hacc : s.accepts k 0x58 = true)
    (hargs : s.proofArgs (nth (s.argWords k) 0) (nth (s.argWords k) 1) (nth (s.argWords k) 2) = true)
    (hfree : (List.range 8).find? (fun h => s.reg .CMP_PROOF_STATE h == 0) = some h) : exec (.proofStart k token) s =
      .next (if s.proofBlocked (nth (s.argWords k) 0) (nth (s.argWords k) 1) (nth (s.argWords k) 2) then (s.accepted k token 0x58).ended 0x06
        else (((s.accepted k token 0x58).proofTaken k h (s.argWords k)).proofSetUp (s.argWords k)).ended 0 [h]) := by
  refine (State.command_of_accepts hacc token (fun a s => s.proofStart k a)).trans (congrArg Host.Outcome.next ?_)
  rw [State.proofStart_free (by rw [State.accepted_proofArgs, hargs]) ((s.accepted_proofHandle k token 0x58).trans hfree), State.accepted_proofBlocked s k token 0x58 hargs]

/-- No target is in use for a proof that trains (R726). -/
theorem State.proofBlocked_training (s : State) (target param : Nat) : s.proofBlocked 6 target param = false := rfl

theorem State.proofSetUp_training (s : State) {a : List Nat} (h : nth a 0 = 6) : s.proofSetUp a = s := by rw [State.proofSetUp, h]; rfl

theorem State.proofSetUp_march (s : State) {a : List Nat} (h : nth a 0 = 2) :
    s.proofSetUp a = (span (nth a 1) (nth a 1 + nth a 2 - 1)).foldl (fun s n => s.setReg .MEM_SHEET_STATE n 5) s := by rw [State.proofSetUp, h]; rfl

theorem proofStart_training (s : State) (k token h : Nat) (hk : k < 32) (hacc : s.accepts k 0x58 = true) (htyp : nth (s.argWords k) 0 = 6)
    (htarget : nth (s.argWords k) 1 < 8) (hparam : nth (s.argWords k) 2 = 0) (hfree : (List.range 8).find? (fun i => s.reg .CMP_PROOF_STATE i == 0) = some h) :
    ∃ t, exec (.proofStart k token) s = .next t ∧ t.reg .CMP_PROOF_STATE h = 1 ∧ t.reg .CMP_PROOF_TYPE h = 6 ∧ t.reg .CMP_PROOF_HOST_INDEX h = k ∧
      t.port.proofs = s.port.proofs ++ [{ handle := h, typ := 6, target := nth (s.argWords k) 1, param := 0 }] ∧ t.resultCode = some 0 ∧ t.frame = s.frame := by
  have hargs : s.proofArgs (nth (s.argWords k) 0) (nth (s.argWords k) 1) (nth (s.argWords k) 2) = true := by simp [htyp, hparam, State.proofArgs, htarget]
  have hblock : s.proofBlocked (nth (s.argWords k) 0) (nth (s.argWords k) 1) (nth (s.argWords k) 2) = false := by
    rw [htyp]
    exact s.proofBlocked_training _ _
  have hexec := exec_proofStart token hacc hargs hfree
  rw [hblock, if_neg (by decide), State.proofSetUp_training _ htyp] at hexec
  refine ⟨_, hexec, ?_⟩
  have hport := s.accepted_port k token 0x58
  have hframe := s.accepted_frame k token 0x58
  rw [← s.accepted_proofs k token 0x58]
  generalize s.accepted k token 0x58 = u at hport hframe
  obtain ⟨hstate, htype, hhost⟩ := u.proofTaken_reg (h := h) (s.argWords k) hk (by omega)
  have hproofs : (u.proofTaken k h (s.argWords k)).port.proofs = u.port.proofs ++ [{ handle := h, typ := 6, target := nth (s.argWords k) 1, param := 0 }] := by
    rw [u.proofTaken_proofs, htyp, hparam]
  exact ⟨hstate, htype.trans htyp, hhost, hproofs, State.resultCode_ended ((u.proofTaken_running k h _).trans hport) 0 [h],
    (State.ended_frame _ 0 [h]).trans ((u.proofTaken_frame k h _).trans hframe)⟩

theorem mem_span {i lo n : Nat} (hlo : lo ≤ i) (hi : i < lo + n) : i ∈ span lo (lo + n - 1) := by
  simp only [span, List.mem_map, List.mem_range]
  exact ⟨i - lo, by omega, by omega⟩

theorem span_bounds {i lo n : Nat} (h1 : 1 ≤ n) (h : i ∈ span lo (lo + n - 1)) : lo ≤ i ∧ i < lo + n := by
  simp only [span, List.mem_map, List.mem_range] at h
  omega

/-- The sheets of a march are in TEST. -/
theorem State.testSheets_spec (s : State) (l : List Nat) :
    (∀ f i, f ≠ .MEM_SHEET_STATE → (l.foldl (fun s n => s.setReg .MEM_SHEET_STATE n 5) s).reg f i = s.reg f i) ∧
      (∀ i ∈ l, (l.foldl (fun s n => s.setReg .MEM_SHEET_STATE n 5) s).reg .MEM_SHEET_STATE i = 5) ∧
      (l.foldl (fun s n => s.setReg .MEM_SHEET_STATE n 5) s).port = s.port ∧
      (l.foldl (fun s n => s.setReg .MEM_SHEET_STATE n 5) s).frame = s.frame := by
  refine ⟨fun f i hf => foldl_keeps (fun s => s.reg f i) (fun s n => s.reg_setReg_ne _ fun e => hf e.1) l s, fun i hi => ?_,
    foldl_keeps State.port (fun s n => s.setReg_port _ n 5) l s, foldl_frame (fun s n => s.setReg_frame _ n 5) l s⟩
  rw [foldl_setRegs_reg (f := .MEM_SHEET_STATE) (v := fun _ => 5) (fun s n i => by simp [State.reg_setReg]), if_pos hi]
  rfl

theorem proofStart_march (s : State) (k token h a n : Nat) (hk : k < 32) (hacc : s.accepts k 0x58 = true) (htyp : nth (s.argWords k) 0 = 2)
    (ha : nth (s.argWords k) 1 = a) (hn : nth (s.argWords k) 2 = n) (h1 : 1 ≤ n) (hlast : a + n ≤ 1024)
    (hsheets : ∀ i, i < 1024 → a ≤ i → i < a + n → s.reg .MEM_SHEET_STATE i = 0)
    (hfree : (List.range 8).find? (fun i => s.reg .CMP_PROOF_STATE i == 0) = some h) :
    ∃ t, exec (.proofStart k token) s = .next t ∧ t.reg .CMP_PROOF_STATE h = 1 ∧ t.reg .CMP_PROOF_TYPE h = 2 ∧
      (∀ i, i < 1024 → a ≤ i → i < a + n → t.reg .MEM_SHEET_STATE i = 5) ∧ (t.port.running.bind (·.result)) = some (0, [h]) ∧ t.frame = s.frame := by
  have hargs : s.proofArgs (nth (s.argWords k) 0) (nth (s.argWords k) 1) (nth (s.argWords k) 2) = true := by simp [htyp, ha, hn, State.proofArgs, h1, hlast]
  have hblock : s.proofBlocked (nth (s.argWords k) 0) (nth (s.argWords k) 1) (nth (s.argWords k) 2) = false := by
    rw [htyp, ha, hn]
    refine List.any_eq_false.2 fun i hi => ?_
    obtain ⟨hlo, hhi⟩ := span_bounds h1 hi
    simp [hsheets i (by omega) hlo hhi]
  have hexec := exec_proofStart token hacc hargs hfree
  rw [hblock, if_neg (by decide), State.proofSetUp_march _ htyp, ha, hn] at hexec
  refine ⟨_, hexec, ?_⟩
  have hport := s.accepted_port k token 0x58
  have hframe := s.accepted_frame k token 0x58
  generalize s.accepted k token 0x58 = u at hport hframe
  obtain ⟨hstate, htype, -⟩ := u.proofTaken_reg (k := k) (h := h) (s.argWords k) hk (by omega)
  have hrun := (u.proofTaken_running k h (s.argWords k)).trans hport
  have htaken := (u.proofTaken_frame k h (s.argWords k)).trans hframe
  generalize u.proofTaken k h (s.argWords k) = v at hstate htype hrun htaken
  obtain ⟨hkept, hsheet, hvport, hvframe⟩ := v.testSheets_spec (span a (a + n - 1))
  refine ⟨(hkept _ h (by decide)).trans hstate, ((hkept _ h (by decide)).trans htype).trans htyp, fun i _ hlo hhi => hsheet i (mem_span hlo hhi), ?_,
    (State.ended_frame _ 0 [h]).trans (hvframe.trans htaken)⟩
  rw [State.ended_running, hvport, hrun]
  rfl

theorem exec_proofStart_blocked {s : State} {k : Nat} (token : Nat) (hacc : s.accepts k 0x58 = true)
    (hargs : s.proofArgs (nth (s.argWords k) 0) (nth (s.argWords k) 1) (nth (s.argWords k) 2) = true)
    (hany : (List.range 8).any (fun i => s.reg .CMP_PROOF_STATE i == 0) = true)
    (hblock : s.proofBlocked (nth (s.argWords k) 0) (nth (s.argWords k) 1) (nth (s.argWords k) 2) = true) :
    exec (.proofStart k token) s = .next ((s.accepted k token 0x58).ended 0x06) := by
  obtain ⟨h, hfree⟩ := Option.isSome_iff_exists.1 (List.find?_isSome.2 (List.any_eq_true.1 hany))
  rw [exec_proofStart token hacc hargs hfree, if_pos hblock]

/-! ### Proofs that end (R205, R727, R729) -/

/-- What shows a proof's end, with the proofs that run. -/
def State.proofView (s : State) (h : Nat) : Nat × Nat × Nat × Port :=
  (s.reg .CMP_PROOF_STATE h, s.reg .CMP_PROOF_OUTCOME h, s.reg .CMP_PROOF_PROGRESS h, s.port)

theorem State.setReg_proofView (s : State) {f : Fld} (i v h : Nat)
    (hf : [Fld.CMP_PROOF_STATE, .CMP_PROOF_OUTCOME, .CMP_PROOF_PROGRESS].contains f = false) : (s.setReg f i v).proofView h = s.proofView h := by
  have hkept : ∀ g ∈ [Fld.CMP_PROOF_STATE, .CMP_PROOF_OUTCOME, .CMP_PROOF_PROGRESS], (s.setReg f i v).reg g h = s.reg g h := fun g hg =>
    State.reg_setReg_ne _ _ fun e => by
      rw [List.contains_eq_mem, decide_eq_false_iff_not] at hf
      exact hf (e.1 ▸ hg)
  rw [State.proofView, hkept _ (by simp), hkept _ (by simp), hkept _ (by simp)]
  rfl

theorem State.setRegs_proofView (h : Nat) : ∀ (l : List (Fld × Nat × Nat)) (s : State),
    (∀ e ∈ l, [Fld.CMP_PROOF_STATE, .CMP_PROOF_OUTCOME, .CMP_PROOF_PROGRESS].contains e.1 = false) → (s.setRegs l).proofView h = s.proofView h
  | [], _, _ => rfl
  | e :: l, s, hl => (State.setRegs_proofView h l _ fun d hd => hl d (List.mem_cons_of_mem _ hd)).trans (s.setReg_proofView _ _ h (hl e List.mem_cons_self))

theorem State.vector_proofView (s : State) (k n h : Nat) : (s.vector k n).proofView h = s.proofView h := by
  obtain ⟨_, _, hk⟩ := s.vector_eq k n
  rw [hk]
  rfl

theorem State.clearTest_proofView (s : State) (l h : Nat) : (s.clearTest l).proofView h = s.proofView h := by
  have hoff : (s.checkerOff l).proofView h = s.proofView h := by
    unfold State.checkerOff
    split
    · exact (s.countFrom l (s.checkedBits l)).setReg_proofView (f := .TILE_LANE_TEST_CHK_SYNC) l 0 h rfl
    · rfl
  rw [State.clearTest, State.setRegs_proofView h _ _ (by simp)]
  exact hoff

theorem State.laneOff_proofView (s : State) (l h : Nat) : (s.laneOff l).proofView h = s.proofView h := by
  rw [State.laneOff, State.setRegs_proofView h _ _ (by simp)]
  exact State.setRegs_proofView h _ s (by simp)

theorem State.remap_proofView (s : State) (m row bank h : Nat) : (s.remap m row bank).proofView h = s.proofView h := by
  have hused : ∀ g : Pool → Pool, ((s.updPool g).bump .MEM_STK_SPARE_USED m).proofView h = s.proofView h := fun g =>
    (s.updPool g).setReg_proofView (f := .MEM_STK_SPARE_USED) m _ h rfl
  unfold State.remap
  dsimp only
  split
  · rfl
  · split
    · rfl
    · split
      · exact (State.setReg_proofView _ (f := .MEM_STK_SPARE_LOW) m 1 h rfl).trans (hused _)
      · exact hused _

/-- A proof that runs ends with its outcome (R729). -/
theorem State.endProof_proofView {s : State} {h outcome : Nat} {p : Proof} (hp : s.port.proofs.find? (fun p => p.handle == h) = some p) :
    (s.endProof h outcome).proofView h = (2, outcome % 2 ^ Fld.CMP_PROOF_OUTCOME.width, s.reg .CMP_PROOF_PROGRESS h,
      { s.port with proofs := s.port.proofs.filter (fun p => p.handle != h) }) := by
  let u := ({ s with port := { s.port with proofs := s.port.proofs.filter (fun p => p.handle != h) } } : State).work 55
  have hshown : (u.setRegs [(.CMP_PROOF_STATE, h, 2), (.CMP_PROOF_OUTCOME, h, outcome)]).proofView h =
      (2, outcome % 2 ^ Fld.CMP_PROOF_OUTCOME.width, s.reg .CMP_PROOF_PROGRESS h, u.port) := by
    simp only [State.proofView, State.setRegs_cons, State.setRegs_nil, State.reg_setReg]
    rfl
  have hsheets : ∀ (l : List Nat) (u : State), (l.foldl (fun s n => if s.reg .MEM_SHEET_STATE n == 5 then s.setReg .MEM_SHEET_STATE n 0 else s) u).proofView h =
      u.proofView h := foldl_keeps (fun s => s.proofView h) fun s n => by
    split
    · exact s.setReg_proofView n 0 h rfl
    · rfl
  have hlanes : ∀ (l : List Nat) (u : State), (l.foldl (fun s l => (s.clearTest l).laneOff l) u).proofView h = u.proofView h :=
    foldl_keeps (fun s => s.proofView h) fun s l => (State.laneOff_proofView _ l h).trans (s.clearTest_proofView l h)
  rw [State.endProof, hp]
  dsimp only
  rw [State.vector_proofView]
  split
  · rw [hlanes]
    split
    · rw [hsheets]
      exact hshown
    · exact hshown
  · split
    · rw [hsheets]
      exact hshown
    · exact hshown

theorem State.endProof_spec {s : State} {h outcome : Nat} (ho : outcome < 4) {p : Proof} (hp : s.port.proofs.find? (fun p => p.handle == h) = some p) :
    (s.endProof h outcome).reg .CMP_PROOF_STATE h = 2 ∧ (s.endProof h outcome).reg .CMP_PROOF_OUTCOME h = outcome ∧
      (s.endProof h outcome).port = { s.port with proofs := s.port.proofs.filter fun p => p.handle != h } := by
  have hview := State.endProof_proofView (outcome := outcome) hp
  simp only [State.proofView, Prod.mk.injEq] at hview
  obtain ⟨hstate, houtcome, -, hport⟩ := hview
  exact ⟨hstate, houtcome.trans (Nat.mod_eq_of_lt (lt_of_lt_of_le ho (by decide))), hport⟩

theorem exec_proofStop {s : State} {k h : Nat} (token : Nat) (hacc : s.accepts k 0x59 = true) (hh : nth (s.argWords k) 0 = h) :
    exec (.proofStop k token) s = .next ((s.accepted k token 0x59).proofStop h) :=
  hh ▸ State.command_of_accepts hacc token (fun a s => s.proofStop (nth a 0))

theorem State.proofStop_running {s : State} {h : Nat} (hstate : s.reg .CMP_PROOF_STATE h = 1) : s.proofStop h = (s.endProof h 2).ended 0 := by
  rw [State.proofStop, hstate]
  rfl

/-- The handle of a proof is free again. -/
def State.proofFreed (s : State) (h : Nat) : State :=
  s.setRegs [(.CMP_PROOF_STATE, h, 0), (.CMP_PROOF_OUTCOME, h, 0), (.CMP_PROOF_TYPE, h, 0), (.CMP_PROOF_PROGRESS, h, 0), (.CMP_PROOF_HOST_INDEX, h, 0)]

theorem State.proofStop_ended {s : State} {h : Nat} (hstate : s.reg .CMP_PROOF_STATE h = 2) : s.proofStop h = (s.proofFreed h).ended 0 := by
  rw [State.proofStop, hstate]
  rfl

theorem proofStop_stops (s : State) (k token h : Nat) (hacc : s.accepts k 0x59 = true) (hh : nth (s.argWords k) 0 = h)
    (hstate : s.reg .CMP_PROOF_STATE h = 1) (hruns : s.port.proofs.any (fun p => p.handle == h) = true) :
    ∃ t, exec (.proofStop k token) s = .next t ∧ t.reg .CMP_PROOF_STATE h = 2 ∧ t.reg .CMP_PROOF_OUTCOME h = 2 ∧ (∀ p ∈ t.port.proofs, p.handle ≠ h) ∧
      t.resultCode = some 0 ∧ t.frame = s.frame := by
  rw [← s.accepted_reg k token 0x59 h (show isAcceptanceFld .CMP_PROOF_STATE = false from rfl)] at hstate
  rw [← s.accepted_proofs k token 0x59] at hruns
  rw [exec_proofStop token hacc hh, State.proofStop_running hstate]
  refine ⟨_, rfl, ?_⟩
  have hport := s.accepted_port k token 0x59
  have hframe := s.accepted_frame k token 0x59
  generalize s.accepted k token 0x59 = u at hport hframe hruns
  obtain ⟨p, hp⟩ := Option.isSome_iff_exists.1 (List.find?_isSome.2 (List.any_eq_true.1 hruns))
  obtain ⟨hended, houtcome, hproofs⟩ := State.endProof_spec (outcome := 2) (by decide) hp
  have hend := (u.endProof_frame h 2).trans hframe
  generalize u.endProof h 2 = v at hended houtcome hproofs hend
  refine ⟨hended, houtcome, fun q hq => ?_, State.resultCode_ended ((congrArg Port.running hproofs).trans hport) 0 [], (State.ended_frame v 0 []).trans hend⟩
  rw [show (v.ended 0).port.proofs = v.port.proofs from rfl, hproofs] at hq
  exact bne_iff_ne.1 (List.mem_filter.1 hq).2

theorem proofStop_frees (s : State) (k token h : Nat) (hacc : s.accepts k 0x59 = true) (hh : nth (s.argWords k) 0 = h)
    (hstate : s.reg .CMP_PROOF_STATE h = 2) : ∃ t, exec (.proofStop k token) s = .next t ∧ t.reg .CMP_PROOF_STATE h = 0 ∧ t.reg .CMP_PROOF_TYPE h = 0 ∧
      t.resultCode = some 0 ∧ t.frame = s.frame := by
  rw [← s.accepted_reg k token 0x59 h (show isAcceptanceFld .CMP_PROOF_STATE = false from rfl)] at hstate
  rw [exec_proofStop token hacc hh, State.proofStop_ended hstate]
  refine ⟨_, rfl, ?_⟩
  have hport := s.accepted_port k token 0x59
  have hframe := s.accepted_frame k token 0x59
  generalize s.accepted k token 0x59 = u at hport hframe
  refine ⟨?_, ?_, State.resultCode_ended ((congrArg Port.running (State.setRegs_port _ u)).trans hport) 0 [],
    (State.ended_frame _ 0 []).trans ((State.setRegs_frame u _).trans hframe)⟩
  · simp [State.ended_reg, State.proofFreed, State.setRegs_cons, State.reg_setReg]
  · simp [State.ended_reg, State.proofFreed, State.setRegs_cons, State.reg_setReg]

theorem exec_proofEnd {s : State} {h : Nat} (fail : Bool) (rows : List (Nat × Nat × Nat)) {p : Proof}
    (hp : s.port.proofs.find? (fun p => p.handle == h) = some p) : exec (.proofEnd h fail rows) s =
      .next (if p.typ == 1 then s.started
        else if p.typ == 2 && fail then
          rows.foldl (fun s r => s.remap r.1 r.2.1 r.2.2) ((s.started.endProof h (flag fail)).setReg .CMP_PROOF_PROGRESS h 100)
        else (s.started.endProof h (flag fail)).setReg .CMP_PROOF_PROGRESS h 100) := by
  show execProofEnd h fail rows s = _
  rw [execProofEnd, run_started, show s.started.port = s.port from rfl, hp]

theorem proofEnd_answers (s : State) (h : Nat) (fail : Bool) (rows : List (Nat × Nat × Nat)) (p : Proof)
    (hp : s.port.proofs.find? (fun p => p.handle == h) = some p) (htyp : p.typ ≠ 1) :
    ∃ t, exec (.proofEnd h fail rows) s = .next t ∧ t.reg .CMP_PROOF_STATE h = 2 ∧ t.reg .CMP_PROOF_OUTCOME h = flag fail ∧
      t.reg .CMP_PROOF_PROGRESS h = 100 ∧ (∀ q ∈ t.port.proofs, q.handle ≠ h) ∧ t.frame = s.frame := by
  let u := (s.started.endProof h (flag fail)).setReg .CMP_PROOF_PROGRESS h 100
  obtain ⟨hstate, houtcome, hport⟩ := State.endProof_spec (s := s.started) (outcome := flag fail) (by cases fail <;> decide) hp
  have hview : u.proofView h = (2, flag fail, 100, (s.started.endProof h (flag fail)).port) := by
    rw [State.proofView, State.reg_setReg_ne _ _ (by simp), State.reg_setReg_ne _ _ (by simp), State.reg_setReg_self, hstate, houtcome]
    rfl
  have hframe : u.frame = s.frame := by rw [State.setReg_frame, State.endProof_frame, State.started_frame]
  have hends : ∀ t : State, t.proofView h = u.proofView h → t.frame = u.frame → t.reg .CMP_PROOF_STATE h = 2 ∧ t.reg .CMP_PROOF_OUTCOME h = flag fail ∧
      t.reg .CMP_PROOF_PROGRESS h = 100 ∧ (∀ q ∈ t.port.proofs, q.handle ≠ h) ∧ t.frame = s.frame := by
    intro t ht htf
    rw [hview, State.proofView] at ht
    simp only [Prod.mk.injEq] at ht
    obtain ⟨h1, h2, h3, h4⟩ := ht
    refine ⟨h1, h2, h3, fun q hq => ?_, htf.trans hframe⟩
    rw [h4, hport] at hq
    exact bne_iff_ne.1 (List.mem_filter.1 hq).2
  rw [exec_proofEnd fail rows hp, if_neg (by simpa using htyp)]
  split
  · exact ⟨_, rfl, hends _ (foldl_keeps (fun s => s.proofView h) (fun s r => s.remap_proofView _ _ _ h) rows u)
      (foldl_frame (fun s r => s.remap_frame _ _ _) rows u)⟩
  · exact ⟨_, rfl, hends u rfl rfl⟩

end Sys2Proof.Machine
end

section
/-! SUPPORT. Width changes of fabric links: what a direction's lanes, a folio and a link command leave as they were (R297, R333 to R339). -/

namespace Sys2Proof.Machine

/-! ### The data link of a port -/

theorem State.dlink_setDlink (s : State) (p : Nat) (d : Dlink) : (s.setDlink p d).dlink p = { d with port := p } := by
  have hnone : (s.dl.filter fun e => e.port != p).find? (fun e => e.port == p) = none := by simp [List.find?_eq_none]
  simp [State.setDlink, State.dlink, List.find?_append, hnone]

theorem State.dlink_of_dl {s t : State} (h : t.dl = s.dl) (p : Nat) : t.dlink p = s.dlink p := by rw [State.dlink, State.dlink, h]

/-- What folios and link commands on port `p` leave: registers, the composing port, and the width changes of the link. -/
def State.wires (s : State) (p : Nat) : List RegCell × Port × Option WidthChange × Option WidthChange :=
  (s.regs, s.port, (s.dlink p).chTx, (s.dlink p).chRx)

theorem State.updDlink_wires (s : State) (p : Nat) {f : Dlink → Dlink} (hf : ∀ d, (f d).chTx = d.chTx ∧ (f d).chRx = d.chRx) :
    (s.updDlink p f).wires p = s.wires p := by
  obtain ⟨htx, hrx⟩ := hf (s.dlink p)
  rw [State.wires, State.updDlink, State.dlink_setDlink]
  exact congrArg₂ (fun a b => (s.regs, s.port, a, b)) htx hrx

theorem State.freeCredits_wires (s : State) (p v n : Nat) : (s.freeCredits p v n).wires p = s.wires p := by
  unfold State.freeCredits
  split
  · rfl
  · exact s.updDlink_wires p fun _ => ⟨rfl, rfl⟩

theorem State.settleOwed_wires (s : State) (p : Nat) : (s.settleOwed p).wires p = s.wires p := by
  unfold State.settleOwed
  dsimp only
  refine Eq.trans (State.updDlink_wires _ p ?_) (foldl_keeps (fun s => s.wires p) (fun s e => s.freeCredits_wires p _ _) _ s)
  exact fun _ => ⟨rfl, rfl⟩

theorem State.putFolio_wires (s : State) (p ftype seq fhp : Nat) (area : List Byte) : (s.putFolio p ftype seq fhp area).wires p = s.wires p := by
  have hemit : ∀ (u : State) (o : Output), (u.emit o).wires p = u.wires p := fun _ _ => rfl
  have halign : ∀ u : State, (u.putAlign p).wires p = u.wires p := fun u => by
    rw [State.putAlign, State.putMark, hemit]
    exact u.updDlink_wires p fun _ => ⟨rfl, rfl⟩
  unfold State.putFolio
  dsimp only
  split
  · rw [halign, hemit]
    refine Eq.trans (State.updDlink_wires _ p ?_) (s.settleOwed_wires p)
    exact fun _ => ⟨rfl, rfl⟩
  · rw [hemit]
    refine Eq.trans (State.updDlink_wires _ p ?_) (s.settleOwed_wires p)
    exact fun _ => ⟨rfl, rfl⟩

theorem State.putPacket_wires (s : State) (p : Nat) (f : FabPkt) : (s.putPacket p f).wires p = s.wires p :=
  foldl_keeps (fun s => s.wires p) (fun s a => by
    dsimp only
    rw [State.putCopy, State.putFolio_wires]
    exact s.updDlink_wires p fun _ => ⟨rfl, rfl⟩) _ s

theorem State.linkCmd_wires (s : State) (p cmd dirn width reason mask : Nat) : (s.linkCmd p cmd dirn width reason mask).wires p = s.wires p := by
  unfold State.linkCmd State.putCmd
  split
  · exact s.putPacket_wires p _
  · exact s.updDlink_wires p fun _ => ⟨rfl, rfl⟩

/-! ### The lanes of a direction (R197, R200, R337) -/

/-- The fields of lanes that sleep and wake. -/
@[simp] def isSleepFld (f : Fld) : Bool :=
  [Fld.TILE_LANE_STATUS_TX_STATE, .TILE_LANE_STATUS_RX_STATE, .TILE_LANE_STATUS_CDR_LOCK, .TILE_LANE_STATUS_SIG_DET, .TILE_LANE_ADAPT_CAL_COUNT,
    .TILE_LANE_ADAPT_EYE_H, .TILE_LANE_ADAPT_EYE_W, .TILE_LANE_ADAPT_CTLE, .TILE_LANE_STATUS_MARGIN_LOW].contains f

/-- What lanes that sleep and wake leave: the other registers, the data links and the composing port. -/
def State.offLanes (s : State) : (Fld → Nat → Nat) × List Dlink × Port := (s.shows fun f => !isSleepFld f, s.dl, s.port)

theorem State.offLanes_of_keeps {s t : State} {l : List (Fld × Nat)} (h : KeepsRegs s t l) (hl : ∀ e ∈ l, isSleepFld e.1 = true) (hdl : t.dl = s.dl)
    (hport : t.port = s.port) : t.offLanes = s.offLanes := by
  have hshows : t.shows (fun f => !isSleepFld f) = s.shows fun f => !isSleepFld f := by
    funext f i
    by_cases hf : isSleepFld f = true
    · simp only [State.shows, hf, Bool.not_true, Bool.false_eq_true, if_false]
    · rw [State.shows, State.shows, h f i fun hm => hf (hl _ hm)]
  rw [State.offLanes, State.offLanes, hshows, hdl, hport]

theorem State.setRegs_dl : ∀ (l : List (Fld × Nat × Nat)) (s : State), (s.setRegs l).dl = s.dl
  | [], _ => rfl
  | e :: l, s => State.setRegs_dl l (s.setReg e.1 e.2.1 e.2.2)

theorem State.adaptTo_dl (s : State) (l h w c : Nat) : (s.adaptTo l h w c).dl = s.dl ∧ (s.adaptTo l h w c).port = s.port := by
  have hmoved : (s.eyeMoved l h w c).dl = s.dl ∧ (s.eyeMoved l h w c).port = s.port := ⟨State.setRegs_dl _ s, State.setRegs_port _ s⟩
  have hlow : ∀ u : State, (u.eyeLow l).dl = u.dl ∧ (u.eyeLow l).port = u.port := fun _ => ⟨rfl, rfl⟩
  rcases s.adaptTo_cases l h w c with ht | ht
  · rw [ht]
    exact hmoved
  · rw [ht, (hlow _).1, (hlow _).2]
    exact hmoved

theorem State.wakeDir_offLanes (s : State) (l : Nat) (d : Dir) : (s.wakeDir l d).offLanes = s.offLanes := by
  have hfields : ∀ e ∈ wakeRegs l d ++ (.TILE_LANE_ADAPT_CAL_COUNT, l) :: eyeRegs l, isSleepFld e.1 = true := by
    cases d <;> simp [wakeRegs, eyeRegs, laneField]
  have hrest : (s.wakeDir l d).dl = s.dl ∧ (s.wakeDir l d).port = s.port := by
    cases d
    · exact ⟨rfl, rfl⟩
    · rw [State.wakeDir_rx]
      split
      · exact State.adaptTo_dl ((s.relocked l).bump .TILE_LANE_ADAPT_CAL_COUNT l) l _ _ _
      · exact ⟨rfl, rfl⟩
  exact State.offLanes_of_keeps (s.wakeDir_keeps l d) hfields hrest.1 hrest.2

theorem State.sleepDir_offLanes (s : State) (l : Nat) (d : Dir) : (s.sleepDir l d).offLanes = s.offLanes := by
  have hkeeps : KeepsRegs s (s.sleepDir l d) [(laneField d, l), (.TILE_LANE_STATUS_CDR_LOCK, l)] := fun f i hf => by
    simp only [List.mem_cons, Prod.mk.injEq, List.not_mem_nil, or_false, not_or] at hf
    obtain ⟨hstate, hlock⟩ := hf
    rw [State.sleepDir_reg]
    split
    case isTrue hi =>
      rw [if_neg fun h => hstate ⟨h, hi.2⟩, if_neg fun h => hlock ⟨h.2, hi.2⟩]
    case isFalse => rfl
  have hrest : (s.sleepDir l d).dl = s.dl ∧ (s.sleepDir l d).port = s.port := by
    unfold State.sleepDir
    split
    · cases d <;> exact ⟨rfl, rfl⟩
    · exact ⟨rfl, rfl⟩
  exact State.offLanes_of_keeps hkeeps (by cases d <;> simp [laneField]) hrest.1 hrest.2

theorem State.maskLanes_offLanes (s : State) (p mask : Nat) (tx : Bool) : (s.maskLanes p mask tx).offLanes = s.offLanes := by
  refine foldl_keeps State.offLanes (fun s e => ?_) _ s
  split
  · exact s.wakeDir_offLanes _ _
  · split
    · exact s.sleepDir_offLanes _ _
    · rfl

theorem State.maskLanes_reg (s : State) (p mask : Nat) (tx : Bool) {f : Fld} (hf : isSleepFld f = false) (i : Nat) :
    (s.maskLanes p mask tx).reg f i = s.reg f i := State.reg_of_shows (congrArg Prod.fst (s.maskLanes_offLanes p mask tx)) (by rw [hf]; rfl) i

theorem State.maskLanes_dl (s : State) (p mask : Nat) (tx : Bool) : (s.maskLanes p mask tx).dl = s.dl := congrArg (·.2.1) (s.maskLanes_offLanes p mask tx)

theorem State.maskLanes_port (s : State) (p mask : Nat) (tx : Bool) : (s.maskLanes p mask tx).port = s.port :=
  congrArg (·.2.2) (s.maskLanes_offLanes p mask tx)

/-! ### Changes of the transmitter and of the partner's (R337 to R339) -/

theorem widthCode_lt (n : Nat) : widthCode n < 8 := by
  unfold widthCode
  split_ifs <;> decide

theorem State.dlink_updDlink (s : State) (p : Nat) (f : Dlink → Dlink) : (s.updDlink p f).dlink p = { f (s.dlink p) with port := p } := s.dlink_setDlink p _

/-- What a transmitter that switches to a mask shows. -/
def State.txShown (s : State) (p m : Nat) : State :=
  s.setRegs [(.TILE_DL_MASK_TX_MASK, p / 4, m), (.TILE_DL_STATUS_TX_WIDTH, p / 4, widthCode (popCount 16 m)), (.TILE_DL_STATUS_TX_PEND, p / 4, 0),
    (.TILE_PORT_STATUS_WIDTH, p, popCount 16 m)]

theorem State.txShown_reg (s : State) (p : Nat) {m : Nat} (hm : m < 2 ^ 16) : (s.txShown p m).reg .TILE_DL_MASK_TX_MASK (p / 4) = m ∧
    (s.txShown p m).reg .TILE_DL_STATUS_TX_WIDTH (p / 4) = widthCode (popCount 16 m) ∧ (s.txShown p m).reg .TILE_DL_STATUS_TX_PEND (p / 4) = 0 := by
  have hmask : m % 2 ^ Fld.TILE_DL_MASK_TX_MASK.width = m := Nat.mod_eq_of_lt (lt_of_lt_of_le hm (by decide))
  have hcode : widthCode (popCount 16 m) % 2 ^ Fld.TILE_DL_STATUS_TX_WIDTH.width = widthCode (popCount 16 m) :=
    Nat.mod_eq_of_lt (lt_of_lt_of_le (widthCode_lt _) (by decide))
  simp [State.txShown, State.setRegs_cons, State.reg_setReg, hmask, hcode]

/-- A transmitter that has switched to a mask: its lanes follow. -/
def State.txSwitched (s : State) (p m : Nat) : State :=
  ((((s.putMark p (s.reg .TILE_DL_MASK_TX_MASK (p / 4) ||| m) 1 m).txShown p m).updDlink p fun d => { d with chTx := none }).maskLanes p m true).guardChange
    p 7 (popCount 16 m)

theorem State.txSwitch_eq (s : State) (p m : Nat) : s.txSwitch p m = (s.txSwitched p m).finish (.width p) 0 := rfl

theorem State.txSwitched_spec (s : State) (p m : Nat) : (∀ f i, isSleepFld f = false → (s.txSwitched p m).reg f i =
    ((s.putMark p (s.reg .TILE_DL_MASK_TX_MASK (p / 4) ||| m) 1 m).txShown p m).reg f i) ∧ (s.txSwitched p m).port = s.port := by
  have hguard : ∀ (u : State) (r w : Nat), (∀ f i, (u.guardChange p r w).reg f i = u.reg f i) ∧ (u.guardChange p r w).port = u.port :=
    fun _ _ _ => ⟨fun _ _ => rfl, rfl⟩
  have hmark : ∀ (u : State) (lanes : Nat), (u.putMark p lanes 1 m).port = u.port := fun _ _ => rfl
  have hdlink : ∀ (u : State) (g : Dlink → Dlink), (∀ f i, (u.updDlink p g).reg f i = u.reg f i) ∧ (u.updDlink p g).port = u.port :=
    fun _ _ => ⟨fun _ _ => rfl, rfl⟩
  refine ⟨fun f i hf => ?_, ?_⟩
  · rw [State.txSwitched, (hguard _ _ _).1, State.maskLanes_reg _ _ _ _ hf, (hdlink _ _).1]
  · rw [State.txSwitched, (hguard _ _ _).2, State.maskLanes_port, (hdlink _ _).2, State.txShown, State.setRegs_port, hmark]

theorem State.finish_reg (s : State) (w : Wait) (code : Nat) (ret : List Nat) (f : Fld) (i : Nat) : (s.finish w code ret).reg f i = s.reg f i := rfl

/-- What a transmitter shows that has switched to a mask, with the command that waited for it. -/
theorem State.txSwitch_spec {s : State} {p m : Nat} {r : Running} (hm : m < 2 ^ 16) (hr : s.port.running = some r) (hwait : r.wait = .width p)
    (hresult : r.result = none) : (s.txSwitch p m).reg .TILE_DL_MASK_TX_MASK (p / 4) = m ∧
      (s.txSwitch p m).reg .TILE_DL_STATUS_TX_WIDTH (p / 4) = widthCode (popCount 16 m) ∧ (s.txSwitch p m).reg .TILE_DL_STATUS_TX_PEND (p / 4) = 0 ∧
      (s.txSwitch p m).resultCode = some 0 := by
  obtain ⟨hmask, hwidth, hpend⟩ := (s.putMark p (s.reg .TILE_DL_MASK_TX_MASK (p / 4) ||| m) 1 m).txShown_reg p hm
  obtain ⟨hreg, hport⟩ := s.txSwitched_spec p m
  have hrun := State.finish_of_waiting (s := s.txSwitched p m) 0 [] ((congrArg Port.running hport).trans hr) hwait hresult
  rw [State.txSwitch_eq]
  simp only [State.finish_reg]
  exact ⟨(hreg _ _ rfl).trans hmask, (hreg _ _ rfl).trans hwidth, (hreg _ _ rfl).trans hpend, by rw [State.resultCode, hrun]; rfl⟩

/-- A transmitter that goes wider waits for its lanes. -/
def State.txWidening (s : State) (p m : Nat) (byCommand : Bool) : State :=
  let old := s.reg .TILE_DL_MASK_TX_MASK (p / 4)
  let s := s.updDlink p fun d => { d with chTx := some { mask := m, widening := true, since := s.now, byCommand } }
  ((s.maskLanes p (old ||| m) true).setReg .TILE_DL_STATUS_TX_PEND (p / 4) 1).putMark p (m &&& (65535 ^^^ old)) 2 m

theorem State.txChange_narrow {s : State} {p m : Nat} (byCommand : Bool) (h : m &&& s.reg .TILE_DL_MASK_TX_MASK (p / 4) = m) :
    s.txChange p m byCommand = s.txSwitch p m := if_pos h

theorem State.txChange_wide {s : State} {p m : Nat} (byCommand : Bool) (h : m &&& s.reg .TILE_DL_MASK_TX_MASK (p / 4) ≠ m) :
    s.txChange p m byCommand = s.txWidening p m byCommand := if_neg h

theorem State.txWidening_spec (s : State) (p m : Nat) (byCommand : Bool) : (s.txWidening p m byCommand).reg .TILE_DL_STATUS_TX_PEND (p / 4) = 1 ∧
    ((s.txWidening p m byCommand).dlink p).chTx = some { mask := m, widening := true, since := s.now, byCommand } ∧
    (s.txWidening p m byCommand).reg .TILE_DL_MASK_TX_MASK (p / 4) = s.reg .TILE_DL_MASK_TX_MASK (p / 4) ∧ (s.txWidening p m byCommand).port = s.port := by
  have hmark : ∀ (u : State) (lanes : Nat), (∀ f i, (u.putMark p lanes 2 m).reg f i = u.reg f i) ∧ (u.putMark p lanes 2 m).dl = u.dl ∧
      (u.putMark p lanes 2 m).port = u.port := fun _ _ => ⟨fun _ _ => rfl, rfl, rfl⟩
  have hdlink : ∀ g : Dlink → Dlink, (∀ f i, (s.updDlink p g).reg f i = s.reg f i) ∧ (s.updDlink p g).port = s.port := fun _ => ⟨fun _ _ => rfl, rfl⟩
  unfold State.txWidening
  dsimp only
  refine ⟨?_, ?_, ?_, ?_⟩
  · rw [(hmark _ _).1]
    exact State.reg_setReg_self _ .TILE_DL_STATUS_TX_PEND (p / 4) 1
  · rw [State.dlink_of_dl (hmark _ _).2.1, State.dlink_of_dl (State.setReg_dl _ _ _ _), State.dlink_of_dl (State.maskLanes_dl _ _ _ _), State.dlink_updDlink]
  · rw [(hmark _ _).1, State.reg_setReg_ne _ _ (by simp), State.maskLanes_reg _ _ _ _ rfl, (hdlink _).1]
  · rw [(hmark _ _).2.2, State.setReg_port, State.maskLanes_port, (hdlink _).2]

/-- The partner is asked to change its transmitter. -/
def State.rxSent (s : State) (p m : Nat) (wide : Bool) : State :=
  ((s.updDlink p fun d => { d with chRx := some { mask := m, widening := wide, since := s.now, byCommand := true } }).setReg
    .TILE_DL_STATUS_RX_PEND (p / 4) 1).linkCmd p 1 0 (widthCode (popCount 16 m)) 0 m

/-- The partner is asked, and the lanes that its change would add wake. -/
def State.rxAsked (s : State) (p m : Nat) : State :=
  let wide := m &&& s.reg .TILE_DL_MASK_RX_MASK (p / 4) != m
  let s := s.rxSent p m wide
  if wide then s.maskLanes p (s.reg .TILE_DL_MASK_RX_MASK (p / 4) ||| m) false else s

theorem State.rxSent_spec (s : State) (p m : Nat) (wide : Bool) : (s.rxSent p m wide).reg .TILE_DL_STATUS_RX_PEND (p / 4) = 1 ∧
    ((s.rxSent p m wide).dlink p).chRx = some { mask := m, widening := wide, since := s.now, byCommand := true } ∧ (s.rxSent p m wide).port = s.port := by
  let u := s.updDlink p fun d => { d with chRx := some { mask := m, widening := wide, since := s.now, byCommand := true } }
  have hwires : (s.rxSent p m wide).wires p = (u.setReg .TILE_DL_STATUS_RX_PEND (p / 4) 1).wires p := State.linkCmd_wires _ p 1 0 _ 0 m
  simp only [State.wires, Prod.mk.injEq] at hwires
  obtain ⟨hregs, hport, -, hrx⟩ := hwires
  refine ⟨?_, hrx.trans ?_, hport⟩
  · rw [State.reg, hregs]
    exact State.reg_setReg_self u .TILE_DL_STATUS_RX_PEND (p / 4) 1
  · rw [State.dlink_of_dl (State.setReg_dl u _ _ _), State.dlink_updDlink]

theorem State.rxAsked_spec (s : State) (p m : Nat) : (s.rxAsked p m).reg .TILE_DL_STATUS_RX_PEND (p / 4) = 1 ∧
    ((s.rxAsked p m).dlink p).chRx = some { mask := m, widening := m &&& s.reg .TILE_DL_MASK_RX_MASK (p / 4) != m, since := s.now, byCommand := true } ∧
    (s.rxAsked p m).port = s.port := by
  unfold State.rxAsked
  dsimp only
  generalize (m &&& s.reg .TILE_DL_MASK_RX_MASK (p / 4) != m) = wide
  obtain ⟨hpend, hrx, hport⟩ := s.rxSent_spec p m wide
  generalize s.rxSent p m wide = v at hpend hrx hport
  split
  · rw [State.maskLanes_reg _ _ _ _ rfl, State.dlink_of_dl (State.maskLanes_dl _ _ _ _), State.maskLanes_port]
    exact ⟨hpend, hrx, hport⟩
  · exact ⟨hpend, hrx, hport⟩

/-! ### LINK_WIDTH (R338, R725) -/

/-- The arguments of LINK_WIDTH name a fabric port and lanes of it. -/
structure State.WidthOf (s : State) (a : List Nat) (p m : Nat) : Prop where
  port : bits (nth a 0) 6 0 = p
  mask : nth a 1 = m
  fabric : s.role p = 3
  width : widthCode (popCount 16 m) ≠ 0
  lanes : m < 2 ^ (s.lanes p).length

theorem State.linkWidth_notFabric {s : State} {a : List Nat} (h : s.role (bits (nth a 0) 6 0) ≠ 3) : s.linkWidth a = s.ended 0x02 := by
  rw [State.linkWidth]
  dsimp only
  rw [if_pos (by simp [h])]

theorem State.linkWidth_eq {s : State} {a : List Nat} {p m : Nat} (h : s.WidthOf a p m) : s.linkWidth a =
    if !s.fabActive p then s.ended 0x30 [0]
    else if bit (nth a 0) 8 then (if (s.dlink p).chRx.isSome then s.ended 0x30 [0] else (s.waitFor (.width p)).rxAsked p m)
    else if (s.dlink p).chTx.isSome then s.ended 0x30 [0] else (s.waitFor (.width p)).txChange p m true := by
  obtain ⟨rfl, rfl, hrole, hwidth, hlanes⟩ := h
  rw [State.linkWidth]
  dsimp only
  rw [if_neg (by simp [hrole, hwidth, hlanes])]
  rfl

theorem State.accepted_widthOf {s : State} {k token op : Nat} {a : List Nat} {p m : Nat} (h : s.WidthOf a p m) : (s.accepted k token op).WidthOf a p m :=
  ⟨h.port, h.mask, (s.accepted_role k token op p).trans h.fabric, h.width, (s.accepted_lanes k token op p).symm ▸ h.lanes⟩

theorem State.role_of_fabActive {s : State} {p : Nat} (h : s.fabActive p = true) : s.role p = 3 := beq_iff_eq.1 (Bool.and_eq_true_iff.1 h).1

theorem State.accepted_fabActive (s : State) (k token op p : Nat) : (s.accepted k token op).fabActive p = s.fabActive p := by
  rw [State.fabActive, State.fabActive, State.accepted_role, State.dlState, State.dlState, s.accepted_reg k token op (p / 4) rfl]

theorem State.accepted_dlink (s : State) (k token op p : Nat) : (s.accepted k token op).dlink p = s.dlink p :=
  State.dlink_of_dl (s.accepted_rest k token op).2.1 p

theorem exec_linkWidth {s : State} {k : Nat} (token : Nat) (h : s.accepts k 0x48 = true) :
    exec (.linkWidth k token) s = .next ((s.accepted k token 0x48).linkWidth (s.argWords k)) := State.command_of_accepts h token (fun a s => s.linkWidth a)

/-- The command that waits for a width change of a port. -/
theorem State.accepted_waits (s : State) (k token op p : Nat) : ((s.accepted k token op).waitFor (.width p)).port.running =
    some { host := k, opcode := op, token, args := s.argWords k, since := s.now, wait := .width p } := by
  rw [State.waitFor, State.updRun, s.accepted_port k token op]
  rfl

theorem State.waitFor_reg (s : State) (w : Wait) (f : Fld) (i : Nat) : (s.waitFor w).reg f i = s.reg f i := rfl

theorem State.waitFor_now (s : State) (w : Wait) : (s.waitFor w).now = s.now := rfl

theorem State.accepted_waiting_reg (s : State) (k token op p : Nat) {f : Fld} (i : Nat) (hf : isAcceptanceFld f = false) :
    ((s.accepted k token op).waitFor (.width p)).reg f i = s.reg f i := by rw [State.waitFor_reg, State.accepted_reg s k token op i hf]

theorem State.accepted_waiting_now (s : State) (k token op p : Nat) : ((s.accepted k token op).waitFor (.width p)).now = s.now := by
  rw [State.waitFor_now, State.accepted_now]

section
variable (s : State) (k token p m : Nat) (hacc : s.accepts k 0x48 = true) (hof : s.WidthOf (s.argWords k) p m)
include hacc hof

theorem linkWidth_inactive (hdown : s.fabActive p = false) : exec (.linkWidth k token) s = .next ((s.accepted k token 0x48).ended 0x30 [0]) := by
  rw [exec_linkWidth token hacc, State.linkWidth_eq (State.accepted_widthOf hof), State.accepted_fabActive, hdown]
  rfl

variable (hup : s.fabActive p = true)
include hup

theorem linkWidth_changing (hdir : bit (nth (s.argWords k) 0) 8 = false) (hch : (s.dlink p).chTx.isSome = true) :
    exec (.linkWidth k token) s = .next ((s.accepted k token 0x48).ended 0x30 [0]) := by
  rw [exec_linkWidth token hacc, State.linkWidth_eq (State.accepted_widthOf hof), State.accepted_fabActive, hup, if_neg (by decide),
    if_neg (by simp [hdir]), State.accepted_dlink, if_pos hch]

theorem exec_linkWidth_tx (hdir : bit (nth (s.argWords k) 0) 8 = false) (hch : (s.dlink p).chTx = none) :
    exec (.linkWidth k token) s = .next (((s.accepted k token 0x48).waitFor (.width p)).txChange p m true) := by
  rw [exec_linkWidth token hacc, State.linkWidth_eq (State.accepted_widthOf hof), State.accepted_fabActive, hup, if_neg (by decide),
    if_neg (by simp [hdir]), State.accepted_dlink, if_neg (by simp [hch])]

theorem linkWidth_narrows (hdir : bit (nth (s.argWords k) 0) 8 = false) (hch : (s.dlink p).chTx = none) (hm : m < 2 ^ 16)
    (hsub : m &&& s.reg .TILE_DL_MASK_TX_MASK (p / 4) = m) : ∃ t, exec (.linkWidth k token) s = .next t ∧ t.reg .TILE_DL_MASK_TX_MASK (p / 4) = m ∧
      t.reg .TILE_DL_STATUS_TX_WIDTH (p / 4) = widthCode (popCount 16 m) ∧ t.reg .TILE_DL_STATUS_TX_PEND (p / 4) = 0 ∧ t.resultCode = some 0 ∧
      t.frame = s.frame := by
  have hexec := exec_linkWidth_tx s k token p m hacc hof hup hdir hch
  have hrun := s.accepted_waits k token 0x48 p
  have hframe := s.accepted_frame k token 0x48
  rw [← s.accepted_waiting_reg k token 0x48 p (p / 4) (show isAcceptanceFld .TILE_DL_MASK_TX_MASK = false from rfl)] at hsub
  rw [← State.waitFor_frame _ (.width p)] at hframe
  generalize (s.accepted k token 0x48).waitFor (.width p) = u at *
  obtain ⟨hmask, hwidth, hpend, hcode⟩ := State.txSwitch_spec hm hrun rfl rfl
  rw [State.txChange_narrow true hsub] at hexec
  exact ⟨_, hexec, hmask, hwidth, hpend, hcode, (u.txSwitch_frame p m).trans hframe⟩

theorem linkWidth_widens (hdir : bit (nth (s.argWords k) 0) 8 = false) (hch : (s.dlink p).chTx = none)
    (hmore : m &&& s.reg .TILE_DL_MASK_TX_MASK (p / 4) ≠ m) : ∃ t, exec (.linkWidth k token) s = .next t ∧ t.reg .TILE_DL_STATUS_TX_PEND (p / 4) = 1 ∧
      (t.dlink p).chTx = some { mask := m, widening := true, since := s.now, byCommand := true } ∧
      t.reg .TILE_DL_MASK_TX_MASK (p / 4) = s.reg .TILE_DL_MASK_TX_MASK (p / 4) ∧ t.waitsFor = some (.width p) ∧ t.resultCode = none ∧ t.frame = s.frame := by
  have hexec := exec_linkWidth_tx s k token p m hacc hof hup hdir hch
  have hrun := s.accepted_waits k token 0x48 p
  have hframe := s.accepted_frame k token 0x48
  have hnow := s.accepted_waiting_now k token 0x48 p
  have hmask := s.accepted_waiting_reg k token 0x48 p (p / 4) (show isAcceptanceFld .TILE_DL_MASK_TX_MASK = false from rfl)
  rw [← State.waitFor_frame _ (.width p)] at hframe
  generalize (s.accepted k token 0x48).waitFor (.width p) = u at *
  obtain ⟨hpend, hchange, hkept, hport⟩ := u.txWidening_spec p m true
  have htframe := (u.txChange_frame p m true).trans hframe
  rw [State.txChange_wide true (by rw [hmask]; exact hmore)] at hexec htframe
  refine ⟨_, hexec, hpend, hnow ▸ hchange, hkept.trans hmask, ?_, ?_, htframe⟩
  · rw [State.waitsFor, hport, hrun]
    rfl
  · rw [State.resultCode, hport, hrun]
    rfl

theorem linkWidth_asks (hdir : bit (nth (s.argWords k) 0) 8 = true) (hch : (s.dlink p).chRx = none) : ∃ t, exec (.linkWidth k token) s = .next t ∧
    t.reg .TILE_DL_STATUS_RX_PEND (p / 4) = 1 ∧
    (t.dlink p).chRx = some { mask := m, widening := m &&& s.reg .TILE_DL_MASK_RX_MASK (p / 4) != m, since := s.now, byCommand := true } ∧
    t.waitsFor = some (.width p) ∧ t.resultCode = none ∧ t.frame = s.frame := by
  have hcmd : (s.accepted k token 0x48).linkWidth (s.argWords k) = ((s.accepted k token 0x48).waitFor (.width p)).rxAsked p m := by
    rw [State.linkWidth_eq (State.accepted_widthOf hof), State.accepted_fabActive, hup, if_neg (by decide), if_pos hdir, State.accepted_dlink,
      if_neg (by simp [hch])]
  have hframe : ((s.accepted k token 0x48).linkWidth (s.argWords k)).frame = s.frame := by rw [State.linkWidth_frame, State.accepted_frame]
  have hrun := s.accepted_waits k token 0x48 p
  have hnow := s.accepted_waiting_now k token 0x48 p
  have hmask := s.accepted_waiting_reg k token 0x48 p (p / 4) (show isAcceptanceFld .TILE_DL_MASK_RX_MASK = false from rfl)
  rw [exec_linkWidth token hacc]
  rw [hcmd] at hframe ⊢
  clear hcmd
  generalize (s.accepted k token 0x48).waitFor (.width p) = u at *
  obtain ⟨hpend, hchange, hport⟩ := u.rxAsked_spec p m
  rw [hnow, hmask] at hchange
  refine ⟨_, rfl, hpend, hchange, ?_, ?_, hframe⟩
  · rw [State.waitsFor, hport, hrun]
    rfl
  · rw [State.resultCode, hport, hrun]
    rfl

end

end Sys2Proof.Machine
end

section
/-! The statement on width changes, containment and proofs (05_lanes.md). -/

namespace Sys2Proof.Machine

/-- Settles O40, clause by clause. -/
theorem linksContainmentAndProofs : Obligations.LinksContainmentAndProofs := by
  unfold Obligations.LinksContainmentAndProofs
  refine ⟨fun s k token hacc hrole => ?_, fun s k token p hacc hp hrole hw hm hdown => linkWidth_inactive s k token p _ hacc ⟨hp, rfl, hrole, hw, hm⟩ hdown,
    fun s k token p hacc hp hdir hw hm hup hch => linkWidth_changing s k token p _ hacc ⟨hp, rfl, State.role_of_fabActive hup, hw, hm⟩ hup hdir hch,
    fun s k token p m hacc hp _ hdir ha hw hm hm16 hup hch hsub =>
      linkWidth_narrows s k token p m hacc ⟨hp, ha, State.role_of_fabActive hup, hw, hm⟩ hup hdir hch hm16 hsub,
    fun s k token p m hacc hp _ hdir ha hw hm hup hch hmore =>
      linkWidth_widens s k token p m hacc ⟨hp, ha, State.role_of_fabActive hup, hw, hm⟩ hup hdir hch hmore,
    fun s k token p m hacc hp _ hdir ha hw hm hup hch =>
      linkWidth_asks s k token p m hacc ⟨hp, ha, State.role_of_fabActive hup, hw, hm⟩ hup hdir hch,
    fun s k token hacc hscope => ?_, contain_imprint, containRelease_imprint, fun s k token hacc hscope => ?_, fun s k token hacc hscope hcause => ?_,
    proofStart_training, proofStart_march, fun s k token hacc hargs hany hblock => exec_proofStart_blocked token hacc hargs hany hblock,
    proofStop_stops, proofStop_frees, proofEnd_answers, fun s h fail rows p hp htyp => ?_⟩
  · rw [exec_linkWidth token hacc, State.linkWidth_notFabric (by rwa [State.accepted_role])]
  · rw [exec_contain token hacc, State.containCmd_badScope (by rwa [State.accepted_scopeOk])]
  · rw [exec_containRelease token hacc, State.releaseCmd_badScope (by rwa [State.accepted_scopeOk])]
  · rw [exec_containRelease token hacc, State.releaseCmd_caused (by rwa [State.accepted_scopeOk])
      (by rw [(s.accepted_rest k token 0x51).2.2.2]; exact hcause)]
  · rw [exec_proofEnd fail rows hp, if_pos (beq_iff_eq.2 htyp)]
    rfl

end Sys2Proof.Machine
end
